-- ==== Sys2Proof/Word.lean ====
section
/-! DEFINITION. Words, bytes, bit fields of a word, and sparse tables in one canonical form. -/

namespace Sys2Proof

/-- A register (R21): 32 bits, bit 0 least significant (R17). -/
abbrev Word := BitVec 32

/-- A byte; multi-byte structures are little-endian (R19). -/
abbrev Byte := BitVec 8

/-- Bits `lo` to `lo + n - 1` of a word, as a number. -/
def Word.field (w : Word) (lo n : Nat) : Nat := w.toNat / 2 ^ lo % 2 ^ n

/-- A word with bits `lo` to `lo + n - 1` replaced by the low `n` bits of `v`. -/
def Word.withField (w : Word) (lo n v : Nat) : Word :=
  BitVec.ofNat 32 ((w.toNat / 2 ^ (lo + n) * 2 ^ n + v % 2 ^ n) * 2 ^ lo + w.toNat % 2 ^ lo)

/-- A table with few entries that differ from a default: (key, value) pairs, keys strictly rising,
no value equal to the default of its key. -/
abbrev Tab (α : Type) := List (Nat × α)

/-- The value at a key; an unlisted key holds its default. -/
def Tab.get {α : Type} (d : Nat → α) : Tab α → Nat → α
  | [], k => d k
  | (j, v) :: t, k => if j = k then v else Tab.get d t k

/-- The table without a key. -/
def Tab.erase {α : Type} : Tab α → Nat → Tab α
  | [], _ => []
  | (j, v) :: t, k => if j = k then Tab.erase t k else (j, v) :: Tab.erase t k

/-- An entry put before the first greater key. -/
def Tab.insert {α : Type} : Tab α → Nat → α → Tab α
  | [], k, v => [(k, v)]
  | (j, w) :: t, k, v => if k < j then (k, v) :: (j, w) :: t else (j, w) :: Tab.insert t k v

/-- The table with a value at a key; the default is stored by listing nothing. -/
def Tab.put {α : Type} [DecidableEq α] (d : Nat → α) (t : Tab α) (k : Nat) (v : α) : Tab α :=
  if v = d k then t.erase k else (t.erase k).insert k v

/-- The keys of a table rise strictly from a bound, and no value is its key's default. -/
def Tab.wfFrom {α : Type} [DecidableEq α] (d : Nat → α) : Nat → Tab α → Bool
  | _, [] => true
  | b, (j, v) :: t => decide (b ≤ j) && decide (v ≠ d j) && Tab.wfFrom d (j + 1) t

/-- The canonical form: equal tables are equal data. -/
def Tab.wf {α : Type} [DecidableEq α] (d : Nat → α) (t : Tab α) : Bool := Tab.wfFrom d 0 t

/-- A list with one more element at its end, keeping at most the last `n`. -/
def pushLast {α : Type} (n : Nat) (l : List α) (x : α) : List α :=
  let m := l ++ [x]
  m.drop (m.length - n)

/-- A bit of a number. -/
def bit (n k : Nat) : Bool := n.testBit k

/-- A truth value as a bit. -/
def b2n (b : Bool) : Nat := if b then 1 else 0

/-- The two's complement reading of the low `n` bits. -/
def sext (n v : Nat) : Int :=
  if v % 2 ^ n < 2 ^ (n - 1) then (v % 2 ^ n : Nat) else (v % 2 ^ n : Nat) - (2 ^ n : Nat)

/-- The low `n` bits of an integer. -/
def trunc (n : Nat) (i : Int) : Nat := (i % (2 ^ n : Nat)).toNat

/-- A count that stops at a limit instead of wrapping. -/
def satAdd (limit a b : Nat) : Nat := min limit (a + b)

end Sys2Proof
end

