-- ==== Sys2Proof/Operand.lean ====
section
/-! DEFINITION. The operands of commands: indices of the levels of R2 to R7, and what arrives from outside the
block. -/

namespace Sys2Proof

/-- A sector, S0 to S7 (R3). -/
abbrev Sector := Fin 8
/-- A global octet (R3). -/
abbrev Octet := Fin 64
/-- A ball of an octet, L0 to L7 (R4). -/
abbrev Lane := Fin 8
/-- A core slot of an octet: a lane, or 8 for the spare (R4, R5). -/
abbrev Slot := Fin 9
/-- A level DAC of a core. -/
abbrev DacIdx := Fin 8
/-- A wing: 0 WEST, 1 EAST (R6). -/
abbrev Wing := Fin 2
/-- A ring pair. -/
abbrev Ring := Fin 8
/-- A Copyist channel. -/
abbrev Channel := Fin 32
/-- An Errata source. -/
abbrev Source := Fin 384

/-- A frame of the Ruling chain without SYNC and CRC (R195). -/
structure Frame where
  kind : Nat := 0                      -- TYPE
  origin : Nat := 0
  hops : Nat := 0
  ldot : Nat := 0
  ltick : Nat := 0
  payload : Nat := 0                   -- 48 bits
deriving DecidableEq, Repr

/-- What error correction finds in the words that an access reads: nothing, or a corrected or an uncorrectable error in
the word at an offset of BAR2; in a sector store the failing column is known (R283, R284, R932, R935, R936). -/
inductive MemErr where
  | none
  | corrected (at_ column : Nat)
  | uncorrectable (at_ column : Nat)
deriving DecidableEq, Repr

/-- An access of the other port of bank 0 to the same word in the same array cycle (R926). -/
inductive Meeting where
  | none | read | write
deriving DecidableEq, Repr

/-- Whose request becomes urgent (R51, R873): a Lectern command, named by ring pair and TAG, a Copyist channel, or another
requester. -/
inductive Requester where
  | other
  | command (ring : Ring) (tag : BitVec 16)
  | channel (c : Channel)
deriving DecidableEq, Repr

/-- What an entry of a core's corrections corrects (R756): timing in eighths of a dot, a level offset in µV, a gain in
parts per million, a load current in nA. -/
inductive CalKind where
  | timing | level | gain | current
deriving DecidableEq, Repr

/-- One entry as a calibration run measures it. -/
structure Measured where
  kind : CalKind
  value : Int
deriving DecidableEq, Repr

/-- What fails in the measurements of a run: nothing, repeats that disagree (R781), or the loopback reference (R784). -/
inductive RunFault where
  | none | disagree | refload
deriving DecidableEq, Repr

/-- How the run of a core ends (R780 to R787): its fault, what it measured, its greatest verification error in 0.1 ps, and
new tap candidates as (slice, tap). -/
structure RunEnd where
  fault : RunFault
  measured : List Measured
  verr : Nat
  taps : List (Nat × Nat)
deriving DecidableEq, Repr

/-- The comparator transitions of a TDR shot (R733): instants in dots after the launch at which CL falls and at which CH
rises, and what else they did. -/
structure TdrShot where
  clFall : Option Nat                  -- CL falls
  clRiseAgain : Bool                   -- CL rises again
  chRise : Option Nat                  -- CH rises
  chStays : Bool                       -- and stays high to the window close
  early : Bool                         -- a transition before the launch
deriving DecidableEq, Repr

/-- How a phase of a TDR ends (R732). -/
inductive TdrPhase where
  | quiet (transition : Bool)
  | pass (shots : List TdrShot)
deriving DecidableEq, Repr

/-- What start-up step 4 reads from the fuses (R113, R167, R483, R844, R858, R931): revision, serial number, blown
anti-rollback fuses, regulator trims, master-line repairs, and repaired columns by 16 × sector + bank. -/
structure Fuses where
  rev : Nat
  serial : Nat
  svn : Nat
  trims : List Nat
  masters : List Word
  columns : List (Nat × Nat)
deriving DecidableEq, Repr

/-- What the boot ROM finds in an image (R831, R832): whether its key digest, its signature and its part digests verify, its
versions, and the digest of its measure part. -/
structure Image where
  key : Bool
  signature : Bool
  digests : Bool
  version : Nat
  svn : Nat
  measure : List Byte
deriving DecidableEq, Repr

/-- How the training of a stack ends (R280, R281, R298): its rate code, 0 where every rate failed, and the fewest hard-repair rows
left in any bank. -/
structure Training where
  rate : Fin 5
  hardLeft : BitVec 8
deriving DecidableEq, Repr

/-- The production copy of the sealed set (R812, R1083): temperatures by point, point tables by 8 × (9 × octet + core) + point,
and a token for what production alone sets. -/
structure Production where
  temps : List (Nat × Nat)
  points : List (Nat × List Measured)
  token : Nat
deriving DecidableEq, Repr

/-- What a start-up step brings as it ends (R1081). -/
inductive StartWork where
  | fuses (f : Fuses)
  | boot (a b : Image) (table : List Word)     -- the images of slots A and B, and the band table of flash or ROM (R129, R130)
  | lock
  | train (west east : Training)
  | sectors
  | load (intact tag0 tag1 : Bool) (production : Production)  -- do the vault's checks and the tags of the backup copies verify?
  | standby
deriving DecidableEq, Repr

/-- A trained host link (R853, R859): speed code, width, lane order, and masks of the lanes that failed detection or margining. -/
structure LinkUp where
  speed : BitVec 3
  width : BitVec 6
  reversed : Bool
  undetected : BitVec 16
  margin : BitVec 16
deriving DecidableEq, Repr

/-- What a segment of a MOVE meets (R899, R904, R926, R935): the bytes that it reads from host memory, the byte of it at which a
host read or write fails, the errors of the words it reads, and what the other port of bank 0 does. -/
structure SegIo where
  data : List Byte
  hostFails : Option Nat
  err : MemErr
  src : Meeting
  dst : Meeting
deriving DecidableEq, Repr

end Sys2Proof
end

