-- ==== Sys2Proof/Syntax.lean ====
section
/-! DEFINITION. The commands of the block: one constructor per row of the spec's table of operations and events,
with what the world outside brings to it. -/

namespace Sys2Proof

/-- The commands the EVL-5128 takes, in the order of the spec's table. -/
inductive Instr where
  /-- `REGISTER_WRITE` (R25). -/
  | registerWrite (bar4 : Bool) (off : BitVec 26) (v : Word)
  /-- `NARROW_ACCESS` (R24). -/
  | narrowAccess (bar4 : Bool) (off : BitVec 26) (write : Bool)
  /-- `RC_READ` (R29). -/
  | rcRead (bar4 : Bool) (off : BitVec 26)
  /-- `LATCHING_LO_READ` (R185). -/
  | latchingLoRead (off : BitVec 26)
  /-- `RWL_WRITE` (R820). -/
  | rwlWrite (off : BitVec 26) (v : Word)
  /-- `MODE_REQ` (R64). -/
  | modeReq (k : Sector) (req : BitVec 3)
  /-- `MODE_TRANSITION_DONE` (R62). -/
  | modeTransitionDone (k : Sector)
  /-- `SAFE_ENTER` (R66). -/
  | safeEnter (k : Sector)
  /-- `SAFE_EXIT` (R67). -/
  | safeExit (k : Sector)
  /-- `VAUX_IN_RANGE` (R95). -/
  | vauxInRange (addr1 : Bool) (addr0 : Bool)
  /-- `POWER_UP_START` (R102). -/
  | powerUpStart
  /-- `PG_RISE` (R102). -/
  | pgRise (n : Fin 8)
  /-- `RAIL_GROUP_RAISE` (R102). -/
  | railGroupRaise
  /-- `PG_TIMEOUT` (R103). -/
  | pgTimeout
  /-- `MAIN_POR_END` (R104). -/
  | mainPorEnd (bootSel : Bool) (table : List Word)
  /-- `STARTUP_STEP_END` (R1081). -/
  | startupStepEnd (w : StartWork)
  /-- `PG_LOSS` (R107). -/
  | pgLoss (lost : BitVec 8) (us : Nat) (counts : Bool)
  /-- `POWER_DOWN_STEP` (R105). -/
  | powerDownStep
  /-- `SUPPLY_SUPERVISOR_TRIP` (R109). -/
  | supplySupervisorTrip (vaux : Bool)
  /-- `SREG_UV` (R112). -/
  | sregUv (k : Sector)
  /-- `SREG_OC` (R112). -/
  | sregOc (k : Sector)
  /-- `REF_MEAS_DONE` (R124). -/
  | refMeasDone (fkHz : BitVec 18)
  /-- `PLL_LOCK_DECLARED` (R135). -/
  | pllLockDeclared (ahead : Nat)
  /-- `PLL_ENTRY_TIMEOUT` (R128). -/
  | pllEntryTimeout
  /-- `LOSS_OF_REFERENCE` (R141). -/
  | lossOfReference (mean : BitVec 16)
  /-- `LOSS_OF_LOCK` (R142). -/
  | lossOfLock (mean : BitVec 16)
  /-- `BAND_MARGIN` (R143). -/
  | bandMargin (w : BitVec 16)
  /-- `AUTO_REBAND` (R144). -/
  | autoReband
  /-- `COAST_LIMIT_EXPIRE` (R150). -/
  | coastLimitExpire
  /-- `REFCLK_QUALIFIED` (R152). -/
  | refclkQualified
  /-- `RELOCK_TIMEOUT` (R154). -/
  | relockTimeout
  /-- `RELOCK_WRITE` (R159). -/
  | relockWrite
  /-- `PLL_RESTART_WRITE` (R157). -/
  | pllRestartWrite
  /-- `BAND_ENTRY_WRITE` (R131). -/
  | bandEntryWrite (k : Fin 16) (w : Fin 4) (v : Word)
  /-- `ANCHOR_ADOPT` (R155). -/
  | anchorAdopt (k : Sector)
  /-- `TLL_UPDATE` (R163). -/
  | tllUpdate (k : Sector) (e : Int) (up : Option Bool)
  /-- `CLKOUT_GO` (R171). -/
  | clkoutGo (align : Bool)
  /-- `CLKOUT_CYCLE_END` (R172). -/
  | clkoutCycleEnd (n : Fin 4)
  /-- `CLKOUT_UPDATE_INSTANT` (R174). -/
  | clkoutUpdateInstant
  /-- `RUL_ROLE_WRITE` (R204). -/
  | rulRoleWrite (role : Fin 4)
  /-- `RUL_TRAINED` (R204). -/
  | rulTrained (hops : Fin 32)
  /-- `RUL_TRAIN_TIMEOUT` (R204). -/
  | rulTrainTimeout
  /-- `RUL_LINK_LOST` (R204). -/
  | rulLinkLost
  /-- `RUL_BROKEN_RECOVER` (R204). -/
  | rulBrokenRecover
  /-- `RUL_FRAME_IDLE` (R198). -/
  | rulFrameIdle (f : Frame) (arrive : Nat)
  /-- `RUL_FRAME_ANCHOR` (R215). -/
  | rulFrameAnchor (f : Frame) (arrive : Nat)
  /-- `RUL_FRAME_START` (R226). -/
  | rulFrameStart (f : Frame) (arrive : Nat)
  /-- `RUL_FRAME_EVENT` (R232). -/
  | rulFrameEvent (f : Frame) (arrive : Nat)
  /-- `RUL_FRAME_COND` (R229). -/
  | rulFrameCond (f : Frame) (arrive : Nat)
  /-- `RUL_FRAME_DECIDE` (R228). -/
  | rulFrameDecide (f : Frame) (arrive : Nat)
  /-- `RUL_FRAME_HALT` (R233). -/
  | rulFrameHalt (f : Frame) (arrive : Nat)
  /-- `RUL_FRAME_DESKEW` (R208). -/
  | rulFrameDeskew (f : Frame) (arrive : Nat)
  /-- `RUL_FRAME_HOPVAL` (R210). -/
  | rulFrameHopval (f : Frame) (arrive : Nat)
  /-- `RUL_FRAME_FAULT` (R227). -/
  | rulFrameFault (f : Frame) (arrive : Nat)
  /-- `RUL_FRAME_MEAS` (R214). -/
  | rulFrameMeas (f : Frame) (arrive : Nat)
  /-- `RUL_FRAME_BAD` (R199). -/
  | rulFrameBad (reserved : Bool)
  /-- `RUL_FRAME_FORWARD` (R200). -/
  | rulFrameForward
  /-- `RUL_FRAME_SEND` (R201). -/
  | rulFrameSend (mark : Nat)
  /-- `RUL_MEAS_SEND` (R214). -/
  | rulMeasSend
  /-- `RUL_ANCHOR_SEND` (R215). -/
  | rulAnchorSend
  /-- `DESKEW_GO` (R207). -/
  | deskewGo
  /-- `RUL_DESKEW_END` (R210). -/
  | rulDeskewEnd (dots : BitVec 16) (cause : Fin 5)
  /-- `CHAIN_START_INSTANT` (R225). -/
  | chainStartInstant
  /-- `CHAIN_EVENT_DELIVER` (R232). -/
  | chainEventDeliver
  /-- `CHAIN_HALT_INSTANT` (R233). -/
  | chainHaltInstant
  /-- `DECIDE_DEGRADED` (R229). -/
  | decideDegraded
  /-- `BAR2_READ` (R247). -/
  | bar2Read (off : BitVec 36) (n : BitVec 13) (e : MemErr) (m : Meeting)
  /-- `BAR2_WRITE` (R252). -/
  | bar2Write (off : BitVec 36) (data : List (Option Byte)) (e : MemErr) (m : Meeting)
  /-- `PS_WINDOW_WRITE` (R249). -/
  | psWindowWrite (k : Sector) (i : Fin 3) (v : Word)
  /-- `RA_CFG_WRITE` (R261). -/
  | raCfgWrite (k : Sector) (v : Word)
  /-- `FETCH_ISSUE` (R267). -/
  | fetchIssue (k : Sector) (g : Nat) (body : Option Nat) (again : MemErr)
  /-- `FETCH_COMPLETE` (R267). -/
  | fetchComplete (k : Sector) (g : Nat) (e : MemErr)
  /-- `STACK_TEMP_READ` (R285). -/
  | stackTempRead (w : Wing) (t : BitVec 8)
  /-- `PPR_SOFT_REPAIR` (R287). -/
  | pprSoftRepair (w : Wing)
  /-- `SCRIBE_START` (R301). -/
  | scribeStart (k : Sector)
  /-- `SCRIBE_STOP` (R343). -/
  | scribeStop (k : Sector)
  /-- `PRIMING_DONE` (R302). -/
  | primingDone (k : Sector)
  /-- `PRIMING_STOP` (R300). -/
  | primingStop (k : Sector)
  /-- `PACE_BOUNDARY` (R304). -/
  | paceBoundary (k : Sector)
  /-- `NEXT` (R315). -/
  | nextLine (k : Sector)
  /-- `RPT` (R315). -/
  | rptLine (k : Sector)
  /-- `LOOP` (R316). -/
  | loopLine (k : Sector)
  /-- `ENDL` (R317). -/
  | endlLine (k : Sector)
  /-- `JMP` (R315). -/
  | jmpLine (k : Sector)
  /-- `CALL` (R315). -/
  | callLine (k : Sector)
  /-- `RET` (R319). -/
  | retLine (k : Sector)
  /-- `MATCH` (R320). -/
  | matchLine (k : Sector)
  /-- `BR` (R315). -/
  | brLine (k : Sector)
  /-- `SIG` (R334). -/
  | sigLine (k : Sector)
  /-- `WAITS` (R322). -/
  | waitsLine (k : Sector)
  /-- `SETP` (R324). -/
  | setpLine (k : Sector)
  /-- `MARK` (R315). -/
  | markLine (k : Sector)
  /-- `HALT` (R315). -/
  | haltLine (k : Sector)
  /-- `IDXJ` (R315). -/
  | idxjLine (k : Sector)
  /-- `LDCNT` (R326). -/
  | ldcntLine (k : Sector)
  /-- `DECBR` (R327). -/
  | decbrLine (k : Sector)
  /-- `ENSYNC` (R361). -/
  | ensyncLine (k : Sector)
  /-- `DECISION_RESOLVE` (R309). -/
  | decisionResolve (k : Sector)
  /-- `DECISION_LANDING` (R310). -/
  | decisionLanding (k : Sector)
  /-- `DRAIN_END` (R300). -/
  | drainEnd (k : Sector)
  /-- `ENSEMBLE_STOP` (R359). -/
  | ensembleStop (k : Sector)
  /-- `ENS_WRITE` (R350). -/
  | ensWrite (k : Fin 4) (v : Word)
  /-- `EVT_POST` (R334). -/
  | evtPost (code : BitVec 8)
  /-- `EVTIO_INPUT_EDGE` (R338). -/
  | evtioInputEdge (n : Fin 8) (level : Bool)
  /-- `EVENT_DELIVER` (R335). -/
  | eventDeliver
  /-- `EVTIO_OUTPUT_EDGE` (R338). -/
  | evtioOutputEdge (n : Fin 8)
  /-- `EVTIO_PULSE_END` (R338). -/
  | evtioPulseEnd (n : Fin 8)
  /-- `EVT_FIFO_READ` (R370). -/
  | evtFifoRead
  /-- `PENCIL_SLOT_ASSIGN` (R380). -/
  | pencilSlotAssign (k : Sector)
  /-- `PENCIL_LINE_STAGED` (R385). -/
  | pencilLineStaged (k : Sector) (pencilled : Bool)
  /-- `PT_HI_COMMIT` (R447). -/
  | ptHiCommit (g : Octet) (e : Fin 16) (v : Word)
  /-- `PERIOD_CHANGE_EFFECT` (R429). -/
  | periodChangeEffect (g : Octet)
  /-- `OCTET_VECTOR_BOUNDARY` (R426). -/
  | octetVectorBoundary (g : Octet)
  /-- `DRIVE_INSTANT` (R495). -/
  | driveInstant (g : Octet) (l : Lane)
  /-- `STROBE_INSTANT` (R616). -/
  | strobeInstant (g : Octet) (l : Lane) (i : Fin 2) (codes : List (Fin 4))
  /-- `TS_STAGE_WRITE` (R458). -/
  | tsStageWrite (g : Octet) (l : Slot) (t : Fin 64) (w : Fin 5) (v : Word)
  /-- `TS_COMMIT` (R458). -/
  | tsCommit (g : Octet) (l : Slot) (t : Fin 64) (v : Word)
  /-- `BROADCAST_WRITE` (R487). -/
  | broadcastWrite (g : Octet) (off : BitVec 11) (v : Word)
  /-- `CORRECTION_SET_APPLY` (R478). -/
  | correctionSetApply (g : Octet) (l : Slot)
  /-- `OVERCURRENT_TRIP` (R555). -/
  | overcurrentTrip (g : Octet) (l : Lane)
  /-- `OC_SHUTDOWN_FAIL` (R557). -/
  | ocShutdownFail (g : Octet) (l : Lane)
  /-- `OC_CLEAR` (R556). -/
  | ocClear (g : Octet) (l : Lane)
  /-- `OVER_VOLTAGE` (R559). -/
  | overVoltage (g : Octet) (l : Lane)
  /-- `OV_CLEAR` (R560). -/
  | ovClear (g : Octet) (l : Lane)
  /-- `LOAD_COMPLIANCE` (R546). -/
  | loadCompliance (g : Octet) (l : Lane)
  /-- `FORCE_ISO_WRITE` (R570). -/
  | forceIsoWrite (g : Octet) (v : Word)
  /-- `FE_CFG_WRITE` (R573). -/
  | feCfgWrite (g : Octet) (l : Slot) (v : Word)
  /-- `HANDOVER_SWITCH` (R551). -/
  | handoverSwitch (g : Octet) (fail : Bool)
  /-- `DAC_CODE_WRITE` (R585). -/
  | dacCodeWrite (g : Octet) (l : Slot) (k : DacIdx) (code : BitVec 16)
  /-- `DAC_STAGE_WRITE` (R586). -/
  | dacStageWrite (g : Octet) (l : Slot) (k : DacIdx) (v : Word)
  /-- `LEVEL_BATCH_APPLY` (R589). -/
  | levelBatchApply (g : Octet)
  /-- `DAC_SPAN_WRITE` (R593). -/
  | dacSpanWrite (g : Octet) (l : Slot) (k : DacIdx) (span : Fin 2)
  /-- `SPAN_CHANGE_DONE` (R593). -/
  | spanChangeDone (g : Octet) (l : Slot)
  /-- `DAC_HOLD_END` (R582). -/
  | dacHoldEnd (g : Octet) (l : Slot) (k : DacIdx)
  /-- `DAC_MONITOR_FAULT` (R599). -/
  | dacMonitorFault (g : Octet) (l : Slot) (k : DacIdx)
  /-- `DAC_PARK_START` (R596). -/
  | dacParkStart (g : Octet) (l : Slot)
  /-- `SINE_GO` (R604). -/
  | sineGo
  /-- `SINE_START` (R604). -/
  | sineStart
  /-- `SINE_SAMPLE` (R600). -/
  | sineSample (g : Octet)
  /-- `SINE_STOP_WRITE` (R606). -/
  | sineStopWrite (g : Octet)
  /-- `VECTOR_RESOLVE` (R623). -/
  | vectorResolve (k : Sector)
  /-- `MARG_RECORD_WRITE` (R638). -/
  | margRecordWrite (k : Sector)
  /-- `MARG_RUN_OPEN` (R651). -/
  | margRunOpen (k : Sector)
  /-- `MARG_RUN_CLOSE` (R652). -/
  | margRunClose (k : Sector)
  /-- `MARG_RPTR_WRITE` (R631). -/
  | margRptrWrite (k : Sector) (v : Word)
  /-- `MARG_CLR` (R663). -/
  | margClr (k : Sector)
  /-- `BLOT_RECORD_FORM` (R673). -/
  | blotRecordForm (k : Sector) (o : Fin 8) (p : Fin 8) (samples : List (BitVec 16))
  /-- `TRIGGER_FIRE` (R691). -/
  | triggerFire (k : Sector) (p : Fin 8) (codes : BitVec 128)
  /-- `MASK_VIOLATION` (R696). -/
  | maskViolation (k : Sector) (m : Fin 4) (pin : Fin 64) (j : Fin 16) (back : Fin 16) (codes : List (Fin 4))
  /-- `FOLIO_MARK` (R678). -/
  | folioMark (k : Sector)
  /-- `BLOT_RESOLUTION_CHANGE` (R688). -/
  | blotResolutionChange (k : Sector)
  /-- `BLOT_DECIMATION_START` (R689). -/
  | blotDecimationStart (k : Sector)
  /-- `BLOT_DECIMATION_END` (R689). -/
  | blotDecimationEnd (k : Sector) (p : Fin 8)
  /-- `BLOT_RECORD_DRAIN` (R685). -/
  | blotRecordDrain (k : Sector)
  /-- `BLOT_CAPTURE_END` (R682). -/
  | blotCaptureEnd (k : Sector)
  /-- `BLOT_DISARM` (R682). -/
  | blotDisarm (k : Sector)
  /-- `BLOT_RPTR_WRITE` (R704). -/
  | blotRptrWrite (k : Sector) (v : Word)
  /-- `MASK_COMMIT` (R697). -/
  | maskCommit (k : Sector) (m : Fin 4) (v : Word)
  /-- `BLOT_RUN_OPEN` (R701). -/
  | blotRunOpen (k : Sector)
  /-- `HL_GO` (R710). -/
  | hlGo (g : Octet) (v : Word)
  /-- `HL_CAL_DONE` (R716). -/
  | hlCalDone (g : Octet) (one : BitVec 32) (two : BitVec 32)
  /-- `HL_SHOT_END` (R710). -/
  | hlShotEnd (g : Octet) (start : BitVec 64) (stops : List (BitVec 32))
  /-- `HL_START_TIMEOUT` (R712). -/
  | hlStartTimeout (g : Octet)
  /-- `HL_FREQ_GATE_END` (R718). -/
  | hlFreqGateEnd (g : Octet) (n : BitVec 32) (dt : BitVec 64) (near : Bool)
  /-- `HL_ABORT` (R724). -/
  | hlAbort (g : Octet)
  /-- `HL_SELFCHECK_START` (R722). -/
  | hlSelfcheckStart (g : Octet)
  /-- `HL_SELFCHECK_END` (R723). -/
  | hlSelfcheckEnd (g : Octet) (pass : Bool)
  /-- `TDR_GO` (R731). -/
  | tdrGo (g : Octet) (v : Word)
  /-- `TDR_PHASE_END` (R732). -/
  | tdrPhaseEnd (g : Octet) (ph : TdrPhase)
  /-- `DC_CONNECT_WRITE` (R738). -/
  | dcConnectWrite (g : Octet) (v : Word)
  /-- `DC_PATH_CLOSED` (R738). -/
  | dcPathClosed (g : Octet)
  /-- `DC_DISCONNECT_WRITE` (R739). -/
  | dcDisconnectWrite (g : Octet) (v : Word)
  /-- `DC_MEASURE_GO` (R744). -/
  | dcMeasureGo (g : Octet) (v : Word)
  /-- `DC_MEASURE_DONE` (R744). -/
  | dcMeasureDone (g : Octet) (volts : List Int) (amps : List Int)
  /-- `DC_CLAMP_COMPLY` (R743). -/
  | dcClampComply (g : Octet)
  /-- `DC_SELFTEST_START` (R745). -/
  | dcSelftestStart (g : Octet) (write : Option Word)
  /-- `DC_SELFTEST_END` (R745). -/
  | dcSelftestEnd (g : Octet) (pass : Bool)
  /-- `DC_QUEUE_TIMEOUT` (R746). -/
  | dcQueueTimeout (g : Octet)
  /-- `ROT_CYCLE_START` (R764). -/
  | rotCycleStart (g : Octet)
  /-- `ROT_MIRROR_DONE` (R767). -/
  | rotMirrorDone (g : Octet)
  /-- `ROT_MATCH_TRY_END` (R771). -/
  | rotMatchTryEnd (g : Octet) (pass : Bool)
  /-- `ROT_SEAM_TIMEOUT` (R779). -/
  | rotSeamTimeout (g : Octet)
  /-- `ROT_RUN_END` (R780). -/
  | rotRunEnd (g : Octet) (e : RunEnd)
  /-- `CAL_TEMP_SAMPLE` (R759). -/
  | calTempSample (k : Sector) (reading : BitVec 16)
  /-- `CAL_RECOMPUTE` (R761). -/
  | calRecompute (k : Sector)
  /-- `CAL_AGE_CLASS_CHANGE` (R789). -/
  | calAgeClassChange (g : Octet)
  /-- `ROT_SUMMARY` (R803). -/
  | rotSummary (k : Sector)
  /-- `ROT_CTL_WRITE` (R806). -/
  | rotCtlWrite (g : Octet) (v : Word)
  /-- `TAMPER_DETECT` (R840). -/
  | tamperDetect
  /-- `SQ_DOORBELL` (R866). -/
  | sqDoorbell (r : Ring) (v : Word)
  /-- `COMMAND_READ` (R870). -/
  | commandRead (r : Ring) (header : BitVec 128) (params : List Word)
  /-- `COMMAND_STALE` (R872). -/
  | commandStale
  /-- `REPLY_WRITE` (R868). -/
  | replyWrite (r : Ring)
  /-- `REPLY_COALESCE_TIMER` (R862). -/
  | replyCoalesceTimer (r : Ring)
  /-- `CQ_HEAD_WRITE` (R865). -/
  | cqHeadWrite (r : Ring) (v : Word)
  /-- `RING_CTL_WRITE` (R864). -/
  | ringCtlWrite (r : Ring) (v : Word)
  /-- `FUNCTION_LEVEL_RESET` (R851). -/
  | functionLevelReset
  /-- `PERST_ASSERT` (R852). -/
  | perstAssert
  /-- `PERST_RELEASE` (R1082). -/
  | perstRelease
  /-- `PCIE_POWER_STATE` (R850). -/
  | pciePowerState (d3hot : Bool)
  /-- `IMG_CHUNK` (R860). -/
  | imgChunk (v : Word) (image : Image) (table : List Word)
  /-- `DEV_IDENT` (R874). -/
  | devIdent
  /-- `DEV_STATUS` (R874). -/
  | devStatus
  /-- `SECTOR_MODE` (R874). -/
  | sectorMode
  /-- `REST` (R999). -/
  | rest
  /-- `BLOCK_RESET` (R874). -/
  | blockReset
  /-- `LEC_RESTART` (R874). -/
  | lecRestart
  /-- `TEMP_READ` (R874). -/
  | tempRead
  /-- `PAT_ADMIT` (R273). -/
  | patAdmit
  /-- `PAT_RELEASE` (R274). -/
  | patRelease
  /-- `PS_HOST_RES` (R275). -/
  | psHostRes
  /-- `PS_WINDOWS` (R875). -/
  | psWindows
  /-- `PAT_LOAD` (R875). -/
  | patLoad
  /-- `PS_STATUS` (R875). -/
  | psStatus
  /-- `TS_WRITE` (R876). -/
  | tsWrite
  /-- `PT_WRITE` (R876). -/
  | ptWrite
  /-- `LVL_WRITE` (R876). -/
  | lvlWrite
  /-- `CLKOUT_SET` (R876). -/
  | clkoutSet
  /-- `PLL_BAND` (R876). -/
  | pllBand
  /-- `PLL_RESTART` (R876). -/
  | pllRestart
  /-- `HL_INTERVAL` (R877). -/
  | hlInterval
  /-- `HL_FREQ` (R877). -/
  | hlFreq
  /-- `TDR_RUN` (R877). -/
  | tdrRun
  /-- `DC_CONNECT` (R877). -/
  | dcConnect
  /-- `DC_MEASURE` (R877). -/
  | dcMeasure
  /-- `DC_DISCONNECT` (R877). -/
  | dcDisconnect
  /-- `MEAS_STIM` (R877). -/
  | measStim
  /-- `CAL_CORE` (R878). -/
  | calCore
  /-- `CAL_DESKEW` (R878). -/
  | calDeskew
  /-- `CAL_VERIFY` (R878). -/
  | calVerify
  /-- `CAL_POINT` (R878). -/
  | calPoint
  /-- `CAL_UNRETIRE` (R878). -/
  | calUnretire
  /-- `TLL_REPAIR` (R878). -/
  | tllRepair
  /-- `LC_PROVISION` (R818). -/
  | lcProvision
  /-- `LC_SEAL` (R819). -/
  | lcSeal
  /-- `LC_SERVICE` (R822). -/
  | lcService
  /-- `LC_CHALLENGE` (R822). -/
  | lcChallenge
  /-- `LC_RETIRE` (R817). -/
  | lcRetire
  /-- `COL_READ` (R879). -/
  | colRead
  /-- `VERDICT` (R838). -/
  | verdict
  /-- `COL_RELEASE` (R830). -/
  | colRelease
  /-- `FLASH_INFO` (R880). -/
  | flashInfo
  /-- `FLASH_READ` (R880). -/
  | flashRead
  /-- `FLASH_ERASE` (R880). -/
  | flashErase
  /-- `HBM_PPR` (R289). -/
  | hbmPpr
  /-- `FLASH_PROGRAM` (R880). -/
  | flashProgram
  /-- `FUSE_PROGRAM` (R880). -/
  | fuseProgram
  /-- `STORE_BIST` (R929). -/
  | storeBist
  /-- `ERR_ACK` (R881). -/
  | errAck
  /-- `ERR_FORCE` (R881). -/
  | errForce
  /-- `ERR_READ` (R881). -/
  | errRead
  /-- `INJECT` (R1053). -/
  | inject
  /-- `RUL_ROLE` (R882). -/
  | rulRole
  /-- `RUL_DESKEW` (R882). -/
  | rulDeskew
  /-- `RUL_ENS` (R882). -/
  | rulEns
  /-- `RUL_HOP` (R882). -/
  | rulHop
  /-- `RUL_STATUS` (R882). -/
  | rulStatus
  /-- `CPY_GO` (R907). -/
  | cpyGo (c : Channel) (v : Word)
  /-- `CPY_ABORT` (R907). -/
  | cpyAbort (c : Channel) (v : Word)
  /-- `CPY_KICK` (R890). -/
  | cpyKick (c : Channel) (v : Word)
  /-- `CPY_PAUSE` (R907). -/
  | cpyPause (c : Channel) (v : Word)
  /-- `CPY_POLL` (R890). -/
  | cpyPoll (c : Channel)
  /-- `CPY_DESCRIPTOR_READ` (R890). -/
  | cpyDescriptorRead (c : Channel) (words : Option (List Word)) (e : MemErr)
  /-- `CPY_MOVE` (R898). -/
  | cpyMove (c : Channel)
  /-- `CPY_LOOP` (R893). -/
  | cpyLoop (c : Channel)
  /-- `CPY_ENDLOOP` (R893). -/
  | cpyEndloop (c : Channel)
  /-- `CPY_WAIT` (R897). -/
  | cpyWait (c : Channel)
  /-- `CPY_SIGNAL` (R897). -/
  | cpySignal (c : Channel)
  /-- `CPY_FENCE` (R896). -/
  | cpyFence (c : Channel)
  /-- `CPY_STOP` (R897). -/
  | cpyStop (c : Channel)
  /-- `CPY_SEGMENT_DONE` (R900). -/
  | cpySegmentDone (c : Channel) (io : SegIo)
  /-- `CPY_MUTUAL_HOLD` (R901). -/
  | cpyMutualHold (c : Channel)
  /-- `CPY_WAIT_TIMEOUT` (R897). -/
  | cpyWaitTimeout (c : Channel)
  /-- `CPY_FENCE_DONE` (R896). -/
  | cpyFenceDone (c : Channel) (ok : Bool)
  /-- `CPY_WRITEBACK` (R891). -/
  | cpyWriteback (c : Channel)
  /-- `SS_BANK_WRITE` (R921). -/
  | ssBankWrite (k : Sector) (b : Fin 16) (code : BitVec 8)
  /-- `SS_GUEST_WRITE` (R925). -/
  | ssGuestWrite (k : Sector) (code : BitVec 8)
  /-- `BANK_HANDOVER_DONE` (R923). -/
  | bankHandoverDone (k : Sector) (b : Fin 16)
  /-- `HOST_WRITE_HOLD_TIMEOUT` (R919). -/
  | hostWriteHoldTimeout
  /-- `BIST_PASS_END` (R927). -/
  | bistPassEnd (k : Sector) (fails : List (Fin 16 × BitVec 9))
  /-- `REQUEST_URGENT` (R938). -/
  | requestUrgent (cls : Fin 6) (who : Requester)
  /-- `SOURCE_RAISE` (R957). -/
  | sourceRaise (n : Source) (stays : Bool)
  /-- `RAIL_BROKEN` (R954). -/
  | railBroken (pair : Option Source) (ns : Nat) (judged : Bool) (stays : Bool)
  /-- `ERR_ACK_WRITE` (R960). -/
  | errAckWrite (n : Source)
  /-- `ERR_ESCALATION` (R960). -/
  | errEscalation (n : Source)
  /-- `ERR_FORCE_WRITE` (R964). -/
  | errForceWrite (n : Source) (b : Bool)
  /-- `ERR_STAT_CLEAR` (R958). -/
  | errStatClear (n : Source)
  /-- `RESET_ANNOUNCE` (R972). -/
  | resetAnnounce (d : BitVec 8)
  /-- `RESET_DOMAIN_END` (R972). -/
  | resetDomainEnd (d : BitVec 8)
  /-- `SHADOW_CLOSE` (R972). -/
  | shadowClose (d : BitVec 8)
  /-- `LEC_WATCHDOG_EXPIRE` (R956). -/
  | lecWatchdogExpire
  /-- `FABRIC_TIMEOUT` (R956). -/
  | fabricTimeout (k : Option Sector)
  /-- `QUILL_TICK` (R986). -/
  | quillTick (aClosed : Bool) (bClosed : Bool) (aux : List (BitVec 12))
  /-- `QSEC_TICK` (R987). -/
  | qsecTick
  /-- `QUILL_SENSOR_SAMPLE` (R990). -/
  | quillSensorSample (die : BitVec 16) (quill : BitVec 16) (vaux : BitVec 16)
  /-- `OVERTEMP_TRIP` (R991). -/
  | overtempTrip (sensor : Option (BitVec 8))
  /-- `POWER_DOWN_START` (R105). -/
  | powerDownStart
  /-- `POWER_CYCLE_REQUEST` (R997). -/
  | powerCycleRequest (key : BitVec 8)
  /-- `POWER_CYCLE_RESTART` (R997). -/
  | powerCycleRestart
  /-- `REST_ENTRY_DONE` (R1002). -/
  | restEntryDone
  /-- `WAKE_TIMER` (R1000). -/
  | wakeTimer
  /-- `WAKE` (R1003). -/
  | wake (io : Bool)
  /-- `WAKE_DONE` (R1005). -/
  | wakeDone
  /-- `ILK_CHANNEL_OPEN` (R1006). -/
  | ilkChannelOpen (b : Bool)
  /-- `ILK_ARM` (R1008). -/
  | ilkArm
  /-- `TAMPER_N_ASSERT` (R1012). -/
  | tamperNAssert (us : Nat) (taken : Bool)
  /-- `SMB_IDENT` (R1018). -/
  | smbIdent
  /-- `SMB_STATUS` (R1018). -/
  | smbStatus
  /-- `SMB_TEMP_DIE` (R1018). -/
  | smbTempDie
  /-- `SMB_TEMP_QUILL` (R1018). -/
  | smbTempQuill
  /-- `SMB_TEMP_HBM` (R1018). -/
  | smbTempHbm (w : Wing)
  /-- `SMB_VAUX` (R1018). -/
  | smbVaux
  /-- `SMB_AUX_IN` (R1018). -/
  | smbAuxIn (n : Fin 8)
  /-- `SMB_EVENT` (R1018). -/
  | smbEvent
  /-- `SMB_EVT_COUNT` (R1018). -/
  | smbEvtCount
  /-- `SMB_ALERT_MASK` (R1018). -/
  | smbAlertMask (write : Option (BitVec 16)) (pecOk : Bool)
  /-- `SMB_WAKE` (R1018). -/
  | smbWake (v : BitVec 8) (pecOk : Bool)
  /-- `SMB_POWER_CYCLE` (R1018). -/
  | smbPowerCycle (v : BitVec 8) (pecOk : Bool)
  /-- `SMB_QSEC` (R1018). -/
  | smbQsec
  /-- `SMB_ALERT_RESPONSE` (R1019). -/
  | smbAlertResponse
  /-- `SMB_CLOCK_TIMEOUT` (R1017). -/
  | smbClockTimeout (ms : Nat) (resets : Bool)
  /-- `TAP_RESET` (R1029). -/
  | tapReset
  /-- `TAP_INSTRUCTION_UPDATE` (R1034). -/
  | tapInstructionUpdate (code : BitVec 8)
  /-- `DAP_READ` (R1039). -/
  | dapRead (wa : BitVec 24)
  /-- `DAP_WRITE` (R1040). -/
  | dapWrite (wa : BitVec 24) (v : Word)
  /-- `LEC_HALT` (R1043). -/
  | lecHalt (dap : Bool)
  /-- `HALT_DEFER_TIMEOUT` (R1043). -/
  | haltDeferTimeout
  /-- `LEC_RESUME` (R1045). -/
  | lecResume (dap : Bool)
  /-- `LEC_DEBUG_RESTART` (R1046). -/
  | lecDebugRestart (dap : Bool)
  /-- `INJ_CTL_WRITE` (R1053). -/
  | injCtlWrite (i : Fin 4) (v : Word)
  /-- `INJECT_HOLD_RELEASE` (R1050). -/
  | injectHoldRelease
  /-- `FABRIC_RETRY` (R1051). -/
  | fabricRetry (link : BitVec 8) (item : Nat)
  /-- `SUPPLY_SUPERVISOR_RELEASE` (R109). -/
  | supplySupervisorRelease
  /-- `TAMPER_N_RELEASE` (R1013). -/
  | tamperNRelease
  /-- `HOST_LINK_STATE_CHANGE` (R1084). -/
  | hostLinkStateChange (up : Option LinkUp)
  /-- `DC_PATH_OPENED` (R739). -/
  | dcPathOpened (g : Octet)
  /-- `RUL_ROLE_REPLY_TIMEOUT` (R882). -/
  | rulRoleReplyTimeout
  /-- `CAL_PROCEDURE_END` (R802). -/
  | calProcedureEnd (k : Sector)
  /-- `FLASH_OPERATION_DONE` (R880). -/
  | flashOperationDone (bad : List Nat)
  /-- `BOUNDARY_SCAN_UPDATE` (R1032). -/
  | boundaryScanUpdate (cells : BitVec 77)
deriving DecidableEq, Repr

end Sys2Proof
end

