-- ==== Sys2Proof/Decode.lean ====
section
/-! DEFINITION. The command that a word of the spec's table spells. -/

namespace Sys2Proof

/-- The table gives no row any bits: a command arrives as a register access, a ring command or an event, and no word spells
one. -/
def decodeTableWord (_nbits _w : Nat) : Option Instr := none

end Sys2Proof
end

