-- ==== Sys2Proof/Config.lean ====
section
/-! DEFINITION. What the spec leaves open or names by a standard without giving its numbers here: opaque constants.
Nothing can evaluate them, so a statement about one holds whatever it is. -/

namespace Sys2Proof.Config

/-- Free values: the value the spec leaves open at the n-th place a run meets one. `State.free` counts them. -/
opaque freeNat : Nat → Nat

/-- SHA-384 of a string of bytes, its 48 bytes in order (R813, R826). -/
opaque sha384 : List Byte → List Byte

/-- The serialised form of values, whose layout the spec does not give (R813). -/
opaque serialise : List Nat → List Byte

/-- ECDSA P-384 over SHA-384: does a signature r, s of a message verify under the public key X, Y? (R822) -/
opaque ecdsaVerify : Nat → Nat → List Byte → Nat → Nat → Bool

/-- The signature r, s that a private key gives a message (R838). -/
opaque ecdsaSign : Nat → List Byte → Nat × Nat

/-- The public key X, Y of a private key. -/
opaque publicKey : Nat → Nat × Nat

/-- The flash's JEDEC ID and its four erase sizes, read by JESD216 discovery (R880). -/
opaque flashJedec : Nat
opaque flashErase : Nat → Nat

/-- The version of the boot ROM (R827). -/
opaque romVersion : Nat

/-- The payload of a CAL_RUN entry, whose packing the spec does not give (R803, R827). -/
opaque calRun : List Nat → Nat

/-- The row of a stack that an address lies in, under the interleave and bank hash the spec does not give (R279). -/
opaque hbmRow : Nat → Nat

/-- Pseudo-channel, bank and row of a stack as such a row (R289). -/
opaque hbmRowAt : Nat → Nat → Nat → Nat

/-- A sample of a sine generator in µV, from its amplitude in 0.1 mV and its phase (R600). -/
opaque sineSample : Nat → Nat → Int

/-- The correction step of a DAC to which a level, gain or current entry is rounded (R757), by the kind of its entry. -/
opaque levelStep : Nat → Nat

/-- The temperature filter of R759: its value, in 2^-16 °C, after a reading in 1/64 °C, given the value before. -/
opaque tempFilter : Int → Int → Int

end Sys2Proof.Config
end

