-- ==== Sys2Proof/Machine/RegMap.lean ====
section
/-! DEFINITION. The registers of BAR0 and BAR4 by the manual's names: where each lies (R856, R857 and the
register rule of its chapter) and the place of each of its fields. A register is keyed by its BAR0 offset; a
BAR4 register by `bar4Base` plus its BAR4 offset. -/

namespace Sys2Proof.Machine

/-- A field: the key of its register, its lowest bit and its width. -/
structure Fld where
  reg : Nat
  lo : Nat
  n : Nat
deriving DecidableEq, Repr

namespace Reg

/-- The range of sector `s` (R856). -/
def secBase (s : Nat) : Nat := 0x1000000 + s * 0x400000
/-- The Scribe block of sector `s`, with the pencil and level registers (R856). -/
def scribeBase (s : Nat) : Nat := secBase s
/-- Marginalia of sector `s` (R856). -/
def margBase (s : Nat) : Nat := secBase s + 0x80000
/-- The Blotter of sector `s` (R856). -/
def blotBase (s : Nat) : Nat := secBase s + 0x100000
/-- The store control of sector `s` (R856). -/
def storeBase (s : Nat) : Nat := secBase s + 0x180000
/-- The octet block of global octet `g` (R856). -/
def octBase (g : Nat) : Nat := secBase (g / 8) + 0x200000 + g % 8 * 0x4000
/-- The lane area of global octet `g` (R856). -/
def laneBase (g : Nat) : Nat := secBase (g / 8) + 0x280000 + g % 8 * 0x8000
/-- Slot `l` of the lane area: lanes 0 to 7, and 8 for the spare (R5). -/
def slotBase (g l : Nat) : Nat := laneBase g + 0x1000 + l * 0x800
/-- The keys of BAR4 lie above those of BAR0. -/
def bar4Base : Nat := 0x100000000

/-- `DEV.ID` (R858). -/
def DEV.ID.reg : Nat := 0x0
def DEV.ID.PART : Fld := ⟨DEV.ID.reg, 16, 16⟩
def DEV.ID.REV : Fld := ⟨DEV.ID.reg, 8, 8⟩

/-- `DEV.SERIAL_LO` (R858). -/
def DEV.SERIAL_LO.reg : Nat := 0x8
def DEV.SERIAL_LO.SERIAL : Fld := ⟨DEV.SERIAL_LO.reg, 0, 32⟩

/-- `DEV.SERIAL_HI` (R858). -/
def DEV.SERIAL_HI.reg : Nat := 0xc
def DEV.SERIAL_HI.SERIAL : Fld := ⟨DEV.SERIAL_HI.reg, 0, 32⟩

/-- `DEV.LINK` (R859). -/
def DEV.LINK.reg : Nat := 0x40
def DEV.LINK.LANE_FAIL : Fld := ⟨DEV.LINK.reg, 16, 16⟩
def DEV.LINK.DEGRADED : Fld := ⟨DEV.LINK.reg, 15, 1⟩
def DEV.LINK.REVERSED : Fld := ⟨DEV.LINK.reg, 14, 1⟩
def DEV.LINK.WIDTH : Fld := ⟨DEV.LINK.reg, 8, 6⟩
def DEV.LINK.SPEED : Fld := ⟨DEV.LINK.reg, 0, 3⟩

/-- `DEV.HOSTACC` (R859). -/
def DEV.HOSTACC.reg : Nat := 0x48
def DEV.HOSTACC.WR_REFUSED : Fld := ⟨DEV.HOSTACC.reg, 31, 1⟩
def DEV.HOSTACC.COUNT : Fld := ⟨DEV.HOSTACC.reg, 0, 16⟩

/-- `DEV.HOSTACC_ADDR_LO` (R859). -/
def DEV.HOSTACC_ADDR_LO.reg : Nat := 0x4c
def DEV.HOSTACC_ADDR_LO.ADDR : Fld := ⟨DEV.HOSTACC_ADDR_LO.reg, 0, 32⟩

/-- `DEV.HOSTACC_ADDR_HI` (R859). -/
def DEV.HOSTACC_ADDR_HI.reg : Nat := 0x50
def DEV.HOSTACC_ADDR_HI.ADDR : Fld := ⟨DEV.HOSTACC_ADDR_HI.reg, 0, 32⟩

/-- `DEV.MODE` (R57). -/
def DEV.MODE.reg : Nat := 0x80
def DEV.MODE.SAFE_DEV : Fld := ⟨DEV.MODE.reg, 31, 1⟩
def DEV.MODE.ACTIVE : Fld := ⟨DEV.MODE.reg, 8, 8⟩
def DEV.MODE.DEPTH : Fld := ⟨DEV.MODE.reg, 1, 1⟩
def DEV.MODE.READY : Fld := ⟨DEV.MODE.reg, 0, 1⟩

/-- `SMODE[s].CTL` (R58). -/
def SMODE.CTL.reg (s : Nat) : Nat := 0x100 + 4 * s
def SMODE.CTL.SAFE (s : Nat) : Fld := ⟨SMODE.CTL.reg s, 31, 1⟩
def SMODE.CTL.SAFE_CAUSE (s : Nat) : Fld := ⟨SMODE.CTL.reg s, 28, 3⟩
def SMODE.CTL.REFUSE_CAUSE (s : Nat) : Fld := ⟨SMODE.CTL.reg s, 20, 4⟩
def SMODE.CTL.REFUSED (s : Nat) : Fld := ⟨SMODE.CTL.reg s, 19, 1⟩
def SMODE.CTL.PENDING (s : Nat) : Fld := ⟨SMODE.CTL.reg s, 18, 1⟩
def SMODE.CTL.BUSY (s : Nat) : Fld := ⟨SMODE.CTL.reg s, 17, 1⟩
def SMODE.CTL.SAFE_EXIT (s : Nat) : Fld := ⟨SMODE.CTL.reg s, 16, 1⟩
def SMODE.CTL.SAFE_ENTER (s : Nat) : Fld := ⟨SMODE.CTL.reg s, 15, 1⟩
def SMODE.CTL.MODE_CUR (s : Nat) : Fld := ⟨SMODE.CTL.reg s, 8, 3⟩
def SMODE.CTL.MODE_TGT (s : Nat) : Fld := ⟨SMODE.CTL.reg s, 4, 3⟩
def SMODE.CTL.MODE_REQ (s : Nat) : Fld := ⟨SMODE.CTL.reg s, 0, 3⟩

/-- `DEV.SUPPLY` (R115). -/
def DEV.SUPPLY.reg : Nat := 0x180
def DEV.SUPPLY.EN : Fld := ⟨DEV.SUPPLY.reg, 8, 8⟩
def DEV.SUPPLY.PG : Fld := ⟨DEV.SUPPLY.reg, 0, 8⟩

/-- `SREG[s].CTL` (R113). -/
def SREG.CTL.reg (s : Nat) : Nat := 0x200 + 8 * s
def SREG.CTL.TRIM (s : Nat) : Fld := ⟨SREG.CTL.reg s, 0, 6⟩

/-- `SREG[s].STAT` (R114). -/
def SREG.STAT.reg (s : Nat) : Nat := 0x204 + 8 * s
def SREG.STAT.OC (s : Nat) : Fld := ⟨SREG.STAT.reg s, 18, 1⟩
def SREG.STAT.UV (s : Nat) : Fld := ⟨SREG.STAT.reg s, 17, 1⟩
def SREG.STAT.PGOOD (s : Nat) : Fld := ⟨SREG.STAT.reg s, 16, 1⟩
def SREG.STAT.VOUT (s : Nat) : Fld := ⟨SREG.STAT.reg s, 0, 12⟩

/-- `ENS[k]` (R369). -/
def ENS.reg (k : Nat) : Nat := 0x300 + 4 * k
def ENS.EN (k : Nat) : Fld := ⟨ENS.reg k, 31, 1⟩
def ENS.CFG_REFUSED (k : Nat) : Fld := ⟨ENS.reg k, 30, 1⟩
def ENS.SMASK (k : Nat) : Fld := ⟨ENS.reg k, 0, 8⟩

/-- `EVT.POST` (R370). -/
def EVT.POST.reg : Nat := 0x380
def EVT.POST.CODE : Fld := ⟨EVT.POST.reg, 0, 8⟩

/-- `EVT.FIFO` (R370). -/
def EVT.FIFO.reg : Nat := 0x384
def EVT.FIFO.VALID : Fld := ⟨EVT.FIFO.reg, 31, 1⟩
def EVT.FIFO.OVERFLOW : Fld := ⟨EVT.FIFO.reg, 30, 1⟩
def EVT.FIFO.LOST : Fld := ⟨EVT.FIFO.reg, 29, 1⟩
def EVT.FIFO.SOURCE : Fld := ⟨EVT.FIFO.reg, 16, 4⟩
def EVT.FIFO.CODE : Fld := ⟨EVT.FIFO.reg, 0, 8⟩

/-- `EVT.ROUTE[c]` (R371). -/
def EVT.ROUTE.reg (c : Nat) : Nat := 0x400 + 4 * c
def EVT.ROUTE.IRQ (c : Nat) : Fld := ⟨EVT.ROUTE.reg c, 31, 1⟩
def EVT.ROUTE.CHAIN (c : Nat) : Fld := ⟨EVT.ROUTE.reg c, 30, 1⟩
def EVT.ROUTE.COPY (c : Nat) : Fld := ⟨EVT.ROUTE.reg c, 29, 1⟩
def EVT.ROUTE.OUTMASK (c : Nat) : Fld := ⟨EVT.ROUTE.reg c, 8, 8⟩
def EVT.ROUTE.SMASK (c : Nat) : Fld := ⟨EVT.ROUTE.reg c, 0, 8⟩

/-- `EVTIO[n].CTL` (R372). -/
def EVTIO.CTL.reg (n : Nat) : Nat := 0x800 + 4 * n
def EVTIO.CTL.DIR (n : Nat) : Fld := ⟨EVTIO.CTL.reg n, 31, 1⟩
def EVTIO.CTL.MODE (n : Nat) : Fld := ⟨EVTIO.CTL.reg n, 30, 1⟩
def EVTIO.CTL.FALL (n : Nat) : Fld := ⟨EVTIO.CTL.reg n, 29, 1⟩
def EVTIO.CTL.PULSE (n : Nat) : Fld := ⟨EVTIO.CTL.reg n, 16, 8⟩
def EVTIO.CTL.CODE (n : Nat) : Fld := ⟨EVTIO.CTL.reg n, 0, 8⟩

/-- `DEV.SINE_GO` (R614). -/
def DEV.SINE_GO.reg : Nat := 0x900
def DEV.SINE_GO.GO : Fld := ⟨DEV.SINE_GO.reg, 31, 1⟩
def DEV.SINE_GO.BUSY : Fld := ⟨DEV.SINE_GO.reg, 0, 1⟩

/-- `CAL.CTL` (R811). -/
def CAL.CTL.reg : Nat := 0xa00
def CAL.CTL.CLASS : Fld := ⟨CAL.CTL.reg, 0, 2⟩

/-- `CAL.STAT` (R811). -/
def CAL.STAT.reg : Nat := 0xa04
def CAL.STAT.TEMP_RANGE : Fld := ⟨CAL.STAT.reg, 31, 1⟩
def CAL.STAT.LOG_FULL : Fld := ⟨CAL.STAT.reg, 30, 1⟩
def CAL.STAT.BELOW : Fld := ⟨CAL.STAT.reg, 16, 10⟩
def CAL.STAT.NOT_ASSURED : Fld := ⟨CAL.STAT.reg, 0, 10⟩

/-- `CAL.TPOINT[i]` (R811). -/
def CAL.TPOINT.reg (i : Nat) : Nat := 0xa10 + 4 * i
def CAL.TPOINT.VALID (i : Nat) : Fld := ⟨CAL.TPOINT.reg i, 31, 1⟩
def CAL.TPOINT.TEMP (i : Nat) : Fld := ⟨CAL.TPOINT.reg i, 0, 16⟩

/-- `CAL.TEMP[s]` (R811). -/
def CAL.TEMP.reg (s : Nat) : Nat := 0xa40 + 4 * s
def CAL.TEMP.TEMP (s : Nat) : Fld := ⟨CAL.TEMP.reg s, 0, 16⟩

/-- `PSC[w].LEDGER` (R295). -/
def PSC.LEDGER.reg (w : Nat) : Nat := 0x10000 + 4096 * w
def PSC.LEDGER.CEIL (w : Nat) : Fld := ⟨PSC.LEDGER.reg w, 16, 12⟩
def PSC.LEDGER.TOTAL (w : Nat) : Fld := ⟨PSC.LEDGER.reg w, 0, 12⟩

/-- `PSC[w].HOST_RES` (R295). -/
def PSC.HOST_RES.reg (w : Nat) : Nat := 0x10004 + 4096 * w
def PSC.HOST_RES.H (w : Nat) : Fld := ⟨PSC.HOST_RES.reg w, 0, 9⟩

/-- `PSC[w].LINK` (R296). -/
def PSC.LINK.reg (w : Nat) : Nat := 0x10008 + 4096 * w
def PSC.LINK.TRAINED (w : Nat) : Fld := ⟨PSC.LINK.reg w, 31, 1⟩
def PSC.LINK.SELF_REFRESH (w : Nat) : Fld := ⟨PSC.LINK.reg w, 30, 1⟩
def PSC.LINK.REFRESH_X2 (w : Nat) : Fld := ⟨PSC.LINK.reg w, 29, 1⟩
def PSC.LINK.TEMP (w : Nat) : Fld := ⟨PSC.LINK.reg w, 16, 8⟩
def PSC.LINK.RATE (w : Nat) : Fld := ⟨PSC.LINK.reg w, 0, 3⟩

/-- `PSC[w].ECC_CNT` (R297). -/
def PSC.ECC_CNT.reg (w : Nat) : Nat := 0x1000c + 4096 * w
def PSC.ECC_CNT.CE (w : Nat) : Fld := ⟨PSC.ECC_CNT.reg w, 16, 16⟩
def PSC.ECC_CNT.UE (w : Nat) : Fld := ⟨PSC.ECC_CNT.reg w, 0, 16⟩

/-- `PSC[w].STAT` (R298). -/
def PSC.STAT.reg (w : Nat) : Nat := 0x10010 + 4096 * w
def PSC.STAT.UE (w : Nat) : Fld := ⟨PSC.STAT.reg w, 31, 1⟩
def PSC.STAT.CE_LIMIT (w : Nat) : Fld := ⟨PSC.STAT.reg w, 30, 1⟩
def PSC.STAT.HOT (w : Nat) : Fld := ⟨PSC.STAT.reg w, 29, 1⟩
def PSC.STAT.TRAIN_FAIL (w : Nat) : Fld := ⟨PSC.STAT.reg w, 28, 1⟩
def PSC.STAT.PPR_DONE (w : Nat) : Fld := ⟨PSC.STAT.reg w, 27, 1⟩
def PSC.STAT.SPPR (w : Nat) : Fld := ⟨PSC.STAT.reg w, 16, 8⟩
def PSC.STAT.CAND (w : Nat) : Fld := ⟨PSC.STAT.reg w, 8, 8⟩
def PSC.STAT.HPPR_LEFT (w : Nat) : Fld := ⟨PSC.STAT.reg w, 0, 8⟩

/-- `PSC[w].FAULT_ADDR_LO` (R299). -/
def PSC.FAULT_ADDR_LO.reg (w : Nat) : Nat := 0x10014 + 4096 * w
def PSC.FAULT_ADDR_LO.V (w : Nat) : Fld := ⟨PSC.FAULT_ADDR_LO.reg w, 0, 32⟩

/-- `PSC[w].FAULT_ADDR_HI` (R299). -/
def PSC.FAULT_ADDR_HI.reg (w : Nat) : Nat := 0x10018 + 4096 * w
def PSC.FAULT_ADDR_HI.V (w : Nat) : Fld := ⟨PSC.FAULT_ADDR_HI.reg w, 0, 32⟩

/-- `ERR.STAT` (R982). -/
def ERR.STAT.reg : Nat := 0x100000
def ERR.STAT.F3 : Fld := ⟨ERR.STAT.reg, 31, 1⟩
def ERR.STAT.BROKEN_SEEN : Fld := ⟨ERR.STAT.reg, 30, 1⟩
def ERR.STAT.ACK_ERR : Fld := ⟨ERR.STAT.reg, 29, 1⟩
def ERR.STAT.FORCE_REFUSED : Fld := ⟨ERR.STAT.reg, 28, 1⟩
def ERR.STAT.CFG_ERR : Fld := ⟨ERR.STAT.reg, 27, 1⟩
def ERR.STAT.FIRST : Fld := ⟨ERR.STAT.reg, 16, 9⟩
def ERR.STAT.FIRST_VALID : Fld := ⟨ERR.STAT.reg, 15, 1⟩
def ERR.STAT.ESC_CNT : Fld := ⟨ERR.STAT.reg, 0, 8⟩

/-- `ERR.IRQ` (R983). -/
def ERR.IRQ.reg : Nat := 0x100000 + 0x4
def ERR.IRQ.HI : Fld := ⟨ERR.IRQ.reg, 1, 1⟩
def ERR.IRQ.LO : Fld := ⟨ERR.IRQ.reg, 0, 1⟩

/-- `ERR.REACT[i]` (R983). -/
def ERR.REACT.reg (i : Nat) : Nat := 0x100000 + 0x10 + 4 * i
def ERR.REACT.US (i : Nat) : Fld := ⟨ERR.REACT.reg i, 0, 17⟩

/-- `ERR.SUM[k]` (R983). -/
def ERR.SUM.reg (k : Nat) : Nat := 0x100000 + 0x40 + 4 * k
def ERR.SUM.STAT (k : Nat) : Fld := ⟨ERR.SUM.reg k, 0, 32⟩

/-- `ERR.PEND[k]` (R983). -/
def ERR.PEND.reg (k : Nat) : Nat := 0x100000 + 0x80 + 4 * k
def ERR.PEND.OPEN (k : Nat) : Fld := ⟨ERR.PEND.reg k, 0, 32⟩

/-- `ERR.ACCESS_LO` (R983). -/
def ERR.ACCESS_LO.reg : Nat := 0x100000 + 0xc0
def ERR.ACCESS_LO.OFFSET : Fld := ⟨ERR.ACCESS_LO.reg, 0, 32⟩

/-- `ERR.ACCESS_HI` (R983). -/
def ERR.ACCESS_HI.reg : Nat := 0x100000 + 0xc4
def ERR.ACCESS_HI.BAR : Fld := ⟨ERR.ACCESS_HI.reg, 30, 2⟩
def ERR.ACCESS_HI.KIND : Fld := ⟨ERR.ACCESS_HI.reg, 28, 2⟩
def ERR.ACCESS_HI.OFFSET : Fld := ⟨ERR.ACCESS_HI.reg, 0, 4⟩

/-- `ERR.SRC[n]` (R981). -/
def ERR.SRC.reg (n : Nat) : Nat := 0x100000 + 0x1000 + 4 * n
def ERR.SRC.STAT (n : Nat) : Fld := ⟨ERR.SRC.reg n, 31, 1⟩
def ERR.SRC.ACTIVE (n : Nat) : Fld := ⟨ERR.SRC.reg n, 30, 1⟩
def ERR.SRC.PENDING (n : Nat) : Fld := ⟨ERR.SRC.reg n, 29, 1⟩
def ERR.SRC.ESCALATED (n : Nat) : Fld := ⟨ERR.SRC.reg n, 28, 1⟩
def ERR.SRC.CONSEQ (n : Nat) : Fld := ⟨ERR.SRC.reg n, 27, 1⟩
def ERR.SRC.FORCE (n : Nat) : Fld := ⟨ERR.SRC.reg n, 26, 1⟩
def ERR.SRC.ACK (n : Nat) : Fld := ⟨ERR.SRC.reg n, 25, 1⟩
def ERR.SRC.IRQ_EN (n : Nat) : Fld := ⟨ERR.SRC.reg n, 24, 1⟩
def ERR.SRC.ESC (n : Nat) : Fld := ⟨ERR.SRC.reg n, 22, 2⟩
def ERR.SRC.TSEL (n : Nat) : Fld := ⟨ERR.SRC.reg n, 20, 2⟩
def ERR.SRC.CLASS (n : Nat) : Fld := ⟨ERR.SRC.reg n, 18, 2⟩
def ERR.SRC.FORCED (n : Nat) : Fld := ⟨ERR.SRC.reg n, 17, 1⟩
def ERR.SRC.BROKEN (n : Nat) : Fld := ⟨ERR.SRC.reg n, 16, 1⟩
def ERR.SRC.COUNT (n : Nat) : Fld := ⟨ERR.SRC.reg n, 8, 8⟩
def ERR.SRC.CAUSE (n : Nat) : Fld := ⟨ERR.SRC.reg n, 0, 8⟩

/-- `ERR.RESET[d]` (R984). -/
def ERR.RESET.reg (d : Nat) : Nat := 0x100000 + 0x3000 + 4 * d
def ERR.RESET.SHADOW (d : Nat) : Fld := ⟨ERR.RESET.reg d, 31, 1⟩
def ERR.RESET.BUSY (d : Nat) : Fld := ⟨ERR.RESET.reg d, 30, 1⟩
def ERR.RESET.STALE (d : Nat) : Fld := ⟨ERR.RESET.reg d, 16, 8⟩
def ERR.RESET.RESETS (d : Nat) : Fld := ⟨ERR.RESET.reg d, 8, 8⟩
def ERR.RESET.GEN (d : Nat) : Fld := ⟨ERR.RESET.reg d, 0, 8⟩

/-- `CLK.PLL_CTL` (R180). -/
def CLK.PLL_CTL.reg : Nat := 0x200000
def CLK.PLL_CTL.RESTART : Fld := ⟨CLK.PLL_CTL.reg, 31, 1⟩
def CLK.PLL_CTL.RELOCK : Fld := ⟨CLK.PLL_CTL.reg, 30, 1⟩
def CLK.PLL_CTL.AUTO_REBAND : Fld := ⟨CLK.PLL_CTL.reg, 23, 1⟩
def CLK.PLL_CTL.AUTO_RELOCK : Fld := ⟨CLK.PLL_CTL.reg, 22, 1⟩
def CLK.PLL_CTL.BAND_AUTO : Fld := ⟨CLK.PLL_CTL.reg, 21, 1⟩
def CLK.PLL_CTL.BAND_SEL : Fld := ⟨CLK.PLL_CTL.reg, 16, 4⟩
def CLK.PLL_CTL.COAST_LIMIT : Fld := ⟨CLK.PLL_CTL.reg, 0, 16⟩

/-- `CLK.PLL_STAT` (R181). -/
def CLK.PLL_STAT.reg : Nat := 0x200000 + 0x4
def CLK.PLL_STAT.COAST_LONG : Fld := ⟨CLK.PLL_STAT.reg, 31, 1⟩
def CLK.PLL_STAT.RESTART_REFUSED : Fld := ⟨CLK.PLL_STAT.reg, 30, 1⟩
def CLK.PLL_STAT.NO_BAND : Fld := ⟨CLK.PLL_STAT.reg, 29, 1⟩
def CLK.PLL_STAT.LOCK_FAIL : Fld := ⟨CLK.PLL_STAT.reg, 28, 1⟩
def CLK.PLL_STAT.LOL_SEEN : Fld := ⟨CLK.PLL_STAT.reg, 27, 1⟩
def CLK.PLL_STAT.LOR_SEEN : Fld := ⟨CLK.PLL_STAT.reg, 26, 1⟩
def CLK.PLL_STAT.BAND_MARGIN : Fld := ⟨CLK.PLL_STAT.reg, 25, 1⟩
def CLK.PLL_STAT.ENTRY_LOCKED : Fld := ⟨CLK.PLL_STAT.reg, 24, 1⟩
def CLK.PLL_STAT.BAND_CUR : Fld := ⟨CLK.PLL_STAT.reg, 20, 4⟩
def CLK.PLL_STAT.LOCK_GEN : Fld := ⟨CLK.PLL_STAT.reg, 8, 8⟩
def CLK.PLL_STAT.STATE : Fld := ⟨CLK.PLL_STAT.reg, 0, 3⟩

/-- `CLK.DITHER` (R182). -/
def CLK.DITHER.reg : Nat := 0x200000 + 0x8
def CLK.DITHER.EN : Fld := ⟨CLK.DITHER.reg, 31, 1⟩
def CLK.DITHER.SEED : Fld := ⟨CLK.DITHER.reg, 0, 24⟩

/-- `CLK.OCW` (R183). -/
def CLK.OCW.reg : Nat := 0x200000 + 0xc
def CLK.OCW.FROZEN : Fld := ⟨CLK.OCW.reg, 31, 1⟩
def CLK.OCW.DCO_BAND : Fld := ⟨CLK.OCW.reg, 16, 6⟩
def CLK.OCW.WORD : Fld := ⟨CLK.OCW.reg, 0, 16⟩

/-- `CLK.REF_MEAS` (R184). -/
def CLK.REF_MEAS.reg : Nat := 0x200000 + 0x10
def CLK.REF_MEAS.FREQ : Fld := ⟨CLK.REF_MEAS.reg, 0, 18⟩

/-- `CLK.ANCHOR_LO` (R185). -/
def CLK.ANCHOR_LO.reg : Nat := 0x200000 + 0x18
def CLK.ANCHOR_LO.V : Fld := ⟨CLK.ANCHOR_LO.reg, 0, 32⟩

/-- `CLK.ANCHOR_HI` (R185). -/
def CLK.ANCHOR_HI.reg : Nat := 0x200000 + 0x1c
def CLK.ANCHOR_HI.V : Fld := ⟨CLK.ANCHOR_HI.reg, 0, 32⟩

/-- `CLK.BAND[k].RANGE` (R186). -/
def CLK.BAND.RANGE.reg (k : Nat) : Nat := 0x200000 + 0x100 + 16 * k
def CLK.BAND.RANGE.REF_MAX (k : Nat) : Fld := ⟨CLK.BAND.RANGE.reg k, 16, 16⟩
def CLK.BAND.RANGE.REF_MIN (k : Nat) : Fld := ⟨CLK.BAND.RANGE.reg k, 0, 16⟩

/-- `CLK.BAND[k].DIV` (R186). -/
def CLK.BAND.DIV.reg (k : Nat) : Nat := 0x200000 + 0x104 + 16 * k
def CLK.BAND.DIV.VALID (k : Nat) : Fld := ⟨CLK.BAND.DIV.reg k, 31, 1⟩
def CLK.BAND.DIV.PDIV (k : Nat) : Fld := ⟨CLK.BAND.DIV.reg k, 24, 4⟩
def CLK.BAND.DIV.NINT (k : Nat) : Fld := ⟨CLK.BAND.DIV.reg k, 0, 9⟩

/-- `CLK.BAND[k].FRAC` (R186). -/
def CLK.BAND.FRAC.reg (k : Nat) : Nat := 0x200000 + 0x108 + 16 * k
def CLK.BAND.FRAC.NUM (k : Nat) : Fld := ⟨CLK.BAND.FRAC.reg k, 16, 16⟩
def CLK.BAND.FRAC.DEN (k : Nat) : Fld := ⟨CLK.BAND.FRAC.reg k, 0, 16⟩

/-- `CLK.BAND[k].DCO` (R186). -/
def CLK.BAND.DCO.reg (k : Nat) : Nat := 0x200000 + 0x10c + 16 * k
def CLK.BAND.DCO.BAND (k : Nat) : Fld := ⟨CLK.BAND.DCO.reg k, 16, 6⟩
def CLK.BAND.DCO.KP (k : Nat) : Fld := ⟨CLK.BAND.DCO.reg k, 8, 4⟩
def CLK.BAND.DCO.KI (k : Nat) : Fld := ⟨CLK.BAND.DCO.reg k, 0, 4⟩

/-- `TLL[s].STAT` (R187). -/
def TLL.STAT.reg (s : Nat) : Nat := 0x200000 + 0x200 + 16 * s
def TLL.STAT.UNLOCK_SEEN (s : Nat) : Fld := ⟨TLL.STAT.reg s, 18, 1⟩
def TLL.STAT.LOCKED (s : Nat) : Fld := ⟨TLL.STAT.reg s, 17, 1⟩
def TLL.STAT.ANCHOR_PEND (s : Nat) : Fld := ⟨TLL.STAT.reg s, 16, 1⟩
def TLL.STAT.BIAS (s : Nat) : Fld := ⟨TLL.STAT.reg s, 0, 12⟩

/-- `TLL[s].ERR` (R187). -/
def TLL.ERR.reg (s : Nat) : Nat := 0x200000 + 0x204 + 16 * s
def TLL.ERR.ERROR (s : Nat) : Fld := ⟨TLL.ERR.reg s, 0, 16⟩

/-- `TLL[s].REPAIR` (R187). -/
def TLL.REPAIR.reg (s : Nat) : Nat := 0x200000 + 0x208 + 16 * s
def TLL.REPAIR.TAP3 (s : Nat) : Fld := ⟨TLL.REPAIR.reg s, 24, 8⟩
def TLL.REPAIR.TAP2 (s : Nat) : Fld := ⟨TLL.REPAIR.reg s, 16, 8⟩
def TLL.REPAIR.TAP1 (s : Nat) : Fld := ⟨TLL.REPAIR.reg s, 8, 8⟩
def TLL.REPAIR.TAP0 (s : Nat) : Fld := ⟨TLL.REPAIR.reg s, 0, 8⟩

/-- `CLKOUT[n].DIV` (R188). -/
def CLKOUT.DIV.reg (n : Nat) : Nat := 0x200000 + 0x300 + 16 * n
def CLKOUT.DIV.INT (n : Nat) : Fld := ⟨CLKOUT.DIV.reg n, 20, 12⟩
def CLKOUT.DIV.FRAC (n : Nat) : Fld := ⟨CLKOUT.DIV.reg n, 0, 20⟩

/-- `CLKOUT[n].CTL` (R188). -/
def CLKOUT.CTL.reg (n : Nat) : Nat := 0x200000 + 0x304 + 16 * n
def CLKOUT.CTL.ACTIVE_EN (n : Nat) : Fld := ⟨CLKOUT.CTL.reg n, 31, 1⟩
def CLKOUT.CTL.SAFE_STOP (n : Nat) : Fld := ⟨CLKOUT.CTL.reg n, 16, 1⟩
def CLKOUT.CTL.EN (n : Nat) : Fld := ⟨CLKOUT.CTL.reg n, 12, 1⟩
def CLKOUT.CTL.PHASE (n : Nat) : Fld := ⟨CLKOUT.CTL.reg n, 0, 12⟩

/-- `CLKOUT[n].DIV_ACT` (R188). -/
def CLKOUT.DIV_ACT.reg (n : Nat) : Nat := 0x200000 + 0x308 + 16 * n
def CLKOUT.DIV_ACT.INT (n : Nat) : Fld := ⟨CLKOUT.DIV_ACT.reg n, 20, 12⟩
def CLKOUT.DIV_ACT.FRAC (n : Nat) : Fld := ⟨CLKOUT.DIV_ACT.reg n, 0, 20⟩

/-- `CLK.OUT_UPDATE` (R189). -/
def CLK.OUT_UPDATE.reg : Nat := 0x200000 + 0x340
def CLK.OUT_UPDATE.GO : Fld := ⟨CLK.OUT_UPDATE.reg, 31, 1⟩
def CLK.OUT_UPDATE.OVERRUN : Fld := ⟨CLK.OUT_UPDATE.reg, 3, 1⟩
def CLK.OUT_UPDATE.RANGE_ERR : Fld := ⟨CLK.OUT_UPDATE.reg, 2, 1⟩
def CLK.OUT_UPDATE.ALIGN : Fld := ⟨CLK.OUT_UPDATE.reg, 1, 1⟩
def CLK.OUT_UPDATE.BUSY : Fld := ⟨CLK.OUT_UPDATE.reg, 0, 1⟩

/-- `RUL.CTL` (R239). -/
def RUL.CTL.reg : Nat := 0x300000
def RUL.CTL.DESKEW_GO : Fld := ⟨RUL.CTL.reg, 31, 1⟩
def RUL.CTL.CLOSURE_LIM : Fld := ⟨RUL.CTL.reg, 16, 8⟩
def RUL.CTL.ROLE : Fld := ⟨RUL.CTL.reg, 0, 2⟩

/-- `RUL.STAT` (R240). -/
def RUL.STAT.reg : Nat := 0x300000 + 0x4
def RUL.STAT.LINK_DOWN : Fld := ⟨RUL.STAT.reg, 31, 1⟩
def RUL.STAT.CRC_ERR : Fld := ⟨RUL.STAT.reg, 30, 1⟩
def RUL.STAT.LATE : Fld := ⟨RUL.STAT.reg, 29, 1⟩
def RUL.STAT.CLOSURE_ERR : Fld := ⟨RUL.STAT.reg, 28, 1⟩
def RUL.STAT.DRIFT : Fld := ⟨RUL.STAT.reg, 27, 1⟩
def RUL.STAT.START_REFUSED : Fld := ⟨RUL.STAT.reg, 26, 1⟩
def RUL.STAT.HOP_BAD : Fld := ⟨RUL.STAT.reg, 25, 1⟩
def RUL.STAT.CONFIG_REFUSED : Fld := ⟨RUL.STAT.reg, 24, 1⟩
def RUL.STAT.BROKEN_AT : Fld := ⟨RUL.STAT.reg, 19, 5⟩
def RUL.STAT.NDEV : Fld := ⟨RUL.STAT.reg, 11, 5⟩
def RUL.STAT.ADDR : Fld := ⟨RUL.STAT.reg, 3, 5⟩
def RUL.STAT.STATE : Fld := ⟨RUL.STAT.reg, 0, 3⟩

/-- `RUL.OFFSET_LO` (R241). -/
def RUL.OFFSET_LO.reg : Nat := 0x300000 + 0x8
def RUL.OFFSET_LO.V : Fld := ⟨RUL.OFFSET_LO.reg, 0, 32⟩

/-- `RUL.OFFSET_HI` (R241). -/
def RUL.OFFSET_HI.reg : Nat := 0x300000 + 0xc
def RUL.OFFSET_HI.V : Fld := ⟨RUL.OFFSET_HI.reg, 0, 32⟩

/-- `RUL.HOP` (R242). -/
def RUL.HOP.reg : Nat := 0x300000 + 0x10
def RUL.HOP.VALID : Fld := ⟨RUL.HOP.reg, 31, 1⟩
def RUL.HOP.IN_DOTS : Fld := ⟨RUL.HOP.reg, 0, 16⟩

/-- `RUL.HOP_OUT` (R242). -/
def RUL.HOP_OUT.reg : Nat := 0x300000 + 0x14
def RUL.HOP_OUT.VALID : Fld := ⟨RUL.HOP_OUT.reg, 31, 1⟩
def RUL.HOP_OUT.CAUSE : Fld := ⟨RUL.HOP_OUT.reg, 16, 3⟩
def RUL.HOP_OUT.OUT_DOTS : Fld := ⟨RUL.HOP_OUT.reg, 0, 16⟩

/-- `RUL.RT` (R242). -/
def RUL.RT.reg : Nat := 0x300000 + 0x18
def RUL.RT.RT : Fld := ⟨RUL.RT.reg, 0, 32⟩

/-- `RUL.CLOSURE` (R242). -/
def RUL.CLOSURE.reg : Nat := 0x300000 + 0x1c
def RUL.CLOSURE.ERR : Fld := ⟨RUL.CLOSURE.reg, 0, 16⟩

/-- `RUL.CHAIN_LAT` (R242). -/
def RUL.CHAIN_LAT.reg : Nat := 0x300000 + 0x20
def RUL.CHAIN_LAT.LAT : Fld := ⟨RUL.CHAIN_LAT.reg, 0, 16⟩

/-- `RUL.CRC_CNT` (R242). -/
def RUL.CRC_CNT.reg : Nat := 0x300000 + 0x24
def RUL.CRC_CNT.DROP : Fld := ⟨RUL.CRC_CNT.reg, 16, 16⟩
def RUL.CRC_CNT.CRC : Fld := ⟨RUL.CRC_CNT.reg, 0, 16⟩

/-- `RUL.ENS[k]` (R243). -/
def RUL.ENS.reg (k : Nat) : Nat := 0x300000 + 0x40 + 4 * k
def RUL.ENS.EN (k : Nat) : Fld := ⟨RUL.ENS.reg k, 31, 1⟩
def RUL.ENS.SMASK (k : Nat) : Fld := ⟨RUL.ENS.reg k, 0, 8⟩

/-- `RUL.ENS_DEV[k]` (R243). -/
def RUL.ENS_DEV.reg (k : Nat) : Nat := 0x300000 + 0x50 + 4 * k
def RUL.ENS_DEV.DMASK (k : Nat) : Fld := ⟨RUL.ENS_DEV.reg k, 0, 32⟩

/-- `QL.STAT` (R1021). -/
def QL.STAT.reg : Nat := 0x400000
def QL.STAT.EVT_NEW : Fld := ⟨QL.STAT.reg, 31, 1⟩
def QL.STAT.OVERFLOW : Fld := ⟨QL.STAT.reg, 30, 1⟩
def QL.STAT.THERM_WARN : Fld := ⟨QL.STAT.reg, 29, 1⟩
def QL.STAT.WAKE_INHIBIT : Fld := ⟨QL.STAT.reg, 28, 1⟩
def QL.STAT.PSTATE : Fld := ⟨QL.STAT.reg, 16, 3⟩

/-- `QL.QSEC_LO` (R1022). -/
def QL.QSEC_LO.reg : Nat := 0x400000 + 0x8
def QL.QSEC_LO.V : Fld := ⟨QL.QSEC_LO.reg, 0, 32⟩

/-- `QL.QSEC_HI` (R1022). -/
def QL.QSEC_HI.reg : Nat := 0x400000 + 0xc
def QL.QSEC_HI.V : Fld := ⟨QL.QSEC_HI.reg, 0, 16⟩

/-- `QL.CTL` (R1023). -/
def QL.CTL.reg : Nat := 0x400000 + 0x10
def QL.CTL.PCYCLE : Fld := ⟨QL.CTL.reg, 31, 1⟩
def QL.CTL.KEY : Fld := ⟨QL.CTL.reg, 0, 8⟩

/-- `QL.REST` (R1024). -/
def QL.REST.reg : Nat := 0x400000 + 0x20
def QL.REST.LAST : Fld := ⟨QL.REST.reg, 4, 2⟩
def QL.REST.MAX_DEPTH : Fld := ⟨QL.REST.reg, 0, 2⟩

/-- `QL.WAKE` (R1024). -/
def QL.WAKE.reg : Nat := 0x400000 + 0x24
def QL.WAKE.ARMED : Fld := ⟨QL.WAKE.reg, 31, 1⟩
def QL.WAKE.EN : Fld := ⟨QL.WAKE.reg, 8, 5⟩
def QL.WAKE.LAST : Fld := ⟨QL.WAKE.reg, 0, 3⟩

/-- `QL.WAKE_IN` (R1024). -/
def QL.WAKE_IN.reg : Nat := 0x400000 + 0x28
def QL.WAKE_IN.MS : Fld := ⟨QL.WAKE_IN.reg, 0, 32⟩

/-- `QL.ILK.CTL` (R1025). -/
def QL.ILK.CTL.reg : Nat := 0x400000 + 0x40
def QL.ILK.CTL.ARM : Fld := ⟨QL.ILK.CTL.reg, 31, 1⟩
def QL.ILK.CTL.DISC : Fld := ⟨QL.ILK.CTL.reg, 0, 14⟩

/-- `QL.ILK.STAT` (R1025). -/
def QL.ILK.STAT.reg : Nat := 0x400000 + 0x44
def QL.ILK.STAT.ARM_REFUSED : Fld := ⟨QL.ILK.STAT.reg, 31, 1⟩
def QL.ILK.STAT.CFG_ERR : Fld := ⟨QL.ILK.STAT.reg, 30, 1⟩
def QL.ILK.STAT.A_CLOSED : Fld := ⟨QL.ILK.STAT.reg, 21, 1⟩
def QL.ILK.STAT.B_CLOSED : Fld := ⟨QL.ILK.STAT.reg, 20, 1⟩
def QL.ILK.STAT.STATE : Fld := ⟨QL.ILK.STAT.reg, 16, 3⟩
def QL.ILK.STAT.COUNT : Fld := ⟨QL.ILK.STAT.reg, 0, 14⟩

/-- `QL.THERM` (R1026). -/
def QL.THERM.reg : Nat := 0x400000 + 0x50
def QL.THERM.WARN : Fld := ⟨QL.THERM.reg, 0, 16⟩

/-- `QL.TEMP` (R1026). -/
def QL.TEMP.reg : Nat := 0x400000 + 0x54
def QL.TEMP.QUILL : Fld := ⟨QL.TEMP.reg, 16, 16⟩
def QL.TEMP.DIE : Fld := ⟨QL.TEMP.reg, 0, 16⟩

/-- `QL.AUX[n]` (R1026). -/
def QL.AUX.reg (n : Nat) : Nat := 0x400000 + 0x60 + 4 * n
def QL.AUX.CODE (n : Nat) : Fld := ⟨QL.AUX.reg n, 0, 12⟩

/-- `QL.RULE[k].CFG` (R1027). -/
def QL.RULE.CFG.reg (k : Nat) : Nat := 0x400000 + 0x100 + 8 * k
def QL.RULE.CFG.EN (k : Nat) : Fld := ⟨QL.RULE.CFG.reg k, 31, 1⟩
def QL.RULE.CFG.DIR (k : Nat) : Fld := ⟨QL.RULE.CFG.reg k, 30, 1⟩
def QL.RULE.CFG.ACT (k : Nat) : Fld := ⟨QL.RULE.CFG.reg k, 20, 5⟩
def QL.RULE.CFG.SRC (k : Nat) : Fld := ⟨QL.RULE.CFG.reg k, 16, 4⟩
def QL.RULE.CFG.PERSIST (k : Nat) : Fld := ⟨QL.RULE.CFG.reg k, 8, 8⟩

/-- `QL.RULE[k].LEVEL` (R1027). -/
def QL.RULE.LEVEL.reg (k : Nat) : Nat := 0x400000 + 0x104 + 8 * k
def QL.RULE.LEVEL.HYST (k : Nat) : Fld := ⟨QL.RULE.LEVEL.reg k, 16, 16⟩
def QL.RULE.LEVEL.THRESH (k : Nat) : Fld := ⟨QL.RULE.LEVEL.reg k, 0, 16⟩

/-- `QL.RULE_STAT` (R1027). -/
def QL.RULE_STAT.reg : Nat := 0x400000 + 0x180
def QL.RULE_STAT.FIRED : Fld := ⟨QL.RULE_STAT.reg, 0, 16⟩

/-- `QL.EVT.PTR` (R1028). -/
def QL.EVT.PTR.reg : Nat := 0x400000 + 0x200
def QL.EVT.PTR.WR : Fld := ⟨QL.EVT.PTR.reg, 16, 6⟩
def QL.EVT.PTR.HRD : Fld := ⟨QL.EVT.PTR.reg, 0, 6⟩

/-- `QL.EVT.ENTRY[i].W[j]` (R1028). -/
def QL.EVT.ENTRY.W.reg (i j : Nat) : Nat := 0x400000 + 0x1000 + 16 * i + 4 * j
def QL.EVT.ENTRY.W.V (i j : Nat) : Fld := ⟨QL.EVT.ENTRY.W.reg i j, 0, 32⟩

/-- `LEC.STAT` (R861). -/
def LEC.STAT.reg : Nat := 0x500000
def LEC.STAT.RUNNING : Fld := ⟨LEC.STAT.reg, 31, 1⟩
def LEC.STAT.HALTED : Fld := ⟨LEC.STAT.reg, 30, 1⟩
def LEC.STAT.GEN : Fld := ⟨LEC.STAT.reg, 8, 8⟩
def LEC.STAT.JOBS : Fld := ⟨LEC.STAT.reg, 0, 6⟩

/-- `LEC.STALE` (R861). -/
def LEC.STALE.reg : Nat := 0x500000 + 0x4
def LEC.STALE.COUNT : Fld := ⟨LEC.STALE.reg, 0, 32⟩

/-- `CPY.CTL` (R913). -/
def CPY.CTL.reg : Nat := 0x600000
def CPY.CTL.POLL_US : Fld := ⟨CPY.CTL.reg, 0, 16⟩

/-- `CPY.DONE` (R913). -/
def CPY.DONE.reg : Nat := 0x600000 + 0x4
def CPY.DONE.DONE : Fld := ⟨CPY.DONE.reg, 0, 32⟩

/-- `CPY.ERR` (R913). -/
def CPY.ERR.reg : Nat := 0x600000 + 0x8
def CPY.ERR.ERR : Fld := ⟨CPY.ERR.reg, 0, 32⟩

/-- `CPY.DIRQ` (R913). -/
def CPY.DIRQ.reg : Nat := 0x600000 + 0xc
def CPY.DIRQ.DIRQ : Fld := ⟨CPY.DIRQ.reg, 0, 32⟩

/-- `CPY.LECT` (R913). -/
def CPY.LECT.reg : Nat := 0x600000 + 0x10
def CPY.LECT.HELD : Fld := ⟨CPY.LECT.reg, 0, 32⟩

/-- `CPY.STALE` (R913). -/
def CPY.STALE.reg : Nat := 0x600000 + 0x14
def CPY.STALE.COUNT : Fld := ⟨CPY.STALE.reg, 0, 32⟩

/-- `CPY.EVT_PEND[k]` (R913). -/
def CPY.EVT_PEND.reg (k : Nat) : Nat := 0x600000 + 0x20 + 4 * k
def CPY.EVT_PEND.PEND (k : Nat) : Fld := ⟨CPY.EVT_PEND.reg k, 0, 32⟩

/-- `CH[c].CTL` (R914). -/
def CH.CTL.reg (c : Nat) : Nat := 0x600000 + 0x1000 + 64 * c
def CH.CTL.GO (c : Nat) : Fld := ⟨CH.CTL.reg c, 31, 1⟩
def CH.CTL.ABORT (c : Nat) : Fld := ⟨CH.CTL.reg c, 30, 1⟩
def CH.CTL.KICK (c : Nat) : Fld := ⟨CH.CTL.reg c, 29, 1⟩
def CH.CTL.PAUSE (c : Nat) : Fld := ⟨CH.CTL.reg c, 28, 1⟩
def CH.CTL.IRQ_EN (c : Nat) : Fld := ⟨CH.CTL.reg c, 27, 1⟩
def CH.CTL.PSPACE (c : Nat) : Fld := ⟨CH.CTL.reg c, 0, 2⟩

/-- `CH[c].PROG_LO` (R914). -/
def CH.PROG_LO.reg (c : Nat) : Nat := 0x600000 + 0x1004 + 64 * c
def CH.PROG_LO.ADDR (c : Nat) : Fld := ⟨CH.PROG_LO.reg c, 0, 32⟩

/-- `CH[c].PROG_HI` (R914). -/
def CH.PROG_HI.reg (c : Nat) : Nat := 0x600000 + 0x1008 + 64 * c
def CH.PROG_HI.ADDR (c : Nat) : Fld := ⟨CH.PROG_HI.reg c, 0, 32⟩

/-- `CH[c].STAT` (R914). -/
def CH.STAT.reg (c : Nat) : Nat := 0x600000 + 0x100c + 64 * c
def CH.STAT.REFUSED (c : Nat) : Fld := ⟨CH.STAT.reg c, 31, 1⟩
def CH.STAT.WR_IGNORED (c : Nat) : Fld := ⟨CH.STAT.reg c, 30, 1⟩
def CH.STAT.STATE (c : Nat) : Fld := ⟨CH.STAT.reg c, 24, 3⟩
def CH.STAT.GEN (c : Nat) : Fld := ⟨CH.STAT.reg c, 16, 8⟩
def CH.STAT.LAST (c : Nat) : Fld := ⟨CH.STAT.reg c, 0, 16⟩

/-- `CH[c].PC_LO` (R914). -/
def CH.PC_LO.reg (c : Nat) : Nat := 0x600000 + 0x1010 + 64 * c
def CH.PC_LO.ADDR (c : Nat) : Fld := ⟨CH.PC_LO.reg c, 0, 32⟩

/-- `CH[c].PC_HI` (R914). -/
def CH.PC_HI.reg (c : Nat) : Nat := 0x600000 + 0x1014 + 64 * c
def CH.PC_HI.ADDR (c : Nat) : Fld := ⟨CH.PC_HI.reg c, 0, 32⟩

/-- `CH[c].DONE_BYTES` (R914). -/
def CH.DONE_BYTES.reg (c : Nat) : Nat := 0x600000 + 0x1018 + 64 * c
def CH.DONE_BYTES.BYTES (c : Nat) : Fld := ⟨CH.DONE_BYTES.reg c, 0, 32⟩

/-- `CH[c].COUNTS` (R914). -/
def CH.COUNTS.reg (c : Nat) : Nat := 0x600000 + 0x101c + 64 * c
def CH.COUNTS.DELAY (c : Nat) : Fld := ⟨CH.COUNTS.reg c, 16, 16⟩
def CH.COUNTS.YIELDED (c : Nat) : Fld := ⟨CH.COUNTS.reg c, 0, 16⟩

/-- `CH[c].ERR_ADDR_LO` (R914). -/
def CH.ERR_ADDR_LO.reg (c : Nat) : Nat := 0x600000 + 0x1020 + 64 * c
def CH.ERR_ADDR_LO.ADDR (c : Nat) : Fld := ⟨CH.ERR_ADDR_LO.reg c, 0, 32⟩

/-- `CH[c].ERR_ADDR_HI` (R914). -/
def CH.ERR_ADDR_HI.reg (c : Nat) : Nat := 0x600000 + 0x1024 + 64 * c
def CH.ERR_ADDR_HI.ADDR (c : Nat) : Fld := ⟨CH.ERR_ADDR_HI.reg c, 0, 32⟩

/-- `CH[c].EST` (R914). -/
def CH.EST.reg (c : Nat) : Nat := 0x600000 + 0x1028 + 64 * c
def CH.EST.US (c : Nat) : Fld := ⟨CH.EST.reg c, 0, 16⟩

/-- `VAULT.LC` (R841). -/
def VAULT.LC.reg : Nat := 0x700000
def VAULT.LC.STATE : Fld := ⟨VAULT.LC.reg, 0, 4⟩

/-- `VAULT.SEAL_CNT` (R841). -/
def VAULT.SEAL_CNT.reg : Nat := 0x700000 + 0x4
def VAULT.SEAL_CNT.COUNT : Fld := ⟨VAULT.SEAL_CNT.reg, 0, 32⟩

/-- `VAULT.COL_HEAD` (R842). -/
def VAULT.COL_HEAD.reg : Nat := 0x700000 + 0x8
def VAULT.COL_HEAD.SEQ : Fld := ⟨VAULT.COL_HEAD.reg, 0, 32⟩

/-- `VAULT.COL_FIRST` (R842). -/
def VAULT.COL_FIRST.reg : Nat := 0x700000 + 0xc
def VAULT.COL_FIRST.SEQ : Fld := ⟨VAULT.COL_FIRST.reg, 0, 32⟩

/-- `VAULT.COL_FREE` (R842). -/
def VAULT.COL_FREE.reg : Nat := 0x700000 + 0x10
def VAULT.COL_FREE.SLOTS : Fld := ⟨VAULT.COL_FREE.reg, 0, 14⟩

/-- `VAULT.STAT` (R843). -/
def VAULT.STAT.reg : Nat := 0x700000 + 0x14
def VAULT.STAT.LOG_FULL : Fld := ⟨VAULT.STAT.reg, 31, 1⟩
def VAULT.STAT.BACKUP_BAD : Fld := ⟨VAULT.STAT.reg, 30, 1⟩
def VAULT.STAT.AUTH_LOCK : Fld := ⟨VAULT.STAT.reg, 29, 1⟩
def VAULT.STAT.TAMPER_SEEN : Fld := ⟨VAULT.STAT.reg, 28, 1⟩
def VAULT.STAT.INTEGRITY_FAIL : Fld := ⟨VAULT.STAT.reg, 27, 1⟩
def VAULT.STAT.AUTH_FAILS : Fld := ⟨VAULT.STAT.reg, 0, 2⟩

/-- `VAULT.VERDICT` (R844). -/
def VAULT.VERDICT.reg : Nat := 0x700000 + 0x18
def VAULT.VERDICT.SEALED_OK : Fld := ⟨VAULT.VERDICT.reg, 31, 1⟩
def VAULT.VERDICT.CLASS_MET : Fld := ⟨VAULT.VERDICT.reg, 30, 1⟩
def VAULT.VERDICT.REQ_CLASS : Fld := ⟨VAULT.VERDICT.reg, 16, 2⟩
def VAULT.VERDICT.BELOW : Fld := ⟨VAULT.VERDICT.reg, 0, 10⟩

/-- `VAULT.FW` (R844). -/
def VAULT.FW.reg : Nat := 0x700000 + 0x1c
def VAULT.FW.SLOT : Fld := ⟨VAULT.FW.reg, 31, 1⟩
def VAULT.FW.PUSHED : Fld := ⟨VAULT.FW.reg, 30, 1⟩
def VAULT.FW.REJECT_B : Fld := ⟨VAULT.FW.reg, 20, 4⟩
def VAULT.FW.REJECT_A : Fld := ⟨VAULT.FW.reg, 16, 4⟩
def VAULT.FW.SVN : Fld := ⟨VAULT.FW.reg, 8, 8⟩
def VAULT.FW.FUSE_SVN : Fld := ⟨VAULT.FW.reg, 0, 8⟩

/-- `VAULT.CHAIN[i]` (R842). -/
def VAULT.CHAIN.reg (i : Nat) : Nat := 0x700000 + 0x20 + 4 * i
def VAULT.CHAIN.CHAIN (i : Nat) : Fld := ⟨VAULT.CHAIN.reg i, 0, 32⟩

/-- `DEBUG.STATUS` (R1056). -/
def DEBUG.STATUS.reg : Nat := 0x800000
def DEBUG.STATUS.LOCK_BROKEN : Fld := ⟨DEBUG.STATUS.reg, 31, 1⟩
def DEBUG.STATUS.DAP_REFUSED : Fld := ⟨DEBUG.STATUS.reg, 30, 1⟩
def DEBUG.STATUS.DEFERRED : Fld := ⟨DEBUG.STATUS.reg, 29, 1⟩
def DEBUG.STATUS.HALTED : Fld := ⟨DEBUG.STATUS.reg, 28, 1⟩
def DEBUG.STATUS.ARMED : Fld := ⟨DEBUG.STATUS.reg, 0, 4⟩

/-- `DEBUG.LEC_CTL` (R1056). -/
def DEBUG.LEC_CTL.reg : Nat := 0x800000 + 0x4
def DEBUG.LEC_CTL.RESTART : Fld := ⟨DEBUG.LEC_CTL.reg, 2, 1⟩
def DEBUG.LEC_CTL.RESUME : Fld := ⟨DEBUG.LEC_CTL.reg, 1, 1⟩
def DEBUG.LEC_CTL.HALT : Fld := ⟨DEBUG.LEC_CTL.reg, 0, 1⟩

/-- `DEBUG.INJ[i].CTL` (R1057). -/
def DEBUG.INJ.CTL.reg (i : Nat) : Nat := 0x800000 + 0x100 + 16 * i
def DEBUG.INJ.CTL.EN (i : Nat) : Fld := ⟨DEBUG.INJ.CTL.reg i, 31, 1⟩
def DEBUG.INJ.CTL.KIND (i : Nat) : Fld := ⟨DEBUG.INJ.CTL.reg i, 8, 2⟩
def DEBUG.INJ.CTL.LINK (i : Nat) : Fld := ⟨DEBUG.INJ.CTL.reg i, 0, 8⟩

/-- `DEBUG.INJ[i].RATE` (R1057). -/
def DEBUG.INJ.RATE.reg (i : Nat) : Nat := 0x800000 + 0x104 + 16 * i
def DEBUG.INJ.RATE.RATE (i : Nat) : Fld := ⟨DEBUG.INJ.RATE.reg i, 0, 32⟩

/-- `DEBUG.INJ[i].SEED` (R1057). -/
def DEBUG.INJ.SEED.reg (i : Nat) : Nat := 0x800000 + 0x108 + 16 * i
def DEBUG.INJ.SEED.SEED (i : Nat) : Fld := ⟨DEBUG.INJ.SEED.reg i, 0, 32⟩

/-- `DEBUG.INJ[i].COUNT` (R1057). -/
def DEBUG.INJ.COUNT.reg (i : Nat) : Nat := 0x800000 + 0x10c + 16 * i
def DEBUG.INJ.COUNT.STRUCK (i : Nat) : Fld := ⟨DEBUG.INJ.COUNT.reg i, 0, 32⟩

/-- `SCRIBE[s].CTL` (R362). -/
def SCRIBE.CTL.reg (s : Nat) : Nat := scribeBase s
def SCRIBE.CTL.START (s : Nat) : Fld := ⟨SCRIBE.CTL.reg s, 31, 1⟩
def SCRIBE.CTL.STOP (s : Nat) : Fld := ⟨SCRIBE.CTL.reg s, 30, 1⟩
def SCRIBE.CTL.HFLAG (s : Nat) : Fld := ⟨SCRIBE.CTL.reg s, 16, 1⟩

/-- `SCRIBE[s].CFG` (R363). -/
def SCRIBE.CFG.reg (s : Nat) : Nat := scribeBase s + 0x4
def SCRIBE.CFG.MATCH_TO (s : Nat) : Fld := ⟨SCRIBE.CFG.reg s, 11, 1⟩
def SCRIBE.CFG.TO_HALT (s : Nat) : Fld := ⟨SCRIBE.CFG.reg s, 10, 1⟩
def SCRIBE.CFG.PACE (s : Nat) : Fld := ⟨SCRIBE.CFG.reg s, 0, 3⟩

/-- `SCRIBE[s].START_ADDR` (R364). -/
def SCRIBE.START_ADDR.reg (s : Nat) : Nat := scribeBase s + 0x8
def SCRIBE.START_ADDR.ADDR (s : Nat) : Fld := ⟨SCRIBE.START_ADDR.reg s, 0, 30⟩

/-- `SCRIBE[s].STAT` (R365). -/
def SCRIBE.STAT.reg (s : Nat) : Nat := scribeBase s + 0xc
def SCRIBE.STAT.STOPPED (s : Nat) : Fld := ⟨SCRIBE.STAT.reg s, 31, 1⟩
def SCRIBE.STAT.START_REFUSED (s : Nat) : Fld := ⟨SCRIBE.STAT.reg s, 30, 1⟩
def SCRIBE.STAT.TIMEOUT (s : Nat) : Fld := ⟨SCRIBE.STAT.reg s, 29, 1⟩
def SCRIBE.STAT.DEC_DROPPED (s : Nat) : Fld := ⟨SCRIBE.STAT.reg s, 28, 1⟩
def SCRIBE.STAT.WR_IGNORED (s : Nat) : Fld := ⟨SCRIBE.STAT.reg s, 27, 1⟩
def SCRIBE.STAT.ENS_SKEW (s : Nat) : Fld := ⟨SCRIBE.STAT.reg s, 26, 1⟩
def SCRIBE.STAT.REFUSE_CAUSE (s : Nat) : Fld := ⟨SCRIBE.STAT.reg s, 20, 4⟩
def SCRIBE.STAT.STOP_CAUSE (s : Nat) : Fld := ⟨SCRIBE.STAT.reg s, 16, 4⟩
def SCRIBE.STAT.STATE (s : Nat) : Fld := ⟨SCRIBE.STAT.reg s, 0, 3⟩

/-- `SCRIBE[s].LINE_PTR` (R366). -/
def SCRIBE.LINE_PTR.reg (s : Nat) : Nat := scribeBase s + 0x10
def SCRIBE.LINE_PTR.LINE (s : Nat) : Fld := ⟨SCRIBE.LINE_PTR.reg s, 0, 30⟩

/-- `SCRIBE[s].HALT_CODE` (R366). -/
def SCRIBE.HALT_CODE.reg (s : Nat) : Nat := scribeBase s + 0x14
def SCRIBE.HALT_CODE.CODE (s : Nat) : Fld := ⟨SCRIBE.HALT_CODE.reg s, 0, 32⟩

/-- `SCRIBE[s].VEC_IDX_LO` (R366). -/
def SCRIBE.VEC_IDX_LO.reg (s : Nat) : Nat := scribeBase s + 0x18
def SCRIBE.VEC_IDX_LO.IDX (s : Nat) : Fld := ⟨SCRIBE.VEC_IDX_LO.reg s, 0, 32⟩

/-- `SCRIBE[s].VEC_IDX_HI` (R366). -/
def SCRIBE.VEC_IDX_HI.reg (s : Nat) : Nat := scribeBase s + 0x1c
def SCRIBE.VEC_IDX_HI.IDX (s : Nat) : Fld := ⟨SCRIBE.VEC_IDX_HI.reg s, 0, 32⟩

/-- `SCRIBE[s].CNT[n]` (R366). -/
def SCRIBE.CNT.reg (s n : Nat) : Nat := scribeBase s + 0x20 + 4 * n
def SCRIBE.CNT.VALUE (s n : Nat) : Fld := ⟨SCRIBE.CNT.reg s n, 0, 32⟩

/-- `SCRIBE[s].CMASK_LO` (R366). -/
def SCRIBE.CMASK_LO.reg (s : Nat) : Nat := scribeBase s + 0x30
def SCRIBE.CMASK_LO.MASK (s : Nat) : Fld := ⟨SCRIBE.CMASK_LO.reg s, 0, 32⟩

/-- `SCRIBE[s].CMASK_HI` (R366). -/
def SCRIBE.CMASK_HI.reg (s : Nat) : Nat := scribeBase s + 0x34
def SCRIBE.CMASK_HI.MASK (s : Nat) : Fld := ⟨SCRIBE.CMASK_HI.reg s, 0, 32⟩

/-- `SCRIBE[s].DEPTH` (R367). -/
def SCRIBE.DEPTH.reg (s : Nat) : Nat := scribeBase s + 0x38
def SCRIBE.DEPTH.DEC_PEND (s : Nat) : Fld := ⟨SCRIBE.DEPTH.reg s, 24, 1⟩
def SCRIBE.DEPTH.CALL (s : Nat) : Fld := ⟨SCRIBE.DEPTH.reg s, 16, 5⟩
def SCRIBE.DEPTH.LOOP (s : Nat) : Fld := ⟨SCRIBE.DEPTH.reg s, 8, 4⟩
def SCRIBE.DEPTH.DEC_SEQ (s : Nat) : Fld := ⟨SCRIBE.DEPTH.reg s, 0, 8⟩

/-- `SCRIBE[s].FAULT` (R368). -/
def SCRIBE.FAULT.reg (s : Nat) : Nat := scribeBase s + 0x3c
def SCRIBE.FAULT.ILLEGAL_AUX (s : Nat) : Fld := ⟨SCRIBE.FAULT.reg s, 8, 1⟩
def SCRIBE.FAULT.ILLEGAL_OP (s : Nat) : Fld := ⟨SCRIBE.FAULT.reg s, 7, 1⟩
def SCRIBE.FAULT.MATCH_BODY (s : Nat) : Fld := ⟨SCRIBE.FAULT.reg s, 6, 1⟩
def SCRIBE.FAULT.DEC_OVERLAP (s : Nat) : Fld := ⟨SCRIBE.FAULT.reg s, 5, 1⟩
def SCRIBE.FAULT.RET_LOOP (s : Nat) : Fld := ⟨SCRIBE.FAULT.reg s, 4, 1⟩
def SCRIBE.FAULT.CALL_UNF (s : Nat) : Fld := ⟨SCRIBE.FAULT.reg s, 3, 1⟩
def SCRIBE.FAULT.CALL_OVF (s : Nat) : Fld := ⟨SCRIBE.FAULT.reg s, 2, 1⟩
def SCRIBE.FAULT.LOOP_UNF (s : Nat) : Fld := ⟨SCRIBE.FAULT.reg s, 1, 1⟩
def SCRIBE.FAULT.LOOP_OVF (s : Nat) : Fld := ⟨SCRIBE.FAULT.reg s, 0, 1⟩

/-- `SCRIBE[s].FAULT_ADDR` (R366). -/
def SCRIBE.FAULT_ADDR.reg (s : Nat) : Nat := scribeBase s + 0x40
def SCRIBE.FAULT_ADDR.LINE (s : Nat) : Fld := ⟨SCRIBE.FAULT_ADDR.reg s, 0, 30⟩

/-- `SCRIBE[s].EVT_PEND[k]` (R366). -/
def SCRIBE.EVT_PEND.reg (s k : Nat) : Nat := scribeBase s + 0x50 + 4 * k
def SCRIBE.EVT_PEND.PEND (s k : Nat) : Fld := ⟨SCRIBE.EVT_PEND.reg s k, 0, 32⟩

/-- `PEN[s].CTL` (R410). -/
def PEN.CTL.reg (s : Nat) : Nat := scribeBase s + 0x80
def PEN.CTL.HINT_EN (s : Nat) : Fld := ⟨PEN.CTL.reg s, 1, 1⟩
def PEN.CTL.EARLY_MARK (s : Nat) : Fld := ⟨PEN.CTL.reg s, 0, 1⟩

/-- `PEN[s].STAT` (R411). -/
def PEN.STAT.reg (s : Nat) : Nat := scribeBase s + 0x84
def PEN.STAT.SHORT_STOP (s : Nat) : Fld := ⟨PEN.STAT.reg s, 31, 1⟩
def PEN.STAT.SHORT (s : Nat) : Fld := ⟨PEN.STAT.reg s, 30, 1⟩
def PEN.STAT.WINDOW_END (s : Nat) : Fld := ⟨PEN.STAT.reg s, 29, 1⟩
def PEN.STAT.WR_IGNORED (s : Nat) : Fld := ⟨PEN.STAT.reg s, 28, 1⟩
def PEN.STAT.SLOT (s : Nat) : Fld := ⟨PEN.STAT.reg s, 25, 1⟩
def PEN.STAT.READY (s : Nat) : Fld := ⟨PEN.STAT.reg s, 24, 1⟩
def PEN.STAT.PRED (s : Nat) : Fld := ⟨PEN.STAT.reg s, 23, 1⟩
def PEN.STAT.DEPTH (s : Nat) : Fld := ⟨PEN.STAT.reg s, 12, 9⟩
def PEN.STAT.TAG (s : Nat) : Fld := ⟨PEN.STAT.reg s, 0, 12⟩

/-- `PEN[s].LANDS` (R412). -/
def PEN.LANDS.reg (s : Nat) : Nat := scribeBase s + 0x88
def PEN.LANDS.ALT (s : Nat) : Fld := ⟨PEN.LANDS.reg s, 16, 16⟩
def PEN.LANDS.INLINE (s : Nat) : Fld := ⟨PEN.LANDS.reg s, 0, 16⟩

/-- `PEN[s].ERASED` (R413). -/
def PEN.ERASED.reg (s : Nat) : Nat := scribeBase s + 0x8c
def PEN.ERASED.LINES (s : Nat) : Fld := ⟨PEN.ERASED.reg s, 0, 32⟩

/-- `PEN[s].HELD_EVT[k]` (R414). -/
def PEN.HELD_EVT.reg (s k : Nat) : Nat := scribeBase s + 0x90 + 4 * k
def PEN.HELD_EVT.HELD (s k : Nat) : Fld := ⟨PEN.HELD_EVT.reg s k, 0, 32⟩

/-- `LVL[s].CTL` (R612). -/
def LVL.CTL.reg (s : Nat) : Nat := scribeBase s + 0xc0
def LVL.CTL.FREEZE (s : Nat) : Fld := ⟨LVL.CTL.reg s, 0, 1⟩

/-- `LVL[s].STAT` (R612). -/
def LVL.STAT.reg (s : Nat) : Nat := scribeBase s + 0xc4
def LVL.STAT.MERGED (s : Nat) : Fld := ⟨LVL.STAT.reg s, 31, 1⟩
def LVL.STAT.FROZEN_SKIP (s : Nat) : Fld := ⟨LVL.STAT.reg s, 30, 1⟩
def LVL.STAT.APPLIED (s : Nat) : Fld := ⟨LVL.STAT.reg s, 0, 16⟩

/-- `MARG[s].CFG` (R656). -/
def MARG.CFG.reg (s : Nat) : Nat := margBase s
def MARG.CFG.ACCUM (s : Nat) : Fld := ⟨MARG.CFG.reg s, 31, 1⟩
def MARG.CFG.FULL_ACT (s : Nat) : Fld := ⟨MARG.CFG.reg s, 30, 1⟩
def MARG.CFG.NEAR_EN (s : Nat) : Fld := ⟨MARG.CFG.reg s, 29, 1⟩
def MARG.CFG.N_EN (s : Nat) : Fld := ⟨MARG.CFG.reg s, 28, 1⟩
def MARG.CFG.PIN_EN (s : Nat) : Fld := ⟨MARG.CFG.reg s, 27, 1⟩
def MARG.CFG.TRIP_STOP (s : Nat) : Fld := ⟨MARG.CFG.reg s, 26, 1⟩
def MARG.CFG.MODE (s : Nat) : Fld := ⟨MARG.CFG.reg s, 0, 3⟩

/-- `MARG[s].STAT` (R657). -/
def MARG.STAT.reg (s : Nat) : Nat := margBase s + 0x4
def MARG.STAT.TRIP (s : Nat) : Fld := ⟨MARG.STAT.reg s, 31, 1⟩
def MARG.STAT.NEAR_FULL (s : Nat) : Fld := ⟨MARG.STAT.reg s, 30, 1⟩
def MARG.STAT.FULL (s : Nat) : Fld := ⟨MARG.STAT.reg s, 29, 1⟩
def MARG.STAT.BACKLOG (s : Nat) : Fld := ⟨MARG.STAT.reg s, 28, 1⟩
def MARG.STAT.NO_DEST (s : Nat) : Fld := ⟨MARG.STAT.reg s, 27, 1⟩
def MARG.STAT.CFG_ERR (s : Nat) : Fld := ⟨MARG.STAT.reg s, 26, 1⟩
def MARG.STAT.WR_IGNORED (s : Nat) : Fld := ⟨MARG.STAT.reg s, 25, 1⟩
def MARG.STAT.RP_ERR (s : Nat) : Fld := ⟨MARG.STAT.reg s, 24, 1⟩
def MARG.STAT.LOST_ANY (s : Nat) : Fld := ⟨MARG.STAT.reg s, 23, 1⟩
def MARG.STAT.CLOSED (s : Nat) : Fld := ⟨MARG.STAT.reg s, 22, 1⟩
def MARG.STAT.WHY (s : Nat) : Fld := ⟨MARG.STAT.reg s, 16, 4⟩
def MARG.STAT.CLOSE_CAUSE (s : Nat) : Fld := ⟨MARG.STAT.reg s, 12, 4⟩
def MARG.STAT.SEQ (s : Nat) : Fld := ⟨MARG.STAT.reg s, 0, 8⟩

/-- `MARG[s].RMASK_LO` (R658). -/
def MARG.RMASK_LO.reg (s : Nat) : Nat := margBase s + 0x8
def MARG.RMASK_LO.MASK (s : Nat) : Fld := ⟨MARG.RMASK_LO.reg s, 0, 32⟩

/-- `MARG[s].RMASK_HI` (R658). -/
def MARG.RMASK_HI.reg (s : Nat) : Nat := margBase s + 0xc
def MARG.RMASK_HI.MASK (s : Nat) : Fld := ⟨MARG.RMASK_HI.reg s, 0, 32⟩

/-- `MARG[s].FIRST_N` (R658). -/
def MARG.FIRST_N.reg (s : Nat) : Nat := margBase s + 0x10
def MARG.FIRST_N.N (s : Nat) : Fld := ⟨MARG.FIRST_N.reg s, 0, 32⟩

/-- `MARG[s].STOP_N` (R658). -/
def MARG.STOP_N.reg (s : Nat) : Nat := margBase s + 0x14
def MARG.STOP_N.N (s : Nat) : Fld := ⟨MARG.STOP_N.reg s, 0, 32⟩

/-- `MARG[s].PIN_N` (R658). -/
def MARG.PIN_N.reg (s : Nat) : Nat := margBase s + 0x18
def MARG.PIN_N.N (s : Nat) : Fld := ⟨MARG.PIN_N.reg s, 0, 32⟩

/-- `MARG[s].NEAR_THR` (R658). -/
def MARG.NEAR_THR.reg (s : Nat) : Nat := margBase s + 0x1c
def MARG.NEAR_THR.RECORDS (s : Nat) : Fld := ⟨MARG.NEAR_THR.reg s, 0, 30⟩

/-- `MARG[s].BUF` (R659). -/
def MARG.BUF.reg (s : Nat) : Nat := margBase s + 0x20
def MARG.BUF.BANKS (s : Nat) : Fld := ⟨MARG.BUF.reg s, 0, 16⟩

/-- `MARG[s].WPTR` (R660). -/
def MARG.WPTR.reg (s : Nat) : Nat := margBase s + 0x24
def MARG.WPTR.WRAP (s : Nat) : Fld := ⟨MARG.WPTR.reg s, 31, 1⟩
def MARG.WPTR.POS (s : Nat) : Fld := ⟨MARG.WPTR.reg s, 0, 30⟩

/-- `MARG[s].RPTR` (R660). -/
def MARG.RPTR.reg (s : Nat) : Nat := margBase s + 0x28
def MARG.RPTR.WRAP (s : Nat) : Fld := ⟨MARG.RPTR.reg s, 31, 1⟩
def MARG.RPTR.POS (s : Nat) : Fld := ⟨MARG.RPTR.reg s, 0, 30⟩

/-- `MARG[s].RES` (R661). -/
def MARG.RES.reg (s : Nat) : Nat := margBase s + 0x2c
def MARG.RES.PEN (s : Nat) : Fld := ⟨MARG.RES.reg s, 16, 16⟩
def MARG.RES.INK (s : Nat) : Fld := ⟨MARG.RES.reg s, 0, 16⟩

/-- `MARG[s].FVEC_LO` (R662). -/
def MARG.FVEC_LO.reg (s : Nat) : Nat := margBase s + 0x30
def MARG.FVEC_LO.COUNT (s : Nat) : Fld := ⟨MARG.FVEC_LO.reg s, 0, 32⟩

/-- `MARG[s].FVEC_HI` (R662). -/
def MARG.FVEC_HI.reg (s : Nat) : Nat := margBase s + 0x34
def MARG.FVEC_HI.COUNT (s : Nat) : Fld := ⟨MARG.FVEC_HI.reg s, 0, 32⟩

/-- `MARG[s].RVEC_LO` (R662). -/
def MARG.RVEC_LO.reg (s : Nat) : Nat := margBase s + 0x38
def MARG.RVEC_LO.COUNT (s : Nat) : Fld := ⟨MARG.RVEC_LO.reg s, 0, 32⟩

/-- `MARG[s].RVEC_HI` (R662). -/
def MARG.RVEC_HI.reg (s : Nat) : Nat := margBase s + 0x3c
def MARG.RVEC_HI.COUNT (s : Nat) : Fld := ⟨MARG.RVEC_HI.reg s, 0, 32⟩

/-- `MARG[s].FIRST_LO` (R662). -/
def MARG.FIRST_LO.reg (s : Nat) : Nat := margBase s + 0x40
def MARG.FIRST_LO.VIDX (s : Nat) : Fld := ⟨MARG.FIRST_LO.reg s, 0, 32⟩

/-- `MARG[s].FIRST_HI` (R662). -/
def MARG.FIRST_HI.reg (s : Nat) : Nat := margBase s + 0x44
def MARG.FIRST_HI.VALID (s : Nat) : Fld := ⟨MARG.FIRST_HI.reg s, 31, 1⟩
def MARG.FIRST_HI.PIN (s : Nat) : Fld := ⟨MARG.FIRST_HI.reg s, 16, 6⟩
def MARG.FIRST_HI.VIDX (s : Nat) : Fld := ⟨MARG.FIRST_HI.reg s, 0, 16⟩

/-- `MARG[s].LOST` (R662). -/
def MARG.LOST.reg (s : Nat) : Nat := margBase s + 0x48
def MARG.LOST.PAIRS (s : Nat) : Fld := ⟨MARG.LOST.reg s, 0, 32⟩

/-- `MARG[s].RECS` (R662). -/
def MARG.RECS.reg (s : Nat) : Nat := margBase s + 0x4c
def MARG.RECS.RECORDS (s : Nat) : Fld := ⟨MARG.RECS.reg s, 0, 32⟩

/-- `MARG[s].AGED_LO` (R662). -/
def MARG.AGED_LO.reg (s : Nat) : Nat := margBase s + 0x50
def MARG.AGED_LO.MASK (s : Nat) : Fld := ⟨MARG.AGED_LO.reg s, 0, 32⟩

/-- `MARG[s].AGED_HI` (R662). -/
def MARG.AGED_HI.reg (s : Nat) : Nat := margBase s + 0x54
def MARG.AGED_HI.MASK (s : Nat) : Fld := ⟨MARG.AGED_HI.reg s, 0, 32⟩

/-- `MARG[s].CLR` (R663). -/
def MARG.CLR.reg (s : Nat) : Nat := margBase s + 0x58
def MARG.CLR.CLR (s : Nat) : Fld := ⟨MARG.CLR.reg s, 0, 1⟩

/-- `MARG[s].PIN[k].PCNT` (R664). -/
def MARG.PIN.PCNT.reg (s k : Nat) : Nat := margBase s + 0x1000 + 16 * k
def MARG.PIN.PCNT.COUNT (s k : Nat) : Fld := ⟨MARG.PIN.PCNT.reg s k, 0, 32⟩

/-- `MARG[s].PIN[k].PFIRST_LO` (R664). -/
def MARG.PIN.PFIRST_LO.reg (s k : Nat) : Nat := margBase s + 0x1004 + 16 * k
def MARG.PIN.PFIRST_LO.VIDX (s k : Nat) : Fld := ⟨MARG.PIN.PFIRST_LO.reg s k, 0, 32⟩

/-- `MARG[s].PIN[k].PFIRST_HI` (R664). -/
def MARG.PIN.PFIRST_HI.reg (s k : Nat) : Nat := margBase s + 0x1008 + 16 * k
def MARG.PIN.PFIRST_HI.VALID (s k : Nat) : Fld := ⟨MARG.PIN.PFIRST_HI.reg s k, 31, 1⟩
def MARG.PIN.PFIRST_HI.STB (s k : Nat) : Fld := ⟨MARG.PIN.PFIRST_HI.reg s k, 30, 1⟩
def MARG.PIN.PFIRST_HI.LEVEL (s k : Nat) : Fld := ⟨MARG.PIN.PFIRST_HI.reg s k, 28, 2⟩
def MARG.PIN.PFIRST_HI.DROP (s k : Nat) : Fld := ⟨MARG.PIN.PFIRST_HI.reg s k, 27, 1⟩
def MARG.PIN.PFIRST_HI.VIDX (s k : Nat) : Fld := ⟨MARG.PIN.PFIRST_HI.reg s k, 0, 16⟩

/-- `BLOT[s].CFG` (R702). -/
def BLOT.CFG.reg (s : Nat) : Nat := blotBase s
def BLOT.CFG.MEAS_EN (s : Nat) : Fld := ⟨BLOT.CFG.reg s, 31, 1⟩
def BLOT.CFG.GATE_CAP (s : Nat) : Fld := ⟨BLOT.CFG.reg s, 30, 1⟩
def BLOT.CFG.RING (s : Nat) : Fld := ⟨BLOT.CFG.reg s, 29, 1⟩
def BLOT.CFG.MAX_RES (s : Nat) : Fld := ⟨BLOT.CFG.reg s, 24, 3⟩
def BLOT.CFG.DEST (s : Nat) : Fld := ⟨BLOT.CFG.reg s, 16, 2⟩
def BLOT.CFG.CAPMODE (s : Nat) : Fld := ⟨BLOT.CFG.reg s, 0, 2⟩

/-- `BLOT[s].STAT` (R703). -/
def BLOT.STAT.reg (s : Nat) : Nat := blotBase s + 0x4
def BLOT.STAT.FIRED (s : Nat) : Fld := ⟨BLOT.STAT.reg s, 31, 1⟩
def BLOT.STAT.STOPPED (s : Nat) : Fld := ⟨BLOT.STAT.reg s, 30, 1⟩
def BLOT.STAT.FULL (s : Nat) : Fld := ⟨BLOT.STAT.reg s, 29, 1⟩
def BLOT.STAT.GAP (s : Nat) : Fld := ⟨BLOT.STAT.reg s, 28, 1⟩
def BLOT.STAT.NO_DEST (s : Nat) : Fld := ⟨BLOT.STAT.reg s, 27, 1⟩
def BLOT.STAT.CFG_ERR (s : Nat) : Fld := ⟨BLOT.STAT.reg s, 26, 1⟩
def BLOT.STAT.WR_IGNORED (s : Nat) : Fld := ⟨BLOT.STAT.reg s, 25, 1⟩
def BLOT.STAT.RP_ERR (s : Nat) : Fld := ⟨BLOT.STAT.reg s, 24, 1⟩
def BLOT.STAT.CAPTURING (s : Nat) : Fld := ⟨BLOT.STAT.reg s, 23, 1⟩
def BLOT.STAT.ENDED (s : Nat) : Fld := ⟨BLOT.STAT.reg s, 22, 1⟩
def BLOT.STAT.RES (s : Nat) : Fld := ⟨BLOT.STAT.reg s, 19, 3⟩
def BLOT.STAT.END_CAUSE (s : Nat) : Fld := ⟨BLOT.STAT.reg s, 12, 4⟩
def BLOT.STAT.TBITS (s : Nat) : Fld := ⟨BLOT.STAT.reg s, 0, 8⟩

/-- `BLOT[s].CAPMASK_LO` (R704). -/
def BLOT.CAPMASK_LO.reg (s : Nat) : Nat := blotBase s + 0x8
def BLOT.CAPMASK_LO.MASK (s : Nat) : Fld := ⟨BLOT.CAPMASK_LO.reg s, 0, 32⟩

/-- `BLOT[s].CAPMASK_HI` (R704). -/
def BLOT.CAPMASK_HI.reg (s : Nat) : Nat := blotBase s + 0xc
def BLOT.CAPMASK_HI.MASK (s : Nat) : Fld := ⟨BLOT.CAPMASK_HI.reg s, 0, 32⟩

/-- `BLOT[s].RED` (R704). -/
def BLOT.RED.reg (s : Nat) : Nat := blotBase s + 0x10
def BLOT.RED.HI (s : Nat) : Fld := ⟨BLOT.RED.reg s, 16, 13⟩
def BLOT.RED.LO (s : Nat) : Fld := ⟨BLOT.RED.reg s, 0, 13⟩

/-- `BLOT[s].WPTR` (R704). -/
def BLOT.WPTR.reg (s : Nat) : Nat := blotBase s + 0x14
def BLOT.WPTR.WRAP (s : Nat) : Fld := ⟨BLOT.WPTR.reg s, 31, 1⟩
def BLOT.WPTR.POS (s : Nat) : Fld := ⟨BLOT.WPTR.reg s, 0, 31⟩

/-- `BLOT[s].RPTR` (R704). -/
def BLOT.RPTR.reg (s : Nat) : Nat := blotBase s + 0x18
def BLOT.RPTR.WRAP (s : Nat) : Fld := ⟨BLOT.RPTR.reg s, 31, 1⟩
def BLOT.RPTR.POS (s : Nat) : Fld := ⟨BLOT.RPTR.reg s, 0, 31⟩

/-- `BLOT[s].TRIG_POS` (R704). -/
def BLOT.TRIG_POS.reg (s : Nat) : Nat := blotBase s + 0x1c
def BLOT.TRIG_POS.POS (s : Nat) : Fld := ⟨BLOT.TRIG_POS.reg s, 0, 31⟩

/-- `BLOT[s].HBASE_LO` (R704). -/
def BLOT.HBASE_LO.reg (s : Nat) : Nat := blotBase s + 0x20
def BLOT.HBASE_LO.ADDR (s : Nat) : Fld := ⟨BLOT.HBASE_LO.reg s, 0, 32⟩

/-- `BLOT[s].HBASE_HI` (R704). -/
def BLOT.HBASE_HI.reg (s : Nat) : Nat := blotBase s + 0x24
def BLOT.HBASE_HI.ADDR (s : Nat) : Fld := ⟨BLOT.HBASE_HI.reg s, 0, 32⟩

/-- `BLOT[s].HSIZE` (R704). -/
def BLOT.HSIZE.reg (s : Nat) : Nat := blotBase s + 0x28
def BLOT.HSIZE.RECORDS (s : Nat) : Fld := ⟨BLOT.HSIZE.reg s, 0, 32⟩

/-- `BLOT[s].POST_N` (R704). -/
def BLOT.POST_N.reg (s : Nat) : Nat := blotBase s + 0x2c
def BLOT.POST_N.RECORDS (s : Nat) : Fld := ⟨BLOT.POST_N.reg s, 0, 24⟩

/-- `BLOT[s].LOST` (R704). -/
def BLOT.LOST.reg (s : Nat) : Nat := blotBase s + 0x30
def BLOT.LOST.COUNT (s : Nat) : Fld := ⟨BLOT.LOST.reg s, 0, 32⟩

/-- `BLOT[s].RECS` (R704). -/
def BLOT.RECS.reg (s : Nat) : Nat := blotBase s + 0x34
def BLOT.RECS.COUNT (s : Nat) : Fld := ⟨BLOT.RECS.reg s, 0, 32⟩

/-- `BLOT[s].FILL` (R704). -/
def BLOT.FILL.reg (s : Nat) : Nat := blotBase s + 0x38
def BLOT.FILL.PEAK (s : Nat) : Fld := ⟨BLOT.FILL.reg s, 16, 13⟩
def BLOT.FILL.NOW (s : Nat) : Fld := ⟨BLOT.FILL.reg s, 0, 13⟩

/-- `BLOT[s].CTL` (R703). -/
def BLOT.CTL.reg (s : Nat) : Nat := blotBase s + 0x3c
def BLOT.CTL.DISARM (s : Nat) : Fld := ⟨BLOT.CTL.reg s, 31, 1⟩

/-- `BLOT[s].TRG[k].CTL` (R705). -/
def BLOT.TRG.CTL.reg (s k : Nat) : Nat := blotBase s + 0x100 + 64 * k
def BLOT.TRG.CTL.EN (s k : Nat) : Fld := ⟨BLOT.TRG.CTL.reg s k, 31, 1⟩
def BLOT.TRG.CTL.IRQ (s k : Nat) : Fld := ⟨BLOT.TRG.CTL.reg s k, 30, 1⟩
def BLOT.TRG.CTL.GATE (s k : Nat) : Fld := ⟨BLOT.TRG.CTL.reg s k, 29, 1⟩
def BLOT.TRG.CTL.REARM (s k : Nat) : Fld := ⟨BLOT.TRG.CTL.reg s k, 28, 1⟩
def BLOT.TRG.CTL.ACT (s k : Nat) : Fld := ⟨BLOT.TRG.CTL.reg s k, 26, 2⟩
def BLOT.TRG.CTL.ARM_BY (s k : Nat) : Fld := ⟨BLOT.TRG.CTL.reg s k, 16, 4⟩
def BLOT.TRG.CTL.N (s k : Nat) : Fld := ⟨BLOT.TRG.CTL.reg s k, 0, 16⟩

/-- `BLOT[s].TRG[k].CNT` (R705). -/
def BLOT.TRG.CNT.reg (s k : Nat) : Nat := blotBase s + 0x104 + 64 * k
def BLOT.TRG.CNT.FIRES (s k : Nat) : Fld := ⟨BLOT.TRG.CNT.reg s k, 0, 32⟩

/-- `BLOT[s].TRG[k].SET[i]` (R705). -/
def BLOT.TRG.SET.reg (s k i : Nat) : Nat := blotBase s + 0x108 + 64 * k + 4 * i
def BLOT.TRG.SET.SET (s k i : Nat) : Fld := ⟨BLOT.TRG.SET.reg s k i, 0, 32⟩

/-- `BLOT[s].MSK[m].CTL` (R706). -/
def BLOT.MSK.CTL.reg (s m : Nat) : Nat := blotBase s + 0x400 + 64 * m
def BLOT.MSK.CTL.MODE (s m : Nat) : Fld := ⟨BLOT.MSK.CTL.reg s m, 30, 2⟩
def BLOT.MSK.CTL.GATE (s m : Nat) : Fld := ⟨BLOT.MSK.CTL.reg s m, 29, 1⟩
def BLOT.MSK.CTL.IRQ (s m : Nat) : Fld := ⟨BLOT.MSK.CTL.reg s m, 28, 1⟩
def BLOT.MSK.CTL.UIN (s m : Nat) : Fld := ⟨BLOT.MSK.CTL.reg s m, 16, 4⟩
def BLOT.MSK.CTL.OFFSET (s m : Nat) : Fld := ⟨BLOT.MSK.CTL.reg s m, 0, 16⟩

/-- `BLOT[s].MSK[m].UI` (R706). -/
def BLOT.MSK.UI.reg (s m : Nat) : Nat := blotBase s + 0x404 + 64 * m
def BLOT.MSK.UI.UI (s m : Nat) : Fld := ⟨BLOT.MSK.UI.reg s m, 0, 16⟩

/-- `BLOT[s].MSK[m].WIN` (R706). -/
def BLOT.MSK.WIN.reg (s m : Nat) : Nat := blotBase s + 0x408 + 64 * m
def BLOT.MSK.WIN.CLOSE (s m : Nat) : Fld := ⟨BLOT.MSK.WIN.reg s m, 16, 16⟩
def BLOT.MSK.WIN.OPEN (s m : Nat) : Fld := ⟨BLOT.MSK.WIN.reg s m, 0, 16⟩

/-- `BLOT[s].MSK[m].PMASK_LO` (R706). -/
def BLOT.MSK.PMASK_LO.reg (s m : Nat) : Nat := blotBase s + 0x40c + 64 * m
def BLOT.MSK.PMASK_LO.MASK (s m : Nat) : Fld := ⟨BLOT.MSK.PMASK_LO.reg s m, 0, 32⟩

/-- `BLOT[s].MSK[m].PMASK_HI` (R706). -/
def BLOT.MSK.PMASK_HI.reg (s m : Nat) : Nat := blotBase s + 0x410 + 64 * m
def BLOT.MSK.PMASK_HI.MASK (s m : Nat) : Fld := ⟨BLOT.MSK.PMASK_HI.reg s m, 0, 32⟩

/-- `BLOT[s].MSK[m].WCNT` (R706). -/
def BLOT.MSK.WCNT.reg (s m : Nat) : Nat := blotBase s + 0x414 + 64 * m
def BLOT.MSK.WCNT.COUNT (s m : Nat) : Fld := ⟨BLOT.MSK.WCNT.reg s m, 0, 32⟩

/-- `BLOT[s].MSK[m].VCNT` (R706). -/
def BLOT.MSK.VCNT.reg (s m : Nat) : Nat := blotBase s + 0x418 + 64 * m
def BLOT.MSK.VCNT.COUNT (s m : Nat) : Fld := ⟨BLOT.MSK.VCNT.reg s m, 0, 32⟩

/-- `BLOT[s].MSK[m].FIRST_LO` (R706). -/
def BLOT.MSK.FIRST_LO.reg (s m : Nat) : Nat := blotBase s + 0x41c + 64 * m
def BLOT.MSK.FIRST_LO.TICK (s m : Nat) : Fld := ⟨BLOT.MSK.FIRST_LO.reg s m, 0, 32⟩

/-- `BLOT[s].MSK[m].FIRST_HI` (R706). -/
def BLOT.MSK.FIRST_HI.reg (s m : Nat) : Nat := blotBase s + 0x420 + 64 * m
def BLOT.MSK.FIRST_HI.VALID (s m : Nat) : Fld := ⟨BLOT.MSK.FIRST_HI.reg s m, 31, 1⟩
def BLOT.MSK.FIRST_HI.EMPTY (s m : Nat) : Fld := ⟨BLOT.MSK.FIRST_HI.reg s m, 30, 1⟩
def BLOT.MSK.FIRST_HI.PIN (s m : Nat) : Fld := ⟨BLOT.MSK.FIRST_HI.reg s m, 16, 6⟩
def BLOT.MSK.FIRST_HI.DOT (s m : Nat) : Fld := ⟨BLOT.MSK.FIRST_HI.reg s m, 0, 10⟩

/-- `SS[s].BANK[b]` (R946). -/
def SS.BANK.reg (s b : Nat) : Nat := storeBase s + 4 * b
def SS.BANK.PENDING (s b : Nat) : Fld := ⟨SS.BANK.reg s b, 31, 1⟩
def SS.BANK.BIST (s b : Nat) : Fld := ⟨SS.BANK.reg s b, 30, 1⟩
def SS.BANK.FAILED (s b : Nat) : Fld := ⟨SS.BANK.reg s b, 29, 1⟩
def SS.BANK.REQ (s b : Nat) : Fld := ⟨SS.BANK.reg s b, 8, 8⟩
def SS.BANK.OWNER (s b : Nat) : Fld := ⟨SS.BANK.reg s b, 0, 8⟩

/-- `SS[s].GUEST` (R947). -/
def SS.GUEST.reg (s : Nat) : Nat := storeBase s + 0x40
def SS.GUEST.CODE (s : Nat) : Fld := ⟨SS.GUEST.reg s, 0, 8⟩

/-- `SS[s].STAT` (R948). -/
def SS.STAT.reg (s : Nat) : Nat := storeBase s + 0x44
def SS.STAT.OWN_ERR (s : Nat) : Fld := ⟨SS.STAT.reg s, 31, 1⟩
def SS.STAT.DP_UNDEF (s : Nat) : Fld := ⟨SS.STAT.reg s, 30, 1⟩
def SS.STAT.WRITE_LOST (s : Nat) : Fld := ⟨SS.STAT.reg s, 29, 1⟩
def SS.STAT.BUSY_B (s : Nat) : Fld := ⟨SS.STAT.reg s, 28, 1⟩
def SS.STAT.CE_LIMIT (s : Nat) : Fld := ⟨SS.STAT.reg s, 27, 1⟩
def SS.STAT.UE (s : Nat) : Fld := ⟨SS.STAT.reg s, 26, 1⟩
def SS.STAT.LOG_SKIP (s : Nat) : Fld := ⟨SS.STAT.reg s, 25, 1⟩
def SS.STAT.BIST_LEFT (s : Nat) : Fld := ⟨SS.STAT.reg s, 0, 16⟩

/-- `SS[s].ECC` (R949). -/
def SS.ECC.reg (s : Nat) : Nat := storeBase s + 0x48
def SS.ECC.CE (s : Nat) : Fld := ⟨SS.ECC.reg s, 16, 16⟩
def SS.ECC.UE (s : Nat) : Fld := ⟨SS.ECC.reg s, 0, 16⟩

/-- `SS[s].FAULT_ADDR` (R949). -/
def SS.FAULT_ADDR.reg (s : Nat) : Nat := storeBase s + 0x4c
def SS.FAULT_ADDR.ADDR (s : Nat) : Fld := ⟨SS.FAULT_ADDR.reg s, 0, 23⟩

/-- `SS[s].REPAIR[b]` (R950). -/
def SS.REPAIR.reg (s b : Nat) : Nat := storeBase s + 0x80 + 4 * b
def SS.REPAIR.SOFT (s b : Nat) : Fld := ⟨SS.REPAIR.reg s b, 8, 4⟩
def SS.REPAIR.FUSE (s b : Nat) : Fld := ⟨SS.REPAIR.reg s b, 4, 4⟩
def SS.REPAIR.CAND (s b : Nat) : Fld := ⟨SS.REPAIR.reg s b, 0, 4⟩

/-- `PS[s].VEC_WIN` (R290). -/
def PS.VEC_WIN.reg (s : Nat) : Nat := storeBase s + 0x1000
def PS.VEC_WIN.SIZE (s : Nat) : Fld := ⟨PS.VEC_WIN.reg s, 16, 9⟩
def PS.VEC_WIN.BASE (s : Nat) : Fld := ⟨PS.VEC_WIN.reg s, 0, 9⟩

/-- `PS[s].FAIL_WIN` (R290). -/
def PS.FAIL_WIN.reg (s : Nat) : Nat := storeBase s + 0x1004
def PS.FAIL_WIN.SIZE (s : Nat) : Fld := ⟨PS.FAIL_WIN.reg s, 16, 9⟩
def PS.FAIL_WIN.BASE (s : Nat) : Fld := ⟨PS.FAIL_WIN.reg s, 0, 9⟩

/-- `PS[s].CAP_WIN` (R290). -/
def PS.CAP_WIN.reg (s : Nat) : Nat := storeBase s + 0x1008
def PS.CAP_WIN.SIZE (s : Nat) : Fld := ⟨PS.CAP_WIN.reg s, 16, 9⟩
def PS.CAP_WIN.BASE (s : Nat) : Fld := ⟨PS.CAP_WIN.reg s, 0, 9⟩

/-- `PS[s].RA_CFG` (R291). -/
def PS.RA_CFG.reg (s : Nat) : Nat := storeBase s + 0x1010
def PS.RA_CFG.RES (s : Nat) : Fld := ⟨PS.RA_CFG.reg s, 16, 16⟩
def PS.RA_CFG.BANKS (s : Nat) : Fld := ⟨PS.RA_CFG.reg s, 0, 16⟩

/-- `PS[s].RA_STAT` (R292). -/
def PS.RA_STAT.reg (s : Nat) : Nat := storeBase s + 0x1014
def PS.RA_STAT.UNDERRUN (s : Nat) : Fld := ⟨PS.RA_STAT.reg s, 31, 1⟩
def PS.RA_STAT.UE_HALT (s : Nat) : Fld := ⟨PS.RA_STAT.reg s, 30, 1⟩
def PS.RA_STAT.LINE_RANGE (s : Nat) : Fld := ⟨PS.RA_STAT.reg s, 29, 1⟩
def PS.RA_STAT.CFG_ERR (s : Nat) : Fld := ⟨PS.RA_STAT.reg s, 28, 1⟩
def PS.RA_STAT.WLOCK (s : Nat) : Fld := ⟨PS.RA_STAT.reg s, 27, 1⟩
def PS.RA_STAT.CREDIT (s : Nat) : Fld := ⟨PS.RA_STAT.reg s, 13, 13⟩
def PS.RA_STAT.LEAD (s : Nat) : Fld := ⟨PS.RA_STAT.reg s, 0, 13⟩

/-- `PS[s].FAULT_LINE` (R293). -/
def PS.FAULT_LINE.reg (s : Nat) : Nat := storeBase s + 0x1018
def PS.FAULT_LINE.LINE (s : Nat) : Fld := ⟨PS.FAULT_LINE.reg s, 0, 32⟩

/-- `PS[s].RESV` (R294). -/
def PS.RESV.reg (s : Nat) : Nat := storeBase s + 0x101c
def PS.RESV.HELD (s : Nat) : Fld := ⟨PS.RESV.reg s, 31, 1⟩
def PS.RESV.FAIL_ON (s : Nat) : Fld := ⟨PS.RESV.reg s, 30, 1⟩
def PS.RESV.CAP_BUDGET (s : Nat) : Fld := ⟨PS.RESV.reg s, 16, 7⟩
def PS.RESV.FLOOR (s : Nat) : Fld := ⟨PS.RESV.reg s, 0, 16⟩

/-- `PER[g].PT[k].LO` (R446). -/
def PER.PT.LO.reg (g k : Nat) : Nat := octBase g + 8 * k
def PER.PT.LO.FRAC (g k : Nat) : Fld := ⟨PER.PT.LO.reg g k, 0, 32⟩

/-- `PER[g].PT[k].HI` (R446). -/
def PER.PT.HI.reg (g k : Nat) : Nat := octBase g + 0x4 + 8 * k
def PER.PT.HI.INT (g k : Nat) : Fld := ⟨PER.PT.HI.reg g k, 0, 16⟩

/-- `PER[g].CTL` (R448). -/
def PER.CTL.reg (g : Nat) : Nat := octBase g + 0x80
def PER.CTL.MEAS_PT (g : Nat) : Fld := ⟨PER.CTL.reg g, 4, 4⟩
def PER.CTL.START_PT (g : Nat) : Fld := ⟨PER.CTL.reg g, 0, 4⟩

/-- `PER[g].STAT` (R449). -/
def PER.STAT.reg (g : Nat) : Nat := octBase g + 0x84
def PER.STAT.CFG_ERR (g : Nat) : Fld := ⟨PER.STAT.reg g, 31, 1⟩
def PER.STAT.WR_IGNORED (g : Nat) : Fld := ⟨PER.STAT.reg g, 30, 1⟩
def PER.STAT.MERGED (g : Nat) : Fld := ⟨PER.STAT.reg g, 29, 1⟩
def PER.STAT.CHANGE_PEND (g : Nat) : Fld := ⟨PER.STAT.reg g, 17, 1⟩
def PER.STAT.RUNNING (g : Nat) : Fld := ⟨PER.STAT.reg g, 16, 1⟩
def PER.STAT.NEXT_PT (g : Nat) : Fld := ⟨PER.STAT.reg g, 8, 4⟩
def PER.STAT.CUR_PT (g : Nat) : Fld := ⟨PER.STAT.reg g, 0, 4⟩

/-- `PER[g].ANCHOR_LO` (R450). -/
def PER.ANCHOR_LO.reg (g : Nat) : Nat := octBase g + 0x88
def PER.ANCHOR_LO.TIME (g : Nat) : Fld := ⟨PER.ANCHOR_LO.reg g, 0, 32⟩

/-- `PER[g].ANCHOR_HI` (R450). -/
def PER.ANCHOR_HI.reg (g : Nat) : Nat := octBase g + 0x8c
def PER.ANCHOR_HI.TIME (g : Nat) : Fld := ⟨PER.ANCHOR_HI.reg g, 0, 32⟩

/-- `PER[g].CHG_LO` (R450). -/
def PER.CHG_LO.reg (g : Nat) : Nat := octBase g + 0x90
def PER.CHG_LO.TIME (g : Nat) : Fld := ⟨PER.CHG_LO.reg g, 0, 32⟩

/-- `PER[g].CHG_HI` (R450). -/
def PER.CHG_HI.reg (g : Nat) : Nat := octBase g + 0x94
def PER.CHG_HI.TIME (g : Nat) : Fld := ⟨PER.CHG_HI.reg g, 0, 32⟩

/-- `PER[g].STRETCH` (R450). -/
def PER.STRETCH.reg (g : Nat) : Nat := octBase g + 0x98
def PER.STRETCH.DOTS (g : Nat) : Fld := ⟨PER.STRETCH.reg g, 0, 26⟩

/-- `STEER[g].CTL` (R569). -/
def STEER.CTL.reg (g : Nat) : Nat := octBase g + 0x400
def STEER.CTL.FORCE_ISO (g : Nat) : Fld := ⟨STEER.CTL.reg g, 0, 8⟩

/-- `STEER[g].STAT` (R571). -/
def STEER.STAT.reg (g : Nat) : Nat := octBase g + 0x404
def STEER.STAT.OV (g : Nat) : Fld := ⟨STEER.STAT.reg g, 24, 8⟩
def STEER.STAT.HANDOVER (g : Nat) : Fld := ⟨STEER.STAT.reg g, 23, 1⟩
def STEER.STAT.DC_BALL (g : Nat) : Fld := ⟨STEER.STAT.reg g, 16, 4⟩
def STEER.STAT.SPARE (g : Nat) : Fld := ⟨STEER.STAT.reg g, 8, 8⟩
def STEER.STAT.ISO (g : Nat) : Fld := ⟨STEER.STAT.reg g, 0, 8⟩

/-- `FE[g][l].CFG` (R572). -/
def FE.CFG.reg (g l : Nat) : Nat := octBase g + 0x800 + 32 * l
def FE.CFG.IDLE (g l : Nat) : Fld := ⟨FE.CFG.reg g l, 8, 3⟩
def FE.CFG.HYST (g l : Nat) : Fld := ⟨FE.CFG.reg g l, 4, 2⟩
def FE.CFG.OFF_MODE (g l : Nat) : Fld := ⟨FE.CFG.reg g l, 0, 2⟩

/-- `FE[g][l].STAT` (R575). -/
def FE.STAT.reg (g l : Nat) : Nat := octBase g + 0x804 + 32 * l
def FE.STAT.OC (g l : Nat) : Fld := ⟨FE.STAT.reg g l, 31, 1⟩
def FE.STAT.OC_FAIL (g l : Nat) : Fld := ⟨FE.STAT.reg g l, 30, 1⟩
def FE.STAT.COMPLY (g l : Nat) : Fld := ⟨FE.STAT.reg g l, 29, 1⟩
def FE.STAT.CFG_ERR (g l : Nat) : Fld := ⟨FE.STAT.reg g l, 28, 1⟩
def FE.STAT.WR_IGNORED (g l : Nat) : Fld := ⟨FE.STAT.reg g l, 27, 1⟩
def FE.STAT.LEVEL (g l : Nat) : Fld := ⟨FE.STAT.reg g l, 6, 2⟩
def FE.STAT.STATE (g l : Nat) : Fld := ⟨FE.STAT.reg g l, 0, 3⟩

/-- `FE[g].BCAST_CFG` (R576). -/
def FE.BCAST_CFG.reg (g : Nat) : Nat := octBase g + 0xa00
def FE.BCAST_CFG.V (g : Nat) : Fld := ⟨FE.BCAST_CFG.reg g, 0, 32⟩

/-- `SINE[g].CTL` (R613). -/
def SINE.CTL.reg (g : Nat) : Nat := octBase g + 0xc00
def SINE.CTL.RUN (g : Nat) : Fld := ⟨SINE.CTL.reg g, 31, 1⟩
def SINE.CTL.ARM (g : Nat) : Fld := ⟨SINE.CTL.reg g, 30, 1⟩
def SINE.CTL.STOP (g : Nat) : Fld := ⟨SINE.CTL.reg g, 29, 1⟩
def SINE.CTL.CFG_ERR (g : Nat) : Fld := ⟨SINE.CTL.reg g, 28, 1⟩
def SINE.CTL.STOPPED (g : Nat) : Fld := ⟨SINE.CTL.reg g, 27, 1⟩
def SINE.CTL.AMP (g : Nat) : Fld := ⟨SINE.CTL.reg g, 0, 12⟩

/-- `SINE[g].FTW` (R613). -/
def SINE.FTW.reg (g : Nat) : Nat := octBase g + 0xc04
def SINE.FTW.FTW (g : Nat) : Fld := ⟨SINE.FTW.reg g, 0, 32⟩

/-- `SINE[g].PHASE0` (R613). -/
def SINE.PHASE0.reg (g : Nat) : Nat := octBase g + 0xc08
def SINE.PHASE0.PHASE (g : Nat) : Fld := ⟨SINE.PHASE0.reg g, 0, 32⟩

/-- `SINE[g].PHASE` (R613). -/
def SINE.PHASE.reg (g : Nat) : Nat := octBase g + 0xc0c
def SINE.PHASE.PHASE (g : Nat) : Fld := ⟨SINE.PHASE.reg g, 0, 32⟩

/-- `HL[g].CTL` (R748). -/
def HL.CTL.reg (g : Nat) : Nat := octBase g + 0x1000
def HL.CTL.GO (g : Nat) : Fld := ⟨HL.CTL.reg g, 31, 1⟩
def HL.CTL.ABORT (g : Nat) : Fld := ⟨HL.CTL.reg g, 30, 1⟩
def HL.CTL.OP (g : Nat) : Fld := ⟨HL.CTL.reg g, 28, 2⟩
def HL.CTL.RAMP (g : Nat) : Fld := ⟨HL.CTL.reg g, 27, 1⟩
def HL.CTL.STOPS (g : Nat) : Fld := ⟨HL.CTL.reg g, 16, 4⟩
def HL.CTL.REPEAT (g : Nat) : Fld := ⟨HL.CTL.reg g, 0, 16⟩

/-- `HL[g].SRC` (R749). -/
def HL.SRC.reg (g : Nat) : Nat := octBase g + 0x1004
def HL.SRC.START_SRC (g : Nat) : Fld := ⟨HL.SRC.reg g, 28, 4⟩
def HL.SRC.START_LANE (g : Nat) : Fld := ⟨HL.SRC.reg g, 24, 3⟩
def HL.SRC.STOP_SRC (g : Nat) : Fld := ⟨HL.SRC.reg g, 20, 4⟩
def HL.SRC.STOP_LANE (g : Nat) : Fld := ⟨HL.SRC.reg g, 16, 3⟩
def HL.SRC.STAT_STOP (g : Nat) : Fld := ⟨HL.SRC.reg g, 8, 4⟩

/-- `HL[g].WIN` (R749). -/
def HL.WIN.reg (g : Nat) : Nat := octBase g + 0x1008
def HL.WIN.CLOSE (g : Nat) : Fld := ⟨HL.WIN.reg g, 16, 16⟩
def HL.WIN.OPEN (g : Nat) : Fld := ⟨HL.WIN.reg g, 0, 16⟩

/-- `HL[g].TIMEOUT` (R749). -/
def HL.TIMEOUT.reg (g : Nat) : Nat := octBase g + 0x100c
def HL.TIMEOUT.US (g : Nat) : Fld := ⟨HL.TIMEOUT.reg g, 0, 16⟩

/-- `HL[g].FREQ_CFG` (R749). -/
def HL.FREQ_CFG.reg (g : Nat) : Nat := octBase g + 0x1010
def HL.FREQ_CFG.PRESC (g : Nat) : Fld := ⟨HL.FREQ_CFG.reg g, 16, 16⟩
def HL.FREQ_CFG.GATE (g : Nat) : Fld := ⟨HL.FREQ_CFG.reg g, 0, 16⟩

/-- `HL[g].STAT` (R750). -/
def HL.STAT.reg (g : Nat) : Nat := octBase g + 0x1014
def HL.STAT.DONE (g : Nat) : Fld := ⟨HL.STAT.reg g, 31, 1⟩
def HL.STAT.ABANDONED (g : Nat) : Fld := ⟨HL.STAT.reg g, 30, 1⟩
def HL.STAT.REFUSED (g : Nat) : Fld := ⟨HL.STAT.reg g, 29, 1⟩
def HL.STAT.CFG_ERR (g : Nat) : Fld := ⟨HL.STAT.reg g, 28, 1⟩
def HL.STAT.WR_IGNORED (g : Nat) : Fld := ⟨HL.STAT.reg g, 27, 1⟩
def HL.STAT.CAL_FAIL (g : Nat) : Fld := ⟨HL.STAT.reg g, 26, 1⟩
def HL.STAT.NO_START (g : Nat) : Fld := ⟨HL.STAT.reg g, 25, 1⟩
def HL.STAT.OVERRANGE (g : Nat) : Fld := ⟨HL.STAT.reg g, 24, 1⟩
def HL.STAT.COAST (g : Nat) : Fld := ⟨HL.STAT.reg g, 23, 1⟩
def HL.STAT.NOSENSE (g : Nat) : Fld := ⟨HL.STAT.reg g, 22, 1⟩
def HL.STAT.QUEUED (g : Nat) : Fld := ⟨HL.STAT.reg g, 18, 1⟩
def HL.STAT.BUSY (g : Nat) : Fld := ⟨HL.STAT.reg g, 17, 1⟩
def HL.STAT.SELFCHECK (g : Nat) : Fld := ⟨HL.STAT.reg g, 16, 1⟩
def HL.STAT.OWNER (g : Nat) : Fld := ⟨HL.STAT.reg g, 0, 2⟩

/-- `HL[g].START_LO` (R751). -/
def HL.START_LO.reg (g : Nat) : Nat := octBase g + 0x1018
def HL.START_LO.TIME (g : Nat) : Fld := ⟨HL.START_LO.reg g, 0, 32⟩

/-- `HL[g].START_HI` (R751). -/
def HL.START_HI.reg (g : Nat) : Nat := octBase g + 0x101c
def HL.START_HI.TIME (g : Nat) : Fld := ⟨HL.START_HI.reg g, 0, 32⟩

/-- `HL[g].STOP[k]` (R751). -/
def HL.STOP.reg (g k : Nat) : Nat := octBase g + 0x1020 + 4 * k
def HL.STOP.INTERVAL (g k : Nat) : Fld := ⟨HL.STOP.reg g k, 0, 32⟩

/-- `HL[g].STOPVALID` (R751). -/
def HL.STOPVALID.reg (g : Nat) : Nat := octBase g + 0x1060
def HL.STOPVALID.VALID (g : Nat) : Fld := ⟨HL.STOPVALID.reg g, 0, 16⟩

/-- `HL[g].SHOTS` (R751). -/
def HL.SHOTS.reg (g : Nat) : Nat := octBase g + 0x1064
def HL.SHOTS.GOOD (g : Nat) : Fld := ⟨HL.SHOTS.reg g, 16, 16⟩
def HL.SHOTS.SHORT (g : Nat) : Fld := ⟨HL.SHOTS.reg g, 0, 16⟩

/-- `HL[g].MEAN` (R751). -/
def HL.MEAN.reg (g : Nat) : Nat := octBase g + 0x1068
def HL.MEAN.DOTS64 (g : Nat) : Fld := ⟨HL.MEAN.reg g, 0, 32⟩

/-- `HL[g].SPREAD` (R751). -/
def HL.SPREAD.reg (g : Nat) : Nat := octBase g + 0x106c
def HL.SPREAD.DOTS64 (g : Nat) : Fld := ⟨HL.SPREAD.reg g, 0, 32⟩

/-- `HL[g].MIN` (R751). -/
def HL.MIN.reg (g : Nat) : Nat := octBase g + 0x1070
def HL.MIN.INTERVAL (g : Nat) : Fld := ⟨HL.MIN.reg g, 0, 32⟩

/-- `HL[g].MAX` (R751). -/
def HL.MAX.reg (g : Nat) : Nat := octBase g + 0x1074
def HL.MAX.INTERVAL (g : Nat) : Fld := ⟨HL.MAX.reg g, 0, 32⟩

/-- `HL[g].FCOUNT` (R751). -/
def HL.FCOUNT.reg (g : Nat) : Nat := octBase g + 0x1078
def HL.FCOUNT.N (g : Nat) : Fld := ⟨HL.FCOUNT.reg g, 0, 32⟩

/-- `HL[g].FHZ` (R751). -/
def HL.FHZ.reg (g : Nat) : Nat := octBase g + 0x107c
def HL.FHZ.HZ (g : Nat) : Fld := ⟨HL.FHZ.reg g, 0, 32⟩

/-- `HL[g].FSPAN_LO` (R751). -/
def HL.FSPAN_LO.reg (g : Nat) : Nat := octBase g + 0x1080
def HL.FSPAN_LO.TIME (g : Nat) : Fld := ⟨HL.FSPAN_LO.reg g, 0, 32⟩

/-- `HL[g].FSPAN_HI` (R751). -/
def HL.FSPAN_HI.reg (g : Nat) : Nat := octBase g + 0x1084
def HL.FSPAN_HI.TIME (g : Nat) : Fld := ⟨HL.FSPAN_HI.reg g, 0, 32⟩

/-- `HL[g].MISSED` (R751). -/
def HL.MISSED.reg (g : Nat) : Nat := octBase g + 0x1088
def HL.MISSED.COUNT (g : Nat) : Fld := ⟨HL.MISSED.reg g, 0, 32⟩

/-- `TDR[g].CTL` (R752). -/
def TDR.CTL.reg (g : Nat) : Nat := octBase g + 0x1100
def TDR.CTL.REF (g : Nat) : Fld := ⟨TDR.CTL.reg g, 16, 16⟩
def TDR.CTL.GO (g : Nat) : Fld := ⟨TDR.CTL.reg g, 15, 1⟩
def TDR.CTL.DONE (g : Nat) : Fld := ⟨TDR.CTL.reg g, 14, 1⟩
def TDR.CTL.CFG_ERR (g : Nat) : Fld := ⟨TDR.CTL.reg g, 13, 1⟩
def TDR.CTL.APPLY (g : Nat) : Fld := ⟨TDR.CTL.reg g, 8, 1⟩
def TDR.CTL.LANES (g : Nat) : Fld := ⟨TDR.CTL.reg g, 0, 8⟩

/-- `TDR[g].RES[l]` (R752). -/
def TDR.RES.reg (g l : Nat) : Nat := octBase g + 0x1110 + 4 * l
def TDR.RES.SIG (g l : Nat) : Fld := ⟨TDR.RES.reg g l, 28, 4⟩
def TDR.RES.SPREAD (g l : Nat) : Fld := ⟨TDR.RES.reg g l, 16, 12⟩
def TDR.RES.ONEWAY (g l : Nat) : Fld := ⟨TDR.RES.reg g l, 0, 16⟩

/-- `MSR[g].CTL` (R753). -/
def MSR.CTL.reg (g : Nat) : Nat := octBase g + 0x1800
def MSR.CTL.LEN (g : Nat) : Fld := ⟨MSR.CTL.reg g, 16, 3⟩
def MSR.CTL.TS (g : Nat) : Fld := ⟨MSR.CTL.reg g, 8, 6⟩
def MSR.CTL.STIM_EN (g : Nat) : Fld := ⟨MSR.CTL.reg g, 0, 8⟩

/-- `MSR[g].STIM[k]` (R753). -/
def MSR.STIM.reg (g k : Nat) : Nat := octBase g + 0x1810 + 4 * k
def MSR.STIM.GLYPHS (g k : Nat) : Fld := ⟨MSR.STIM.reg g k, 0, 32⟩

/-- `MSR[g][l].TALLY` (R753). -/
def MSR.TALLY.reg (g l : Nat) : Nat := octBase g + 0x1840 + 4 * l
def MSR.TALLY.FAIL (g l : Nat) : Fld := ⟨MSR.TALLY.reg g l, 16, 16⟩
def MSR.TALLY.PASS (g l : Nat) : Fld := ⟨MSR.TALLY.reg g l, 0, 16⟩

/-- `DC[g].CTL` (R754). -/
def DC.CTL.reg (g : Nat) : Nat := octBase g + 0x2000
def DC.CTL.CONNECT (g : Nat) : Fld := ⟨DC.CTL.reg g, 31, 1⟩
def DC.CTL.BALL (g : Nat) : Fld := ⟨DC.CTL.reg g, 24, 3⟩
def DC.CTL.MODE (g : Nat) : Fld := ⟨DC.CTL.reg g, 16, 2⟩
def DC.CTL.RANGE (g : Nat) : Fld := ⟨DC.CTL.reg g, 8, 3⟩

/-- `DC[g].FORCE` (R754). -/
def DC.FORCE.reg (g : Nat) : Nat := octBase g + 0x2004
def DC.FORCE.VALUE (g : Nat) : Fld := ⟨DC.FORCE.reg g, 0, 16⟩

/-- `DC[g].CLAMP` (R754). -/
def DC.CLAMP.reg (g : Nat) : Nat := octBase g + 0x2008
def DC.CLAMP.HI (g : Nat) : Fld := ⟨DC.CLAMP.reg g, 16, 16⟩
def DC.CLAMP.LO (g : Nat) : Fld := ⟨DC.CLAMP.reg g, 0, 16⟩

/-- `DC[g].MCFG` (R754). -/
def DC.MCFG.reg (g : Nat) : Nat := octBase g + 0x200c
def DC.MCFG.GO (g : Nat) : Fld := ⟨DC.MCFG.reg g, 31, 1⟩
def DC.MCFG.AVG (g : Nat) : Fld := ⟨DC.MCFG.reg g, 16, 8⟩
def DC.MCFG.TINT (g : Nat) : Fld := ⟨DC.MCFG.reg g, 0, 4⟩

/-- `DC[g].RES` (R754). -/
def DC.RES.reg (g : Nat) : Nat := octBase g + 0x2010
def DC.RES.V (g : Nat) : Fld := ⟨DC.RES.reg g, 16, 16⟩
def DC.RES.I (g : Nat) : Fld := ⟨DC.RES.reg g, 0, 16⟩

/-- `DC[g].STAT` (R755). -/
def DC.STAT.reg (g : Nat) : Nat := octBase g + 0x2014
def DC.STAT.DONE (g : Nat) : Fld := ⟨DC.STAT.reg g, 31, 1⟩
def DC.STAT.COMPLY (g : Nat) : Fld := ⟨DC.STAT.reg g, 30, 1⟩
def DC.STAT.LOST (g : Nat) : Fld := ⟨DC.STAT.reg g, 29, 1⟩
def DC.STAT.REFUSED (g : Nat) : Fld := ⟨DC.STAT.reg g, 28, 1⟩
def DC.STAT.CFG_ERR (g : Nat) : Fld := ⟨DC.STAT.reg g, 27, 1⟩
def DC.STAT.ST_FAIL (g : Nat) : Fld := ⟨DC.STAT.reg g, 26, 1⟩
def DC.STAT.ABANDONED (g : Nat) : Fld := ⟨DC.STAT.reg g, 25, 1⟩
def DC.STAT.CONNECTED (g : Nat) : Fld := ⟨DC.STAT.reg g, 24, 1⟩
def DC.STAT.SELFTEST (g : Nat) : Fld := ⟨DC.STAT.reg g, 23, 1⟩
def DC.STAT.QUEUED (g : Nat) : Fld := ⟨DC.STAT.reg g, 22, 1⟩
def DC.STAT.BUSY (g : Nat) : Fld := ⟨DC.STAT.reg g, 21, 1⟩
def DC.STAT.REFUSE_CAUSE (g : Nat) : Fld := ⟨DC.STAT.reg g, 16, 4⟩
def DC.STAT.EST (g : Nat) : Fld := ⟨DC.STAT.reg g, 0, 16⟩

/-- `DC[g].ST_CFG` (R754). -/
def DC.ST_CFG.reg (g : Nat) : Nat := octBase g + 0x2018
def DC.ST_CFG.ST_GO (g : Nat) : Fld := ⟨DC.ST_CFG.reg g, 31, 1⟩
def DC.ST_CFG.INTERVAL (g : Nat) : Fld := ⟨DC.ST_CFG.reg g, 0, 16⟩

/-- `ROT[g].CTL` (R806). -/
def ROT.CTL.reg (g : Nat) : Nat := octBase g + 0x2400
def ROT.CTL.EN (g : Nat) : Fld := ⟨ROT.CTL.reg g, 31, 1⟩
def ROT.CTL.PAUSE (g : Nat) : Fld := ⟨ROT.CTL.reg g, 30, 1⟩
def ROT.CTL.LANES (g : Nat) : Fld := ⟨ROT.CTL.reg g, 16, 8⟩
def ROT.CTL.PERIOD (g : Nat) : Fld := ⟨ROT.CTL.reg g, 0, 12⟩

/-- `ROT[g].STAT` (R807). -/
def ROT.STAT.reg (g : Nat) : Nat := octBase g + 0x2404
def ROT.STAT.SKIPPED (g : Nat) : Fld := ⟨ROT.STAT.reg g, 31, 1⟩
def ROT.STAT.MATCH_FAIL (g : Nat) : Fld := ⟨ROT.STAT.reg g, 30, 1⟩
def ROT.STAT.CHECK_FAIL (g : Nat) : Fld := ⟨ROT.STAT.reg g, 29, 1⟩
def ROT.STAT.RUN_FAIL (g : Nat) : Fld := ⟨ROT.STAT.reg g, 28, 1⟩
def ROT.STAT.RETIRED_NEW (g : Nat) : Fld := ⟨ROT.STAT.reg g, 27, 1⟩
def ROT.STAT.SLOT8_IGN (g : Nat) : Fld := ⟨ROT.STAT.reg g, 26, 1⟩
def ROT.STAT.HW_FAULT (g : Nat) : Fld := ⟨ROT.STAT.reg g, 25, 1⟩
def ROT.STAT.RETIRE_HELD (g : Nat) : Fld := ⟨ROT.STAT.reg g, 24, 1⟩
def ROT.STAT.DEGRADED (g : Nat) : Fld := ⟨ROT.STAT.reg g, 23, 1⟩
def ROT.STAT.LANE (g : Nat) : Fld := ⟨ROT.STAT.reg g, 16, 4⟩
def ROT.STAT.STATE (g : Nat) : Fld := ⟨ROT.STAT.reg g, 12, 4⟩
def ROT.STAT.SKIPMASK (g : Nat) : Fld := ⟨ROT.STAT.reg g, 0, 8⟩

/-- `ROT[g].CORES` (R808). -/
def ROT.CORES.reg (g : Nat) : Nat := octBase g + 0x2408
def ROT.CORES.RETIRED (g : Nat) : Fld := ⟨ROT.CORES.reg g, 16, 9⟩
def ROT.CORES.DEAD (g : Nat) : Fld := ⟨ROT.CORES.reg g, 0, 8⟩

/-- `ROT[g].CAUSE` (R808). -/
def ROT.CAUSE.reg (g : Nat) : Nat := octBase g + 0x240c
def ROT.CAUSE.CAUSE (g : Nat) : Fld := ⟨ROT.CAUSE.reg g, 0, 32⟩

/-- `ROT[g].CAUSE_LS` (R808). -/
def ROT.CAUSE_LS.reg (g : Nat) : Nat := octBase g + 0x2410
def ROT.CAUSE_LS.CAUSE (g : Nat) : Fld := ⟨ROT.CAUSE_LS.reg g, 0, 4⟩

/-- `ROT[g].COUNT` (R808). -/
def ROT.COUNT.reg (g : Nat) : Nat := octBase g + 0x2414
def ROT.COUNT.VISITS (g : Nat) : Fld := ⟨ROT.COUNT.reg g, 16, 16⟩
def ROT.COUNT.SKIPS (g : Nat) : Fld := ⟨ROT.COUNT.reg g, 0, 16⟩

/-- `ROT[g].AGE[l]` (R809). -/
def ROT.AGE.reg (g l : Nat) : Nat := octBase g + 0x2420 + 4 * l
def ROT.AGE.ACLASS (g l : Nat) : Fld := ⟨ROT.AGE.reg g l, 30, 2⟩
def ROT.AGE.MS (g l : Nat) : Fld := ⟨ROT.AGE.reg g l, 0, 27⟩

/-- `ROT[g].AGE_LS` (R809). -/
def ROT.AGE_LS.reg (g : Nat) : Nat := octBase g + 0x2440
def ROT.AGE_LS.ACLASS (g : Nat) : Fld := ⟨ROT.AGE_LS.reg g, 30, 2⟩
def ROT.AGE_LS.MS (g : Nat) : Fld := ⟨ROT.AGE_LS.reg g, 0, 27⟩

/-- `ROT[g].CLASS` (R810). -/
def ROT.CLASS.reg (g : Nat) : Nat := octBase g + 0x2444
def ROT.CLASS.MET (g : Nat) : Fld := ⟨ROT.CLASS.reg g, 24, 8⟩
def ROT.CLASS.LS (g : Nat) : Fld := ⟨ROT.CLASS.reg g, 16, 2⟩
def ROT.CLASS.BALL (g : Nat) : Fld := ⟨ROT.CLASS.reg g, 0, 16⟩

/-- `NIBO[g].SUM` (R493). -/
def NIBO.SUM.reg (g : Nat) : Nat := laneBase g + 0xf00
def NIBO.SUM.FLAG (g : Nat) : Fld := ⟨NIBO.SUM.reg g, 0, 9⟩

/-- `NIB[g][l].TS[t].W[k]` (R486). -/
def NIB.TS.W.reg (g l t k : Nat) : Nat := slotBase g l + 24 * t + 4 * k
def NIB.TS.W.V (g l t k : Nat) : Fld := ⟨NIB.TS.W.reg g l t k, 0, 32⟩

/-- `STK[g][l].ENT[k]` (R523). -/
def STK.ENT.reg (g l k : Nat) : Nat := slotBase g l + 0x600 + 4 * k
def STK.ENT.POL (g l k : Nat) : Fld := ⟨STK.ENT.reg g l k, 4, 1⟩
def STK.ENT.FORMAT (g l k : Nat) : Fld := ⟨STK.ENT.reg g l k, 0, 4⟩

/-- `STK[g][l].ALT[m][i]` (R524). -/
def STK.ALT.reg (g l m i : Nat) : Nat := slotBase g l + 0x640 + 32 * m + 4 * i
def STK.ALT.GLYPH (g l m i : Nat) : Fld := ⟨STK.ALT.reg g l m i, 0, 32⟩

/-- `STK[g][l].STAT` (R525). -/
def STK.STAT.reg (g l : Nat) : Nat := slotBase g l + 0x680
def STK.STAT.TURN_CLASH (g l : Nat) : Fld := ⟨STK.STAT.reg g l, 31, 1⟩
def STK.STAT.ALT_Q (g l : Nat) : Fld := ⟨STK.STAT.reg g l, 30, 1⟩
def STK.STAT.CFG_ERR (g l : Nat) : Fld := ⟨STK.STAT.reg g l, 29, 1⟩
def STK.STAT.WR_IGNORED (g l : Nat) : Fld := ⟨STK.STAT.reg g l, 28, 1⟩
def STK.STAT.B (g l : Nat) : Fld := ⟨STK.STAT.reg g l, 2, 1⟩
def STK.STAT.DE (g l : Nat) : Fld := ⟨STK.STAT.reg g l, 1, 1⟩
def STK.STAT.LEV (g l : Nat) : Fld := ⟨STK.STAT.reg g l, 0, 1⟩

/-- `DAC[g][l].LVL[k].CODE` (R608). -/
def DAC.LVL.CODE.reg (g l k : Nat) : Nat := slotBase g l + 0x700 + 16 * k
def DAC.LVL.CODE.CODE (g l k : Nat) : Fld := ⟨DAC.LVL.CODE.reg g l k, 0, 16⟩

/-- `DAC[g][l].LVL[k].STAGE` (R608). -/
def DAC.LVL.STAGE.reg (g l k : Nat) : Nat := slotBase g l + 0x704 + 16 * k
def DAC.LVL.STAGE.PEND (g l k : Nat) : Fld := ⟨DAC.LVL.STAGE.reg g l k, 31, 1⟩
def DAC.LVL.STAGE.CANCEL (g l k : Nat) : Fld := ⟨DAC.LVL.STAGE.reg g l k, 30, 1⟩
def DAC.LVL.STAGE.CODE (g l k : Nat) : Fld := ⟨DAC.LVL.STAGE.reg g l k, 0, 16⟩

/-- `DAC[g][l].LVL[k].CFG` (R608). -/
def DAC.LVL.CFG.reg (g l k : Nat) : Nat := slotBase g l + 0x708 + 16 * k
def DAC.LVL.CFG.SPAN (g l k : Nat) : Fld := ⟨DAC.LVL.CFG.reg g l k, 0, 1⟩

/-- `DAC[g][l].LVL[k].ACT` (R608). -/
def DAC.LVL.ACT.reg (g l k : Nat) : Nat := slotBase g l + 0x70c + 16 * k
def DAC.LVL.ACT.OUT (g l k : Nat) : Fld := ⟨DAC.LVL.ACT.reg g l k, 30, 2⟩
def DAC.LVL.ACT.HOLD (g l k : Nat) : Fld := ⟨DAC.LVL.ACT.reg g l k, 29, 1⟩
def DAC.LVL.ACT.CODE (g l k : Nat) : Fld := ⟨DAC.LVL.ACT.reg g l k, 0, 16⟩

/-- `DAC[g][l].MOD` (R609). -/
def DAC.MOD.reg (g l : Nat) : Nat := slotBase g l + 0x780
def DAC.MOD.INV (g l : Nat) : Fld := ⟨DAC.MOD.reg g l, 8, 6⟩
def DAC.MOD.EN (g l : Nat) : Fld := ⟨DAC.MOD.reg g l, 0, 6⟩

/-- `DAC[g][l].STAT` (R610). -/
def DAC.STAT.reg (g l : Nat) : Nat := slotBase g l + 0x784
def DAC.STAT.CLIP (g l : Nat) : Fld := ⟨DAC.STAT.reg g l, 31, 1⟩
def DAC.STAT.WR_IGNORED (g l : Nat) : Fld := ⟨DAC.STAT.reg g l, 30, 1⟩
def DAC.STAT.SPAN_CHG (g l : Nat) : Fld := ⟨DAC.STAT.reg g l, 29, 1⟩
def DAC.STAT.FAULT (g l : Nat) : Fld := ⟨DAC.STAT.reg g l, 8, 8⟩
def DAC.STAT.PEND (g l : Nat) : Fld := ⟨DAC.STAT.reg g l, 0, 8⟩

/-- `NIB[g][l].TS_SEL` (R488). -/
def NIB.TS_SEL.reg (g l : Nat) : Nat := slotBase g l + 0x7c0
def NIB.TS_SEL.FORCE (g l : Nat) : Fld := ⟨NIB.TS_SEL.reg g l, 31, 1⟩
def NIB.TS_SEL.TS (g l : Nat) : Fld := ⟨NIB.TS_SEL.reg g l, 0, 6⟩

/-- `NIB[g][l].DESKEW` (R489). -/
def NIB.DESKEW.reg (g l : Nat) : Nat := slotBase g l + 0x7c4
def NIB.DESKEW.CMP (g l : Nat) : Fld := ⟨NIB.DESKEW.reg g l, 16, 16⟩
def NIB.DESKEW.DRV (g l : Nat) : Fld := ⟨NIB.DESKEW.reg g l, 0, 16⟩

/-- `NIB[g][l].STAT` (R491). -/
def NIB.STAT.reg (g l : Nat) : Nat := slotBase g l + 0x7c8
def NIB.STAT.EDGE_DROP (g l : Nat) : Fld := ⟨NIB.STAT.reg g l, 31, 1⟩
def NIB.STAT.RANGE_DROP (g l : Nat) : Fld := ⟨NIB.STAT.reg g l, 30, 1⟩
def NIB.STAT.STB_DROP (g l : Nat) : Fld := ⟨NIB.STAT.reg g l, 29, 1⟩
def NIB.STAT.TAIL (g l : Nat) : Fld := ⟨NIB.STAT.reg g l, 28, 1⟩
def NIB.STAT.CFG_ERR (g l : Nat) : Fld := ⟨NIB.STAT.reg g l, 27, 1⟩
def NIB.STAT.WR_IGNORED (g l : Nat) : Fld := ⟨NIB.STAT.reg g l, 26, 1⟩
def NIB.STAT.CORR_GEN (g l : Nat) : Fld := ⟨NIB.STAT.reg g l, 8, 8⟩
def NIB.STAT.TAPS_REP (g l : Nat) : Fld := ⟨NIB.STAT.reg g l, 0, 5⟩

/-- `NIB[g][l].DROP_EDGE` (R492). -/
def NIB.DROP_EDGE.reg (g l : Nat) : Nat := slotBase g l + 0x7cc
def NIB.DROP_EDGE.RANGE (g l : Nat) : Fld := ⟨NIB.DROP_EDGE.reg g l, 16, 16⟩
def NIB.DROP_EDGE.SPACING (g l : Nat) : Fld := ⟨NIB.DROP_EDGE.reg g l, 0, 16⟩

/-- `NIB[g][l].DROP_STB` (R492). -/
def NIB.DROP_STB.reg (g l : Nat) : Nat := slotBase g l + 0x7d0
def NIB.DROP_STB.RANGE (g l : Nat) : Fld := ⟨NIB.DROP_STB.reg g l, 16, 16⟩
def NIB.DROP_STB.SPACING (g l : Nat) : Fld := ⟨NIB.DROP_STB.reg g l, 0, 16⟩

/-- `RING[r].SQ_BASE_LO` (R862). -/
def RING.SQ_BASE_LO.reg (r : Nat) : Nat := bar4Base + 64 * r
def RING.SQ_BASE_LO.ADDR (r : Nat) : Fld := ⟨RING.SQ_BASE_LO.reg r, 0, 32⟩

/-- `RING[r].SQ_BASE_HI` (R862). -/
def RING.SQ_BASE_HI.reg (r : Nat) : Nat := bar4Base + 0x4 + 64 * r
def RING.SQ_BASE_HI.ADDR (r : Nat) : Fld := ⟨RING.SQ_BASE_HI.reg r, 0, 32⟩

/-- `RING[r].CQ_BASE_LO` (R862). -/
def RING.CQ_BASE_LO.reg (r : Nat) : Nat := bar4Base + 0x8 + 64 * r
def RING.CQ_BASE_LO.ADDR (r : Nat) : Fld := ⟨RING.CQ_BASE_LO.reg r, 0, 32⟩

/-- `RING[r].CQ_BASE_HI` (R862). -/
def RING.CQ_BASE_HI.reg (r : Nat) : Nat := bar4Base + 0xc + 64 * r
def RING.CQ_BASE_HI.ADDR (r : Nat) : Fld := ⟨RING.CQ_BASE_HI.reg r, 0, 32⟩

/-- `RING[r].SIZE` (R862). -/
def RING.SIZE.reg (r : Nat) : Nat := bar4Base + 0x10 + 64 * r
def RING.SIZE.CQ_LOG (r : Nat) : Fld := ⟨RING.SIZE.reg r, 16, 5⟩
def RING.SIZE.SQ_LOG (r : Nat) : Fld := ⟨RING.SIZE.reg r, 0, 5⟩

/-- `RING[r].SQ_TAIL` (R862). -/
def RING.SQ_TAIL.reg (r : Nat) : Nat := bar4Base + 0x14 + 64 * r
def RING.SQ_TAIL.TAIL (r : Nat) : Fld := ⟨RING.SQ_TAIL.reg r, 0, 16⟩

/-- `RING[r].SQ_HEAD` (R862). -/
def RING.SQ_HEAD.reg (r : Nat) : Nat := bar4Base + 0x18 + 64 * r
def RING.SQ_HEAD.GEN (r : Nat) : Fld := ⟨RING.SQ_HEAD.reg r, 24, 8⟩
def RING.SQ_HEAD.HEAD (r : Nat) : Fld := ⟨RING.SQ_HEAD.reg r, 0, 16⟩

/-- `RING[r].CQ_HEAD` (R862). -/
def RING.CQ_HEAD.reg (r : Nat) : Nat := bar4Base + 0x1c + 64 * r
def RING.CQ_HEAD.HEAD (r : Nat) : Fld := ⟨RING.CQ_HEAD.reg r, 0, 16⟩

/-- `RING[r].CQ_TAIL` (R862). -/
def RING.CQ_TAIL.reg (r : Nat) : Nat := bar4Base + 0x20 + 64 * r
def RING.CQ_TAIL.PHASE (r : Nat) : Fld := ⟨RING.CQ_TAIL.reg r, 16, 1⟩
def RING.CQ_TAIL.TAIL (r : Nat) : Fld := ⟨RING.CQ_TAIL.reg r, 0, 16⟩

/-- `RING[r].CTL` (R862). -/
def RING.CTL.reg (r : Nat) : Nat := bar4Base + 0x24 + 64 * r
def RING.CTL.EN (r : Nat) : Fld := ⟨RING.CTL.reg r, 31, 1⟩
def RING.CTL.COAL_CNT (r : Nat) : Fld := ⟨RING.CTL.reg r, 16, 8⟩
def RING.CTL.COAL_US (r : Nat) : Fld := ⟨RING.CTL.reg r, 0, 16⟩

/-- `RING[r].STAT` (R862). -/
def RING.STAT.reg (r : Nat) : Nat := bar4Base + 0x28 + 64 * r
def RING.STAT.TAIL_ERR (r : Nat) : Fld := ⟨RING.STAT.reg r, 31, 1⟩
def RING.STAT.CFG_ERR (r : Nat) : Fld := ⟨RING.STAT.reg r, 30, 1⟩
def RING.STAT.HEAD_ERR (r : Nat) : Fld := ⟨RING.STAT.reg r, 29, 1⟩
def RING.STAT.OUTSTANDING (r : Nat) : Fld := ⟨RING.STAT.reg r, 0, 16⟩

/-- `IMG.CTL` (R860). -/
def IMG.CTL.reg : Nat := bar4Base + 0x400
def IMG.CTL.LAST : Fld := ⟨IMG.CTL.reg, 31, 1⟩
def IMG.CTL.LEN : Fld := ⟨IMG.CTL.reg, 0, 20⟩

/-- `IMG.STAT` (R860). -/
def IMG.STAT.reg : Nat := bar4Base + 0x404
def IMG.STAT.WAITING : Fld := ⟨IMG.STAT.reg, 31, 1⟩
def IMG.STAT.BUSY : Fld := ⟨IMG.STAT.reg, 30, 1⟩
def IMG.STAT.REJECTED : Fld := ⟨IMG.STAT.reg, 29, 1⟩
def IMG.STAT.OVERSIZE : Fld := ⟨IMG.STAT.reg, 28, 1⟩
def IMG.STAT.TOTAL : Fld := ⟨IMG.STAT.reg, 0, 24⟩

end Reg
end Sys2Proof.Machine
end

