-- ==== Sys2Proof/Machine/RegTable.lean ====
section
/-! DEFINITION. The register tables of every chapter: for each block the registers by offset, with the access
code (R25) and the reset value of every field. Fields not listed are reserved: they read 0 and ignore writes
(R23). A reset value that the spec gives as a formula, from fuses or from the vault's memory is not here but in
`Reset`. -/

namespace Sys2Proof.Machine

/-- The access codes of R25. -/
inductive Acc where
  | rw | ro | w1c | w1s | rc | wo | rwl | ps
deriving DecidableEq, Repr

/-- A field of a register table: bits `hi` to `lo`, access code, reset value. -/
structure FieldRow where
  hi : Nat
  lo : Nat
  acc : Acc
  reset : Nat
deriving DecidableEq, Repr

/-- A register of a block: its offset, its repetitions as (stride, count), widest first, and its fields. -/
structure RegRow where
  off : Nat
  dims : List (Nat × Nat)
  fields : List FieldRow
deriving DecidableEq, Repr

/-- The registers of the block `deviceGlobal`. -/
def deviceGlobalRows : List RegRow := [
  -- DEV.ID (R858)
  ⟨0x0, [], [⟨31, 16, .ro, 0x5128⟩, ⟨15, 8, .ro, 0⟩]⟩,
  -- DEV.SERIAL_LO (R858)
  ⟨0x8, [], [⟨31, 0, .ro, 0⟩]⟩,
  -- DEV.SERIAL_HI (R858)
  ⟨0xc, [], [⟨31, 0, .ro, 0⟩]⟩,
  -- DEV.LINK (R859)
  ⟨0x40, [], [⟨31, 16, .ro, 0⟩, ⟨15, 15, .ro, 0⟩, ⟨14, 14, .ro, 0⟩, ⟨13, 8, .ro, 0⟩, ⟨2, 0, .ro, 0⟩]⟩,
  -- DEV.HOSTACC (R859)
  ⟨0x48, [], [⟨31, 31, .w1c, 0⟩, ⟨15, 0, .rc, 0⟩]⟩,
  -- DEV.HOSTACC_ADDR_LO (R859)
  ⟨0x4c, [], [⟨31, 0, .ro, 0⟩]⟩,
  -- DEV.HOSTACC_ADDR_HI (R859)
  ⟨0x50, [], [⟨31, 0, .ro, 0⟩]⟩,
  -- DEV.MODE (R57)
  ⟨0x80, [], [⟨31, 31, .ro, 0⟩, ⟨15, 8, .ro, 0⟩, ⟨1, 1, .ro, 0⟩, ⟨0, 0, .ro, 0⟩]⟩,
  -- SMODE[s].CTL (R58)
  ⟨0x100, [(0x4, 8)], [⟨31, 31, .ro, 0⟩, ⟨30, 28, .ro, 0⟩, ⟨23, 20, .ro, 0⟩, ⟨19, 19, .w1c, 0⟩, ⟨18, 18, .ro, 0⟩, ⟨17, 17, .ro, 0⟩, ⟨16, 16, .wo, 0⟩, ⟨15, 15, .wo, 0⟩, ⟨10, 8, .ro, 1⟩, ⟨6, 4, .ro, 1⟩, ⟨2, 0, .wo, 0⟩]⟩,
  -- DEV.SUPPLY (R115)
  ⟨0x180, [], [⟨15, 8, .ro, 0xff⟩, ⟨7, 0, .ro, 0xff⟩]⟩,
  -- SREG[s].CTL (R113)
  ⟨0x200, [(0x8, 8)], [⟨5, 0, .rwl, 0⟩]⟩,
  -- SREG[s].STAT (R114)
  ⟨0x204, [(0x8, 8)], [⟨18, 18, .w1c, 0⟩, ⟨17, 17, .w1c, 0⟩, ⟨16, 16, .ro, 0⟩, ⟨11, 0, .ro, 0⟩]⟩,
  -- ENS[k] (R369)
  ⟨0x300, [(0x4, 4)], [⟨31, 31, .rw, 0⟩, ⟨30, 30, .w1c, 0⟩, ⟨7, 0, .rw, 0⟩]⟩,
  -- EVT.POST (R370)
  ⟨0x380, [], [⟨7, 0, .wo, 0⟩]⟩,
  -- EVT.FIFO (R370)
  ⟨0x384, [], [⟨31, 31, .rc, 0⟩, ⟨30, 30, .w1c, 0⟩, ⟨29, 29, .w1c, 0⟩, ⟨19, 16, .rc, 0⟩, ⟨7, 0, .rc, 0⟩]⟩,
  -- EVT.ROUTE[c] (R371)
  ⟨0x400, [(0x4, 256)], [⟨31, 31, .rw, 0⟩, ⟨30, 30, .rw, 0⟩, ⟨29, 29, .rw, 0⟩, ⟨15, 8, .rw, 0⟩, ⟨7, 0, .rw, 0⟩]⟩,
  -- EVTIO[n].CTL (R372)
  ⟨0x800, [(0x4, 8)], [⟨31, 31, .rw, 0⟩, ⟨30, 30, .rw, 0⟩, ⟨29, 29, .rw, 0⟩, ⟨23, 16, .rw, 0xf⟩, ⟨7, 0, .rw, 0⟩]⟩,
  -- DEV.SINE_GO (R614)
  ⟨0x900, [], [⟨31, 31, .wo, 0⟩, ⟨0, 0, .ro, 0⟩]⟩,
  -- CAL.CTL (R811)
  ⟨0xa00, [], [⟨1, 0, .rw, 2⟩]⟩,
  -- CAL.STAT (R811)
  ⟨0xa04, [], [⟨31, 31, .w1c, 0⟩, ⟨30, 30, .ro, 0⟩, ⟨25, 16, .ro, 0⟩, ⟨9, 0, .ro, 0⟩]⟩,
  -- CAL.TPOINT[i] (R811)
  ⟨0xa10, [(0x4, 8)], [⟨31, 31, .ro, 0⟩, ⟨15, 0, .ro, 0⟩]⟩,
  -- CAL.TEMP[s] (R811)
  ⟨0xa40, [(0x4, 8)], [⟨15, 0, .ro, 0⟩]⟩,
  -- PSC[w].LEDGER (R295)
  ⟨0x10000, [(0x1000, 2)], [⟨27, 16, .ro, 0⟩, ⟨11, 0, .ro, 0x78⟩]⟩,
  -- PSC[w].HOST_RES (R295)
  ⟨0x10004, [(0x1000, 2)], [⟨8, 0, .ro, 0x78⟩]⟩,
  -- PSC[w].LINK (R296)
  ⟨0x10008, [(0x1000, 2)], [⟨31, 31, .ro, 0⟩, ⟨30, 30, .ro, 0⟩, ⟨29, 29, .ro, 0⟩, ⟨23, 16, .ro, 0⟩, ⟨2, 0, .ro, 0⟩]⟩,
  -- PSC[w].ECC_CNT (R297)
  ⟨0x1000c, [(0x1000, 2)], [⟨31, 16, .rc, 0⟩, ⟨15, 0, .rc, 0⟩]⟩,
  -- PSC[w].STAT (R298)
  ⟨0x10010, [(0x1000, 2)], [⟨31, 31, .w1c, 0⟩, ⟨30, 30, .w1c, 0⟩, ⟨29, 29, .w1c, 0⟩, ⟨28, 28, .w1c, 0⟩, ⟨27, 27, .w1c, 0⟩, ⟨23, 16, .ro, 0⟩, ⟨15, 8, .ro, 0⟩, ⟨7, 0, .ro, 0⟩]⟩,
  -- PSC[w].FAULT_ADDR_LO (R299)
  ⟨0x10014, [(0x1000, 2)], [⟨31, 0, .ro, 0⟩]⟩,
  -- PSC[w].FAULT_ADDR_HI (R299)
  ⟨0x10018, [(0x1000, 2)], [⟨31, 0, .ro, 0⟩]⟩]

/-- The registers of the block `errata`. -/
def errataRows : List RegRow := [
  -- ERR.STAT (R982)
  ⟨0x0, [], [⟨31, 31, .ps, 0⟩, ⟨30, 30, .w1c, 0⟩, ⟨29, 29, .w1c, 0⟩, ⟨28, 28, .w1c, 0⟩, ⟨27, 27, .w1c, 0⟩, ⟨24, 16, .ro, 0⟩, ⟨15, 15, .w1c, 0⟩, ⟨7, 0, .rc, 0⟩]⟩,
  -- ERR.IRQ (R983)
  ⟨0x4, [], [⟨1, 1, .w1c, 0⟩, ⟨0, 0, .w1c, 0⟩]⟩,
  -- ERR.REACT[i] (R983)
  ⟨0x10, [(0x4, 4)], [⟨16, 0, .rw, 0x3e8⟩]⟩,
  -- ERR.SUM[k] (R983)
  ⟨0x40, [(0x4, 12)], [⟨31, 0, .ro, 0⟩]⟩,
  -- ERR.PEND[k] (R983)
  ⟨0x80, [(0x4, 12)], [⟨31, 0, .ro, 0⟩]⟩,
  -- ERR.ACCESS_LO (R983)
  ⟨0xc0, [], [⟨31, 0, .ro, 0⟩]⟩,
  -- ERR.ACCESS_HI (R983)
  ⟨0xc4, [], [⟨31, 30, .ro, 0⟩, ⟨29, 28, .ro, 0⟩, ⟨3, 0, .ro, 0⟩]⟩,
  -- ERR.SRC[n] (R981)
  ⟨0x1000, [(0x4, 384)], [⟨31, 31, .w1c, 0⟩, ⟨30, 30, .ro, 0⟩, ⟨29, 29, .ro, 0⟩, ⟨28, 28, .ro, 0⟩, ⟨27, 27, .ro, 0⟩, ⟨26, 26, .rw, 0⟩, ⟨25, 25, .wo, 0⟩, ⟨24, 24, .rw, 1⟩, ⟨23, 22, .rw, 0⟩, ⟨21, 20, .rw, 0⟩, ⟨19, 18, .ro, 0⟩, ⟨17, 17, .ro, 0⟩, ⟨16, 16, .w1c, 0⟩, ⟨15, 8, .rc, 0⟩, ⟨7, 0, .ro, 0⟩]⟩,
  -- ERR.RESET[d] (R984)
  ⟨0x3000, [(0x4, 224)], [⟨31, 31, .ro, 0⟩, ⟨30, 30, .ro, 0⟩, ⟨23, 16, .rc, 0⟩, ⟨15, 8, .rc, 0⟩, ⟨7, 0, .ro, 0⟩]⟩]

/-- The registers of the block `clocking`. -/
def clockingRows : List RegRow := [
  -- CLK.PLL_CTL (R180)
  ⟨0x0, [], [⟨31, 31, .wo, 0⟩, ⟨30, 30, .wo, 0⟩, ⟨23, 23, .rw, 0⟩, ⟨22, 22, .rw, 1⟩, ⟨21, 21, .rw, 1⟩, ⟨19, 16, .rw, 0⟩, ⟨15, 0, .rw, 0x2710⟩]⟩,
  -- CLK.PLL_STAT (R181)
  ⟨0x4, [], [⟨31, 31, .w1c, 0⟩, ⟨30, 30, .w1c, 0⟩, ⟨29, 29, .w1c, 0⟩, ⟨28, 28, .w1c, 0⟩, ⟨27, 27, .w1c, 0⟩, ⟨26, 26, .w1c, 0⟩, ⟨25, 25, .w1c, 0⟩, ⟨24, 24, .w1c, 0⟩, ⟨23, 20, .ro, 0⟩, ⟨15, 8, .ro, 0⟩, ⟨2, 0, .ro, 0⟩]⟩,
  -- CLK.DITHER (R182)
  ⟨0x8, [], [⟨31, 31, .rw, 1⟩, ⟨23, 0, .rw, 0x3c96a5⟩]⟩,
  -- CLK.OCW (R183)
  ⟨0xc, [], [⟨31, 31, .ro, 0⟩, ⟨21, 16, .ro, 0⟩, ⟨15, 0, .ro, 0x8000⟩]⟩,
  -- CLK.REF_MEAS (R184)
  ⟨0x10, [], [⟨17, 0, .ro, 0⟩]⟩,
  -- CLK.ANCHOR_LO (R185)
  ⟨0x18, [], [⟨31, 0, .ro, 0⟩]⟩,
  -- CLK.ANCHOR_HI (R185)
  ⟨0x1c, [], [⟨31, 0, .ro, 0⟩]⟩,
  -- CLK.BAND[k].RANGE (R186)
  ⟨0x100, [(0x10, 16)], [⟨31, 16, .rw, 0⟩, ⟨15, 0, .rw, 0⟩]⟩,
  -- CLK.BAND[k].DIV (R186)
  ⟨0x104, [(0x10, 16)], [⟨31, 31, .rw, 0⟩, ⟨27, 24, .rw, 0⟩, ⟨8, 0, .rw, 0⟩]⟩,
  -- CLK.BAND[k].FRAC (R186)
  ⟨0x108, [(0x10, 16)], [⟨31, 16, .rw, 0⟩, ⟨15, 0, .rw, 1⟩]⟩,
  -- CLK.BAND[k].DCO (R186)
  ⟨0x10c, [(0x10, 16)], [⟨21, 16, .rw, 0x20⟩, ⟨11, 8, .rw, 6⟩, ⟨3, 0, .rw, 3⟩]⟩,
  -- TLL[s].STAT (R187)
  ⟨0x200, [(0x10, 8)], [⟨18, 18, .w1c, 0⟩, ⟨17, 17, .ro, 0⟩, ⟨16, 16, .ro, 0⟩, ⟨11, 0, .ro, 0x800⟩]⟩,
  -- TLL[s].ERR (R187)
  ⟨0x204, [(0x10, 8)], [⟨15, 0, .ro, 0⟩]⟩,
  -- TLL[s].REPAIR (R187)
  ⟨0x208, [(0x10, 8)], [⟨31, 24, .rwl, 0⟩, ⟨23, 16, .rwl, 0⟩, ⟨15, 8, .rwl, 0⟩, ⟨7, 0, .rwl, 0⟩]⟩,
  -- CLKOUT[n].DIV (R188)
  ⟨0x300, [(0x10, 4)], [⟨31, 20, .rw, 0xf⟩, ⟨19, 0, .rw, 0⟩]⟩,
  -- CLKOUT[n].CTL (R188)
  ⟨0x304, [(0x10, 4)], [⟨31, 31, .ro, 0⟩, ⟨16, 16, .rw, 1⟩, ⟨12, 12, .rw, 0⟩, ⟨11, 0, .rw, 0⟩]⟩,
  -- CLKOUT[n].DIV_ACT (R188)
  ⟨0x308, [(0x10, 4)], [⟨31, 20, .ro, 0xf⟩, ⟨19, 0, .ro, 0⟩]⟩,
  -- CLK.OUT_UPDATE (R189)
  ⟨0x340, [], [⟨31, 31, .wo, 0⟩, ⟨3, 3, .w1c, 0⟩, ⟨2, 2, .w1c, 0⟩, ⟨1, 1, .rw, 0⟩, ⟨0, 0, .ro, 0⟩]⟩]

/-- The registers of the block `ruling`. -/
def rulingRows : List RegRow := [
  -- RUL.CTL (R239)
  ⟨0x0, [], [⟨31, 31, .wo, 0⟩, ⟨23, 16, .rw, 0x1f⟩, ⟨1, 0, .rw, 0⟩]⟩,
  -- RUL.STAT (R240)
  ⟨0x4, [], [⟨31, 31, .w1c, 0⟩, ⟨30, 30, .w1c, 0⟩, ⟨29, 29, .w1c, 0⟩, ⟨28, 28, .w1c, 0⟩, ⟨27, 27, .w1c, 0⟩, ⟨26, 26, .w1c, 0⟩, ⟨25, 25, .w1c, 0⟩, ⟨24, 24, .w1c, 0⟩, ⟨23, 19, .ro, 0⟩, ⟨15, 11, .ro, 0⟩, ⟨7, 3, .ro, 0⟩, ⟨2, 0, .ro, 0⟩]⟩,
  -- RUL.OFFSET_LO (R241)
  ⟨0x8, [], [⟨31, 0, .ro, 0⟩]⟩,
  -- RUL.OFFSET_HI (R241)
  ⟨0xc, [], [⟨31, 0, .ro, 0⟩]⟩,
  -- RUL.HOP (R242)
  ⟨0x10, [], [⟨31, 31, .rw, 0⟩, ⟨15, 0, .rw, 0⟩]⟩,
  -- RUL.HOP_OUT (R242)
  ⟨0x14, [], [⟨31, 31, .ro, 0⟩, ⟨18, 16, .ro, 0⟩, ⟨15, 0, .ro, 0⟩]⟩,
  -- RUL.RT (R242)
  ⟨0x18, [], [⟨31, 0, .ro, 0⟩]⟩,
  -- RUL.CLOSURE (R242)
  ⟨0x1c, [], [⟨15, 0, .ro, 0⟩]⟩,
  -- RUL.CHAIN_LAT (R242)
  ⟨0x20, [], [⟨15, 0, .rw, 0x4e20⟩]⟩,
  -- RUL.CRC_CNT (R242)
  ⟨0x24, [], [⟨31, 16, .rc, 0⟩, ⟨15, 0, .rc, 0⟩]⟩,
  -- RUL.ENS[k] (R243)
  ⟨0x40, [(0x4, 4)], [⟨31, 31, .rw, 0⟩, ⟨7, 0, .rw, 0⟩]⟩,
  -- RUL.ENS_DEV[k] (R243)
  ⟨0x50, [(0x4, 4)], [⟨31, 0, .rw, 0⟩]⟩]

/-- The registers of the block `quill`. -/
def quillRows : List RegRow := [
  -- QL.STAT (R1021)
  ⟨0x0, [], [⟨31, 31, .w1c, 0⟩, ⟨30, 30, .w1c, 0⟩, ⟨29, 29, .ro, 0⟩, ⟨28, 28, .ro, 0⟩, ⟨18, 16, .ro, 1⟩]⟩,
  -- QL.QSEC_LO (R1022)
  ⟨0x8, [], [⟨31, 0, .ro, 0⟩]⟩,
  -- QL.QSEC_HI (R1022)
  ⟨0xc, [], [⟨15, 0, .ro, 0⟩]⟩,
  -- QL.CTL (R1023)
  ⟨0x10, [], [⟨31, 31, .wo, 0⟩, ⟨7, 0, .wo, 0⟩]⟩,
  -- QL.REST (R1024)
  ⟨0x20, [], [⟨5, 4, .ro, 0⟩, ⟨1, 0, .rw, 3⟩]⟩,
  -- QL.WAKE (R1024)
  ⟨0x24, [], [⟨31, 31, .ro, 0⟩, ⟨12, 8, .rw, 0x1f⟩, ⟨2, 0, .ro, 0⟩]⟩,
  -- QL.WAKE_IN (R1024)
  ⟨0x28, [], [⟨31, 0, .ro, 0⟩]⟩,
  -- QL.ILK.CTL (R1025)
  ⟨0x40, [], [⟨31, 31, .wo, 0⟩, ⟨13, 0, .rw, 0x3e8⟩]⟩,
  -- QL.ILK.STAT (R1025)
  ⟨0x44, [], [⟨31, 31, .w1c, 0⟩, ⟨30, 30, .w1c, 0⟩, ⟨21, 21, .ro, 0⟩, ⟨20, 20, .ro, 0⟩, ⟨18, 16, .ro, 6⟩, ⟨13, 0, .ro, 0⟩]⟩,
  -- QL.THERM (R1026)
  ⟨0x50, [], [⟨15, 0, .rw, 0x1b80⟩]⟩,
  -- QL.TEMP (R1026)
  ⟨0x54, [], [⟨31, 16, .ro, 0⟩, ⟨15, 0, .ro, 0x8000⟩]⟩,
  -- QL.AUX[n] (R1026)
  ⟨0x60, [(0x4, 8)], [⟨11, 0, .ro, 0⟩]⟩,
  -- QL.RULE[k].CFG (R1027)
  ⟨0x100, [(0x8, 16)], [⟨31, 31, .rw, 0⟩, ⟨30, 30, .rw, 0⟩, ⟨24, 20, .rw, 0⟩, ⟨19, 16, .rw, 0⟩, ⟨15, 8, .rw, 1⟩]⟩,
  -- QL.RULE[k].LEVEL (R1027)
  ⟨0x104, [(0x8, 16)], [⟨31, 16, .rw, 0⟩, ⟨15, 0, .rw, 0⟩]⟩,
  -- QL.RULE_STAT (R1027)
  ⟨0x180, [], [⟨15, 0, .w1c, 0⟩]⟩,
  -- QL.EVT.PTR (R1028)
  ⟨0x200, [], [⟨21, 16, .ro, 0⟩, ⟨5, 0, .rw, 0⟩]⟩,
  -- QL.EVT.ENTRY[i].W[j] (R1028)
  ⟨0x1000, [(0x10, 64), (0x4, 4)], [⟨31, 0, .ro, 0⟩]⟩]

/-- The registers of the block `lectern`. -/
def lecternRows : List RegRow := [
  -- LEC.STAT (R861)
  ⟨0x0, [], [⟨31, 31, .ro, 0⟩, ⟨30, 30, .ro, 0⟩, ⟨15, 8, .ro, 0⟩, ⟨5, 0, .ro, 0⟩]⟩,
  -- LEC.STALE (R861)
  ⟨0x4, [], [⟨31, 0, .rc, 0⟩]⟩]

/-- The registers of the block `copyist`. -/
def copyistRows : List RegRow := [
  -- CPY.CTL (R913)
  ⟨0x0, [], [⟨15, 0, .rw, 0⟩]⟩,
  -- CPY.DONE (R913)
  ⟨0x4, [], [⟨31, 0, .w1c, 0⟩]⟩,
  -- CPY.ERR (R913)
  ⟨0x8, [], [⟨31, 0, .w1c, 0⟩]⟩,
  -- CPY.DIRQ (R913)
  ⟨0xc, [], [⟨31, 0, .w1c, 0⟩]⟩,
  -- CPY.LECT (R913)
  ⟨0x10, [], [⟨31, 0, .ro, 0⟩]⟩,
  -- CPY.STALE (R913)
  ⟨0x14, [], [⟨31, 0, .rc, 0⟩]⟩,
  -- CPY.EVT_PEND[k] (R913)
  ⟨0x20, [(0x4, 8)], [⟨31, 0, .w1c, 0⟩]⟩,
  -- CH[c].CTL (R914)
  ⟨0x1000, [(0x40, 32)], [⟨31, 31, .wo, 0⟩, ⟨30, 30, .wo, 0⟩, ⟨29, 29, .wo, 0⟩, ⟨28, 28, .rw, 0⟩, ⟨27, 27, .rw, 0⟩, ⟨1, 0, .rw, 0⟩]⟩,
  -- CH[c].PROG_LO (R914)
  ⟨0x1004, [(0x40, 32)], [⟨31, 0, .rw, 0⟩]⟩,
  -- CH[c].PROG_HI (R914)
  ⟨0x1008, [(0x40, 32)], [⟨31, 0, .rw, 0⟩]⟩,
  -- CH[c].STAT (R914)
  ⟨0x100c, [(0x40, 32)], [⟨31, 31, .w1c, 0⟩, ⟨30, 30, .w1c, 0⟩, ⟨26, 24, .ro, 0⟩, ⟨23, 16, .ro, 0⟩, ⟨15, 0, .ro, 0⟩]⟩,
  -- CH[c].PC_LO (R914)
  ⟨0x1010, [(0x40, 32)], [⟨31, 0, .ro, 0⟩]⟩,
  -- CH[c].PC_HI (R914)
  ⟨0x1014, [(0x40, 32)], [⟨31, 0, .ro, 0⟩]⟩,
  -- CH[c].DONE_BYTES (R914)
  ⟨0x1018, [(0x40, 32)], [⟨31, 0, .ro, 0⟩]⟩,
  -- CH[c].COUNTS (R914)
  ⟨0x101c, [(0x40, 32)], [⟨31, 16, .ro, 0⟩, ⟨15, 0, .ro, 0⟩]⟩,
  -- CH[c].ERR_ADDR_LO (R914)
  ⟨0x1020, [(0x40, 32)], [⟨31, 0, .ro, 0⟩]⟩,
  -- CH[c].ERR_ADDR_HI (R914)
  ⟨0x1024, [(0x40, 32)], [⟨31, 0, .ro, 0⟩]⟩,
  -- CH[c].EST (R914)
  ⟨0x1028, [(0x40, 32)], [⟨15, 0, .ro, 0⟩]⟩]

/-- The registers of the block `vault`. -/
def vaultRows : List RegRow := [
  -- VAULT.LC (R841)
  ⟨0x0, [], [⟨3, 0, .ro, 0⟩]⟩,
  -- VAULT.SEAL_CNT (R841)
  ⟨0x4, [], [⟨31, 0, .ro, 0⟩]⟩,
  -- VAULT.COL_HEAD (R842)
  ⟨0x8, [], [⟨31, 0, .ro, 0⟩]⟩,
  -- VAULT.COL_FIRST (R842)
  ⟨0xc, [], [⟨31, 0, .ro, 0⟩]⟩,
  -- VAULT.COL_FREE (R842)
  ⟨0x10, [], [⟨13, 0, .ro, 0⟩]⟩,
  -- VAULT.STAT (R843)
  ⟨0x14, [], [⟨31, 31, .ro, 0⟩, ⟨30, 30, .ro, 0⟩, ⟨29, 29, .ro, 0⟩, ⟨28, 28, .ps, 0⟩, ⟨27, 27, .ps, 0⟩, ⟨1, 0, .ro, 0⟩]⟩,
  -- VAULT.VERDICT (R844)
  ⟨0x18, [], [⟨31, 31, .ro, 0⟩, ⟨30, 30, .ro, 0⟩, ⟨17, 16, .ro, 2⟩, ⟨9, 0, .ro, 0⟩]⟩,
  -- VAULT.FW (R844)
  ⟨0x1c, [], [⟨31, 31, .ro, 0⟩, ⟨30, 30, .ro, 0⟩, ⟨23, 20, .ro, 0⟩, ⟨19, 16, .ro, 0⟩, ⟨15, 8, .ro, 0⟩, ⟨7, 0, .ro, 0⟩]⟩,
  -- VAULT.CHAIN[i] (R842)
  ⟨0x20, [(0x4, 4)], [⟨31, 0, .ro, 0⟩]⟩]

/-- The registers of the block `debug`. -/
def debugRows : List RegRow := [
  -- DEBUG.STATUS (R1056)
  ⟨0x0, [], [⟨31, 31, .w1c, 0⟩, ⟨30, 30, .w1c, 0⟩, ⟨29, 29, .ro, 0⟩, ⟨28, 28, .ro, 0⟩, ⟨3, 0, .ro, 0⟩]⟩,
  -- DEBUG.LEC_CTL (R1056)
  ⟨0x4, [], [⟨2, 2, .wo, 0⟩, ⟨1, 1, .wo, 0⟩, ⟨0, 0, .wo, 0⟩]⟩,
  -- DEBUG.INJ[i].CTL (R1057)
  ⟨0x100, [(0x10, 4)], [⟨31, 31, .rw, 0⟩, ⟨9, 8, .rw, 0⟩, ⟨7, 0, .rw, 0⟩]⟩,
  -- DEBUG.INJ[i].RATE (R1057)
  ⟨0x104, [(0x10, 4)], [⟨31, 0, .rw, 0⟩]⟩,
  -- DEBUG.INJ[i].SEED (R1057)
  ⟨0x108, [(0x10, 4)], [⟨31, 0, .rw, 1⟩]⟩,
  -- DEBUG.INJ[i].COUNT (R1057)
  ⟨0x10c, [(0x10, 4)], [⟨31, 0, .rc, 0⟩]⟩]

/-- The registers of the block `scribe`. -/
def scribeRows : List RegRow := [
  -- SCRIBE[s].CTL (R362)
  ⟨0x0, [], [⟨31, 31, .wo, 0⟩, ⟨30, 30, .wo, 0⟩, ⟨16, 16, .rw, 0⟩]⟩,
  -- SCRIBE[s].CFG (R363)
  ⟨0x4, [], [⟨11, 11, .rw, 0⟩, ⟨10, 10, .rw, 1⟩, ⟨2, 0, .rw, 0⟩]⟩,
  -- SCRIBE[s].START_ADDR (R364)
  ⟨0x8, [], [⟨29, 0, .rw, 0⟩]⟩,
  -- SCRIBE[s].STAT (R365)
  ⟨0xc, [], [⟨31, 31, .w1c, 0⟩, ⟨30, 30, .w1c, 0⟩, ⟨29, 29, .w1c, 0⟩, ⟨28, 28, .w1c, 0⟩, ⟨27, 27, .w1c, 0⟩, ⟨26, 26, .w1c, 0⟩, ⟨23, 20, .ro, 0⟩, ⟨19, 16, .ro, 0⟩, ⟨2, 0, .ro, 0⟩]⟩,
  -- SCRIBE[s].LINE_PTR (R366)
  ⟨0x10, [], [⟨29, 0, .ro, 0⟩]⟩,
  -- SCRIBE[s].HALT_CODE (R366)
  ⟨0x14, [], [⟨31, 0, .ro, 0⟩]⟩,
  -- SCRIBE[s].VEC_IDX_LO (R366)
  ⟨0x18, [], [⟨31, 0, .ro, 0⟩]⟩,
  -- SCRIBE[s].VEC_IDX_HI (R366)
  ⟨0x1c, [], [⟨31, 0, .ro, 0⟩]⟩,
  -- SCRIBE[s].CNT[n] (R366)
  ⟨0x20, [(0x4, 4)], [⟨31, 0, .rw, 0⟩]⟩,
  -- SCRIBE[s].CMASK_LO (R366)
  ⟨0x30, [], [⟨31, 0, .rw, 0xffffffff⟩]⟩,
  -- SCRIBE[s].CMASK_HI (R366)
  ⟨0x34, [], [⟨31, 0, .rw, 0xffffffff⟩]⟩,
  -- SCRIBE[s].DEPTH (R367)
  ⟨0x38, [], [⟨24, 24, .ro, 0⟩, ⟨20, 16, .ro, 0⟩, ⟨11, 8, .ro, 0⟩, ⟨7, 0, .ro, 0⟩]⟩,
  -- SCRIBE[s].FAULT (R368)
  ⟨0x3c, [], [⟨8, 8, .w1c, 0⟩, ⟨7, 7, .w1c, 0⟩, ⟨6, 6, .w1c, 0⟩, ⟨5, 5, .w1c, 0⟩, ⟨4, 4, .w1c, 0⟩, ⟨3, 3, .w1c, 0⟩, ⟨2, 2, .w1c, 0⟩, ⟨1, 1, .w1c, 0⟩, ⟨0, 0, .w1c, 0⟩]⟩,
  -- SCRIBE[s].FAULT_ADDR (R366)
  ⟨0x40, [], [⟨29, 0, .ro, 0⟩]⟩,
  -- SCRIBE[s].EVT_PEND[k] (R366)
  ⟨0x50, [(0x4, 8)], [⟨31, 0, .w1c, 0⟩]⟩,
  -- PEN[s].CTL (R410)
  ⟨0x80, [], [⟨1, 1, .rw, 1⟩, ⟨0, 0, .rw, 0⟩]⟩,
  -- PEN[s].STAT (R411)
  ⟨0x84, [], [⟨31, 31, .w1c, 0⟩, ⟨30, 30, .w1c, 0⟩, ⟨29, 29, .w1c, 0⟩, ⟨28, 28, .w1c, 0⟩, ⟨25, 25, .ro, 0⟩, ⟨24, 24, .ro, 0⟩, ⟨23, 23, .ro, 0⟩, ⟨20, 12, .ro, 0⟩, ⟨11, 0, .ro, 0⟩]⟩,
  -- PEN[s].LANDS (R412)
  ⟨0x88, [], [⟨31, 16, .rc, 0⟩, ⟨15, 0, .rc, 0⟩]⟩,
  -- PEN[s].ERASED (R413)
  ⟨0x8c, [], [⟨31, 0, .rc, 0⟩]⟩,
  -- PEN[s].HELD_EVT[k] (R414)
  ⟨0x90, [(0x4, 8)], [⟨31, 0, .ro, 0⟩]⟩,
  -- LVL[s].CTL (R612)
  ⟨0xc0, [], [⟨0, 0, .rw, 0⟩]⟩,
  -- LVL[s].STAT (R612)
  ⟨0xc4, [], [⟨31, 31, .w1c, 0⟩, ⟨30, 30, .w1c, 0⟩, ⟨15, 0, .rc, 0⟩]⟩]

/-- The registers of the block `marginalia`. -/
def marginaliaRows : List RegRow := [
  -- MARG[s].CFG (R656)
  ⟨0x0, [], [⟨31, 31, .rw, 0⟩, ⟨30, 30, .rw, 0⟩, ⟨29, 29, .rw, 0⟩, ⟨28, 28, .rw, 0⟩, ⟨27, 27, .rw, 0⟩, ⟨26, 26, .rw, 0⟩, ⟨2, 0, .rw, 0⟩]⟩,
  -- MARG[s].STAT (R657)
  ⟨0x4, [], [⟨31, 31, .w1c, 0⟩, ⟨30, 30, .ro, 0⟩, ⟨29, 29, .w1c, 0⟩, ⟨28, 28, .w1c, 0⟩, ⟨27, 27, .w1c, 0⟩, ⟨26, 26, .w1c, 0⟩, ⟨25, 25, .w1c, 0⟩, ⟨24, 24, .w1c, 0⟩, ⟨23, 23, .w1c, 0⟩, ⟨22, 22, .ro, 0⟩, ⟨19, 16, .ro, 0⟩, ⟨15, 12, .ro, 0⟩, ⟨7, 0, .ro, 0⟩]⟩,
  -- MARG[s].RMASK_LO (R658)
  ⟨0x8, [], [⟨31, 0, .rw, 0xffffffff⟩]⟩,
  -- MARG[s].RMASK_HI (R658)
  ⟨0xc, [], [⟨31, 0, .rw, 0xffffffff⟩]⟩,
  -- MARG[s].FIRST_N (R658)
  ⟨0x10, [], [⟨31, 0, .rw, 0⟩]⟩,
  -- MARG[s].STOP_N (R658)
  ⟨0x14, [], [⟨31, 0, .rw, 0⟩]⟩,
  -- MARG[s].PIN_N (R658)
  ⟨0x18, [], [⟨31, 0, .rw, 0⟩]⟩,
  -- MARG[s].NEAR_THR (R658)
  ⟨0x1c, [], [⟨29, 0, .rw, 0x1000⟩]⟩,
  -- MARG[s].BUF (R659)
  ⟨0x20, [], [⟨15, 0, .rw, 0x20⟩]⟩,
  -- MARG[s].WPTR (R660)
  ⟨0x24, [], [⟨31, 31, .ro, 0⟩, ⟨29, 0, .ro, 0⟩]⟩,
  -- MARG[s].RPTR (R660)
  ⟨0x28, [], [⟨31, 31, .rw, 0⟩, ⟨29, 0, .rw, 0⟩]⟩,
  -- MARG[s].RES (R661)
  ⟨0x2c, [], [⟨31, 16, .ro, 0⟩, ⟨15, 0, .ro, 0⟩]⟩,
  -- MARG[s].FVEC_LO (R662)
  ⟨0x30, [], [⟨31, 0, .ro, 0⟩]⟩,
  -- MARG[s].FVEC_HI (R662)
  ⟨0x34, [], [⟨31, 0, .ro, 0⟩]⟩,
  -- MARG[s].RVEC_LO (R662)
  ⟨0x38, [], [⟨31, 0, .ro, 0⟩]⟩,
  -- MARG[s].RVEC_HI (R662)
  ⟨0x3c, [], [⟨31, 0, .ro, 0⟩]⟩,
  -- MARG[s].FIRST_LO (R662)
  ⟨0x40, [], [⟨31, 0, .ro, 0⟩]⟩,
  -- MARG[s].FIRST_HI (R662)
  ⟨0x44, [], [⟨31, 31, .ro, 0⟩, ⟨21, 16, .ro, 0⟩, ⟨15, 0, .ro, 0⟩]⟩,
  -- MARG[s].LOST (R662)
  ⟨0x48, [], [⟨31, 0, .ro, 0⟩]⟩,
  -- MARG[s].RECS (R662)
  ⟨0x4c, [], [⟨31, 0, .ro, 0⟩]⟩,
  -- MARG[s].AGED_LO (R662)
  ⟨0x50, [], [⟨31, 0, .ro, 0⟩]⟩,
  -- MARG[s].AGED_HI (R662)
  ⟨0x54, [], [⟨31, 0, .ro, 0⟩]⟩,
  -- MARG[s].CLR (R663)
  ⟨0x58, [], [⟨0, 0, .wo, 0⟩]⟩,
  -- MARG[s].PIN[k].PCNT (R664)
  ⟨0x1000, [(0x10, 64)], [⟨31, 0, .ro, 0⟩]⟩,
  -- MARG[s].PIN[k].PFIRST_LO (R664)
  ⟨0x1004, [(0x10, 64)], [⟨31, 0, .ro, 0⟩]⟩,
  -- MARG[s].PIN[k].PFIRST_HI (R664)
  ⟨0x1008, [(0x10, 64)], [⟨31, 31, .ro, 0⟩, ⟨30, 30, .ro, 0⟩, ⟨29, 28, .ro, 0⟩, ⟨27, 27, .ro, 0⟩, ⟨15, 0, .ro, 0⟩]⟩]

/-- The registers of the block `blotter`. -/
def blotterRows : List RegRow := [
  -- BLOT[s].CFG (R702)
  ⟨0x0, [], [⟨31, 31, .rw, 0⟩, ⟨30, 30, .rw, 0⟩, ⟨29, 29, .rw, 0⟩, ⟨26, 24, .rw, 6⟩, ⟨17, 16, .rw, 0⟩, ⟨1, 0, .rw, 0⟩]⟩,
  -- BLOT[s].STAT (R703)
  ⟨0x4, [], [⟨31, 31, .w1c, 0⟩, ⟨30, 30, .w1c, 0⟩, ⟨29, 29, .w1c, 0⟩, ⟨28, 28, .w1c, 0⟩, ⟨27, 27, .w1c, 0⟩, ⟨26, 26, .w1c, 0⟩, ⟨25, 25, .w1c, 0⟩, ⟨24, 24, .w1c, 0⟩, ⟨23, 23, .ro, 0⟩, ⟨22, 22, .ro, 0⟩, ⟨21, 19, .ro, 0⟩, ⟨15, 12, .ro, 0⟩, ⟨7, 0, .ro, 0⟩]⟩,
  -- BLOT[s].CAPMASK_LO (R704)
  ⟨0x8, [], [⟨31, 0, .rw, 0xffffffff⟩]⟩,
  -- BLOT[s].CAPMASK_HI (R704)
  ⟨0xc, [], [⟨31, 0, .rw, 0xffffffff⟩]⟩,
  -- BLOT[s].RED (R704)
  ⟨0x10, [], [⟨28, 16, .rw, 0x800⟩, ⟨12, 0, .rw, 0x200⟩]⟩,
  -- BLOT[s].WPTR (R704)
  ⟨0x14, [], [⟨31, 31, .ro, 0⟩, ⟨30, 0, .ro, 0⟩]⟩,
  -- BLOT[s].RPTR (R704)
  ⟨0x18, [], [⟨31, 31, .rw, 0⟩, ⟨30, 0, .rw, 0⟩]⟩,
  -- BLOT[s].TRIG_POS (R704)
  ⟨0x1c, [], [⟨30, 0, .ro, 0⟩]⟩,
  -- BLOT[s].HBASE_LO (R704)
  ⟨0x20, [], [⟨31, 0, .rw, 0⟩]⟩,
  -- BLOT[s].HBASE_HI (R704)
  ⟨0x24, [], [⟨31, 0, .rw, 0⟩]⟩,
  -- BLOT[s].HSIZE (R704)
  ⟨0x28, [], [⟨31, 0, .rw, 0x1000⟩]⟩,
  -- BLOT[s].POST_N (R704)
  ⟨0x2c, [], [⟨23, 0, .rw, 0⟩]⟩,
  -- BLOT[s].LOST (R704)
  ⟨0x30, [], [⟨31, 0, .rc, 0⟩]⟩,
  -- BLOT[s].RECS (R704)
  ⟨0x34, [], [⟨31, 0, .rc, 0⟩]⟩,
  -- BLOT[s].FILL (R704)
  ⟨0x38, [], [⟨28, 16, .rc, 0⟩, ⟨12, 0, .ro, 0⟩]⟩,
  -- BLOT[s].CTL (R703)
  ⟨0x3c, [], [⟨31, 31, .wo, 0⟩]⟩,
  -- BLOT[s].TRG[k].CTL (R705)
  ⟨0x100, [(0x40, 8)], [⟨31, 31, .rw, 0⟩, ⟨30, 30, .rw, 0⟩, ⟨29, 29, .rw, 0⟩, ⟨28, 28, .rw, 0⟩, ⟨27, 26, .rw, 0⟩, ⟨19, 16, .rw, 0⟩, ⟨15, 0, .rw, 1⟩]⟩,
  -- BLOT[s].TRG[k].CNT (R705)
  ⟨0x104, [(0x40, 8)], [⟨31, 0, .ro, 0⟩]⟩,
  -- BLOT[s].TRG[k].SET[i] (R705)
  ⟨0x108, [(0x40, 8), (0x4, 8)], [⟨31, 0, .rw, 0xffffffff⟩]⟩,
  -- BLOT[s].MSK[m].CTL (R706)
  ⟨0x400, [(0x40, 4)], [⟨31, 30, .rw, 0⟩, ⟨29, 29, .rw, 0⟩, ⟨28, 28, .rw, 0⟩, ⟨19, 16, .rw, 0⟩, ⟨15, 0, .rw, 0⟩]⟩,
  -- BLOT[s].MSK[m].UI (R706)
  ⟨0x404, [(0x40, 4)], [⟨15, 0, .rw, 0x180⟩]⟩,
  -- BLOT[s].MSK[m].WIN (R706)
  ⟨0x408, [(0x40, 4)], [⟨31, 16, .rw, 0x100⟩, ⟨15, 0, .rw, 0x80⟩]⟩,
  -- BLOT[s].MSK[m].PMASK_LO (R706)
  ⟨0x40c, [(0x40, 4)], [⟨31, 0, .rw, 0⟩]⟩,
  -- BLOT[s].MSK[m].PMASK_HI (R706)
  ⟨0x410, [(0x40, 4)], [⟨31, 0, .rw, 0⟩]⟩,
  -- BLOT[s].MSK[m].WCNT (R706)
  ⟨0x414, [(0x40, 4)], [⟨31, 0, .ro, 0⟩]⟩,
  -- BLOT[s].MSK[m].VCNT (R706)
  ⟨0x418, [(0x40, 4)], [⟨31, 0, .ro, 0⟩]⟩,
  -- BLOT[s].MSK[m].FIRST_LO (R706)
  ⟨0x41c, [(0x40, 4)], [⟨31, 0, .ro, 0⟩]⟩,
  -- BLOT[s].MSK[m].FIRST_HI (R706)
  ⟨0x420, [(0x40, 4)], [⟨31, 31, .ro, 0⟩, ⟨30, 30, .w1c, 0⟩, ⟨21, 16, .ro, 0⟩, ⟨9, 0, .ro, 0⟩]⟩]

/-- The registers of the block `store`. -/
def storeRows : List RegRow := [
  -- SS[s].BANK[b] (R946)
  ⟨0x0, [(0x4, 16)], [⟨31, 31, .ro, 0⟩, ⟨30, 30, .ro, 0⟩, ⟨29, 29, .ro, 0⟩, ⟨15, 8, .wo, 0⟩, ⟨7, 0, .ro, 0⟩]⟩,
  -- SS[s].GUEST (R947)
  ⟨0x40, [], [⟨7, 0, .rw, 0xff⟩]⟩,
  -- SS[s].STAT (R948)
  ⟨0x44, [], [⟨31, 31, .w1c, 0⟩, ⟨30, 30, .w1c, 0⟩, ⟨29, 29, .w1c, 0⟩, ⟨28, 28, .w1c, 0⟩, ⟨27, 27, .w1c, 0⟩, ⟨26, 26, .w1c, 0⟩, ⟨25, 25, .w1c, 0⟩, ⟨15, 0, .ro, 0⟩]⟩,
  -- SS[s].ECC (R949)
  ⟨0x48, [], [⟨31, 16, .rc, 0⟩, ⟨15, 0, .rc, 0⟩]⟩,
  -- SS[s].FAULT_ADDR (R949)
  ⟨0x4c, [], [⟨22, 0, .ro, 0⟩]⟩,
  -- SS[s].REPAIR[b] (R950)
  ⟨0x80, [(0x4, 16)], [⟨11, 8, .ro, 0⟩, ⟨7, 4, .ro, 0⟩, ⟨3, 0, .ro, 0⟩]⟩,
  -- PS[s].VEC_WIN (R290)
  ⟨0x1000, [], [⟨24, 16, .rw, 0x60⟩, ⟨8, 0, .rw, 0⟩]⟩,
  -- PS[s].FAIL_WIN (R290)
  ⟨0x1004, [], [⟨24, 16, .rw, 0x60⟩, ⟨8, 0, .rw, 0⟩]⟩,
  -- PS[s].CAP_WIN (R290)
  ⟨0x1008, [], [⟨24, 16, .rw, 0x60⟩, ⟨8, 0, .rw, 0⟩]⟩,
  -- PS[s].RA_CFG (R291)
  ⟨0x1010, [], [⟨31, 16, .rw, 0x18⟩, ⟨15, 0, .rw, 0x1e⟩]⟩,
  -- PS[s].RA_STAT (R292)
  ⟨0x1014, [], [⟨31, 31, .w1c, 0⟩, ⟨30, 30, .w1c, 0⟩, ⟨29, 29, .w1c, 0⟩, ⟨28, 28, .w1c, 0⟩, ⟨27, 27, .w1c, 0⟩, ⟨25, 13, .ro, 0x1000⟩, ⟨12, 0, .ro, 0⟩]⟩,
  -- PS[s].FAULT_LINE (R293)
  ⟨0x1018, [], [⟨31, 0, .ro, 0⟩]⟩,
  -- PS[s].RESV (R294)
  ⟨0x101c, [], [⟨31, 31, .ro, 0⟩, ⟨30, 30, .ro, 0⟩, ⟨22, 16, .ro, 0⟩, ⟨15, 0, .ro, 0⟩]⟩]

/-- The registers of the block `octet`. -/
def octetRows : List RegRow := [
  -- PER[g].PT[k].LO (R446)
  ⟨0x0, [(0x8, 16)], [⟨31, 0, .rw, 0⟩]⟩,
  -- PER[g].PT[k].HI (R446)
  ⟨0x4, [(0x8, 16)], [⟨15, 0, .rw, 0xffff⟩]⟩,
  -- PER[g].CTL (R448)
  ⟨0x80, [], [⟨7, 4, .rw, 0⟩, ⟨3, 0, .rw, 0⟩]⟩,
  -- PER[g].STAT (R449)
  ⟨0x84, [], [⟨31, 31, .w1c, 0⟩, ⟨30, 30, .w1c, 0⟩, ⟨29, 29, .w1c, 0⟩, ⟨17, 17, .ro, 0⟩, ⟨16, 16, .ro, 0⟩, ⟨11, 8, .ro, 0⟩, ⟨3, 0, .ro, 0⟩]⟩,
  -- PER[g].ANCHOR_LO (R450)
  ⟨0x88, [], [⟨31, 0, .ro, 0⟩]⟩,
  -- PER[g].ANCHOR_HI (R450)
  ⟨0x8c, [], [⟨31, 0, .ro, 0⟩]⟩,
  -- PER[g].CHG_LO (R450)
  ⟨0x90, [], [⟨31, 0, .ro, 0⟩]⟩,
  -- PER[g].CHG_HI (R450)
  ⟨0x94, [], [⟨31, 0, .ro, 0⟩]⟩,
  -- PER[g].STRETCH (R450)
  ⟨0x98, [], [⟨25, 0, .ro, 0⟩]⟩,
  -- STEER[g].CTL (R569)
  ⟨0x400, [], [⟨7, 0, .rw, 0⟩]⟩,
  -- STEER[g].STAT (R571)
  ⟨0x404, [], [⟨31, 24, .w1c, 0⟩, ⟨23, 23, .ro, 0⟩, ⟨19, 16, .ro, 0xf⟩, ⟨15, 8, .ro, 0⟩, ⟨7, 0, .ro, 0xff⟩]⟩,
  -- FE[g][l].CFG (R572)
  ⟨0x800, [(0x20, 9)], [⟨10, 8, .rw, 0⟩, ⟨5, 4, .rw, 0⟩, ⟨1, 0, .rw, 1⟩]⟩,
  -- FE[g][l].STAT (R575)
  ⟨0x804, [(0x20, 9)], [⟨31, 31, .w1c, 0⟩, ⟨30, 30, .ps, 0⟩, ⟨29, 29, .w1c, 0⟩, ⟨28, 28, .w1c, 0⟩, ⟨27, 27, .w1c, 0⟩, ⟨7, 6, .ro, 0⟩, ⟨2, 0, .ro, 0⟩]⟩,
  -- FE[g].BCAST_CFG (R576)
  ⟨0xa00, [], [⟨31, 0, .wo, 0⟩]⟩,
  -- SINE[g].CTL (R613)
  ⟨0xc00, [], [⟨31, 31, .ro, 0⟩, ⟨30, 30, .rw, 0⟩, ⟨29, 29, .wo, 0⟩, ⟨28, 28, .w1c, 0⟩, ⟨27, 27, .w1c, 0⟩, ⟨11, 0, .rw, 0⟩]⟩,
  -- SINE[g].FTW (R613)
  ⟨0xc04, [], [⟨31, 0, .rw, 0⟩]⟩,
  -- SINE[g].PHASE0 (R613)
  ⟨0xc08, [], [⟨31, 0, .rw, 0⟩]⟩,
  -- SINE[g].PHASE (R613)
  ⟨0xc0c, [], [⟨31, 0, .ro, 0⟩]⟩,
  -- HL[g].CTL (R748)
  ⟨0x1000, [], [⟨31, 31, .wo, 0⟩, ⟨30, 30, .wo, 0⟩, ⟨29, 28, .rw, 0⟩, ⟨27, 27, .rw, 0⟩, ⟨19, 16, .rw, 0⟩, ⟨15, 0, .rw, 1⟩]⟩,
  -- HL[g].SRC (R749)
  ⟨0x1004, [], [⟨31, 28, .rw, 2⟩, ⟨26, 24, .rw, 0⟩, ⟨23, 20, .rw, 3⟩, ⟨18, 16, .rw, 0⟩, ⟨11, 8, .rw, 0⟩]⟩,
  -- HL[g].WIN (R749)
  ⟨0x1008, [], [⟨31, 16, .rw, 0x80⟩, ⟨15, 0, .rw, 0⟩]⟩,
  -- HL[g].TIMEOUT (R749)
  ⟨0x100c, [], [⟨15, 0, .rw, 0x3e8⟩]⟩,
  -- HL[g].FREQ_CFG (R749)
  ⟨0x1010, [], [⟨31, 16, .rw, 0⟩, ⟨15, 0, .rw, 0x2710⟩]⟩,
  -- HL[g].STAT (R750)
  ⟨0x1014, [], [⟨31, 31, .w1c, 0⟩, ⟨30, 30, .w1c, 0⟩, ⟨29, 29, .w1c, 0⟩, ⟨28, 28, .w1c, 0⟩, ⟨27, 27, .w1c, 0⟩, ⟨26, 26, .w1c, 0⟩, ⟨25, 25, .w1c, 0⟩, ⟨24, 24, .w1c, 0⟩, ⟨23, 23, .w1c, 0⟩, ⟨22, 22, .w1c, 0⟩, ⟨18, 18, .ro, 0⟩, ⟨17, 17, .ro, 0⟩, ⟨16, 16, .ro, 0⟩, ⟨1, 0, .ro, 0⟩]⟩,
  -- HL[g].START_LO (R751)
  ⟨0x1018, [], [⟨31, 0, .ro, 0⟩]⟩,
  -- HL[g].START_HI (R751)
  ⟨0x101c, [], [⟨31, 0, .ro, 0⟩]⟩,
  -- HL[g].STOP[k] (R751)
  ⟨0x1020, [(0x4, 16)], [⟨31, 0, .ro, 0⟩]⟩,
  -- HL[g].STOPVALID (R751)
  ⟨0x1060, [], [⟨15, 0, .ro, 0⟩]⟩,
  -- HL[g].SHOTS (R751)
  ⟨0x1064, [], [⟨31, 16, .ro, 0⟩, ⟨15, 0, .ro, 0⟩]⟩,
  -- HL[g].MEAN (R751)
  ⟨0x1068, [], [⟨31, 0, .ro, 0⟩]⟩,
  -- HL[g].SPREAD (R751)
  ⟨0x106c, [], [⟨31, 0, .ro, 0⟩]⟩,
  -- HL[g].MIN (R751)
  ⟨0x1070, [], [⟨31, 0, .ro, 0⟩]⟩,
  -- HL[g].MAX (R751)
  ⟨0x1074, [], [⟨31, 0, .ro, 0⟩]⟩,
  -- HL[g].FCOUNT (R751)
  ⟨0x1078, [], [⟨31, 0, .ro, 0⟩]⟩,
  -- HL[g].FHZ (R751)
  ⟨0x107c, [], [⟨31, 0, .ro, 0⟩]⟩,
  -- HL[g].FSPAN_LO (R751)
  ⟨0x1080, [], [⟨31, 0, .ro, 0⟩]⟩,
  -- HL[g].FSPAN_HI (R751)
  ⟨0x1084, [], [⟨31, 0, .ro, 0⟩]⟩,
  -- HL[g].MISSED (R751)
  ⟨0x1088, [], [⟨31, 0, .rc, 0⟩]⟩,
  -- TDR[g].CTL (R752)
  ⟨0x1100, [], [⟨31, 16, .rw, 0⟩, ⟨15, 15, .wo, 0⟩, ⟨14, 14, .w1c, 0⟩, ⟨13, 13, .w1c, 0⟩, ⟨8, 8, .rw, 0⟩, ⟨7, 0, .rw, 0⟩]⟩,
  -- TDR[g].RES[l] (R752)
  ⟨0x1110, [(0x4, 8)], [⟨31, 28, .ro, 0⟩, ⟨27, 16, .ro, 0⟩, ⟨15, 0, .ro, 0⟩]⟩,
  -- MSR[g].CTL (R753)
  ⟨0x1800, [], [⟨18, 16, .rw, 0⟩, ⟨13, 8, .rw, 0⟩, ⟨7, 0, .rw, 0⟩]⟩,
  -- MSR[g].STIM[k] (R753)
  ⟨0x1810, [(0x4, 8)], [⟨31, 0, .rw, 0x99999999⟩]⟩,
  -- MSR[g][l].TALLY (R753)
  ⟨0x1840, [(0x4, 8)], [⟨31, 16, .rc, 0⟩, ⟨15, 0, .rc, 0⟩]⟩,
  -- DC[g].CTL (R754)
  ⟨0x2000, [], [⟨31, 31, .rw, 0⟩, ⟨26, 24, .rw, 0⟩, ⟨17, 16, .rw, 0⟩, ⟨10, 8, .rw, 4⟩]⟩,
  -- DC[g].FORCE (R754)
  ⟨0x2004, [], [⟨15, 0, .rw, 0⟩]⟩,
  -- DC[g].CLAMP (R754)
  ⟨0x2008, [], [⟨31, 16, .rw, 0x7d00⟩, ⟨15, 0, .rw, 0x8300⟩]⟩,
  -- DC[g].MCFG (R754)
  ⟨0x200c, [], [⟨31, 31, .wo, 0⟩, ⟨23, 16, .rw, 0⟩, ⟨3, 0, .rw, 6⟩]⟩,
  -- DC[g].RES (R754)
  ⟨0x2010, [], [⟨31, 16, .ro, 0⟩, ⟨15, 0, .ro, 0⟩]⟩,
  -- DC[g].STAT (R755)
  ⟨0x2014, [], [⟨31, 31, .w1c, 0⟩, ⟨30, 30, .w1c, 0⟩, ⟨29, 29, .w1c, 0⟩, ⟨28, 28, .w1c, 0⟩, ⟨27, 27, .w1c, 0⟩, ⟨26, 26, .w1c, 0⟩, ⟨25, 25, .w1c, 0⟩, ⟨24, 24, .ro, 0⟩, ⟨23, 23, .ro, 0⟩, ⟨22, 22, .ro, 0⟩, ⟨21, 21, .ro, 0⟩, ⟨19, 16, .ro, 0⟩, ⟨15, 0, .ro, 0⟩]⟩,
  -- DC[g].ST_CFG (R754)
  ⟨0x2018, [], [⟨31, 31, .wo, 0⟩, ⟨15, 0, .rw, 0x3c⟩]⟩,
  -- ROT[g].CTL (R806)
  ⟨0x2400, [], [⟨31, 31, .rw, 1⟩, ⟨30, 30, .rw, 0⟩, ⟨23, 16, .rw, 0xff⟩, ⟨11, 0, .rw, 0x190⟩]⟩,
  -- ROT[g].STAT (R807)
  ⟨0x2404, [], [⟨31, 31, .w1c, 0⟩, ⟨30, 30, .w1c, 0⟩, ⟨29, 29, .w1c, 0⟩, ⟨28, 28, .w1c, 0⟩, ⟨27, 27, .w1c, 0⟩, ⟨26, 26, .w1c, 0⟩, ⟨25, 25, .w1c, 0⟩, ⟨24, 24, .w1c, 0⟩, ⟨23, 23, .ro, 0⟩, ⟨19, 16, .ro, 0xf⟩, ⟨15, 12, .ro, 0⟩, ⟨7, 0, .ro, 0⟩]⟩,
  -- ROT[g].CORES (R808)
  ⟨0x2408, [], [⟨24, 16, .ro, 0⟩, ⟨7, 0, .ro, 0⟩]⟩,
  -- ROT[g].CAUSE (R808)
  ⟨0x240c, [], [⟨31, 0, .ro, 0⟩]⟩,
  -- ROT[g].CAUSE_LS (R808)
  ⟨0x2410, [], [⟨3, 0, .ro, 0⟩]⟩,
  -- ROT[g].COUNT (R808)
  ⟨0x2414, [], [⟨31, 16, .rc, 0⟩, ⟨15, 0, .rc, 0⟩]⟩,
  -- ROT[g].AGE[l] (R809)
  ⟨0x2420, [(0x4, 8)], [⟨31, 30, .ro, 2⟩, ⟨26, 0, .ro, 0x7ffffff⟩]⟩,
  -- ROT[g].AGE_LS (R809)
  ⟨0x2440, [], [⟨31, 30, .ro, 2⟩, ⟨26, 0, .ro, 0x7ffffff⟩]⟩,
  -- ROT[g].CLASS (R810)
  ⟨0x2444, [], [⟨31, 24, .ro, 0⟩, ⟨17, 16, .ro, 0⟩, ⟨15, 0, .ro, 0⟩]⟩]

/-- The registers of the block `laneArea`. -/
def laneAreaRows : List RegRow := [
  -- NIBO[g].SUM (R493)
  ⟨0xf00, [], [⟨8, 0, .ro, 0⟩]⟩]

/-- The registers of the block `slot`. -/
def slotRows : List RegRow := [
  -- NIB[g][l].TS[t].W[k] (R486)
  ⟨0x0, [(0x18, 64), (0x4, 6)], [⟨31, 0, .rw, 0⟩]⟩,
  -- STK[g][l].ENT[k] (R523)
  ⟨0x600, [(0x4, 16)], [⟨4, 4, .rw, 1⟩, ⟨3, 0, .rw, 0⟩]⟩,
  -- STK[g][l].ALT[m][i] (R524)
  ⟨0x640, [(0x20, 2), (0x4, 8)], [⟨31, 0, .rw, 0x99999999⟩]⟩,
  -- STK[g][l].STAT (R525)
  ⟨0x680, [], [⟨31, 31, .w1c, 0⟩, ⟨30, 30, .w1c, 0⟩, ⟨29, 29, .w1c, 0⟩, ⟨28, 28, .w1c, 0⟩, ⟨2, 2, .ro, 0⟩, ⟨1, 1, .ro, 0⟩, ⟨0, 0, .ro, 0⟩]⟩,
  -- DAC[g][l].LVL[k].CODE (R608)
  ⟨0x700, [(0x10, 8)], [⟨15, 0, .rw, 0⟩]⟩,
  -- DAC[g][l].LVL[k].STAGE (R608)
  ⟨0x704, [(0x10, 8)], [⟨31, 31, .ro, 0⟩, ⟨30, 30, .wo, 0⟩, ⟨15, 0, .rw, 0⟩]⟩,
  -- DAC[g][l].LVL[k].CFG (R608)
  ⟨0x708, [(0x10, 8)], [⟨0, 0, .rw, 0⟩]⟩,
  -- DAC[g][l].LVL[k].ACT (R608)
  ⟨0x70c, [(0x10, 8)], [⟨31, 30, .ro, 0⟩, ⟨29, 29, .ro, 0⟩, ⟨15, 0, .ro, 0⟩]⟩,
  -- DAC[g][l].MOD (R609)
  ⟨0x780, [], [⟨13, 8, .rw, 0⟩, ⟨5, 0, .rw, 0⟩]⟩,
  -- DAC[g][l].STAT (R610)
  ⟨0x784, [], [⟨31, 31, .w1c, 0⟩, ⟨30, 30, .w1c, 0⟩, ⟨29, 29, .ro, 0⟩, ⟨15, 8, .w1c, 0⟩, ⟨7, 0, .ro, 0⟩]⟩,
  -- NIB[g][l].TS_SEL (R488)
  ⟨0x7c0, [], [⟨31, 31, .rw, 0⟩, ⟨5, 0, .rw, 0⟩]⟩,
  -- NIB[g][l].DESKEW (R489)
  ⟨0x7c4, [], [⟨31, 16, .rw, 0⟩, ⟨15, 0, .rw, 0⟩]⟩,
  -- NIB[g][l].STAT (R491)
  ⟨0x7c8, [], [⟨31, 31, .w1c, 0⟩, ⟨30, 30, .w1c, 0⟩, ⟨29, 29, .w1c, 0⟩, ⟨28, 28, .w1c, 0⟩, ⟨27, 27, .w1c, 0⟩, ⟨26, 26, .w1c, 0⟩, ⟨15, 8, .ro, 0⟩, ⟨4, 0, .ro, 0⟩]⟩,
  -- NIB[g][l].DROP_EDGE (R492)
  ⟨0x7cc, [], [⟨31, 16, .rc, 0⟩, ⟨15, 0, .rc, 0⟩]⟩,
  -- NIB[g][l].DROP_STB (R492)
  ⟨0x7d0, [], [⟨31, 16, .rc, 0⟩, ⟨15, 0, .rc, 0⟩]⟩]

/-- The registers of the block `bar4`. -/
def bar4Rows : List RegRow := [
  -- RING[r].SQ_BASE_LO (R862)
  ⟨0x0, [(0x40, 8)], [⟨31, 0, .rw, 0⟩]⟩,
  -- RING[r].SQ_BASE_HI (R862)
  ⟨0x4, [(0x40, 8)], [⟨31, 0, .rw, 0⟩]⟩,
  -- RING[r].CQ_BASE_LO (R862)
  ⟨0x8, [(0x40, 8)], [⟨31, 0, .rw, 0⟩]⟩,
  -- RING[r].CQ_BASE_HI (R862)
  ⟨0xc, [(0x40, 8)], [⟨31, 0, .rw, 0⟩]⟩,
  -- RING[r].SIZE (R862)
  ⟨0x10, [(0x40, 8)], [⟨20, 16, .rw, 8⟩, ⟨4, 0, .rw, 8⟩]⟩,
  -- RING[r].SQ_TAIL (R862)
  ⟨0x14, [(0x40, 8)], [⟨15, 0, .rw, 0⟩]⟩,
  -- RING[r].SQ_HEAD (R862)
  ⟨0x18, [(0x40, 8)], [⟨31, 24, .ro, 0⟩, ⟨15, 0, .ro, 0⟩]⟩,
  -- RING[r].CQ_HEAD (R862)
  ⟨0x1c, [(0x40, 8)], [⟨15, 0, .rw, 0⟩]⟩,
  -- RING[r].CQ_TAIL (R862)
  ⟨0x20, [(0x40, 8)], [⟨16, 16, .ro, 1⟩, ⟨15, 0, .ro, 0⟩]⟩,
  -- RING[r].CTL (R862)
  ⟨0x24, [(0x40, 8)], [⟨31, 31, .rw, 0⟩, ⟨23, 16, .rw, 1⟩, ⟨15, 0, .rw, 0⟩]⟩,
  -- RING[r].STAT (R862)
  ⟨0x28, [(0x40, 8)], [⟨31, 31, .w1c, 0⟩, ⟨30, 30, .w1c, 0⟩, ⟨29, 29, .w1c, 0⟩, ⟨15, 0, .ro, 0⟩]⟩,
  -- IMG.CTL (R860)
  ⟨0x400, [], [⟨31, 31, .wo, 0⟩, ⟨19, 0, .wo, 0⟩]⟩,
  -- IMG.STAT (R860)
  ⟨0x404, [], [⟨31, 31, .ro, 0⟩, ⟨30, 30, .ro, 0⟩, ⟨29, 29, .w1c, 0⟩, ⟨28, 28, .w1c, 0⟩, ⟨23, 0, .ro, 0⟩]⟩]

end Sys2Proof.Machine
end

