-- ==== Sys2Proof/Machine/Sources.lean ====
section
/-! DEFINITION. The 384 Errata sources (R956): class, default escalation, and the reset shadows that cover each;
the reset domains of R971. -/

namespace Sys2Proof.Machine

/-- The fault classes of R951, with their codes. -/
inductive FaultClass where
  | f0 | f1 | f2 | f3
deriving DecidableEq, Repr

/-- The code of a class in `ERR.SRC[n].CLASS` (R951). -/
def FaultClass.code : FaultClass → Nat
  | .f0 => 0
  | .f1 => 1
  | .f2 => 2
  | .f3 => 3

/-- The kinds of reset domain of R971. -/
inductive DomainKind where
  | marginalia | blotter | channel | hairline | dcUnit | storeControl | copyist | lectern | hostLink | sector | controller
deriving DecidableEq, Repr

/-- The kind and index of a reset-domain identifier (R971). -/
def domainOf (d : Nat) : Option (DomainKind × Nat) :=
  if 0x10 ≤ d && d < 0x18 then some (.marginalia, d - 0x10)
  else if 0x18 ≤ d && d < 0x20 then some (.blotter, d - 0x18)
  else if 0x20 ≤ d && d < 0x40 then some (.channel, d - 0x20)
  else if 0x40 ≤ d && d < 0x80 then some (.hairline, d - 0x40)
  else if 0x80 ≤ d && d < 0xC0 then some (.dcUnit, d - 0x80)
  else if 0xC0 ≤ d && d < 0xC8 then some (.storeControl, d - 0xC0)
  else if d = 0xC8 then some (.copyist, 0)
  else if d = 0xC9 then some (.lectern, 0)
  else if d = 0xCA then some (.hostLink, 0)
  else if 0xD0 ≤ d && d < 0xD8 then some (.sector, d - 0xD0)
  else if 0xD8 ≤ d && d < 0xDA then some (.controller, d - 0xD8)
  else none

/-- The domain identifiers of R971. -/
def domMarg (s : Nat) : Nat := 0x10 + s
def domBlot (s : Nat) : Nat := 0x18 + s
def domChannel (c : Nat) : Nat := 0x20 + c
def domHairline (g : Nat) : Nat := 0x40 + g
def domDc (g : Nat) : Nat := 0x80 + g
def domStore (s : Nat) : Nat := 0xC0 + s
def domCopyist : Nat := 0xC8
def domLectern : Nat := 0xC9
def domHostLink : Nat := 0xCA
def domSector (s : Nat) : Nat := 0xD0 + s
def domController (w : Nat) : Nat := 0xD8 + w

/-- How far a "Shadows" entry of R956 reaches among the domains of its kind. -/
inductive Cover where
  | every                          -- every domain of the kind, or of every kind
  | wing (w : Nat)
  | sector (s : Nat)               -- the domain of that sector, or of an octet of it
  | octet (g : Nat)
deriving DecidableEq, Repr

/-- Numbers of the sources of R956, by name. -/
def srcErrRail : Nat := 0
def srcOvertemp : Nat := 1
def srcFeOcFail : Nat := 2
def srcTamper : Nat := 3
def srcVaultIntegrity : Nat := 4
def srcClkLockFail : Nat := 5
def srcClkCoast : Nat := 6
def srcClkCoastLong : Nat := 7
def srcClkBandMargin : Nat := 8
def srcRulLink : Nat := 9
def srcRulLate : Nat := 10
def srcRulClosure : Nat := 11
def srcRulDrift : Nat := 12
def srcPsTrain (w : Nat) : Nat := 13 + w
def srcPsUe (w : Nat) : Nat := 15 + w
def srcPsHot (w : Nat) : Nat := 17 + w
def srcPsCeLimit (w : Nat) : Nat := 19 + w
def srcCpyLink : Nat := 21
def srcIlkDisc : Nat := 22
def srcIlkNotice : Nat := 23
def srcThermWarn : Nat := 24
def srcHostAccess : Nat := 25
def srcPcieCorr : Nat := 26
def srcPcieUncorr : Nat := 27
def srcLecWdog : Nat := 28
def srcFabricCtr : Nat := 29
def srcStale : Nat := 30
def srcBootFallback : Nat := 31
def srcBackupBad : Nat := 32
def srcLogFull : Nat := 33
def srcLinkDegraded : Nat := 34
def srcDbgLockBroken : Nat := 35
def srcInjectArmed : Nat := 36
/-- Sector source `j` of sector `s`. -/
def srcSector (s j : Nat) : Nat := 64 + 32 * s + j
def srcTllUnlock (s : Nat) : Nat := srcSector s 0
def srcSregUv (s : Nat) : Nat := srcSector s 1
def srcSregOc (s : Nat) : Nat := srcSector s 2
def srcPsUnderrun (s : Nat) : Nat := srcSector s 3
def srcScrFault (s : Nat) : Nat := srcSector s 4
def srcScrTimeout (s : Nat) : Nat := srcSector s 5
def srcPenShort (s : Nat) : Nat := srcSector s 6
def srcNibDrop (s : Nat) : Nat := srcSector s 7
def srcFeOc (s : Nat) : Nat := srcSector s 8
def srcFeOv (s : Nat) : Nat := srcSector s 9
def srcFeComply (s : Nat) : Nat := srcSector s 10
def srcDacFault (s : Nat) : Nat := srcSector s 11
def srcBlotGap (s : Nat) : Nat := srcSector s 12
def srcHlCal (s : Nat) : Nat := srcSector s 13
def srcDcComply (s : Nat) : Nat := srcSector s 14
def srcDcSt (s : Nat) : Nat := srcSector s 15
def srcCalNotice (s : Nat) : Nat := srcSector s 16
def srcCalAge (s : Nat) : Nat := srcSector s 17
def srcCalSkip (s : Nat) : Nat := srcSector s 18
def srcCalFail (s : Nat) : Nat := srcSector s 19
def srcCalRetire (s : Nat) : Nat := srcSector s 20
def srcCalDead (s : Nat) : Nat := srcSector s 21
def srcSsDpUndef (s : Nat) : Nat := srcSector s 22
def srcSsBankFail (s : Nat) : Nat := srcSector s 23
def srcSsCe (s : Nat) : Nat := srcSector s 24
def srcSsUe (s : Nat) : Nat := srcSector s 25
def srcTsParity (s : Nat) : Nat := srcSector s 26
def srcFabricSec (s : Nat) : Nat := srcSector s 27
def srcSecSafe (s : Nat) : Nat := srcSector s 28
def srcSteerFault (g : Nat) : Nat := 320 + g

/-- The class of a source (R956). -/
def srcClass (n : Nat) : FaultClass :=
  if n < 64 then
    match n with
    | 0 | 1 | 2 | 3 | 4 => .f3
    | 5 | 6 | 7 | 9 | 10 | 13 | 14 | 15 | 16 | 17 | 18 | 22 | 27 | 28 | 29 => .f2
    | 8 | 11 | 12 | 19 | 20 | 21 | 24 | 26 | 32 | 33 | 34 => .f1
    | _ => .f0
  else if n < 320 then
    match (n - 64) % 32 with
    | 0 | 1 | 2 | 3 | 4 | 8 | 9 | 11 | 25 | 26 | 27 => .f2
    | 7 | 10 | 12 | 13 | 14 | 15 | 17 | 19 | 20 | 21 | 22 | 23 | 24 => .f1
    | _ => .f0
  else .f2

/-- The default escalation code of a source (R956, codes of R962): 0 OWN, 1 ACTIVE, 2 ALL, 3 NONE. A source
that has no escalation holds 3, as the reset value of `ERR.SRC[n].ESC` does (R981). -/
def srcEscalation (n : Nat) : Nat :=
  match srcClass n with
  | .f2 =>
    if n < 64 then
      match n with
      | 5 | 6 | 7 | 9 | 10 | 29 => 1
      | 13 | 14 | 22 | 27 | 28 => 3
      | _ => 0
    else 0
  | _ => 3

/-- The "Shadows" entries of a source (R956). -/
def srcShadows (n : Nat) : List (DomainKind × Cover) :=
  if n < 64 then
    match n with
    | 15 | 19 => [(.controller, .wing 0)]
    | 16 | 20 => [(.controller, .wing 1)]
    | 21 => [(.channel, .every), (.copyist, .every), (.storeControl, .every), (.hostLink, .every)]
    | 25 => [(.lectern, .every), (.hostLink, .every), (.copyist, .every)]
    | 26 | 27 => [(.hostLink, .every)]
    | 28 | 35 => [(.lectern, .every)]
    | 29 => [(.lectern, .every), (.copyist, .every), (.hostLink, .every)]
    | 30 => [(.marginalia, .every), (.blotter, .every), (.channel, .every), (.hairline, .every), (.dcUnit, .every),
             (.storeControl, .every), (.copyist, .every), (.lectern, .every), (.hostLink, .every), (.sector, .every),
             (.controller, .every)]
    | _ => []
  else if n < 320 then
    let s := (n - 64) / 32
    match (n - 64) % 32 with
    | 0 | 26 => [(.sector, .sector s)]
    | 3 => [(.storeControl, .sector s)]
    | 12 => [(.blotter, .sector s), (.storeControl, .sector s)]
    | 13 => [(.hairline, .sector s)]
    | 14 | 15 => [(.dcUnit, .sector s)]
    | 18 | 19 => [(.hairline, .sector s), (.dcUnit, .sector s)]
    | 22 | 24 | 25 => [(.storeControl, .sector s), (.channel, .every)]
    | 27 => [(.marginalia, .sector s), (.blotter, .sector s), (.storeControl, .sector s), (.sector, .sector s)]
    | _ => []
  else [(.dcUnit, .octet (n - 320))]

/-- Does one "Shadows" entry cover a domain of the same kind? (R972) -/
def Cover.reaches (c : Cover) (k : DomainKind) (i : Nat) : Bool :=
  match c with
  | .every => true
  | .wing w => decide (i = w)
  | .octet g => decide (i = g)
  | .sector s =>
    match k with
    | .hairline | .dcUnit => decide (i / 8 = s)
    | _ => decide (i = s)

/-- Does the shadow of domain `d` cover source `n`? (R972) -/
def shadowCovers (d n : Nat) : Bool :=
  match domainOf d with
  | none => false
  | some (k, i) => (srcShadows n).any fun e => decide (e.1 = k) && e.2.reaches k i

/-- The sectors, as a mask, that OWN names for a source: the sector of a sector or octet source, the four sectors
of a wing source, none for another device-wide source (R956, R962). -/
def srcOwnSectors (n : Nat) : Nat :=
  if n < 64 then
    match n with
    | 13 | 15 | 17 | 19 => 0x0F
    | 14 | 16 | 18 | 20 => 0xF0
    | _ => 0
  else if n < 320 then 2 ^ ((n - 64) / 32)
  else 2 ^ ((n - 320) / 8)

end Sys2Proof.Machine
end

