-- ==== Sys2Proof/Machine/Regs.lean ====
section
/-! DEFINITION. Finding a register by its key, its reset value, and the effect of its access codes (R25). -/

namespace Sys2Proof.Machine

/-- Does an offset fall on a repetition of a register? Strides are listed widest first. -/
def onGrid (d : Nat) : List (Nat × Nat) → Bool
  | [] => decide (d = 0)
  | (stride, count) :: t => decide (d / stride < count) && onGrid (d % stride) t

def RegRow.covers (r : RegRow) (off : Nat) : Bool := decide (r.off ≤ off) && onGrid (off - r.off) r.dims

/-- The register of a block at an offset. -/
def findRow (rows : List RegRow) (off : Nat) : Option RegRow := rows.find? (·.covers off)

/-- The blocks of BAR0 and BAR4 (R856, R857), with the sector, octet or slot they belong to. -/
inductive Place where
  | device | errata | clocking | ruling | quill | lectern | copyist | vault | debug
  | scribe (s : Nat) | marginalia (s : Nat) | blotter (s : Nat) | store (s : Nat)
  | octet (g : Nat) | laneArea (g : Nat) | slot (g l : Nat)
  | bar4
  | unmapped
deriving DecidableEq, Repr

/-- The block that a key lies in, and the offset within it. -/
def whereIs (a : Nat) : Place × Nat :=
  if a < 0x900000 then
    (match a / 0x100000 with
      | 0 => .device
      | 1 => .errata
      | 2 => .clocking
      | 3 => .ruling
      | 4 => .quill
      | 5 => .lectern
      | 6 => .copyist
      | 7 => .vault
      | _ => .debug, a % 0x100000)
  else if a < 0x1000000 then (.unmapped, a)
  else if a < 0x3000000 then
    let s := (a - 0x1000000) / 0x400000
    let r := (a - 0x1000000) % 0x400000
    if r < 0x80000 then (.scribe s, r)
    else if r < 0x100000 then (.marginalia s, r - 0x80000)
    else if r < 0x180000 then (.blotter s, r - 0x100000)
    else if r < 0x200000 then (.store s, r - 0x180000)
    else if r < 0x220000 then (.octet (8 * s + (r - 0x200000) / 0x4000), (r - 0x200000) % 0x4000)
    else if 0x280000 ≤ r && r < 0x2C0000 then
      let g := 8 * s + (r - 0x280000) / 0x8000
      let q := (r - 0x280000) % 0x8000
      if q < 0x1000 then (.laneArea g, q)
      else if (q - 0x1000) / 0x800 < 9 then (.slot g ((q - 0x1000) / 0x800), (q - 0x1000) % 0x800)
      else (.unmapped, a)
    else (.unmapped, a)
  else if Reg.bar4Base ≤ a && a < Reg.bar4Base + 0x100000 then (.bar4, a - Reg.bar4Base)
  else (.unmapped, a)

/-- The registers of a block. -/
def Place.rows : Place → List RegRow
  | .device => deviceGlobalRows
  | .errata => errataRows
  | .clocking => clockingRows
  | .ruling => rulingRows
  | .quill => quillRows
  | .lectern => lecternRows
  | .copyist => copyistRows
  | .vault => vaultRows
  | .debug => debugRows
  | .scribe _ => scribeRows
  | .marginalia _ => marginaliaRows
  | .blotter _ => blotterRows
  | .store _ => storeRows
  | .octet _ => octetRows
  | .laneArea _ => laneAreaRows
  | .slot _ _ => slotRows
  | .bar4 => bar4Rows
  | .unmapped => []

/-- The register at a key; none where nothing is mapped. -/
def rowAt (a : Nat) : Option RegRow := findRow (whereIs a).1.rows (whereIs a).2

/-- The sector whose BAR0 range a key lies in (R71, R856). -/
def Place.sector : Place → Option Nat
  | .scribe s | .marginalia s | .blotter s | .store s => some s
  | .octet g | .laneArea g | .slot g _ => some (g / 8)
  | _ => none

/-- The bits of a register whose fields satisfy a test, as a mask. -/
def RegRow.mask (r : RegRow) (p : FieldRow → Bool) : Nat :=
  r.fields.foldl (fun m f => if p f then m ||| ((2 ^ (f.hi - f.lo + 1) - 1) <<< f.lo) else m) 0

/-- The reset value that a register table lists. -/
def RegRow.resetNat (r : RegRow) : Nat := r.fields.foldl (fun m f => m ||| (f.reset <<< f.lo)) 0

/-- The safe code of DAC `k` in a span (R579). -/
def safeCode (k : Nat) : Nat :=
  match k with
  | 3 | 4 => 0x3000
  | 6 | 7 => 0
  | _ => 0x2AAB

/-- The owner of bank `b` after the transition to STANDBY (R920): SCRIBE, MARGINALIA or HOST. -/
def bankOwnerReset (b : Nat) : Nat :=
  if 1 ≤ b && b ≤ 4 then 0x02 else if b = 5 then 0x03 else 0x00

/-- The reset value of the register at a key: that of its table, with the values that the spec gives as a formula
(R290, R579, R920, R981). Values from fuses, ledgers and vault memory are 0 until start-up loads them. -/
def resetOf (a : Nat) : Word :=
  match rowAt a with
  | none => 0
  | some r =>
    let base := r.resetNat
    BitVec.ofNat 32 <|
      match whereIs a with
      | (.store s, 0x1000) => base ||| ((96 * (s % 4)) <<< (Reg.PS.VEC_WIN.BASE 0).lo)
      | (.store _, 0x1004) => 0
      | (.store _, 0x1008) => 0
      | (.store _, off) => if off < 0x40 then base ||| (bankOwnerReset (off / 4) <<< (Reg.SS.BANK.OWNER 0 0).lo) else base
      | (.slot _ _, off) =>
        if 0x700 ≤ off && off < 0x780 && (off % 16 = 0 || off % 16 = 12) then base ||| safeCode ((off - 0x700) / 16) else base
      | (.errata, off) =>
        if 0x1000 ≤ off && off < 0x1600 then
          let n := (off - 0x1000) / 4
          base ||| ((srcClass n).code <<< 18) ||| ((match srcClass n with | .f2 => 0 | _ => 3) <<< 22)
        else base
      | _ => base

/-- What a plain host write makes of a register: RW fields take the written bits, RWL fields too unless `locked`;
W1C bits written 1 clear, W1S bits written 1 set; RO, RC and PS fields keep their value; WO fields hold nothing
(R25, R26). -/
def RegRow.written (r : RegRow) (locked : Bool) (old v : Nat) : Word :=
  let rw := r.mask fun f => f.acc = .rw || (f.acc = .rwl && !locked)
  let c := r.mask fun f => f.acc = .w1c
  let s1 := r.mask fun f => f.acc = .w1s
  let keep := r.mask fun f => !(f.acc = .rw || (f.acc = .rwl && !locked))
  BitVec.ofNat 32 (((old &&& keep) - ((old &&& keep) &&& (v &&& c))) ||| (v &&& s1) ||| (v &&& rw))

/-- The bits that a read returns: every field but those of code WO (R25). -/
def RegRow.readMask (r : RegRow) : Nat := r.mask fun f => f.acc ≠ .wo

/-- The bits that a read clears (R25, R29). -/
def RegRow.rcMask (r : RegRow) : Nat := r.mask fun f => f.acc = .rc

/-- Does a register hold a field of an access code? -/
def RegRow.has (r : RegRow) (a : Acc) : Bool := r.fields.any (·.acc = a)

end Sys2Proof.Machine
end

