-- ==== Sys2Proof/Machine/PartsVault.lean ====
section
/-! DEFINITION. The vault: lifecycle, keys, Colophon, calibration backup, wear ledger (R812 to R844), and the flash and
fuses (R880). All of it survives every loss of power but the working secrets. -/

namespace Sys2Proof.Machine

/-- A Colophon entry (R825). -/
structure ColEntry where
  seq : Nat := 0
  kind : Nat := 0                      -- TYPE (R827)
  lc : Nat := 0
  flags : Nat := 0
  qsec : Nat := 0
  origin : Nat := 0
  cnt : Nat := 0
  payload : Nat := 0                   -- 224 bits
  chain : List Byte := []              -- 16 bytes
deriving DecidableEq, Repr

/-- The sealed parameter set (R812): what the device holds of it as values, and a token for what production alone sets. -/
structure SealedSet where
  trims : List Nat := []               -- SREG[s].CTL.TRIM
  repairs : List Nat := []             -- TLL[s].REPAIR, as words
  points : Tab (List Measured) := []   -- 8 × (9 × octet + core) + point → the point table measured there (R758)
  temps : Tab Nat := []                -- point → its temperature, 1/64 °C
  production : Nat := 0                -- token of what production alone sets
deriving DecidableEq, Repr

/-- A fraction. -/
structure Frac where
  num : Int := 0
  den : Nat := 1
deriving DecidableEq, Repr

/-- A copy of the calibration backup in flash (R833). -/
structure Backup where
  counter : Nat := 0
  digest : List Byte := []               -- digest of the set it holds, first 16 bytes
  key : Nat := 0                       -- the device unique key it is encrypted under
  set : SealedSet := {}
  drift : Tab (List Frac) := []        -- drift section: 9 × octet + core → D (R833)
deriving DecidableEq, Repr

/-- The wear ledger (R942): one entry in place for each defect or repair. Rows and columns are keyed by wing or by
16 × sector + bank. -/
structure Ledger where
  cores : List Nat := []               -- retired cores, 9 × octet + core, in order of retirement (R792)
  taps : Tab (List Nat) := []          -- 8 × (9 × octet + core) + slice → replaced taps (R483, R785)
  masters : Tab Nat := []              -- sector → TLL[s].REPAIR word (R167)
  colCand : Tab (List Nat) := []       -- candidate columns, as 2 × column + cause (R933)
  colSoft : Tab (List Nat) := []       -- columns repaired softly
  bankFailed : List Nat := []          -- failed banks, ascending (R934)
  rowCand : Tab (List Nat) := []       -- candidate rows of a stack (R286)
  rowSoft : Tab (List Nat) := []       -- rows repaired softly (R287)
  rowHard : Tab (List Nat) := []       -- rows repaired hard (R289)
  lanes : Nat := 0                     -- excluded PCI Express lanes (R853)
deriving DecidableEq, Repr

/-- What a locked section will commit once its backup is written (R833, R836). -/
inductive TxAct where
  | provision (owner : Nat)
  | sealing
  | param (item index : Nat) (before : List Byte) (set : SealedSet)
deriving DecidableEq, Repr

/-- A locked section that waits for the flash: its act, and the opcode of the command that asked for it (0: none). -/
structure Tx where
  act : TxAct := .sealing
  opcode : Nat := 0
  origin : Nat := 0
deriving DecidableEq, Repr

/-- A tamper whose entry is still to be appended (R840). -/
structure HeldTamper where
  cause : Nat := 1
  before : Nat := 0
  qsec : Nat := 0
deriving DecidableEq, Repr

/-- The vault. -/
structure Vault where
  lc : Nat := 0                        -- lifecycle (R815)
  counter : Nat := 0                   -- seal event counter, the majority of its three copies (R821)
  nextSeq : Nat := 0
  first : Nat := 0                     -- oldest retained SEQ
  entries : List ColEntry := []        -- retained, oldest first
  keys : Bool := false                 -- keys held (R815)
  deviceKey : Nat := 0                 -- device unique key
  attKey : Nat := 0                    -- attestation private key
  owner : Nat := 0                     -- owner key digest, 384 bits
  nonce : Option (Nat × Nat) := none   -- the challenge not yet spent, and the Quill second of its issue (R822)
  backups : Tab Backup := []           -- copy 0 and copy 1
  newer : Nat := 1                     -- the newer copy
  everProvisioned : Bool := false      -- an LC_PROVISION has been accepted once (R1083)
  txs : List Tx := []                  -- locked sections that wait for the flash, oldest first
  held : List HeldTamper := []
  tamperSeen : Bool := false           -- PS until power cycle (R843)
  integrityFail : Bool := false
  backupBad : Bool := false
  authFails : Nat := 0                 -- since power-up, at most 3
  set : SealedSet := {}                -- the set as loaded and changed since
  fwVersion : Nat := 0                 -- version of the booted image (R831)
  measure : List Byte := []            -- SHA-384 digest of the measure part of the booted firmware
  ledger : Ledger := {}
  sram : Tab Byte := []                -- vault SRAM (R940); a byte not listed is 0
deriving DecidableEq, Repr

/-- A flash operation under way (R833, R880). -/
inductive FlashOp where
  | backup
  | erase (off len : Nat)
  | program (off : Nat) (data : List Byte)
deriving DecidableEq, Repr

/-- The SPI NOR flash and the fuses. -/
structure Nvm where
  flash : Tab Byte := []               -- a byte not listed is erased
  flashSize : Nat := 0x3000000         -- read by JESD216 discovery; at least 48 MiB (R880)
  fuses : Tab Nat := []                -- fuse words
  colFuse : Tab Nat := []              -- 16 × sector + bank → fuse repairs (R931)
  slotBooted : Option Nat := none      -- image slot in use: 0 A, 1 B
  op : List FlashOp := []              -- operations under way, oldest first
deriving DecidableEq, Repr

end Sys2Proof.Machine
end

