-- ==== Sys2Proof/Machine/PartsCal.lean ====
section
/-! DEFINITION. State of the Hairlines, TDR and DC units, and of calibration and rotation, that no register shows (R707 to
R811). -/

namespace Sys2Proof.Machine

/-- The Hairline of an octet (R710 to R726). -/
structure Hair where
  phase : Nat := 0                     -- 0 idle, 1 two-point calibration, 2 shots, 3 frequency gate
  at_ : Nat := 0                       -- tick from which the present phase or shot counts
  began : Nat := 0                     -- tick at which the measurement began
  coast : Bool := false                -- it began in the interval of R148
  left : Nat := 0                      -- shots still to be made
  good : List Nat := []                -- interval of stop STAT_STOP of each GOOD shot, in dots, oldest first
  short : Nat := 0
  lastStart : Nat := 0                 -- start of the shot made last, 54.10
  lastStops : List Nat := []           -- its stops, in dots from its start
  checked : Nat := 0                   -- tick at which the last self-check ended
deriving DecidableEq, Repr

/-- The TDR engine of an octet (R731 to R736). -/
structure Tdr where
  lanes : List Nat := []               -- lanes still to be tested, the lane under test first; empty: no TDR runs
  phase : Nat := 0                     -- 0 quiet check, 1 pass A, 2 pass B
  at_ : Nat := 0                       -- tick at which the present phase began
  passes : Nat := 0                    -- pairs of passes that disagreed (R734)
  passA : List Nat := []               -- round trips of the OPEN shots of pass A, in dots
  named : Nat := 0                     -- lanes of this TDR
  apply : Bool := false                -- APPLY, as taken at GO
  ref : Nat := 0                       -- REF, as taken at GO
deriving DecidableEq, Repr

/-- A request that waits for a DC self-test (R746). -/
inductive DcRequest where
  | connect (v : Nat)
  | go (v : Nat)
deriving DecidableEq, Repr

/-- The DC unit of an octet (R737 to R746). -/
structure DcUnit where
  link : Nat := 0                      -- 0 open, 1 connecting, 2 connected, 3 opening
  ball : Nat := 0
  at_ : Nat := 0                       -- tick of the accepted CONNECT or disconnect
  doneAt : Nat := 0                    -- tick at which the conversions end
  comply : Bool := false               -- COMPLY was set during the measurement
  queued : Option DcRequest := none
  queuedAt : Nat := 0
  tested : Nat := 0                    -- tick at which the last self-test ended
deriving DecidableEq, Repr

/-- A run that has passed and is not yet committed (R765). -/
structure Provision where
  drift : List Frac := []
  verr : Nat := 0
  tcal : Int := 0
deriving DecidableEq, Repr

/-- What a core carries (R756 to R762, R788, R790, R792). -/
structure CoreCal where
  drift : List Frac := []              -- D, entry by entry
  set : List Int := []                 -- the correction set in force, rounded
  next : Option (List Int) := none     -- a set issued and not yet in full effect (R478 to R481)
  prov : Option Provision := none      -- applied provisionally, not committed
  commitAt : Option Nat := none        -- tick of the last committed run; none: the age is saturated
  cls : Nat := 2                       -- age class as last judged (R789)
  verr : Nat := 0                      -- greatest verification error of that run, in 0.1 ps
  tcal : Int := 0                      -- its temperature, 1/64 °C
  fails : Nat := 0                     -- failed runs in a row (R766)
  faults : List Nat := []              -- Quill seconds of DAC monitor faults in 24 hours (R792)
deriving DecidableEq, Repr

/-- The rotation of an octet (R763 to R779). -/
structure Rot where
  visit : Option Nat := none           -- the lane being visited, from MIRROR to the end of the visit (R768)
  at_ : Nat := 0                       -- tick at which the present state was entered
  cycleAt : Option Nat := none         -- tick at which the present cycle began
  todo : List Nat := []                -- lanes still to be visited in the cycle (R764)
  tries : Nat := 0                     -- match tries failed in a row
  matchFails : Nat := 0                -- match failures of this visit
  checkFails : Nat := 0                -- handover check failures of this visit
  halted : Bool := false               -- stopped by a REFLOAD failure (R784)
  faulted : Bool := false              -- a DAC monitor fault of the core under run (R787)
  owed : Option Nat := none            -- lane of a retired core whose ball the spare has still to take (R793)
deriving DecidableEq, Repr

/-- What a sector keeps for its ROT_SUMMARY, and its temperature filter (R759, R803). -/
structure SecCal where
  filt : Int := 0                      -- the filter's value, 2^-16 °C
  primed : Bool := false               -- a first reading has been taken
  ran : Nat := 0                       -- Quill seconds in which rotation has run since the last summary
  ranAt : Nat := 0                     -- Quill second at which that was last counted
  visits : Nat := 0
  skips : Nat := 0
  causes : List Nat := [0, 0, 0, 0, 0, 0, 0, 0, 0, 0, 0, 0, 0, 0, 0, 0]  -- failed runs by cause
  greatest : Nat := 0                  -- greatest age reached, ms
deriving DecidableEq, Repr

/-- A foreground calibration procedure of a sector (R798 to R802). -/
structure Proc where
  kind : Nat := 0                      -- 0 none, 1 CORE, 2 DESKEW, 3 VERIFY, 4 a temperature point
  octets : Nat := 0                    -- local octets of the sector that it acts on
  done : Nat := 0                      -- of these, the octets that have ended
  point : Nat := 0
  lanes : Nat := 0
  ref : Nat := 0
  broken : Bool := false               -- SAFE or MODE_REQ has ended it before its time (R802)
  causes : List (Nat × Nat) := []      -- 9 × octet + core, or lane, and the cause of R766
  periods : List (Nat × Nat × Nat) := []  -- octet, and the two period-table words that DESKEW restores (R800)
  points : List (Nat × List Measured) := []  -- 9 × octet + core, and what CAL_POINT measured of it (R878)
deriving DecidableEq, Repr

end Sys2Proof.Machine
end

