-- ==== Sys2Proof/Machine/PartsCapture.lean ====
section
/-! DEFINITION. State of the level DACs and sine generators, of Marginalia and of the Blotter that no register shows (R577 to
R614, R625 to R664, R665 to R706). -/

namespace Sys2Proof.Machine

/-- A level DAC (R580 to R603). -/
structure Dac where
  out : Nat := 0                       -- output code, modulation included
  off : Int := 0                       -- modulation offset of the latest sample, in steps
  waits : Bool := false                -- that sample waits for the end of a hold (R603)
  hold : Option Nat := none            -- tick at which the open deglitch hold ends (R582, R584)
  upd : Nat := 0                       -- tick of the latest update
  span : Option Nat := none            -- tick at which a span change was accepted (R593)
  to_ : Nat := 0                       -- the span it changes to
  stage : Nat := 0                     -- 0 from t0, 1 from the switch of the span, 2 from step 5
  written : Bool := false              -- CODE was written since t0 (R594)
  boundary : Option Nat := none        -- code written in MEASURE, in force at the next boundary at the balls (R585)
deriving DecidableEq, Repr

/-- A sine generator (R600 to R607). -/
structure Sine where
  amp : Nat := 0                       -- amplitude in force
  next : Nat := 0                      -- tick of the next sample
  stop : Bool := false                 -- stops at the next crossing
deriving DecidableEq, Repr

/-- One Marginalia record that waits to be written: its 256 bits without SEQ, which it takes as it is written. -/
structure MargRec where
  kind : Nat := 1                      -- TYPE
  bits : Nat := 0
  pair : Option Nat := none            -- vector pair of a FAIL record
  failing : Bool := false              -- that pair fails
deriving DecidableEq, Repr

/-- A vector of a pair that has resolved (R633). -/
structure MargHalf where
  idx : Nat := 0
  line : Nat := 0
  recorded : Bool := false
  fail : Nat := 0
  flags : Nat := 0                     -- DROP, NOSENSE, AGE and the marks of its time tag (R636)
  aged : Nat := 0                      -- recorded pins that set AGE
  v : Nat := 0                         -- its time tag in dots
deriving DecidableEq, Repr

/-- How a run ended (R635, R652): its STOP_CAUSE, its stop boundary in dots, its vectors, its last line. -/
structure MargStop where
  cause : Nat := 0
  at_ : Nat := 0
  idx : Nat := 0
  line : Nat := 0
deriving DecidableEq, Repr

/-- A run whose START came and that Marginalia has still to open (R651). -/
structure MargStart where
  lockGen : Nat := 0
  line : Nat := 0                      -- START_ADDR
  stop : Option MargStop := none       -- it has ended already, in PRIMING
deriving DecidableEq, Repr

/-- Marginalia of a sector. -/
structure Marg where
  queue : List MargStart := []
  running : Bool := false              -- a run is open and its CLOSE record not written
  start : MargStart := {}              -- of the open run; its `stop` tells that it has ended
  began : Bool := false                -- its START record is formed
  closing : Bool := false              -- its CLOSE record is formed
  mode : Nat := 0                      -- mode in force: 0 where there is no destination
  dest : Nat := 0                      -- 1 fail window, 2 buffer banks
  size : Nat := 0                      -- S (R630)
  banks : List Nat := []               -- the buffer banks, ascending
  half : Option MargHalf := none       -- vector A of the present pair
  pairs : List Nat := []               -- pairs with an inked FAIL_EN vector, not written or ruled out (R640)
  marks : Nat := 0                     -- inked marks not yet written
  fails : Nat := 0                     -- FAIL records formed, for FIRST_N
  folio : Nat := 0                     -- folio of the previous record
  owed : List MargRec := []            -- records formed and not yet written, oldest first
  stopped : Bool := false              -- recording stopped by FULL with FULL_ACT = 1 (R645)
  lostPairs : Nat := 0
  lostMarks : Nat := 0
  written : Nat := 0                   -- records written in the run
  rptr : Word := 0                     -- RPTR as the free space takes it (R631)
  rptrAt : Nat := 0                    -- tick of the latest write of RPTR
  tripAt : Option Nat := none          -- instant of the latest trip, in dots
  endFlags : Nat := 0                  -- SAFE and COAST at the end of the latest vector (R636)
deriving DecidableEq, Repr

/-- A Blotter record that waits in the staging buffer: its time tag in dots, its order at equal tags (R676), its 128
bits. -/
structure BlotRec where
  tag : Nat := 0
  rank : Nat := 0
  bits : Nat := 0
  stops : Bool := false                -- the TRIG mark that stops the capture (R692)
deriving DecidableEq, Repr

/-- A trigger (R691). -/
structure TrigRun where
  armed : Bool := false
  held : Bool := false                 -- its condition held at the previous sample
  count : Nat := 0
  spent : Bool := false                -- fired, and REARM was 0
deriving DecidableEq, Repr

/-- A mask as committed (R697), and in a run. -/
structure MaskRun where
  ui : Nat := 0x180
  open_ : Nat := 0x80
  close : Nat := 0x100
  stopped : Bool := false              -- counts nothing further in the run (R698)
  marks : Tab Nat := []                -- octet → V of the vector whose first violating sample was recorded last, plus 1
deriving DecidableEq, Repr

/-- The Blotter of a sector. -/
structure Blot where
  opening : Bool := false              -- START or an entry to MEASURE came, and the run has still to be opened (R701)
  lockGen : Nat := 0                   -- LOCK_GEN at START
  enteredAt : Nat := 0                 -- tick of the entry to MEASURE
  live : Bool := false                 -- triggers and masks are evaluated
  liveAt : Nat := 0                    -- instant in dots from which they are
  from_ : Nat := 0                     -- tag of the capture start
  measure : Bool := false              -- the run opened is one of MEASURE
  mode : Nat := 0                      -- CAPMODE in force: 0 where there is no destination
  dest : Nat := 0                      -- 1 window, 2 host ring
  size : Nat := 0
  started : Bool := false              -- a capture has started in the run
  safe : Bool := false                 -- SAFE took effect during the capture
  staging : List BlotRec := []         -- in order of time tag
  last : Tab Nat := []                 -- local octet → level codes last recorded
  whole : Nat := 0xFF                  -- octets whose next record gives the full state (R673)
  trigs : Tab TrigRun := []
  masks : Tab MaskRun := []
  post : Option Nat := none            -- records still to be formed after a stop (R692)
  decim : Bool := false                -- decimation (R689)
  gapOcts : Nat := 0                   -- octets that lost records in it
  gapLost : Nat := 0
  gapAt : Option Nat := none           -- tag of the first item it dropped
  changedAt : Nat := 0                 -- tick of the last change of resolution
  lowAt : Option Nat := some 0         -- tick since which the fill has stayed at or below LO (R688)
  ended : Bool := false                -- the END mark is formed and not yet written
  isOver : Option Nat := none            -- the run's records have ended, at this tag; END is still to be formed
  written : Nat := 0                   -- records of the capture written
  rptr : Word := 0                     -- RPTR as the room of a ring takes it
  rptrAt : Nat := 0                    -- tick of the latest write of RPTR
deriving DecidableEq, Repr

end Sys2Proof.Machine
end

