-- ==== Sys2Proof/Machine/PartsClock.lean ====
section
/-! DEFINITION. State of the baseline PLL, the tap-lock loops, the reference outputs and the Ruling chain that no
register shows (R120 to R178, R193 to R238). -/

namespace Sys2Proof.Machine

/-- A set of settings of one reference output (R168, R171). -/
structure OutSet where
  div : Nat := 0xF00000                -- 12.20 fixed point
  phase : Nat := 0
  en : Bool := false
  safeStop : Bool := true
deriving DecidableEq, Repr

/-- The clocking block. -/
structure Clock where
  running : Bool := false              -- the baseline runs
  counting : Bool := false             -- the tick counter has started (R139)
  untried : List Nat := []             -- band entries still to be tried in this ACQUIRE, ascending (R127)
  qualified : Bool := false            -- REFCLK is qualified in COAST (R152)
  frozenWord : Nat := 0                -- the fine word frozen at the start of the coast (R145, R154)
  freezeAt : Nat := 0                  -- tick of the freeze (R150)
  coasting : Bool := false             -- records carry COAST: from the freeze to the end of relock (R148)
  modulator : List Nat := [0, 0, 0]    -- accumulators of the third-order modulator (R133)
  lfsr : Nat := 0                      -- dither LFSR, 24 bits (R132, R133)
  ditherOn : Bool := false             -- DITHER.EN as taken at the last entry to ACQUIRE (R182)
  adopted : Tab Nat := []              -- sector → anchor it has adopted, 54.10 ticks and dots (R155)
  anchorWait : Tab Nat := []           -- sector → anchor waiting to be adopted
  goodRun : Tab Nat := []              -- sector → consecutive tap-lock updates below 0.5 ps (R164)
  badRun : Tab Nat := []               -- sector → consecutive updates above 5 ps (R165)
  tllOff : Bool := false               -- the loops are off in doze and DORMANT (R166)
  shadow : Tab OutSet := []            -- settings copied at GO (R171)
  active : Tab OutSet := []            -- active settings
  cycleEnded : List Nat := []          -- outputs that have ended their cycle since GO, ascending (R172)
  goTick : Nat := 0                    -- tick of the GO write
  updated : Bool := false              -- a first update has taken place (R177)
  edgeBase : Nat := 0                  -- instant U of the active sets, in eighths of a tick (R169)
deriving DecidableEq, Repr

/-- What a device does at a ruled instant (R216). -/
inductive RuledKind where
  | start (ens gen : Nat)
  | event (code : Nat)
  | halt (ens : Nat)
  | deskew
deriving DecidableEq, Repr

/-- A ruled action that waits for its instant. -/
structure RuledAction where
  kind : RuledKind := .deskew
  instant : Nat := 0                   -- low 32 bits of a master tick
deriving DecidableEq, Repr

/-- A COND frame held by the master, or this device's own result (R228, R229). -/
structure Cond where
  ens : Nat := 0
  seq : Nat := 0
  dev : Nat := 0
  result : Bool := false
deriving DecidableEq, Repr

/-- A decision of a chain ensemble that waits for DECIDE (R228 to R231). -/
structure ChainDecision where
  ens : Nat := 0
  seq : Nat := 0
  reached : Nat := 0                   -- master tick at which the lead sector reached it (R229)
deriving DecidableEq, Repr

/-- The outcome of a chain decision as a DECIDE frame gave it. -/
structure ChainOutcome where
  ens : Nat := 0
  seq : Nat := 0
  outcome : Bool := false
  instant : Nat := 0
deriving DecidableEq, Repr

/-- The chain logic of this device. -/
structure Ruling where
  queue : List Frame := []             -- own frames waiting for a slot, at most 8, oldest first (R201)
  forward : List Frame := []           -- frames received and to be retransmitted, oldest first (R200)
  ready : List Frame := []             -- of these, the frames ready for the next output slot
  out : Frame := {}                    -- the frame of the present output slot
  sending : Bool := false              -- the outputs run (R194, R204)
  locked : Bool := false               -- frame lock is held (R196)
  offsets : List Int := []             -- the last 64 offsets, in dots (R212)
  offset : Int := 0                    -- the offset in force, in dots
  valid : Nat := 0                     -- consecutive valid frames in RULING (R204)
  closureOk : Bool := true             -- the closure error lies within its limit (R213)
  anchors : List (Nat × Nat) := []     -- the last two ruling anchors, newest first: GEN and 32.10 ticks and dots
  actions : List RuledAction := []     -- ruled actions received and not yet due
  frozen : Tab Int := []               -- chain ensemble → offset frozen at the START of its run (R223)
  base : Tab Nat := []                 -- chain ensemble → ruling anchor its run counts from
  seqs : Tab Nat := []                 -- chain ensemble → decisions since its START (R228)
  conds : List Cond := []              -- COND results held by the master
  decisions : List ChainDecision := [] -- decisions for which the master has yet to send DECIDE
  outcomes : List ChainOutcome := []   -- DECIDE outcomes not yet landed
  measId : Nat := 0                    -- ID of the last MEAS frame
  measAt : Nat := 0                    -- its launch, 54.10
  hopResult : Nat := 0                 -- outgoing hop delay measured by the last deskew
  hopPending : Bool := false           -- a HOPVAL frame is to be sent after training (R210)
  deskewJob : Bool := false            -- RUL_DESKEW waits for the chain to train again (R882)
  roleAt : Nat := 0                    -- tick of the last ROLE write (R882)
deriving DecidableEq, Repr

end Sys2Proof.Machine
end

