-- ==== Sys2Proof/Machine/PartsHost.lean ====
section
/-! DEFINITION. State of the host side that no register shows: the PCI Express port, the command rings, Lectern's
commands and replies, MSI-X, the boot image (R845 to R883), and what the last read returned. -/

namespace Sys2Proof.Machine

/-- A command packet that Lectern has read and not yet started (R866, R870). -/
structure Packet where
  ring : Nat := 0
  opcode : Nat := 0
  cls : Nat := 0
  tag : Nat := 0
  fence : Bool := false
  noirq : Bool := false
  target : Nat := 0
  deadline : Nat := 0
  gen : Nat := 0                  -- SQ generation when the header was read (R867)
  readAt : Nat := 0               -- tick of the reading of the header
  params : List Word := []
deriving DecidableEq, Repr

/-- A command in progress: started and not yet replied to (R870). -/
structure Job where
  packet : Packet := {}
  wait : Nat := 0                 -- µs from reading to start (R867)
  delay : Nat := 0                -- delayed transfers and waits (R872)
  mask : Nat := 0                 -- sectors or octets still awaited
  aux : Nat := 0                  -- what the command must remember until its reply
  failed : Bool := false
deriving DecidableEq, Repr

/-- A reply waiting to be written to its completion ring (R867, R868). -/
structure Reply where
  ring : Nat := 0
  opcode : Nat := 0
  tag : Nat := 0
  gen : Nat := 0
  status : Nat := 0
  wait : Nat := 0
  delay : Nat := 0
  noirq : Bool := false
  lecGen : Nat := 0               -- generation of the Lectern instance that wrote it
  result : List Word := []
  heldAt : Nat := 0               -- tick at which REORDER held it (R1050)
deriving DecidableEq, Repr

/-- The locked sections of R1043. -/
inductive Section where
  | append | handover | lifecycle
deriving DecidableEq, Repr

/-- Lectern, its rings and the reply engine. -/
structure Lectern where
  waiting : List Packet := []          -- read and waiting, oldest first
  jobs : List Job := []                -- in progress, oldest first
  replies : List Reply := []           -- waiting for room, oldest first
  coal : Tab Nat := []                 -- replies of a ring since its vector was last signalled
  coalAt : Tab Nat := []               -- tick of the first of them
  turn : Tab Nat := []                 -- class → the ring pair served last
  locked : Option Section := none      -- a locked section in progress (R1043)
  broken : List Nat := []              -- opcodes of the commands whose sections a halt discarded (R1045)
deriving DecidableEq, Repr

/-- The PCI Express function and MSI-X (R845 to R854, R883). -/
structure HostPort where
  linkUp : Bool := false
  d3hot : Bool := false
  perst : Bool := true                 -- PERST_N low: the main domain is held in reset
  msixSent : Tab Nat := []             -- messages sent, by vector
  msixPba : List Nat := []             -- vectors pending in the PBA, ascending
  msixUnmask : List Nat := []          -- vectors whose table entry is unmasked, ascending; all are masked at reset
  held : List Nat := []                -- vectors raised in D3hot, oldest first
  lastWidth : Nat := 16                -- width of the previous start-up, kept in the wear ledger (R854)
  marginFails : Tab Nat := []          -- lane → start-ups in a row that failed margining (R853)
  image : List Byte := []              -- boot-image bytes pushed so far (R860)
  window : Tab Byte := []              -- the boot image window of BAR4
  awaitImage : Bool := false           -- BOOT_SEL high, or no flash image accepted
  via : Nat := 0                       -- whose the BAR0 access under way is: 0 the host, 3 the Copyist (`ERR.ACCESS_HI.BAR`)
deriving DecidableEq, Repr

/-- An open loop of a Copyist program (R893, R894). -/
structure CpyLoop where
  start : Nat := 0                     -- address of its first body descriptor
  ring : Bool := false
  left : Nat := 1                      -- passes left, the present one counted
  close : Option (Nat × List Word) := none  -- ENDLOOP of a ring loop, once read
deriving DecidableEq, Repr

/-- A descriptor carried out inside a loop and not yet written back (R892, R894). -/
structure CpyRec where
  pc : Nat := 0
  words : List Word := []
  status : Nat := 0
  delay : Nat := 0
  yielded : Nat := 0
  waited : Nat := 0
  due : Bool := false                  -- carried out since its last write-back
deriving DecidableEq, Repr

/-- A channel of the Copyist (R884 to R912). -/
structure Chan where
  desc : List Word := []               -- the descriptor in progress; none while empty
  ended : Option Nat := none           -- its status, until it is written back (R891)
  next : Nat := 0                      -- address of the descriptor after it
  flush : Bool := false                -- a loop, or a pass of a ring loop, has ended with it
  loops : List CpyLoop := []           -- innermost first
  recs : List CpyRec := []             -- in program order
  passes : Tab Nat := []               -- descriptor → times carried out since the outermost loop was entered (R893)
  at_ : Nat := 0                       -- tick at which WAIT or EMPTY began
  waited : Nat := 0                    -- µs of the WAIT that ended
  kicked : Bool := false               -- KICK written while a read is under way (R912)
  left : Nat := 0                      -- the state that PAUSED left
  pausing : Bool := false              -- PAUSE takes effect at the end of the segment
  aborted : Bool := false              -- ABORT came as a descriptor ended (R912)
  moving : Bool := false               -- a MOVE has passed its checks and copies
  read : Nat := 0                      -- source bytes of the MOVE read
  hold : List Byte := []               -- the holding register (R899)
  dstHeld : Bool := false              -- the destination of the segment is reserved (R900)
  srcHeld : Bool := false
  waitsDst : Bool := false             -- its wait has been counted
  waitsSrc : Bool := false
  yieldTo : Option Nat := none         -- it has yielded, and waits for this channel's segment to end (R901)
  first : Bool := false                -- its reservations are granted first (R901)
  toHost : Bool := false               -- it has written host memory since GO (R896)
  fencing : Bool := false              -- the read of a FENCE is under way
  late : Nat := 0                      -- fabric replies that a reset has left outstanding (R910)
deriving DecidableEq, Repr

/-- What the last read of any port returned. -/
structure Answer where
  words : List Word := []
  bytes : List Byte := []
  poisoned : Bool := false             -- a completion was marked poisoned (R284, R936)
  acked : Bool := true                 -- false: Unsupported Request, or an SMBus code not acknowledged
deriving DecidableEq, Repr

end Sys2Proof.Machine
end

