-- ==== Sys2Proof/Machine/PartsErrata.lean ====
section
/-! DEFINITION. State of Errata and of debug access that no register shows (R952 to R976, R1029 to R1057). -/

namespace Sys2Proof.Machine

/-- Errata. -/
structure Errata where
  shadows : List Nat := []             -- domains whose reset shadow is open, earliest first (R972, R973)
  ending : List Nat := []              -- of these, the domains whose reset has ended: 2 µs run
  targets : Tab Nat := []              -- source → sectors it has escalated to and still holds (R963)
  detector : List Nat := []            -- sources whose detector asserts now, ascending
  brokenNow : List Nat := []           -- sources whose pair is broken now, ascending (R954)
  pendAt : Tab Nat := []               -- source → tick at which its reaction timer started (R961)
  announced : List Nat := []           -- domains whose reset waits for Errata's acceptance (R972)
deriving DecidableEq, Repr

/-- The test access port, the debug access port and the injection slots. -/
structure Debug where
  tapInstr : Nat := 0x01               -- current TAP instruction; IDCODE after reset (R1029, R1030)
  cells : Tab Nat := []                -- update cells of the boundary register (R1032)
  dapStatus : Nat := 0                 -- STATUS of the latest request (R1036)
  dapData : Nat := 0
  dapAddr : Nat := 0
  lfsrs : Tab Nat := []                -- injection slot → its LFSR (R1049)
  heldFrames : List Frame := []        -- frames held by REORDER (R1050)
  frameAt : Nat := 0                   -- tick at which the latest of them was held
  haltAt : Nat := 0                    -- tick of the halt request that is deferred (R1043)
  heldReplies : List Reply := []       -- replies held by REORDER, oldest first
  tries : Tab Nat := []                -- link → tries of the transfer being sent again (R1051)
deriving DecidableEq, Repr

end Sys2Proof.Machine
end

