-- ==== Sys2Proof/Machine/PartsQuill.lean ====
section
/-! DEFINITION. Quill's state that no register shows (R95, R102 to R109, R985 to R1020), and the device's start-up
step (R1081). -/

namespace Sys2Proof.Machine

/-- Where Quill stands in switching the rails (R102 to R107, R996, R997). -/
inductive PwrPhase where
  | unpowered                          -- VAUX below its range
  | delay                              -- the 2 ms before PWR_EN_0 (R102)
  | raising (n : Nat)                  -- PWR_EN_n is high, PG_n awaited
  | settling (n : Nat)                 -- PG_n is high, the 1 ms after it runs
  | aborting (n : Nat)                 -- groups below n are being lowered (R103)
  | up                                 -- every group raised, main power-on reset ended
  | safeWait                           -- SAFE in force, the power-down not yet begun (R991, R997)
  | lowering (n : Nat)                 -- groups below n are still high (R105)
  | cycleWait                          -- every enable low, 100 ms run (R997)
  | dormant                            -- only VAUX is up
deriving DecidableEq, Repr

/-- Why a power-down was begun: DATA0 of a POWER_DOWN entry (R1015). -/
inductive DownCause where
  | rest | rule (k : Nat) | overtemp | cycle | pgLoss
deriving DecidableEq, Repr

/-- An entry of the event record not yet read over SMBus: its ring index, whether it comes from a rule with ALERT, and
its alert group (R1014 to R1019). -/
structure SmbEntry where
  index : Nat := 0
  group : Nat := 0
  ruleAlert : Bool := false
deriving DecidableEq, Repr

/-- The counting of one rule (R994). -/
structure RuleCount where
  run : Nat := 0                       -- consecutive samples in which the condition held
  back : Nat := 0                      -- consecutive samples beyond the hysteresis since the firing
  fired : Bool := false                -- fired, and not yet armed again
deriving DecidableEq, Repr

/-- The interlock's working values (R1008). -/
structure Interlock where
  first : Nat := 0                     -- the channel that changed first: 1 A, 2 B
  closedRun : Nat := 0                 -- ticks with both channels closed, in INIT
  disc : Nat := 1000                   -- DISC in force for the present disagreement (R1009)
  disagree : Nat := 0                  -- ticks of disagreement since it began
deriving DecidableEq, Repr

/-- Quill. -/
structure Quill where
  phase : PwrPhase := .unpowered
  down : Option DownCause := none      -- the power-down under way or ordered
  heldWake : Option Nat := none        -- a wake source that waits for a power-down or an entry to end (R1002)
  smbAddr : Nat := 0x58                -- SMBus target address, from the straps (R95)
  en : Nat := 0                        -- levels of PWR_EN_7 to PWR_EN_0
  pg : Nat := 0                        -- filtered levels of PG_7 to PG_0
  qtick : Nat := 0                     -- Quill ticks since VAUX first rose (R986)
  qsec : Nat := 0                      -- Quill second count (R987)
  seq : Nat := 0                       -- entries since VAUX first rose (R1014)
  hostUnread : Nat := 0                -- entries new to the host (R1016)
  smbUnread : List SmbEntry := []      -- entries not yet read over SMBus, oldest first
  smbNext : Nat := 0                   -- the SMBus reader's next entry
  alertMask : Nat := 0xF               -- R1018, code 0x12
  alertQuiet : Bool := false           -- released by an Alert Response until a further entry (R1019)
  ilk : Interlock := {}
  rules : Tab RuleCount := []
  warnArmed : Bool := true             -- THERM_WARN may be raised (R990)
  vaux : Nat := 0                      -- VAUX in mV (R989)
  wakeAt : Option Nat := none          -- the wake timer, as a Quill tick count (R1000)
  depth : Nat := 0                     -- rest depth in force (R998)
  entering : Option Nat := none        -- rest depth being entered
  waking : Bool := false               -- a wake is under way
  f3 : Bool := false                   -- an F3 is in force, kept until power cycle (R968)
  f3Stat : List Nat := []              -- F3 sources whose STAT is set, kept with it
  tamperLow : Bool := false            -- TAMPER_N is asserted
  tamperOnce : Bool := false           -- a detection has been taken since VAUX rose
  tamperFreeAt : Option Nat := none    -- Quill tick of the release since the last detection (R1013)
  tamperWait : List Nat := []          -- causes of tampers whose wipes are about to run (R840)
  supervisor : Bool := true            -- the front-end supply supervisor holds every pin off (R109)
  rev : Nat := 0                       -- identification as of the last start-up, for SMBus (R1018)
  serial : Nat := 0
  lcStart : Nat := 0
  step : Nat := 0                      -- start-up step in progress; 0 before start-up, 11 after step 10 (R1081)
  bootSel : Bool := false              -- BOOT_SEL as sampled (R94)
deriving DecidableEq, Repr

end Sys2Proof.Machine
end

