-- ==== Sys2Proof/Machine/PartsRun.lean ====
section
/-! DEFINITION. State of a running sector that no register shows: the Scribe's flow, decisions and pencil (R300 to R409),
the octets' boundary sequences and vectors (R415 to R445), the instants of the Nibs (R451 to R482), the results on
their way (R615 to R627), and events (R334 to R338). Instants are counted in dots (R10), boundaries exactly, in
2^-32 tick. -/

namespace Sys2Proof.Machine

/-- Where execution or staging stands in the pattern (R315 to R327). -/
structure Flow where
  pc : Nat := 0
  loops : List (Nat × Nat) := []       -- start line and passes left, innermost first
  calls : List (Nat × Nat) := []       -- return address and loop depth at the CALL, latest first
  cnt : List Nat := [0, 0, 0, 0]       -- C0 to C3
  back : Bool := false                 -- pc was reached by the return from its own ENDL (R316)
deriving DecidableEq, Repr

/-- A staged line (R374), with the tag under which its items have been announced (R393). -/
structure Staged where
  addr : Nat := 0
  bits : Nat := 0
  tag : Option Nat := none
  early : Option Nat := none           -- index within the tag of its early mark (R400)
  held : Nat := 0                      -- sectors in whose holding sets its event waits (R398)
deriving DecidableEq, Repr

/-- A pending decision (R309, R310, R356). -/
structure Decision where
  seq : Nat := 0                       -- sampled and compare decisions since START, this one included
  idx : Nat := 0                       -- vector index of its line
  addr : Nat := 0
  op : Nat := 0
  cond : Nat := 0
  evt : Nat := 0
  operand : Nat := 0
  target : Nat := 0                    -- first line of its alternative (R376)
  at_ : Nat := 0                       -- instant at which its line crossed the ink line
  span : Nat := 0                      -- first vector index of its sticky span (R329)
  since : Nat := 0                     -- ink instant of the previous line that tested BLOT_TRIG
  lastRep : Bool := false              -- repetition at which WAITS or ENSYNC times out
  own : Option (Nat × Bool) := none    -- resolution instant and outcome in this sector
  done : Option (Nat × Bool) := none   -- resolution instant and outcome that land
  timeout : Bool := false
  vecs : Nat := 0                      -- vectors inked since `own` (R358)
  lines : Nat := 0                     -- vectors inked since its own line (R406)
  chainSeq : Option Nat := none        -- SEQ in its chain ensemble (R228)
deriving DecidableEq, Repr

/-- The pencil slot (R379 to R391). -/
structure Pencil where
  holder : Option Nat := none          -- address of the holding decision line
  op : Nat := 0
  operand : Nat := 0
  tag : Nat := 0
  target : Nat := 0
  track : List Staged := []
  flow : Flow := {}                    -- where its staging goes on
  depth : Nat := 0                     -- lines staged, at most 256
  ended : Bool := false                -- pencilling of the track has ended (R383, R384)
  predAlt : Bool := true               -- predicted outcome (R390)
  handed : Bool := false               -- handed on, and so ready at once (R382)
deriving DecidableEq, Repr

/-- Early marks of one tag in the Blotter stream (R400, R401). -/
structure Early where
  tag : Nat := 0
  total : Nat := 0
  inked : Nat := 0
  closed : Bool := false
deriving DecidableEq, Repr

/-- The first failing strobe result of a pin in a vector (R626). -/
structure FirstFail where
  pin : Nat := 0
  instant : Nat := 0
  strobe : Nat := 0
  level : Nat := 0
  drop : Bool := false
deriving DecidableEq, Repr

/-- A line that has crossed the ink line and whose vector result is not yet final (R622, R623). -/
structure Inked where
  idx : Nat := 0
  addr : Nat := 0
  bits : Nat := 0
  at_ : Nat := 0
  closed : Bool := false               -- its ink span is over (R426)
  early : Bool := false                -- its mark entered the Blotter stream as it was announced (R400)
  vectors : Nat := 0                   -- vectors that took it and have not ended at their balls
  strobes : Nat := 0                   -- placed strobes that have still to give a result
  last : Nat := 0                      -- latest vector end or strobe so far
  v : Nat := 0                         -- V at the pace octet's balls
  fail : Nat := 0                      -- pins with a failing result
  pass : Nat := 0                      -- pins with a passing result
  drop : Nat := 0
  nosense : Nat := 0
  firsts : List FirstFail := []
  safe : Bool := false                 -- SAFE at the time tag
  coast : Bool := false                -- COAST at the time tag
  aged : Nat := 0                      -- pins whose accuracy is not assured at the time tag
deriving DecidableEq, Repr

/-- A final vector result kept for a pending decision or an open sticky span (R624). -/
structure Final where
  idx : Nat := 0
  fail : Nat := 0
  pass : Nat := 0
  instant : Nat := 0
deriving DecidableEq, Repr

/-- The Scribe of a sector. -/
structure Scribe where
  flow : Flow := {}
  reps : Nat := 0                      -- repetitions left of the line at pc; 0 before its first
  word : Option (Nat × Nat) := none    -- line inked at the present boundary whose opcode has still to act: address, bits
  at_ : Nat := 0                       -- the present pace boundary
  idx : Nat := 0                       -- vectors inked
  primed : Bool := false
  start : Option Nat := none           -- S in dots (R302)
  chain : Option (Nat × Nat) := none   -- chain ensemble and local instant of its start in dots (R225)
  decisions : List Decision := []      -- pending, oldest first
  seq : Nat := 0                       -- sampled and compare decisions since START
  chainSeq : Nat := 0
  span : Nat := 0                      -- first vector index of the open sticky span
  since : Nat := 0
  waits : Nat := 0                     -- repetitions of the WAITS or ENSYNC line so far
  ensync : List (Nat × Nat) := []      -- ENSYNC codes inked since START or the last release, with the ink instant
  trigs : List Nat := []               -- detection instants of firings and mask stops, latest first (R693)
  stops : List (Nat × Nat) := []       -- stop causes and the instants from which they act (R339)
  halted : Bool := false               -- a HALT line has crossed the ink line
  stopAt : Nat := 0                    -- the stop boundary
  ensStop : Option Nat := none         -- stop instant of another member (R359)
  setps : List (Nat × Nat) := []       -- SETP lines since the last pace boundary: octet mask and entry (R428)
  sigs : List (Nat × Nat) := []        -- vector index and EVT_IO outputs of inked SIG lines (R338)
  main : List Staged := []             -- staged lines of the main track not yet inked
  mainFlow : Flow := {}
  mainOn : Bool := false               -- the staging point of the main track is `mainFlow`
  pen : Pencil := {}
  earlies : List Early := []
  inked : List Inked := []             -- oldest first
  finals : List Final := []
  resolved : Nat := 0                  -- vectors resolved
  lastEnd : Nat := 0                   -- end at the balls of the latest vector to end
  got : List (Nat × Nat) := []         -- latest deliveries to the pending set: code and instant (R333)
deriving DecidableEq, Repr

/-- A drive instant or strobe of a vector (R463, R497 to R511). -/
structure Pulse where
  t : Nat := 0                         -- programmed instant, or window open
  eng : Nat := 0                       -- 0 to 3 E0 to E3; 4, 5 STB_0, STB_1
  vec : Nat := 0
  idx : Option Nat := none
  lev : Option Bool := none
  de : Option Bool := none
  close : Nat := 0                     -- window close
  window : Bool := false
  glyph : Nat := 0                     -- resolved glyph
deriving DecidableEq, Repr

/-- A vector of an octet between its ink instant and its end at the balls (R420, R426). -/
structure Taken where
  n : Nat := 0                         -- its place in the octet's sequence
  idx : Option Nat := none             -- vector index of its line; none for a stimulus
  glyphs : Nat := 0                    -- eight glyphs, lane 0 lowest
  ts : Nat := 0
  alt : Nat := 0                       -- ALT_SEL
  gate : Bool := false                 -- CAP_GATE
  lanes : Nat := 0xFF                  -- lanes that it formats
  pulses : List (Nat × Pulse) := []    -- its instants by lane, as the tables stood at its ink instant (R484), counted from V
deriving DecidableEq, Repr

/-- A ball's formatter and strobe engines (R465 to R499). -/
structure Ball where
  waiting : List Pulse := []           -- not yet placed, in the order of R465
  placed : List Pulse := []            -- placed, and still to act
  lastDrive : Option Nat := none
  lastStb : List (Option Nat) := [none, none]
  driving : Option Bool := none        -- was the previous vector of the run a driving one?
  readied : Option Nat := none         -- vector whose level instant acted before its turn-on instant (R508)
deriving DecidableEq, Repr

/-- A vector that has begun at the balls: V in dots, the vector index of its line, CAP_GATE (R672, R680). -/
structure Begun where
  vec : Nat := 0
  v : Nat := 0
  idx : Nat := 0
  gate : Bool := false
deriving DecidableEq, Repr

/-- The W samples of a vector (R674). -/
structure WSet where
  vec : Nat := 0
  v : Nat := 0
  idx : Nat := 0
  gate : Bool := false
  left : Nat := 0                      -- strobes placed under W that have still to act
  valid : Nat := 0                     -- bit 2l + j
  codes : Nat := 0                     -- at bit 4l + 2j
  wchg : Nat := 0
  nosense : Bool := false
deriving DecidableEq, Repr

/-- The boundary sequence of an octet (R415 to R445). -/
structure OctetRun where
  running : Bool := false
  entry : Nat := 0                     -- entry in force at the balls
  m : Int := 0                         -- number of the next boundary on its oscillator
  next : Nat := 0                      -- exact time of the next boundary
  count : Nat := 0                     -- boundaries so far
  vectors : List Taken := []           -- oldest first
  changes : List (Nat × Nat) := []     -- change vector and entry, oldest first (R432)
  effect : Option (Nat × Nat) := none  -- entry that comes into force at the next boundary, and its stretch in dots
  isOver : Bool := false                 -- inks no more vectors
  recent : List Begun := []            -- the latest vectors to begin at the balls, newest first
  wsets : List WSet := []              -- W samples of vectors not yet all taken
  batches : List (Nat × List (Nat × Nat)) := []  -- vector, and codes by 8 × slot + DAC (R589)
  wait : List (Nat × Nat) := []        -- codes of LEVEL lines that wait for a vector
  fe : List Nat := []                  -- released lanes that take their state at the next boundary at the balls (R556)
  oldCfg : List (Nat × Nat) := []      -- lane, and its FE CFG as in force until the next boundary (R573)
  meas : Bool := false                 -- runs in MEASURE
  rep : Nat := 0                       -- stimulus vector of the next boundary in MEASURE
  stim : List Nat := []                -- the stimulus as its present repetition took it: CTL, then the eight vectors (R730)
  heldFrac : Tab Nat := []             -- entry → FRAC held from the latest LO write, plus 1 (R447)
  staging : Tab Nat := []              -- staging buffers of its slots, by 5 × slot + word (R458)
deriving DecidableEq, Repr

/-- An event that has been posted and not yet delivered (R334, R335). -/
structure Posted where
  code : Nat := 0
  source : Nat := 0
  route : Nat := 0                     -- the route entry when it was posted
  at_ : Nat := 0                       -- post instant in dots
  chain : Option Nat := none           -- INSTANT of its EVENT frame
  io : Bool := true                    -- its outputs count from its delivery
deriving DecidableEq, Repr

/-- An output edge of an EVT_IO pin that falls due (R338). -/
structure IoEdge where
  pin : Nat := 0
  ref : Nat := 0                       -- reference instant in dots
deriving DecidableEq, Repr

/-- The event logic. -/
structure Events where
  posted : List Posted := []           -- oldest first
  fifo : List (Nat × Nat) := []        -- source and code, oldest first, at most 64
  edges : List IoEdge := []
  levels : Nat := 0                    -- filtered level of each EVT_IO ball
  driven : Nat := 0                    -- output level of each EVT_IO
  pulses : Tab Nat := []               -- output → instant at which its pulse ends, in dots
deriving DecidableEq, Repr

end Sys2Proof.Machine
end

