-- ==== Sys2Proof/Machine/PartsStore.lean ====
section
/-! DEFINITION. The memories and their hidden state: pattern store, read-ahead cache, sector stores (R244 to R299, R915 to
R950). -/

namespace Sys2Proof.Machine

/-- A line group that the read-ahead cache holds (R260 to R268). -/
structure Group where
  uses : Nat := 1                      -- times the fetch path has reached it ahead of execution
  arrived : Bool := false              -- false: its fetch is under way
  bad : Nat := 0                       -- its lines that are marked uncorrectable (R284)
  body : Option Nat := none            -- in the resident part, for the body of the loop of this line (R264)
deriving DecidableEq, Repr

/-- The read-ahead cache of a sector. -/
structure Cache where
  groups : Tab Group := []             -- line group → what the cache holds
  credit : Nat := 32768                -- fetch credit in eighths of a line (R266)
deriving DecidableEq, Repr

/-- A reservation of a sector (R271). -/
structure Resv where
  units : Nat := 0                     -- V + F + K in 0.25 GB/s
  floor : Nat := 0                     -- period floor, 16.32
deriving DecidableEq, Repr

/-- A self-test of banks of a sector (R927). -/
structure Bist where
  banks : Nat := 0                     -- banks still under test
  pass : Nat := 1                      -- pass in progress, 1 to 5
  named : Nat := 0                     -- banks of the test
  passed : Nat := 0
  repaired : Nat := 0                  -- columns repaired in it
  found : List (Nat × Nat) := []       -- bank, column that failed a pass
  owners : List (Nat × Nat) := []      -- owners to return to
  job : Bool := false                  -- STORE_BIST awaits it
deriving DecidableEq, Repr

/-- A host write of BAR2 that waits for a Copyist channel to become IDLE (R919). -/
structure HeldWrite where
  off : Nat := 0
  data : List (Option Byte) := []
  tick : Nat := 0
deriving DecidableEq, Repr

/-- The memories. -/
structure Stores where
  mem : Tab Byte := []                 -- by BAR2 offset (R245)
  poison : List Nat := []              -- poisoned 32-byte words of the stacks, by offset div 32, ascending
  bad : List Nat := []                 -- uncorrectable 32-byte words found and not yet rewritten, ascending
  rowTimes : Tab (List Nat) := []      -- row of a stack → Quill seconds of its correctable errors in 24 hours (R286)
  colTimes : Tab (List Nat) := []      -- column of a bank → Quill seconds of its correctable errors (R932)
  resv : Tab Resv := []                -- sector → its reservation
  caches : Tab Cache := []
  next : Tab Nat := []                 -- 16 × sector + bank → owner code it passes to, plus 1 (R923)
  bist : Tab Bist := []
  held : List HeldWrite := []          -- oldest first
deriving DecidableEq, Repr

end Sys2Proof.Machine
end

