-- ==== Sys2Proof/Machine/State.lean ====
section
/-! DEFINITION. The state of the block as plain data, and the state after reset. -/

namespace Sys2Proof.Machine

/-- No command of this block faults: the spec gives every command an effect in every state. -/
inductive Fault where
deriving DecidableEq, Repr

/-- Why a command has no outcome. -/
inductive Refusal where
  /-- The command has no meaning in the model yet. Raised by `exec`; safe: the machine stops. -/
  | notModelled (mnemonic : String)
deriving DecidableEq, Repr

/-- The EVL-5128. -/
structure State where
  pending : List Instr := []           -- commands waiting, first in, first out
  regs : Tab Word := []                -- every register that differs from its reset value
  latch : Tab Nat := []                -- HI register → the value that the last read of its LO register latched, plus 1
  tick : Nat := 0                      -- the device tick counter (R14, R139)
  free : Nat := 0                      -- the model's own count of free values taken
  answer : Answer := {}                -- what the last read returned
  hostMem : Tab Byte := []             -- bytes the device has written to host memory
  host : HostPort := {}
  lec : Lectern := {}
  quill : Quill := {}
  clk : Clock := {}
  rul : Ruling := {}
  err : Errata := {}
  dbg : Debug := {}
  vault : Vault := {}
  nvm : Nvm := {}
  mem : Stores := {}
  ev : Events := {}
  chans : Tab Chan := []               -- by Copyist channel
  cpyWait : List Nat := []             -- channels whose reservation waits, in order of request (R901, R912)
  scribes : Tab Scribe := []           -- by sector
  octs : Tab OctetRun := []            -- by global octet
  balls : Tab Ball := []               -- by 8 × octet + lane
  dacs : Tab Dac := []                 -- by 72 × octet + 8 × slot + DAC
  parks : Tab Nat := []                -- 9 × octet + slot → tick from which its DACs may park, plus 1 (R596)
  settled : List Nat := []             -- sectors that have been in SETUP since they last left OFF, ascending (R595)
  sines : Tab Sine := []               -- by global octet
  sineAt : Option Nat := none          -- tick at which armed generators start (R604)
  hairs : Tab Hair := []               -- by global octet, as the next three
  tdrs : Tab Tdr := []
  dcs : Tab DcUnit := []
  rots : Tab Rot := []
  cores : Tab CoreCal := []            -- by 9 × octet + core; core 8 is the spare
  secCals : Tab SecCal := []           -- by sector, as the next
  procs : Tab Proc := []
  margs : Tab Marg := []
  blots : Tab Blot := []
deriving DecidableEq, Repr

/-- The device before `VAUX` first enters its range: every register holds its reset value, nothing is listed in any
memory, and no command waits. -/
def State.reset : State := {}

end Sys2Proof.Machine
end

