-- ==== Sys2Proof/Machine/Ops.lean ====
section
/-! DEFINITION. The named operations over registers, memories and the outside of the block. -/

namespace Sys2Proof.Machine

/-- The value of the register at a key. -/
def State.rd (s : State) (a : Nat) : Word := Tab.get resetOf s.regs a

/-- The state with a register holding a value. -/
def State.wr (s : State) (a : Nat) (v : Word) : State := { s with regs := Tab.put resetOf s.regs a v }

/-- The value of a field. -/
def State.get (s : State) (f : Fld) : Nat := (s.rd f.reg).field f.lo f.n

/-- The state with a field holding the low bits of a value. -/
def State.set (s : State) (f : Fld) (v : Nat) : State := s.wr f.reg ((s.rd f.reg).withField f.lo f.n v)

/-- A one-bit field as a truth value. -/
def State.flag (s : State) (f : Fld) : Bool := decide (s.get f = 1)

/-- A field set from a truth value. -/
def State.setB (s : State) (f : Fld) (b : Bool) : State := s.set f (b2n b)

/-- A field raised by an amount, saturating at its greatest value. -/
def State.bump (s : State) (f : Fld) (n : Nat) : State := s.set f (satAdd (2 ^ f.n - 1) (s.get f) n)

/-- A 64-bit value in two registers, low half first. -/
def State.set64 (s : State) (lo hi : Nat) (v : Nat) : State :=
  (s.wr lo (BitVec.ofNat 32 v)).wr hi (BitVec.ofNat 32 (v / 2 ^ 32))

/-- The 64-bit value of two registers. -/
def State.get64 (s : State) (lo hi : Nat) : Nat := (s.rd lo).toNat + (s.rd hi).toNat * 2 ^ 32

/-- Every register whose key satisfies a test returns to its reset value. -/
def State.resetRegs (s : State) (p : Nat → Bool) : State :=
  { s with regs := s.regs.filter fun e => !p e.1, latch := s.latch.filter fun e => !p e.1 }

/-- One condition guarding a change. -/
def State.when (s : State) (c : Bool) (f : State → State) : State := if c then f s else s

/-- A change for each element of a list, in order. -/
def State.each {α : Type} (s : State) (l : List α) (f : State → α → State) : State := l.foldl f s

/-- The indices below `n` whose bit is set in a mask, ascending. -/
def bitsOf (n mask : Nat) : List Nat := (List.range n).filter fun k => mask.testBit k

/-- The mask of a list of indices. -/
def maskOf (l : List Nat) : Nat := l.foldl (fun m k => m ||| 2 ^ k) 0

/-- The octets of a sector (R3). -/
def octetsOf (k : Nat) : List Nat := (List.range 8).map (8 * k + ·)

/-- The next free value (the spec leaves a value open), and the state after taking it. -/
def State.fresh (s : State) : Nat × State := (Config.freeNat s.free, { s with free := s.free + 1 })

/-- Ticks of a time in µs (R9). -/
def usTicks (us : Nat) : Nat := 1500 * us

/-- The tick counter's range (R14). -/
def tickWrap (n : Nat) : Nat := n % 2 ^ 64

/-- The bytes of a value, little-endian (R19). -/
def leBytes : Nat → Nat → List Byte
  | 0, _ => []
  | n + 1, v => BitVec.ofNat 8 v :: leBytes n (v / 256)

/-- The value of little-endian bytes (R19). -/
def leNat : List Byte → Nat
  | [] => 0
  | b :: t => b.toNat + 256 * leNat t

/-- The bytes of words, little-endian. -/
def wordBytes (ws : List Word) : List Byte := ws.flatMap fun w => leBytes 4 w.toNat

/-- An unlisted byte of a memory reads as 0. -/
def memDefault : Nat → Byte := fun _ => 0

/-- A byte of a memory. -/
def memRd (m : Tab Byte) (a : Nat) : Byte := Tab.get memDefault m a

/-- A memory with a byte written. -/
def memWr (m : Tab Byte) (a : Nat) (b : Byte) : Tab Byte := Tab.put memDefault m a b

/-- A memory with bytes written from an address upward. -/
def memWrs (m : Tab Byte) (a : Nat) : List Byte → Tab Byte
  | [] => m
  | b :: t => memWrs (memWr m a b) (a + 1) t

/-- Bytes of a memory from an address upward. -/
def memRds (m : Tab Byte) (a n : Nat) : List Byte := (List.range n).map fun i => memRd m (a + i)

/-- A memory in canonical form: addresses strictly rising, no entry that an unlisted address would read as. -/
abbrev Memory.wf (m : Tab Byte) : Prop := Tab.wf memDefault m = true

/-- Bytes written to host memory. -/
def State.toHost (s : State) (a : Nat) (bs : List Byte) : State := { s with hostMem := memWrs s.hostMem a bs }

/-- A sorted list without repeats, with an element added. -/
def insertNew (x : Nat) : List Nat → List Nat
  | [] => [x]
  | y :: t => if x < y then x :: y :: t else if x = y then y :: t else y :: insertNew x t

/-- MSI-X vector `v` is signalled (R883): held in D3hot (R850), kept in the PBA while masked, otherwise sent. -/
def State.signal (s : State) (v : Nat) : State :=
  if s.host.d3hot then { s with host := { s.host with held := if s.host.held.contains v then s.host.held else s.host.held ++ [v] } }
  else if s.host.msixUnmask.contains v then
    { s with host := { s.host with msixSent := Tab.put (fun _ => 0) s.host.msixSent v (Tab.get (fun _ => 0) s.host.msixSent v + 1) } }
  else { s with host := { s.host with msixPba := insertNew v s.host.msixPba } }

/-- A condition bit is set, and its vector signalled if it was clear (R883). -/
def State.setSignal (s : State) (f : Fld) (v : Nat) : State := if s.flag f then s else (s.set f 1).signal v

/-- What the last read returned. -/
def State.answers (s : State) (ws : List Word) : State := { s with answer := { words := ws } }

/-- What the last SMBus block read returned. -/
def State.answersBytes (s : State) (bs : List Byte) : State := { s with answer := { bytes := bs } }

/-- The position at which a field of `w` bits begins when the next free bit is `pos` (R866). -/
def fieldPlace (pos w : Nat) : Nat :=
  if 64 ≤ w then (pos + 63) / 64 * 64 else if 32 < pos % 32 + w then (pos + 31) / 32 * 32 else pos

/-- The words of fields, given as (width, value) in order (R866). -/
def packFields (fs : List (Nat × Nat)) : List Word :=
  let r := fs.foldl (fun (acc : Nat × Nat) f =>
    let at_ := fieldPlace acc.1 f.1
    (at_ + f.1, acc.2 + f.2 % 2 ^ f.1 * 2 ^ at_)) (0, 0)
  (List.range ((r.1 + 31) / 32)).map fun i => BitVec.ofNat 32 (r.2 / 2 ^ (32 * i))

/-- The value of words, the first lowest. -/
def wordsNat (ws : List Word) : Nat := ws.foldr (fun w n => w.toNat + 2 ^ 32 * n) 0

/-- The fields of the given widths (R866). -/
def unpackFields (widths : List Nat) (ws : List Word) : List Nat :=
  let n := wordsNat ws
  (widths.foldl (fun (acc : Nat × List Nat) w =>
    let at_ := fieldPlace acc.1 w
    (at_ + w, acc.2 ++ [n / 2 ^ at_ % 2 ^ w])) (0, [])).2

/-- The words that fields of the given widths fill (R866). -/
def wordsFor (widths : List Nat) : Nat := (widths.foldl (fun pos w => fieldPlace pos w + w) 0 + 31) / 32

end Sys2Proof.Machine
end

