-- ==== Sys2Proof/Machine/LecternOps.lean ====
section
/-! DEFINITION. Commands and replies: which command Lectern starts next (R870), the statuses (R871), and putting a
reply in line for the reply engine (R867, R868). -/

namespace Sys2Proof.Machine
open Reg

/-- The statuses of R871. -/
def stDone : Nat := 0x0000
def stDoneDelayed : Nat := 0x0001
def stDoneReduced : Nat := 0x0002
def stBusy : Nat := 0x0100
def stSelftest : Nat := 0x0101
def stCapacity : Nat := 0x0102
def stSealed : Nat := 0x0103
def stTargetReset : Nat := 0x0104
def stNotErased : Nat := 0x0105
def stBadParam : Nat := 0x0106
def stMisaligned : Nat := 0x0107
def stStale : Nat := 0x0108
def stLogFull : Nat := 0x0109
def stFailedCal : Nat := 0x010A

/-- What Lectern knows of an opcode: the widths of its fixed parameters in order (R874 to R882, R53x), and whether the
tables mark it "TARGET". -/
def cmdParams (op : Nat) : Option (List Nat × Bool) :=
  match op with
  | 0x001 => some ([], false)
  | 0x002 => some ([], false)
  | 0x003 => some ([8], true)
  | 0x004 => some ([64, 32], false)
  | 0x005 => some ([8, 8], false)
  | 0x006 => some ([32], false)
  | 0x007 => some ([], false)
  | 0x101 => some ([8, 8, 16, 32, 64], false)
  | 0x102 => some ([8], false)
  | 0x103 => some ([8, 16], false)
  | 0x104 => some ([8, 16, 16, 16, 16, 16, 16], false)
  | 0x105 => some ([8, 32, 32, 64], false)
  | 0x106 => some ([8], false)
  | 0x201 => some ([8, 16, 8, 32, 32, 32, 32, 32, 32], false)
  | 0x202 => some ([64, 8, 64], false)
  | 0x203 => some ([8, 16, 8, 8, 8, 16], false)
  | 0x204 => some ([8, 8, 32, 16, 8, 8, 32, 16, 8, 8, 32, 16, 8, 8, 32, 16, 8, 8], false)
  | 0x205 => some ([8, 32, 32, 32, 32], false)
  | 0x206 => some ([], false)
  | 0x301 => some ([8, 8, 8, 32, 32, 16, 16], false)
  | 0x302 => some ([8, 8, 8, 16, 16], false)
  | 0x303 => some ([64, 8, 8, 16], false)
  | 0x304 => some ([8, 8, 8, 8, 16, 16, 16], false)
  | 0x305 => some ([8, 8, 8], false)
  | 0x306 => some ([8], false)
  | 0x307 => some ([8, 8, 8, 8, 32, 32, 32, 32, 32, 32, 32, 32], false)
  | 0x401 => some ([64], false)
  | 0x402 => some ([64, 8, 16], false)
  | 0x403 => some ([64], false)
  | 0x404 => some ([8, 16], true)
  | 0x405 => some ([8, 16], false)
  | 0x406 => some ([8, 8, 8, 8, 8], false)
  | 0x501 => some ([384], false)
  | 0x502 => some ([], false)
  | 0x503 => some ([384, 384, 384, 384], false)
  | 0x504 => some ([], false)
  | 0x505 => some ([384, 384, 384, 384], false)
  | 0x506 => some ([32, 32], false)
  | 0x507 => some ([256], false)
  | 0x508 => some ([32], false)
  | 0x601 => some ([], false)
  | 0x602 => some ([32, 32], false)
  | 0x603 => some ([32, 32], false)
  | 0x604 => some ([8, 8, 8, 32], false)
  | 0x605 => some ([32, 32], false)
  | 0x606 => some ([16, 32], false)
  | 0x607 => some ([8, 16], false)
  | 0x701 => some ([16], false)
  | 0x702 => some ([16, 8], false)
  | 0x703 => some ([16, 16], false)
  | 0x704 => some ([8, 8, 32, 32], false)
  | 0x801 => some ([8], false)
  | 0x802 => some ([], false)
  | 0x803 => some ([8, 8, 8, 32], false)
  | 0x804 => some ([8, 16], false)
  | 0x805 => some ([], false)
  | _ => none

/-- The fixed parameters of a packet, in the order of the command tables. -/
def Packet.fields (p : Packet) : List Nat := unpackFields ((cmdParams p.opcode).getD ([], false)).1 p.params

/-- The k-th parameter of a packet. -/
def Packet.arg (p : Packet) (k : Nat) : Nat := p.fields.getD k 0

/-- The sectors that a command names by its header, or by its sector, octet or wing parameter; every sector for a command
of the whole chain (R870). -/
def Packet.scope (p : Packet) : Nat :=
  match p.opcode with
  | 0x003 | 0x404 => p.target % 256
  | 0x101 | 0x102 | 0x104 | 0x105 | 0x406 | 0x607 => 2 ^ (p.arg 0 % 8)
  | 0x103 | 0x106 | 0x604 => if p.arg 0 % 2 = 0 then 0x0F else 0xF0
  | 0x201 | 0x203 | 0x301 | 0x302 | 0x304 | 0x305 | 0x306 | 0x307 | 0x405 => 2 ^ (p.arg 0 / 8 % 8)
  | 0x202 | 0x303 | 0x401 | 0x402 | 0x403 =>
    maskOf ((List.range 8).filter fun k => p.arg 0 / 2 ^ (8 * k) % 256 ≠ 0)
  | 0x801 | 0x802 | 0x803 | 0x804 => 0x100
  | _ => 0

/-- Commands of a ring read and not yet replied to. -/
def Lectern.open (l : Lectern) (r : Nat) : Bool :=
  l.jobs.any (·.packet.ring = r) || l.replies.any (·.ring = r)

/-- The ticks a command has waited since its header was read. -/
def State.waited (s : State) (p : Packet) : Nat := s.tick - p.readAt

/-- Slots of a completion ring in use, and its size (R862). -/
def State.cqSize (s : State) (r : Nat) : Nat := 2 ^ s.get (RING.SIZE.CQ_LOG r)
def State.cqFree (s : State) (r : Nat) : Nat :=
  let n := s.cqSize r
  (s.get (RING.CQ_HEAD.HEAD r) + n - s.get (RING.CQ_TAIL.TAIL r) - 1) % n

/-- May a waiting command start, given those read before it? (R868, R870) The vault's transactions are serial (R837): a
lifecycle command starts once none is open. -/
def State.mayStart (s : State) (earlier : List Packet) (p : Packet) : Bool :=
  !earlier.any (·.ring = p.ring)
    && decide (0 < s.cqFree p.ring)
    && !(p.fence && s.lec.open p.ring)
    && !(p.opcode / 256 = 5 && !s.vault.txs.isEmpty)
    && !(s.lec.jobs.any fun j => j.packet.scope &&& p.scope ≠ 0)
    && !(earlier.any fun q => q.scope &&& p.scope ≠ 0)

/-- The waiting commands that may start, oldest first. -/
def State.startable (s : State) : List Packet → List Packet → List Packet
  | _, [] => []
  | seen, p :: t => if s.mayStart seen p then p :: s.startable (seen ++ [p]) t else s.startable (seen ++ [p]) t

/-- The command Lectern starts next (R870): one that has waited more than 10 ms before the others, in order of waiting
time; otherwise the highest class, and in a class the ring pairs in turn. None while Lectern is not running, is halted
or holds 32 commands in progress (R1044). -/
def State.nextCommand (s : State) : Option Packet :=
  if s.flag LEC.STAT.RUNNING && !s.flag LEC.STAT.HALTED && decide (s.lec.jobs.length < 32) then
    let c := s.startable [] s.lec.waiting
    match c.find? fun p => decide (usTicks 10000 < s.waited p) with
    | some p => some p
    | none =>
      let pick (k : Nat) : Option Packet :=
        let ofK := c.filter (·.cls = k)
        match ofK.find? fun p => decide (p.ring ≠ Tab.get (fun _ => 8) s.lec.turn k) with
        | some p => some p
        | none => ofK.head?
      (List.range 4).findSome? pick
  else none

/-- The list without the first element that satisfies a test. -/
def dropFirst {α : Type} (p : α → Bool) : List α → List α
  | [] => []
  | x :: t => if p x then t else x :: dropFirst p t

/-- `LEC.STAT.JOBS` shows the commands in progress (R861). -/
def State.setJobs (s : State) (js : List Job) : State :=
  { s.set LEC.STAT.JOBS js.length with lec := { (s.set LEC.STAT.JOBS js.length).lec with jobs := js } }

/-- Has a command's DEADLINE passed? (R866, R872) -/
def State.overdue (s : State) (p : Packet) : Bool := decide (p.deadline ≠ 0 ∧ usTicks p.deadline < s.waited p)

/-- Lectern starts the next command if it has the given opcode and its DEADLINE has not passed: it leaves the waiting commands. -/
def State.start (s : State) (op : Nat) : Option (Packet × State) :=
  match s.nextCommand with
  | none => none
  | some p =>
    if p.opcode = op && !s.overdue p then
      some (p, { s with lec := { s.lec with
        waiting := dropFirst (fun q => decide (q = p)) s.lec.waiting
        turn := Tab.put (fun _ => 8) s.lec.turn p.cls p.ring } })
    else none

/-- The µs from the reading of a header to the present, as WAIT shows it (R867). -/
def State.waitUs (s : State) (p : Packet) : Nat := min (2 ^ 32 - 1) (s.waited p / 1500)

/-- A reply put in line: DONE becomes DONE_DELAYED after the deadline or with delayed transfers (R871). -/
def State.replyJob (s : State) (j : Job) (status : Nat) (result : List Word) : State :=
  let p := j.packet
  let st := if status = stDone && (s.overdue p || decide (j.delay ≠ 0)) then stDoneDelayed else status
  { s with lec := { s.lec with replies := s.lec.replies ++
    [{ ring := p.ring, opcode := p.opcode, tag := p.tag, gen := p.gen, status := st, wait := j.wait, delay := min (2 ^ 16 - 1) j.delay,
       noirq := p.noirq, lecGen := s.get LEC.STAT.GEN, result := result }] } }

/-- The reply of a command that completes as it starts. -/
def State.reply (s : State) (p : Packet) (status : Nat) (fields : List (Nat × Nat)) : State :=
  s.replyJob { packet := p, wait := s.waitUs p } status (packFields fields)

/-- A command that waits for hardware is in progress (R870). -/
def State.addJob (s : State) (p : Packet) (mask aux : Nat) : State :=
  s.setJobs (s.lec.jobs ++ [{ packet := p, wait := s.waitUs p, mask := mask, aux := aux }])

/-- The oldest command in progress that satisfies a test. -/
def State.findJob (s : State) (q : Job → Bool) : Option Job := s.lec.jobs.find? q

/-- A command in progress ends with a reply. -/
def State.endJob (s : State) (j : Job) (status : Nat) (fields : List (Nat × Nat)) : State :=
  (s.setJobs (dropFirst (fun x => decide (x = j)) s.lec.jobs)).replyJob j status (packFields fields)

/-- A command in progress is replaced by another record of itself. -/
def State.updateJob (s : State) (j j' : Job) : State :=
  s.setJobs (s.lec.jobs.map fun x => if x = j then j' else x)

/-- Every command in progress that satisfies a test completes with TARGET_RESET (R52, R872). -/
def State.resetJobs (s : State) (q : Job → Bool) : State :=
  s.each (s.lec.jobs.filter q) fun s j => s.endJob j stTargetReset []

end Sys2Proof.Machine
end

