-- ==== Sys2Proof/Machine/ErrataOps.lean ====
section
/-! DEFINITION. Raising an Errata source (R957 to R981), but for the device SAFE of an F3, which `Safe` adds. -/

namespace Sys2Proof.Machine
open Reg

/-- The main domain is powered and out of reset (R104, R852). -/
def State.mainOn (s : State) : Bool := decide (s.quill.phase = .up) && !s.host.perst

/-- STAT of a source with its bit of `ERR.SUM` (R981, R983). An F3 STAT is kept by Quill too (R968). -/
def State.setStat (s : State) (n : Nat) (b : Bool) : State :=
  let s1 := (s.setB (ERR.SRC.STAT n) b).setB ⟨ERR.SUM.reg (n / 32), n % 32, 1⟩ b
  if srcClass n = .f3 && b then { s1 with quill := { s1.quill with f3Stat := insertNew n s1.quill.f3Stat } } else s1

/-- The reaction state of an F2 source with its bit of `ERR.PEND` (R960, R983). -/
def State.setReaction (s : State) (n : Nat) (pending escalated : Bool) : State :=
  ((s.setB (ERR.SRC.PENDING n) pending).setB (ERR.SRC.ESCALATED n) escalated).setB ⟨ERR.PEND.reg (n / 32), n % 32, 1⟩ (pending || escalated)

/-- `ERR.IRQ.HI` and `LO` with vectors 0 and 1 (R979, R980). -/
def State.irqHi (s : State) : State := s.setSignal ERR.IRQ.HI 0
def State.irqLo (s : State) : State := s.setSignal ERR.IRQ.LO 1

/-- ACTIVE: the pair asserts from detector, force or break (R981). -/
def State.refreshActive (s : State) (n : Nat) : State :=
  s.setB (ERR.SRC.ACTIVE n) (s.err.detector.contains n || s.err.brokenNow.contains n || s.flag (ERR.SRC.FORCE n))

/-- The domain of the earliest open shadow that covers a source (R973). -/
def State.coveringShadow (s : State) (n : Nat) : Option Nat := s.err.shadows.find? fun d => shadowCovers d n

/-- The raise of a source at Errata (R957, R960, R973, R977, R979), without the device SAFE of an F3. -/
def State.record (s : State) (n : Nat) (forced : Bool) : State :=
  let cls := srcClass n
  let en := s.flag (ERR.SRC.IRQ_EN n)
  let s := ((s.setStat n true).bump (ERR.SRC.COUNT n) 1).setB (ERR.SRC.FORCED n) forced
  match s.coveringShadow n with
  | some d =>
    ((s.set (ERR.SRC.CONSEQ n) 1).set (ERR.SRC.CAUSE n) d).when en State.irqLo
  | none =>
    let s := s.set (ERR.SRC.CONSEQ n) 0
    let s := if s.flag ERR.STAT.FIRST_VALID then s else (s.set ERR.STAT.FIRST n).set ERR.STAT.FIRST_VALID 1
    match cls with
    | .f0 | .f1 => s.when en State.irqLo
    | .f2 =>
      let s := s.when en State.irqHi
      if s.flag (ERR.SRC.PENDING n) || s.flag (ERR.SRC.ESCALATED n) then s
      else State.setReaction { s with err := { s.err with pendAt := Tab.put (fun _ => 0) s.err.pendAt n s.tick } } n true false
    | .f3 =>
      let s := s.irqHi.set ERR.STAT.F3 1
      { s with quill := { s.quill with f3 := true } }

/-- A happening that a detector reports raises its source, unless the pair asserts already or Errata is unpowered
(R957). -/
def State.notice (s : State) (n : Nat) : State :=
  if s.mainOn && !s.flag (ERR.SRC.ACTIVE n) then s.record n false else s

/-- The detector of a source starts to assert and stays asserting. -/
def State.noticeHeld (s : State) (n : Nat) : State :=
  let s' := s.notice n
  if s.mainOn then
    State.refreshActive { s' with err := { s'.err with detector := insertNew n s'.err.detector } } n
  else s'

/-- The detector of a source returns to quiet. -/
def State.quiet (s : State) (n : Nat) : State :=
  State.refreshActive { s with err := { s.err with detector := s.err.detector.filter (· ≠ n) } } n

/-- The access that raised HOST_ACCESS is recorded and the notice raised (R983): `bar` 0 BAR0, 1 BAR2, 2 BAR4, 3 Copyist
REGISTER space; `kind` 0 narrow or misaligned, 1 reserved or unmapped, 2 write to a locked or read-only block, 3 write
discarded by owner or timeout. -/
def State.hostAccess (s : State) (bar kind offset : Nat) : State :=
  let s := ((s.wr ERR.ACCESS_LO.reg (BitVec.ofNat 32 offset)).set ERR.ACCESS_HI.BAR (if bar = 0 then s.host.via else bar)).set ERR.ACCESS_HI.KIND kind
  (s.set ERR.ACCESS_HI.OFFSET (offset / 2 ^ 32)).notice srcHostAccess

/-- A domain's reset is announced, and waits for Errata's acceptance (R972). -/
def State.announce (s : State) (d : Nat) : State := { s with err := { s.err with announced := s.err.announced ++ [d] } }

/-- Errata accepts an announcement: the shadow opens, the generation increments and the reset begins (R970, R972). -/
def State.acceptReset (s : State) (d : Nat) : State :=
  let s := (s.set (ERR.RESET.GEN d) (s.get (ERR.RESET.GEN d) + 1)).bump (ERR.RESET.RESETS d) 1
  let s := (s.set (ERR.RESET.BUSY d) 1).set (ERR.RESET.SHADOW d) 1
  { s with err := { s.err with
      announced := dropFirst (fun x => decide (x = d)) s.err.announced
      shadows := if s.err.shadows.contains d then s.err.shadows else s.err.shadows ++ [d]
      ending := s.err.ending.filter (· ≠ d) } }

/-- A domain reports that its reset has ended (R972): its shadow closes 3,000 ticks later. -/
def State.endReset (s : State) (d : Nat) : State :=
  if s.flag (ERR.RESET.BUSY d) then
    { (s.set (ERR.RESET.BUSY d) 0) with err := { (s.set (ERR.RESET.BUSY d) 0).err with ending := s.err.ending ++ [d] } }
  else { s with err := { s.err with announced := s.err.announced.filter (· ≠ d) } }

/-- The sectors in a mode. -/
def State.modeOf (s : State) (k : Nat) : Nat := s.get (SMODE.CTL.MODE_CUR k)
def mOff : Nat := 0
def mStandby : Nat := 1
def mSetup : Nat := 2
def mRun : Nat := 3
def mMeasure : Nat := 4
def mCalibrate : Nat := 5

/-- A write to a register of a sector in OFF is ignored and recorded (R71). -/
def State.whileOn (s : State) (k reg : Nat) (f : State → State) : State :=
  if s.modeOf k = mOff then s.hostAccess 0 2 reg else f s

/-- Is a sector in RUN, MEASURE or CALIBRATE? -/
def State.active3 (s : State) (k : Nat) : Bool := decide (3 ≤ s.modeOf k)

/-- Is any sector in RUN, MEASURE or CALIBRATE? (R144, R157) -/
def State.anyActive3 (s : State) : Bool := (List.range 8).any s.active3

/-- Is a sector in a working mode: SETUP, RUN, MEASURE or CALIBRATE? (R53) -/
def State.working (s : State) (k : Nat) : Bool := decide (2 ≤ s.modeOf k)

/-- The sectors that an escalation of a source targets (R962), judged now. -/
def State.escTargets (s : State) (n : Nat) : Nat :=
  let notOff := maskOf ((List.range 8).filter fun k => s.modeOf k ≠ mOff)
  let act := maskOf ((List.range 8).filter s.active3)
  match s.get (ERR.SRC.ESC n) with
  | 0 => if srcOwnSectors n = 0 then act else srcOwnSectors n &&& notOff
  | 1 => act
  | 2 => notOff
  | _ => 0

/-- Is `SAFE_N` driven low? (R96) -/
def State.safeNLow (s : State) : Bool :=
  s.flag DEV.MODE.SAFE_DEV || s.quill.f3 || (List.range 8).any (fun k => s.flag (SMODE.CTL.SAFE k)) || decide (s.quill.step ≠ 11)

/-- The lifecycle state (R817): 0 BLANK, 1 PROVISIONED, 2 SEALED, 3 SERVICE, 4 RETIRED. -/
def State.lifecycle (s : State) : Nat := s.vault.lc

/-- May a write change an RWL field? Not in SEALED or RETIRED (R26). -/
def State.rwlOpen (s : State) : Bool := s.lifecycle ≠ 2 && s.lifecycle ≠ 4 && !s.vault.txs.any (·.act = .sealing)

end Sys2Proof.Machine
end

