-- ==== Sys2Proof/Machine/DebugOps.lean ====
section
/-! DEFINITION. The injection slots as they act on the units of a link (R1048 to R1051). -/

namespace Sys2Proof.Machine
open Reg

/-- One step of the LFSR x³² + x²² + x² + x + 1 (R1049), shifted upward with its feedback in bit 0. -/
def lfsr32 (v : Nat) : Nat :=
  let fb := (v.testBit 31 != v.testBit 21) != (v.testBit 1 != v.testBit 0)
  (v * 2 + b2n fb) % 2 ^ 32

/-- The slots armed on a link, lowest first. -/
def State.slotsOn (s : State) (link : Nat) : List Nat :=
  (List.range 4).filter fun i => s.flag (DEBUG.INJ.CTL.EN i) && decide (s.get (DEBUG.INJ.CTL.LINK i) = link)

/-- A unit passes a link: every slot on it steps, and the lowest that strikes acts alone (R1049, R1055). The kind is 0
where the unit is not struck. -/
def State.strike (s : State) (link : Nat) : Nat × State :=
  (s.slotsOn link).foldl (fun (acc : Nat × State) i =>
    let v := lfsr32 (Tab.get (fun _ => 1) acc.2.dbg.lfsrs i)
    let s := { acc.2 with dbg := { acc.2.dbg with lfsrs := Tab.put (fun _ => 1) acc.2.dbg.lfsrs i v } }
    if acc.1 = 0 && decide (v < (s.rd (DEBUG.INJ.RATE.reg i)).toNat) then
      (s.get (DEBUG.INJ.CTL.KIND i), s.bump (DEBUG.INJ.COUNT.STRUCK i) 1)
    else (acc.1, s)) (0, s)

/-- A transfer on a fabric lane (R1050, R1051): it arrives, or it is lost or damaged and waits for another try. A transfer
out of order is put back in order. -/
def State.transfer (s : State) (link : Nat) : Bool × State :=
  let r := s.strike link
  if r.1 = 1 || r.1 = 2 then
    (false, { r.2 with dbg := { r.2.dbg with tries := Tab.put (fun _ => 0) r.2.dbg.tries link (Tab.get (fun _ => 0) r.2.dbg.tries link + 1) } })
  else (true, { r.2 with dbg := { r.2.dbg with tries := r.2.dbg.tries.erase link } })

/-- Links of a sector's lanes: 0 vector fetch, 1 fail records, 2 capture records, 3 host and Copyist, 4 control, 5 debug
(R1048). -/
def sectorLink (k j : Nat) : Nat := 0x20 + 8 * k + j

end Sys2Proof.Machine
end

