-- ==== Sys2Proof/Machine/RunState.lean ====
section
/-! DEFINITION. Instants and boundaries of period domains (R10, R415 to R424), access to the hidden state of a running
sector, and the request of a stop (R339). -/

namespace Sys2Proof.Machine
open Reg

/-! ### Instants and boundaries (R10, R415 to R424) -/

/-- One dot in 2^-32 tick. -/
def dotUnit : Nat := 2 ^ 22

/-- The dot at which an exact time is placed (R417). -/
def dotOf (t : Nat) : Nat := t / dotUnit

/-- The latest dot of the present tick. -/
def State.nowDots (s : State) : Nat := s.tick * 1024 + 1023

/-- Has an exact time come? -/
def State.due (s : State) (t : Nat) : Bool := decide (dotOf t ≤ s.nowDots)

/-- The period of an entry, 16.32 (R415). -/
def State.period (s : State) (g e : Nat) : Nat := s.get (PER.PT.HI.INT g e) * 2 ^ 32 + (s.rd (PER.PT.LO.reg g e)).toNat

/-- The anchor in force of an octet, exactly (R416). -/
def State.anchor (s : State) (g : Nat) : Nat := s.get64 (PER.ANCHOR_LO.reg g) (PER.ANCHOR_HI.reg g) * dotUnit

/-- A quotient of integers rounded up. -/
def ceilI (a : Int) (b : Nat) : Int := -((-a) / (b : Int))

/-- The number of the first boundary of an entry at or after an exact time (R417). -/
def State.boundaryNo (s : State) (g e t : Nat) : Int := ceilI ((t : Int) - s.anchor g) (max 1 (s.period g e))

/-- Boundary `m` of an entry (R417). -/
def State.boundaryAt (s : State) (g e : Nat) (m : Int) : Nat := ((s.anchor g : Int) + m * s.period g e).toNat

/-! ### Hidden state of a running sector -/

def State.scribe (s : State) (k : Nat) : Scribe := Tab.get (fun _ => {}) s.scribes k
def State.setScribe (s : State) (k : Nat) (c : Scribe) : State := { s with scribes := Tab.put (fun _ => {}) s.scribes k c }
def State.onScribe (s : State) (k : Nat) (f : Scribe → Scribe) : State := s.setScribe k (f (s.scribe k))

def State.oct (s : State) (g : Nat) : OctetRun := Tab.get (fun _ => {}) s.octs g
def State.setOct (s : State) (g : Nat) (o : OctetRun) : State := { s with octs := Tab.put (fun _ => {}) s.octs g o }
def State.onOct (s : State) (g : Nat) (f : OctetRun → OctetRun) : State := s.setOct g (f (s.oct g))

def State.ball (s : State) (g l : Nat) : Ball := Tab.get (fun _ => {}) s.balls (8 * g + l)
def State.setBall (s : State) (g l : Nat) (b : Ball) : State := { s with balls := Tab.put (fun _ => {}) s.balls (8 * g + l) b }
def State.onBall (s : State) (g l : Nat) (f : Ball → Ball) : State := s.setBall g l (f (s.ball g l))

def State.dac (s : State) (g l k : Nat) : Dac := Tab.get (fun _ => {}) s.dacs (72 * g + 8 * l + k)
def State.setDac (s : State) (g l k : Nat) (d : Dac) : State := { s with dacs := Tab.put (fun _ => {}) s.dacs (72 * g + 8 * l + k) d }
def State.onDac (s : State) (g l k : Nat) (f : Dac → Dac) : State := s.setDac g l k (f (s.dac g l k))

def State.sine (s : State) (g : Nat) : Sine := Tab.get (fun _ => {}) s.sines g
def State.setSine (s : State) (g : Nat) (x : Sine) : State := { s with sines := Tab.put (fun _ => {}) s.sines g x }

def State.hair (s : State) (g : Nat) : Hair := Tab.get (fun _ => {}) s.hairs g
def State.setHair (s : State) (g : Nat) (x : Hair) : State := { s with hairs := Tab.put (fun _ => {}) s.hairs g x }
def State.onHair (s : State) (g : Nat) (f : Hair → Hair) : State := s.setHair g (f (s.hair g))

def State.tdr (s : State) (g : Nat) : Tdr := Tab.get (fun _ => {}) s.tdrs g
def State.setTdr (s : State) (g : Nat) (x : Tdr) : State := { s with tdrs := Tab.put (fun _ => {}) s.tdrs g x }

def State.dcUnit (s : State) (g : Nat) : DcUnit := Tab.get (fun _ => {}) s.dcs g
def State.setDc (s : State) (g : Nat) (x : DcUnit) : State := { s with dcs := Tab.put (fun _ => {}) s.dcs g x }
def State.onDc (s : State) (g : Nat) (f : DcUnit → DcUnit) : State := s.setDc g (f (s.dcUnit g))

def State.rot (s : State) (g : Nat) : Rot := Tab.get (fun _ => {}) s.rots g
def State.setRot (s : State) (g : Nat) (x : Rot) : State := { s with rots := Tab.put (fun _ => {}) s.rots g x }
def State.onRot (s : State) (g : Nat) (f : Rot → Rot) : State := s.setRot g (f (s.rot g))

def State.core (s : State) (g c : Nat) : CoreCal := Tab.get (fun _ => {}) s.cores (9 * g + c)
def State.setCore (s : State) (g c : Nat) (x : CoreCal) : State := { s with cores := Tab.put (fun _ => {}) s.cores (9 * g + c) x }
def State.onCore (s : State) (g c : Nat) (f : CoreCal → CoreCal) : State := s.setCore g c (f (s.core g c))

def State.secCal (s : State) (k : Nat) : SecCal := Tab.get (fun _ => {}) s.secCals k
def State.setSecCal (s : State) (k : Nat) (x : SecCal) : State := { s with secCals := Tab.put (fun _ => {}) s.secCals k x }
def State.onSecCal (s : State) (k : Nat) (f : SecCal → SecCal) : State := s.setSecCal k (f (s.secCal k))

def State.proc (s : State) (k : Nat) : Proc := Tab.get (fun _ => {}) s.procs k
def State.setProc (s : State) (k : Nat) (x : Proc) : State := { s with procs := Tab.put (fun _ => {}) s.procs k x }

def State.marg (s : State) (k : Nat) : Marg := Tab.get (fun _ => {}) s.margs k
def State.setMarg (s : State) (k : Nat) (m : Marg) : State := { s with margs := Tab.put (fun _ => {}) s.margs k m }
def State.onMarg (s : State) (k : Nat) (f : Marg → Marg) : State := s.setMarg k (f (s.marg k))

def State.blot (s : State) (k : Nat) : Blot := Tab.get (fun _ => {}) s.blots k
def State.setBlot (s : State) (k : Nat) (b : Blot) : State := { s with blots := Tab.put (fun _ => {}) s.blots k b }
def State.onBlot (s : State) (k : Nat) (f : Blot → Blot) : State := s.setBlot k (f (s.blot k))

/-- The states of a Scribe (R300, R365). -/
def scIdle : Nat := 0
def scPriming : Nat := 1
def scRunning : Nat := 2
def scDraining : Nat := 3

def State.scState (s : State) (k : Nat) : Nat := s.get (SCRIBE.STAT.STATE k)

/-- The pace octet of a sector (R304). -/
def State.paceOctet (s : State) (k : Nat) : Nat := 8 * k + s.get (SCRIBE.CFG.PACE k)

/-- The record of an inked line, changed. -/
def State.onInked (s : State) (k idx : Nat) (f : Inked → Inked) : State :=
  s.onScribe k fun c => { c with inked := c.inked.map fun e => if e.idx = idx then f e else e }

/-- The stop causes (R339). -/
def stopHalt : Nat := 0x1
def stopHost : Nat := 0x2
def stopMarginalia : Nat := 0x3
def stopSafe : Nat := 0x4
def stopIllegal : Nat := 0x5
def stopLineRange : Nat := 0x6
def stopUnderrun : Nat := 0x7
def stopUe : Nat := 0x8
def stopSequence : Nat := 0x9
def stopTimeout : Nat := 0xA
def stopEnsemble : Nat := 0xB
def stopChain : Nat := 0xC

/-- The order in which causes of one boundary are reported (R340). -/
def stopOrder : List Nat :=
  [stopSafe, stopIllegal, stopLineRange, stopUnderrun, stopUe, stopSequence, stopTimeout, stopChain, stopEnsemble, stopHalt,
    stopMarginalia, stopHost]

/-- A run is asked to stop with a cause at the first boundary at or after an instant in dots (R339). -/
def State.askStop (s : State) (k cause at_ : Nat) : State :=
  if s.scState k = scPriming || s.scState k = scRunning then s.onScribe k fun c => { c with stops := c.stops ++ [(cause, at_)] } else s

end Sys2Proof.Machine
end

