-- ==== Sys2Proof/Machine/FrontOps.lean ====
section
/-! DEFINITION. The state of each ball (R530 to R534, R556 to R564), and the slots that a register write reaches (R5,
R768, R769). -/

namespace Sys2Proof.Machine
open Reg

/-- The states of a ball (R530). -/
def fsIsolated : Nat := 0
def fsOpen : Nat := 1
def fsTerm : Nat := 2
def fsLoad : Nat := 3
def fsLow : Nat := 4
def fsHigh : Nat := 5
def fsShutdown : Nat := 6
def fsDc : Nat := 7

def State.ballState (s : State) (g l : Nat) : Nat := s.get (FE.STAT.STATE g l)

/-- Is SAFE in force on a sector? (R56) -/
def State.inSafe (s : State) (k : Nat) : Bool := s.flag (SMODE.CTL.SAFE k) || s.flag DEV.MODE.SAFE_DEV

/-- Is a lane formatted? (R561) Vector n begins at the balls at boundary n + 12. -/
def State.formatted (s : State) (g l : Nat) : Bool :=
  let o := s.oct g
  o.running && o.vectors.any fun t => decide (t.n + 13 ≤ o.count) && t.lanes.testBit l

/-- `FE[g][l].CFG` as in force (R573). -/
def State.feCfg (s : State) (g l : Nat) : Word :=
  match (s.oct g).oldCfg.find? (·.1 = l) with
  | some (_, v) => BitVec.ofNat 32 v
  | none => s.rd (FE.CFG.reg g l)

/-- The IDLE and the off state that a configuration selects (R572). -/
def cfgIdle (w : Word) : Nat := w.field 8 3
def cfgOff (w : Word) : Nat := w.field 0 2 + 1

/-- The state of a formatted ball (R534). -/
def State.drivenState (s : State) (g l : Nat) : Nat :=
  if s.flag (STK.STAT.DE g l) then (if s.flag (STK.STAT.LEV g l) then fsHigh else fsLow) else cfgOff (s.feCfg g l)

/-- Does the spare serve a ball? -/
def State.spareServes (s : State) (g l : Nat) : Bool := (s.get (STEER.STAT.SPARE g)).testBit l

/-- The physical core behind a slot (R5): that of its lane, or the spare, which changes places with the core it serves for. -/
def State.coreAt (s : State) (g l : Nat) : Nat :=
  if l = 8 then ((List.range 8).find? (s.spareServes g)).getD 8 else if s.spareServes g l then 8 else l

/-- The core of an octet that a foreground procedure has on the loopback node (R799): the cores are run in their order. -/
def State.procCore (s : State) (g : Nat) : Option Nat :=
  let p := s.proc (g / 8)
  let n := (p.causes.filter fun e => e.1 / 9 = g).length
  if s.modeOf (g / 8) = mCalibrate && p.kind ≠ 0 && p.kind ≠ 2 && p.octets.testBit (g % 8) && n < 9 then some n else none

/-- Is a ball held ISOLATED? (R549, R556, R562 rows 1 to 5, R557, R593, R738, R739, R796, R799) -/
def State.isolated (s : State) (g l : Nat) : Bool :=
  s.quill.supervisor || s.inSafe (g / 8) || (s.get (STEER.STAT.OV g)).testBit l || (s.get (STEER.CTL.FORCE_ISO g)).testBit l
    || decide (s.modeOf (g / 8) ≤ mStandby) || s.flag (FE.STAT.OC_FAIL g l) || s.flag (DAC.STAT.SPAN_CHG g l)
    || (s.get (ROT.CORES.DEAD g)).testBit l || s.procCore g = some (s.coreAt g l)
    || (let d := s.dcUnit g; (d.link = 1 || d.link = 3) && d.ball = l)

/-- The state of a lane that the TDR engine owns, or of the other lanes of its octet (R732). -/
def State.tdrState (s : State) (g l : Nat) : Option Nat :=
  let t := s.tdr g
  match t.lanes with
  | [] => none
  | m :: _ =>
    if m = l then some (if t.phase = 0 then fsOpen else if (s.oct g).count % 2 = 0 then fsLow else fsHigh)
    else some (cfgIdle (s.feCfg g l))

/-- The state that a ball takes (R562). -/
def State.ballTarget (s : State) (g l : Nat) : Nat :=
  if s.isolated g l then fsIsolated
  else if s.get (STEER.STAT.DC_BALL g) = l then fsDc
  else if s.flag (FE.STAT.OC g l) then fsShutdown
  else match s.tdrState g l with
    | some x => x
    | none => if s.formatted g l then s.drivenState g l else cfgIdle (s.feCfg g l)

/-- A ball shows a state. -/
def State.showBall (s : State) (g l st : Nat) : State :=
  (s.set (FE.STAT.STATE g l) st).setB ⟨STEER.STAT.reg g, (STEER.STAT.ISO g).lo + l, 1⟩ (st = fsIsolated)

/-- A ball takes its state; one released while formatted waits for the next vector boundary (R556, R560, R570). -/
def State.refreshBall (s : State) (g l : Nat) : State :=
  let st := s.ballTarget g l
  if st ≠ fsIsolated && (s.oct g).fe.contains l then s else s.showBall g l st

/-- Every ball of an octet, and of a sector, takes its state. -/
def State.refreshOctet (s : State) (g : Nat) : State := s.each (List.range 8) fun s l => s.refreshBall g l
def State.refreshBalls (s : State) (k : Nat) : State := s.each (octetsOf k) State.refreshOctet

/-- A ball is released from SHUTDOWN, over-voltage or FORCE_ISO (R556, R560, R570). -/
def State.releaseBall (s : State) (g l : Nat) : State :=
  if s.formatted g l then s.onOct g fun o => { o with fe := insertNew l o.fe } else s.refreshBall g l

/-- Does the core of a ball sense its own node? (R543) -/
def State.noSense (s : State) (g l : Nat) : Bool := s.ballState g l = fsIsolated || s.ballState g l = fsDc

/-- A write to a slot reaches the cores that it names: both cores of a visit for the lane visited, none for slot 8 while
the spare is taken (R768, R769). -/
def State.slotWrite (s : State) (g l : Nat) (f : State → Nat → State) : State :=
  let v := (s.rot g).visit
  if l = 8 then
    if v.isSome || s.get (STEER.STAT.SPARE g) ≠ 0 then s.set (ROT.STAT.SLOT8_IGN g) 1 else f s 8
  else if v = some l then f (f s l) 8
  else f s l

/-- The broadcast windows act as the same write to slots 0 to 7 (R487, R576, R611). -/
def State.eachSlot (s : State) (g : Nat) (f : State → Nat → State) : State :=
  s.each (List.range 8) fun s l => s.slotWrite g l f

end Sys2Proof.Machine
end

