-- ==== Sys2Proof/Machine/BlotOps.lean ====
section
/-! DEFINITION. The Blotter's stream: forming records and marks, the start and the end of a capture (R670 to R692). -/

namespace Sys2Proof.Machine
open Reg

/-! ### Records (R670 to R676) -/

/-- The mark kinds (R675). -/
def bkStart : Nat := 0x0
def bkFolio : Nat := 0x1
def bkMark : Nat := 0x2
def bkTrig : Nat := 0x3
def bkCoarsen : Nat := 0x4
def bkGap : Nat := 0x5
def bkInk : Nat := 0x6
def bkErase : Nat := 0x7
def bkSafe : Nat := 0x8
def bkEnd : Nat := 0x9

/-- The marks of FLAGS, at their place in the record (R671). -/
def bfPencilled : Nat := 2 ^ 9
def bfNosense : Nat := 2 ^ 8
def bfCoarse : Nat := 2 ^ 7
def bfSafe : Nat := 2 ^ 6
def bfAge : Nat := 2 ^ 5
def bfCoast : Nat := 2 ^ 4

/-- The order of records at equal time tags (R676). -/
def brFolio : Nat := 0
def brStart : Nat := 1
def brSafe : Nat := 2
def brMark : Nat := 3
def brInk : Nat := 4
def brErase : Nat := 5
def brTrig : Nat := 6
def brCoarsen : Nat := 7
def brGap : Nat := 8
def brChange (o : Nat) : Nat := 9 + 2 * o
def brSample (o : Nat) : Nat := 10 + 2 * o
def brEnd : Nat := 30

/-- The 128 bits of a record: TYPE, FLAGS, OCT_KIND, bits 31:16, the time tag, bits 127:74 (R670). -/
def blotBits (type flags kind mid tag high : Nat) : Nat :=
  type + flags + kind * 2 ^ 12 + mid % 2 ^ 16 * 2 ^ 16 + tag / 1024 % 2 ^ 32 * 2 ^ 32 + tag % 1024 * 2 ^ 64 + high % 2 ^ 54 * 2 ^ 74

/-- The marks that the present instant gives a record (R671). -/
def State.blotFlags (s : State) (k : Nat) : Nat := (if s.inSafe k then bfSafe else 0) + (if s.clk.coasting then bfCoast else 0)

/-- A record put in the order of R676. -/
def insertBlot (r : BlotRec) : List BlotRec → List BlotRec
  | [] => [r]
  | x :: t => if r.tag < x.tag || (r.tag = x.tag && r.rank < x.rank) then r :: x :: t else x :: insertBlot r t

/-! ### The staging buffer (R677, R688, R689) -/

/-- Records that the staging buffer holds. -/
def blotRoom : Nat := 4096
/-- The fill at which decimation begins (R689). -/
def blotDecimate : Nat := 4032

/-- `BLOT[s].FILL` and the time at or below LO follow the staging buffer (R688, R704). -/
def State.setStaging (s : State) (k : Nat) (l : List BlotRec) : State :=
  let n := l.length
  let s := (s.set (BLOT.FILL.NOW k) n).set (BLOT.FILL.PEAK k) (max n (s.get (BLOT.FILL.PEAK k)))
  s.onBlot k fun b => { b with staging := l, lowAt := if s.get (BLOT.RED.LO k) < n then none else some (b.lowAt.getD s.tick) }

/-- An item is dropped (R689). -/
def State.blotDrop (s : State) (k tag octs : Nat) : State :=
  s.onBlot k fun b => { b with decim := true, gapOcts := b.gapOcts ||| octs, gapLost := b.gapLost + 1, gapAt := some (b.gapAt.getD tag) }

/-- A record enters the staging buffer; a full buffer keeps START, FOLIO, GAP and END marks only. -/
def State.blotStage (s : State) (k : Nat) (r : BlotRec) : State :=
  let b := s.blot k
  if blotRoom ≤ b.staging.length && !(r.rank ≤ brStart || r.rank = brGap || r.rank = brEnd) then s.blotDrop k r.tag 0
  else s.setStaging k (insertBlot r b.staging)

/-- Decimation ends (R689): the GAP mark, and a full record of each octet that lost one. -/
def State.blotGapEnd (s : State) (k tag : Nat) : State :=
  let b := s.blot k
  let span := match b.gapAt with | some t => min 0x3FFFFF ((tag - t) / 1024) | none => 0
  let lost := min (2 ^ 32 - 1) b.gapLost
  let s := s.blotStage k { tag := tag, rank := brGap, bits := blotBits 3 (s.blotFlags k) bkGap b.gapOcts tag (lost + span * 2 ^ 32) }
  let s := s.onBlot k fun b => { b with decim := false, whole := b.whole ||| b.gapOcts, gapOcts := 0, gapLost := 0, gapAt := none }
  ((s.set (BLOT.STAT.GAP k) 1).bump (BLOT.LOST.COUNT k) b.gapLost).notice (srcBlotGap k)

/-! ### Capture (R679, R682, R684, R692) -/

/-- The END causes (R675). -/
def beRun : Nat := 1
def beStop : Nat := 2
def beFull : Nat := 3
def beSafe : Nat := 4
def beDisarm : Nat := 5

/-- Is a capture active? -/
def State.capturing (s : State) (k : Nat) : Bool := s.flag (BLOT.STAT.CAPTURING k)

/-- The capture ends (R682): the END mark follows every record of it. After SAFE its cause is SAFE (R700). -/
def State.blotEnd (s : State) (k cause tag : Nat) : State :=
  if !s.capturing k then s
  else
    let b := s.blot k
    let tag := b.staging.foldl (fun m r => max m r.tag) tag
    let s := if b.decim then s.blotGapEnd k tag else s
    let c := if b.safe then beSafe else cause
    let s := s.blotStage k { tag := tag, rank := brEnd, bits := blotBits 3 (s.blotFlags k) bkEnd c tag 0 }
    (s.set (BLOT.STAT.CAPTURING k) 0).onBlot k fun b => { b with ended := true, post := none, isOver := none }

/-- A record of the capture has been formed (R684, R692): it counts toward POST_N, and a window may become full. -/
def State.blotCounted (s : State) (k tag : Nat) : State :=
  let b := s.blot k
  let fullNow := b.dest = 1 && !s.flag (BLOT.CFG.RING k) && decide (b.size < s.get (BLOT.WPTR.POS k) + b.staging.length + 64)
  if fullNow then (s.set (BLOT.STAT.FULL k) 1).blotEnd k beFull tag
  else
    match b.post with
    | none => s
    | some n =>
      if n ≤ 1 then s.blotEnd k beStop tag else s.onBlot k fun b => { b with post := some (n - 1) }

/-- A record of the capture. -/
def State.blotAdd (s : State) (k : Nat) (r : BlotRec) : State := (s.blotStage k r).blotCounted k r.tag

/-- A mark of the capture, if one is active. -/
def State.blotMark (s : State) (k rank kind flags mid tag high : Nat) : State :=
  if s.capturing k then
    s.blotAdd k { tag := tag, rank := rank, bits := blotBits 3 (s.blotFlags k ||| flags) kind mid tag high }
  else s

/-- Capture starts (R679, R688): the START mark, resolution 0, and the full state of every octet. -/
def State.blotCapture (s : State) (k tag : Nat) : State :=
  let b := s.blot k
  if b.mode = 0 || b.started then s
  else
    let s := s.onBlot k fun b => { b with started := true, from_ := tag, whole := 0xFF, changedAt := s.tick, lowAt := some s.tick, written := 0, safe := s.inSafe k }
    let s := ((s.set (BLOT.STAT.CAPTURING k) 1).set (BLOT.STAT.ENDED k) 0).set (BLOT.STAT.RES k) 0
    s.blotMark k brStart bkStart 0 b.lockGen tag (tag / 1024 / 2 ^ 32 % 2 ^ 32)

def State.trigRun (s : State) (k j : Nat) : TrigRun := Tab.get (fun _ => {}) (s.blot k).trigs j
def State.setTrig (s : State) (k j : Nat) (t : TrigRun) : State := s.onBlot k fun b => { b with trigs := Tab.put (fun _ => {}) b.trigs j t }
def State.maskRun (s : State) (k m : Nat) : MaskRun := Tab.get (fun _ => {}) (s.blot k).masks m
def State.setMask (s : State) (k m : Nat) (t : MaskRun) : State := s.onBlot k fun b => { b with masks := Tab.put (fun _ => {}) b.masks m t }

/-- Evaluation begins (R679, R691, R700): at V of vector 0, or 64 ticks after the entry to MEASURE. -/
def State.blotLive (s : State) (k tag : Nat) : State :=
  let s := s.onBlot k fun b => { b with live := true, liveAt := tag }
  let s := s.each (List.range 8) fun s j => if s.get (BLOT.TRG.CTL.ARM_BY k j) = 0 then s.setTrig k j { s.trigRun k j with armed := true } else s
  if (s.blot k).mode = 1 then s.blotCapture k tag else s

/-- Evaluation ends with the run's last vector at the balls, or with MEASURE (R700). -/
def State.blotOver (s : State) (k tag : Nat) : State :=
  if (s.blot k).live then s.onBlot k fun b => { b with live := false, isOver := if s.capturing k then some tag else none } else s

/-- A START, or an entry to MEASURE with MEAS_EN, came (R701). -/
def State.blotStart (s : State) (k : Nat) (measure : Bool) : State :=
  s.onBlot k fun b => { b with opening := true, measure := measure, lockGen := s.get CLK.PLL_STAT.LOCK_GEN, enteredAt := s.tick }

/-- Has the Blotter opened the run that primes? (R303) -/
def State.blotReady (s : State) (k : Nat) : Bool := !(s.blot k).opening

/-! ### Marks of the pattern (R681, R400, R401) -/

/-- The mark of a MARK line enters the stream: CODE, VALUE, TAG and INDEX (R681). -/
def State.blotPattern (s : State) (k tag flags code value pen index : Nat) : State :=
  s.blotMark k brMark bkMark flags (index % 256 + code % 256 * 2 ^ 8) tag (value % 2 ^ 32 + pen % 4096 * 2 ^ 42)

/-- The fate of a tag (R401): `n` of its early marks were inked. -/
def State.blotFate (s : State) (k : Nat) (ink : Bool) (pen n at_ : Nat) : State :=
  s.blotMark k (if ink then brInk else brErase) (if ink then bkInk else bkErase) 0 (n % 512) at_ (pen % 4096 * 2 ^ 42)

/-- SAFE takes effect on the sector (R675, R700). -/
def State.blotSafe (s : State) (k : Nat) : State :=
  if s.capturing k then
    (s.onBlot k fun b => { b with safe := true }).blotMark k brSafe bkSafe bfSafe 0 (1024 * s.tick) 0
  else s

/-! ### CHANGE and SAMPLE records (R672 to R674, R680, R687) -/

/-- The latest vector of an octet to begin at or before an instant. -/
def State.begunAt (s : State) (g tag : Nat) : Option Begun := (s.oct g).recent.find? fun b => decide (b.v ≤ tag)

/-- The pins of an octet whose class is "accuracy not assured" (R789). -/
def State.agedLanes (s : State) (g : Nat) : Nat := maskOf ((List.range 8).filter fun l => s.get (ROT.AGE.ACLASS g l) = 2)

/-- Do gated vectors alone give records, and is this one not gated? (R680, R700) -/
def State.gateShut (s : State) (k : Nat) (gate : Bool) : Bool := s.flag (BLOT.CFG.GATE_CAP k) && !(s.blot k).measure && !gate

/-- A CHANGE or SAMPLE record, or its loss while decimating (R689). -/
def State.blotData (s : State) (k o : Nat) (r : BlotRec) : State :=
  let b := s.blot k
  let atMax := s.get (BLOT.STAT.RES k) = s.get (BLOT.CFG.MAX_RES k) && decide (blotDecimate ≤ b.staging.length)
  if b.decim || atMax || blotRoom ≤ b.staging.length then s.blotDrop k r.tag (2 ^ o) else s.blotAdd k r

/-- The W samples of a vector are complete (R674). -/
def State.blotSample (s : State) (g : Nat) (w : WSet) : State :=
  let k := g / 8
  let o := g % 8
  if s.capturing k && w.valid ≠ 0 && !s.gateShut k w.gate then
    let lanes := maskOf ((List.range 8).filter fun l => w.valid / 4 ^ l % 4 ≠ 0)
    let flags := s.blotFlags k + (if w.nosense then bfNosense else 0) + (if s.agedLanes g &&& lanes ≠ 0 then bfAge else 0)
    s.blotData k o { tag := w.v, rank := brSample o, bits := blotBits 2 flags o w.valid w.v (w.codes + w.wchg * 2 ^ 32 + w.idx % 2 ^ 14 * 2 ^ 40) }
  else s

/-- The strobes under W of a vector of an octet: one has acted, or gives nothing. -/
def State.wTaken (s : State) (g vec : Nat) (f : WSet → WSet) : State :=
  match (s.oct g).wsets.find? (·.vec = vec) with
  | none => s
  | some w =>
    let w' := f { w with left := w.left - 1 }
    if w'.left = 0 then (s.onOct g fun o => { o with wsets := o.wsets.filter (·.vec ≠ vec) }).blotSample g w'
    else s.onOct g fun o => { o with wsets := o.wsets.map fun x => if x.vec = vec then w' else x }

end Sys2Proof.Machine
end

