-- ==== Sys2Proof/Machine/DacOps.lean ====
section
/-! DEFINITION. Level DACs and sine generators: output states, updates and their holds, batches, parking, modulation (R577
to R607). -/

namespace Sys2Proof.Machine
open Reg

/-- The output states of a DAC (R595). -/
def doHiz : Nat := 0
def doParked : Nat := 1
def doActive : Nat := 2

/-- Is the device in doze? (R595 row 3) -/
def State.dozing (s : State) : Bool := s.get QL.STAT.PSTATE = 4

/-- Is a sector on its way from STANDBY to SETUP? Its DACs leave HIZ as the transition is accepted (R563, R598). -/
def State.entersSetup (s : State) (k : Nat) : Bool := s.flag (SMODE.CTL.BUSY k) && s.modeOf k = mStandby && s.get (SMODE.CTL.MODE_TGT k) = mSetup

/-- The output state of a DAC (R595). -/
def State.dacState (s : State) (g l k : Nat) : Nat :=
  let sec := g / 8
  if s.quill.supervisor || s.modeOf sec = mOff || !(s.settled.contains sec || s.entersSetup sec) || s.dozing || (s.get (DAC.STAT.FAULT g l)).testBit k then doHiz
  else if s.inSafe sec then doParked
  else doActive

def State.dacActive (s : State) (g l k : Nat) : Bool := s.get (DAC.LVL.ACT.OUT g l k) = doActive

/-- A DAC output takes a code (R582, R584): a change of bits 15:10 opens a hold, and an update within a hold extends it. -/
def State.dacUpdate (s : State) (g l k code : Nat) : State :=
  let d := s.dac g l k
  if d.out = code then s
  else
    let opens := d.hold.isSome || d.out / 1024 ≠ code / 1024
    let s := s.setDac g l k { d with out := code, upd := s.tick, hold := if opens then some (s.tick + 30) else none }
    s.setB (DAC.LVL.ACT.HOLD g l k) opens

/-- A base code with a modulation offset: the clamped sum, and whether it was clamped (R602). -/
def modulated (base : Nat) (off : Int) : Nat × Bool :=
  let v : Int := base + off
  if v < 0 then (0, true) else if 65535 < v then (65535, true) else (v.toNat, false)

/-- The output follows the base code and the latest sample. -/
def State.dacFollow (s : State) (g l k : Nat) : State :=
  let m := modulated (s.get (DAC.LVL.ACT.CODE g l k)) (s.dac g l k).off
  let s := if m.2 then s.set (DAC.STAT.CLIP g l) 1 else s
  s.dacUpdate g l k m.1

/-- The base code in force changes (R580, R582). -/
def State.setBase (s : State) (g l k code : Nat) : State := (s.set (DAC.LVL.ACT.CODE g l k) code).dacFollow g l k

/-- The base code that an ACTIVE output has: the programmed code, or in a span change the safe code (R580, R593). -/
def State.activeBase (s : State) (g l k : Nat) : Nat :=
  let d := s.dac g l k
  if d.span.isSome && d.stage < 2 then safeCode k else s.get (DAC.LVL.CODE.CODE g l k)

/-- The base code in force changes: an ACTIVE output follows it, and a HIZ output takes it when it leaves HIZ; a PARKED output
keeps its safe value (R580, R585, R591). -/
def State.rebase (s : State) (g l k code : Nat) : State :=
  let out := s.get (DAC.LVL.ACT.OUT g l k)
  if out = doActive then s.setBase g l k code else if out = doHiz then s.set (DAC.LVL.ACT.CODE g l k) code else s

/-- A DAC takes the output state of R595: out of HIZ at its code with no intermediate code (R598), out of PARKED by a
move to its programmed code (R597). -/
def State.refreshDac (s : State) (g l k : Nat) : State :=
  let old := s.get (DAC.LVL.ACT.OUT g l k)
  let new := s.dacState g l k
  if old = new then s
  else
    let s := s.set (DAC.LVL.ACT.OUT g l k) new
    let jump (s : State) (code : Nat) : State :=
      ((s.set (DAC.LVL.ACT.CODE g l k) code).set (DAC.LVL.ACT.HOLD g l k) 0).onDac g l k fun d =>
        { d with out := code, off := 0, waits := false, hold := none, upd := s.tick }
    if new = doHiz then ((s.set (DAC.LVL.ACT.CODE g l k) (s.activeBase g l k)).set (DAC.LVL.ACT.HOLD g l k) 0).onDac g l k fun d => { d with off := 0, waits := false, hold := none }
    else if new = doParked then (if old = doHiz then jump s (safeCode k) else s)
    else if old = doHiz then jump s (s.activeBase g l k)
    else s.setBase g l k (s.activeBase g l k)

/-- The cores of a sector and their DACs. -/
def State.eachDac (s : State) (g : Nat) (f : State → Nat → Nat → State) : State :=
  s.each (List.range 9) fun s l => s.each (List.range 8) fun s k => f s l k

/-- Every DAC of a sector takes its output state. -/
def State.refreshDacs (s : State) (k : Nat) : State := s.each (octetsOf k) fun s g => s.eachDac g fun s l j => s.refreshDac g l j

/-! ### Programmed codes (R585 to R594) -/

/-- A code becomes the programmed code, and the base code of an output that is not parked (R580); while SPAN_CHG is 1 the
outputs of the core follow as R594 gives. -/
def State.program (s : State) (g l k code : Nat) : State :=
  let s := s.set (DAC.LVL.CODE.CODE g l k) code
  if !s.flag (DAC.STAT.SPAN_CHG g l) then s.rebase g l k code
  else if (s.dac g l k).span.isSome then s.onDac g l k fun d => { d with written := true }
  else s

/-- The outputs of a core take their programmed codes (R594). -/
def State.rebaseCore (s : State) (g l : Nat) : State :=
  s.each (List.range 8) fun s j => s.rebase g l j (s.get (DAC.LVL.CODE.CODE g l j))

/-- The codes of batches, by 8 × slot + DAC, in ink order (R589 to R591). -/
def State.levelApply (s : State) (g : Nat) (codes : List (Nat × Nat)) : State :=
  s.each codes fun s e => s.program g (e.1 / 8) (e.1 % 8) e.2

/-- Batches whose vector has begun at the balls are applied (R589). -/
def State.applyBatches (s : State) (g : Nat) : State :=
  let o := s.oct g
  let due := o.batches.filter fun b => decide (b.1 + 13 ≤ o.count)
  if due.isEmpty then s
  else (s.onOct g fun o => { o with batches := o.batches.filter fun b => !decide (b.1 + 13 ≤ o.count) }).levelApply g (due.flatMap (·.2))

/-- A run has ended in an octet: batches that met no vector are applied (R589). -/
def State.levelEnd (s : State) (g : Nat) : State :=
  let o := s.oct g
  let left := o.batches.flatMap (·.2) ++ o.wait
  if left.isEmpty then s else (s.onOct g fun o => { o with batches := [], wait := [] }).levelApply g left

/-- The staged codes of an octet, by 8 × slot + DAC. -/
def State.staged (s : State) (g : Nat) : List (Nat × Nat) :=
  ((List.range 72).filter fun i => s.flag (DAC.LVL.STAGE.PEND g (i / 8) (i % 8))).map fun i => (i, s.get (DAC.LVL.STAGE.CODE g (i / 8) (i % 8)))

/-- PEND of a DAC, which `DAC[g][l].STAT` shows too (R608, R610). -/
def State.setPend (s : State) (g l k : Nat) (b : Bool) : State :=
  (s.setB (DAC.LVL.STAGE.PEND g l k) b).setB ⟨DAC.STAT.reg g l, k, 1⟩ b

/-- A LEVEL line crosses the ink line for the first time (R587, R590). -/
def State.levelTake (s : State) (k : Nat) : State :=
  if s.flag (LVL.CTL.FREEZE k) then s.set (LVL.STAT.FROZEN_SKIP k) 1
  else
    let take (acc : Bool × State) (g : Nat) : Bool × State :=
      let codes := acc.2.staged g
      if codes.isEmpty then acc
      else
        let s := acc.2
        let s := if (s.oct g).wait.isEmpty then s else s.set (LVL.STAT.MERGED k) 1
        let s := s.each codes fun s e => s.setPend g (e.1 / 8) (e.1 % 8) false
        (true, s.onOct g fun o => { o with wait := o.wait ++ codes })
    let r := (octetsOf k).foldl take (false, s)
    if r.1 then r.2.bump (LVL.STAT.APPLIED k) 1 else r.2

/-- A run has ended: batches of octets that did not run to the end are applied (R589). -/
def State.levelFlush (s : State) (k : Nat) : State := s.each (octetsOf k) State.levelEnd

/-- A boundary at the balls of an octet (R556, R573, R585): released balls take their states, and front-end and DAC writes
made in MEASURE come into force. -/
def State.feBoundary (s : State) (g : Nat) : State :=
  let s := s.onOct g fun o => { o with fe := [], oldCfg := [] }
  let mine := s.dacs.filter fun e => decide (72 * g ≤ e.1 ∧ e.1 < 72 * g + 72) && e.2.boundary.isSome
  let s := s.each mine fun s e =>
    let i := e.1 % 72
    match e.2.boundary with
    | some c => (s.onDac g (i / 8) (i % 8) fun d => { d with boundary := none }).program g (i / 8) (i % 8) c
    | none => s
  s.refreshOctet g

/-! ### SAFE (R596) -/

/-- The DACs of a core move to their safe value. -/
def State.parkSlot (s : State) (g l : Nat) : State :=
  let s := { s with parks := s.parks.erase (9 * g + l) }
  s.each (List.range 8) fun s k => if s.get (DAC.LVL.ACT.OUT g l k) = doParked then s.setBase g l k (safeCode k) else s

/-- SAFE takes effect: outputs are PARKED; a core that serves a ball waits until its paths are open, 1 µs or, for an
interlock, 10 µs later (R565, R596). -/
def State.parkDacs (s : State) (k : Nat) (interlock : Bool) : State :=
  let s := s.refreshDacs k
  let at_ := s.tick + usTicks (if interlock then 10 else 1)
  s.each (octetsOf k) fun s g =>
    (s.each (List.range 8) fun s l => { s with parks := Tab.put (fun _ => 0) s.parks (9 * g + l) (at_ + 1) }).parkSlot g 8

/-- SAFE ends: what has not parked yet need not (R597). -/
def State.unparkDacs (s : State) (k : Nat) : State :=
  State.refreshDacs { s with parks := s.parks.filter fun e => decide (e.1 / 72 ≠ k) } k

/-! ### Sine generators (R600 to R607) -/

/-- A generator adds nothing any more. -/
def State.clearSamples (s : State) (g : Nat) : State :=
  s.eachDac g fun s l k =>
    let d := s.dac g l k
    if d.off = 0 then s else (s.setDac g l k { d with off := 0, waits := false }).dacFollow g l k

/-- The generators of a sector stop at once (R606). -/
def State.stopSines (s : State) (k : Nat) : State :=
  s.each (octetsOf k) fun s g =>
    if s.flag (SINE.CTL.RUN g) then
      (((s.set (SINE.CTL.RUN g) 0).set (SINE.CTL.STOPPED g) 1).setSine g { s.sine g with stop := false }).clearSamples g
    else s

/-- The width of a DAC's span in µV (R577). -/
def spanWidth (k span : Nat) : Nat := (if k = 3 || k = 4 then 3200000 else 3000000) / (if span = 1 then 2 else 1)

/-- A sample in µV as steps of a span, rounded to the nearest (R602). -/
def sampleSteps (k span : Nat) (uv : Int) : Int := (uv * 131070 + spanWidth k span) / (2 * spanWidth k span : Nat)

/-- The sample of a generator in µV, of which the spec gives that it lies within 0.05 mV of AMP × sin(2πφ / 2^32) (R600). -/
def sineSample (amp phase : Nat) : Int :=
  let lim : Int := 100 * amp + 50
  max (-lim) (min lim (Config.sineSample amp phase))

/-- The offset that a sample adds to a DAC (R602). -/
def State.sampleFor (s : State) (g l k : Nat) (uv : Int) : Int :=
  if k < 6 && (s.get (DAC.MOD.EN g l)).testBit k then
    let n := sampleSteps k (s.get (DAC.LVL.CFG.SPAN g l k)) uv
    if (s.get (DAC.MOD.INV g l)).testBit k then -n else n
  else 0

/-- A sample reaches the selected DACs of an octet (R602, R603, R605). -/
def State.spreadSample (s : State) (g : Nat) (uv : Int) : State :=
  s.eachDac g fun s l k =>
    let d := s.dac g l k
    let off := if s.dacActive g l k then s.sampleFor g l k uv else 0
    if off = d.off then s
    else if d.hold.isSome then s.setDac g l k { d with off := off, waits := true }
    else (s.setDac g l k { d with off := off }).dacFollow g l k

/-- Does a phase step cross 0 or 2^31? (R606) -/
def crosses (old new : Nat) : Bool := decide (old / 2 ^ 31 ≠ new / 2 ^ 31)

end Sys2Proof.Machine
end

