-- ==== Sys2Proof/Machine/MeasOps.lean ====
section
/-! DEFINITION. How measurements of a Hairline, a TDR engine and a DC unit end or are abandoned (R714, R725, R735, R736,
R741, R744), with the replies of the commands that wait for them (R877), and how rotation stops (R73, R765). -/

namespace Sys2Proof.Machine
open Reg

/-- A quotient whose rounding the spec leaves open: the floor, or the next integer where it is inexact. -/
def State.roundOpen (s : State) (num den : Nat) : Nat × State :=
  if den = 0 then s.fresh
  else if num % den = 0 then (num / den, s)
  else let f := s.fresh; (num / den + f.1 % 2, f.2)

/-- The integer square root, by bisection on its bits. -/
def isqrt (n : Nat) : Nat :=
  ((List.range 64).reverse).foldl (fun r b => if (r + 2 ^ b) * (r + 2 ^ b) ≤ n then r + 2 ^ b else r) 0

/-- A DONE bit of an octet's instruments is set, with MSI-X vector 32 + g when none was set before (R883). -/
def State.setDone (s : State) (g : Nat) (f : Fld) : State :=
  let before := s.flag (HL.STAT.DONE g) || s.flag (TDR.CTL.DONE g) || s.flag (DC.STAT.DONE g)
  let s := s.set f 1
  if before then s else s.signal (32 + g)

/-- A command in progress on an octet's instrument. -/
def State.octetJob (s : State) (ops : List Nat) (g : Nat) : Option Job :=
  s.findJob fun j => ops.contains j.packet.opcode && j.packet.arg 0 = g

/-! ### Hairline -/

/-- A Hairline command replies from the registers (R877). -/
def State.hlReply (s : State) (g : Nat) (calFail abandoned : Bool) : State :=
  let r (a : Nat) : Nat × Nat := (32, (s.rd a).toNat)
  match s.octetJob [0x301] g with
  | some j =>
    let st := if calFail then stFailedCal
      else if abandoned || s.flag (HL.STAT.NO_START g) || s.get (HL.SHOTS.SHORT g) ≠ 0 then stDoneReduced else stDone
    s.endJob j st ((64, s.get64 (HL.START_LO.reg g) (HL.START_HI.reg g)) :: ((List.range 16).map fun k => r (HL.STOP.reg g k)) ++
      [r (HL.STOPVALID.reg g), r (HL.SHOTS.reg g), r (HL.MEAN.reg g), r (HL.SPREAD.reg g), r (HL.MIN.reg g), r (HL.MAX.reg g)])
  | none =>
    match s.octetJob [0x302] g with
    | some j =>
      let st := if calFail then stFailedCal else if abandoned || s.flag (HL.STAT.OVERRANGE g) then stDoneReduced else stDone
      s.endJob j st [(64, s.get64 (HL.FSPAN_LO.reg g) (HL.FSPAN_HI.reg g)), r (HL.FCOUNT.reg g), r (HL.FHZ.reg g)]
    | none => s

/-- Did the interval of R148 meet the time since a measurement began? (R726) -/
def State.hlMetCoast (s : State) (g : Nat) : Bool :=
  s.clk.coasting || (s.hair g).coast || (decide ((s.hair g).began ≤ s.clk.freezeAt) && decide (0 < s.clk.freezeAt))

/-- A Hairline measurement ends with DONE. -/
def State.hlFinish (s : State) (g : Nat) (calFail : Bool) : State :=
  let s := if s.hlMetCoast g then s.set (HL.STAT.COAST g) 1 else s
  let s := (s.set (HL.STAT.BUSY g) 0).onHair g fun h => { h with phase := 0 }
  (s.setDone g (HL.STAT.DONE g)).hlReply g calFail false

/-- A Hairline measurement in progress or queued is abandoned (R724, R725). -/
def State.hlAbandon (s : State) (g : Nat) : State :=
  if (s.tdr g).lanes.isEmpty && (s.flag (HL.STAT.BUSY g) || s.flag (HL.STAT.QUEUED g)) then
    let s := ((s.set (HL.STAT.BUSY g) 0).set (HL.STAT.QUEUED g) 0).set (HL.STAT.ABANDONED g) 1
    (s.onHair g fun h => { h with phase := 0 }).hlReply g false true
  else s

/-! ### TDR -/

/-- The results of a TDR as a command reports them. -/
def State.tdrFields (s : State) (mask : Nat) : List (Nat × Nat) :=
  (bitsOf 64 mask).flatMap fun g => (List.range 8).map fun l => (32, (s.rd (TDR.RES.reg g l)).toNat)

/-- The TDR of an octet has ended: TDR_RUN replies after its last octet (R877). -/
def State.tdrReply (s : State) (g : Nat) : State :=
  match s.findJob fun j => j.packet.opcode = 0x303 && j.mask.testBit g with
  | none => s
  | some j =>
    let left := maskOf ((bitsOf 64 j.mask).filter (· ≠ g))
    if left ≠ 0 then s.updateJob j { j with mask := left }
    else
      let mask := j.packet.arg 0
      let good := (bitsOf 64 mask).all fun g => (bitsOf 8 (j.packet.arg 1)).all fun l => s.get (TDR.RES.SIG g l) = 1
      s.endJob j (if good then stDone else stDoneReduced) (s.tdrFields mask)

/-- The TDR engine gives its octet back. -/
def State.tdrRelease (s : State) (g : Nat) : State :=
  ((s.setTdr g {}).set (HL.STAT.BUSY g) 0).refreshOctet g

/-- A TDR is abandoned (R736): the lane under test shows ABANDONED. -/
def State.tdrAbandon (s : State) (g : Nat) : State :=
  match (s.tdr g).lanes with
  | [] => s
  | l :: _ =>
    let s := (s.wr (TDR.RES.reg g l) 0).set (TDR.RES.SIG g l) 8
    ((s.tdrRelease g).set (HL.STAT.ABANDONED g) 1).tdrReply g

/-! ### DC unit -/

/-- DC_MEASURE replies (R877). -/
def State.dcReply (s : State) (g : Nat) (abandoned : Bool) : State :=
  match s.octetJob [0x305] g with
  | some j =>
    let bad := abandoned || s.flag (DC.STAT.COMPLY g) || s.flag (DC.STAT.LOST g)
    s.endJob j (if bad then stDoneReduced else stDone)
      [(16, s.get (DC.RES.V g)), (16, s.get (DC.RES.I g)), (32, (s.rd (DC.STAT.reg g)).toNat)]
  | none => s

/-- A DC measurement is abandoned as its connection ends (R744). -/
def State.dcAbandon (s : State) (g : Nat) : State :=
  if s.flag (DC.STAT.BUSY g) then ((s.set (DC.STAT.BUSY g) 0).set (DC.STAT.ABANDONED g) 1).dcReply g true else s

/-- The DC path is open: the ball takes its state (R739), and commands that waited for the connection reply. -/
def State.dcOpened (s : State) (g : Nat) : State :=
  let ball := (s.dcUnit g).ball
  let s := ((s.set (STEER.STAT.DC_BALL g) 0xF).set (DC.STAT.CONNECTED g) 0).set (DC.CTL.CONNECT g) 0
  let s := (s.onDc g fun d => { d with link := 0 }).refreshBall g ball
  let s := match s.octetJob [0x304] g with | some j => s.endJob j stBusy [] | none => s
  match s.octetJob [0x306] g with | some j => s.endJob j stDone [] | none => s

/-- The connection ends at once: SAFE, over-voltage, and the modes of R741; a request that waits is dropped. -/
def State.dcBreak (s : State) (g : Nat) : State :=
  let s := if (s.dcUnit g).queued.isSome then (s.onDc g fun d => { d with queued := none }).set (DC.STAT.QUEUED g) 0 else s
  if (s.dcUnit g).link = 0 then s
  else ((s.set (DC.CTL.MODE g) 0).dcAbandon g).dcOpened g

/-! ### Rotation -/

/-- The states of rotation (R765, R807). -/
def roIdle : Nat := 0
def roSpareCal : Nat := 1
def roMirror : Nat := 2
def roMatch : Nat := 3
def roSeamOut : Nat := 4
def roCal : Nat := 5
def roMatchBack : Nat := 6
def roSeamBack : Nat := 7
def roWait : Nat := 8

def State.rotState (s : State) (g : Nat) : Nat := s.get (ROT.STAT.STATE g)

/-- May rotation run? (R763) -/
def State.rotMay (s : State) (g : Nat) : Bool :=
  let k := g / 8
  (s.modeOf k = mSetup || s.modeOf k = mRun) && s.flag (ROT.CTL.EN g) && !s.flag (ROT.CTL.PAUSE g) && (s.dcUnit g).link = 0
    && !s.inSafe k && !s.flag (ROT.STAT.DEGRADED g) && !(s.rot g).halted

/-- Must a rotation in progress stop? (R763) A cleared EN acts at the next cycle (R806). -/
def State.rotMust (s : State) (g : Nat) : Bool :=
  let k := g / 8
  !((s.modeOf k = mSetup || s.modeOf k = mRun) && !s.flag (ROT.CTL.PAUSE g) && (s.dcUnit g).link = 0
    && !s.inSafe k && !s.flag (ROT.STAT.DEGRADED g) && !(s.rot g).halted)

/-- Is rotation running anywhere in a sector? -/
def State.rotating (s : State) (k : Nat) : Bool := (octetsOf k).any fun g => s.rotState g ≠ roIdle

/-- The state of an octet's rotation, with the time in which rotation has run in its sector (R803). -/
def State.setRotState (s : State) (g st : Nat) : State :=
  let k := g / 8
  let was := s.rotating k
  let s := s.set (ROT.STAT.STATE g) st
  if was = s.rotating k then s
  else s.onSecCal k fun c => if was then { c with ran := c.ran + (s.quill.qsec - c.ranAt) } else { c with ranAt := s.quill.qsec }

/-- The rotation of an octet enters a state with a lane. -/
def State.rotTo (s : State) (g st lane : Nat) : State :=
  ((s.setRotState g st).set (ROT.STAT.LANE g) lane).onRot g fun r => { r with at_ := s.tick, tries := 0 }

/-- The causes of R766 that the model names. -/
def rcDrift : Nat := 0x3
def rcDacFault : Nat := 0x4
def rcMatch : Nat := 0x5
def rcCheck : Nat := 0x6
def rcRefload : Nat := 0x7
def rcAbandoned : Nat := 0xD
def rcLogFull : Nat := 0xE

/-- The cause of the last failed run of a core (R808). -/
def State.setCause (s : State) (g c cause : Nat) : State :=
  if c = 8 then s.set (ROT.CAUSE_LS.CAUSE g) cause else s.set ⟨ROT.CAUSE.reg g, 4 * c, 4⟩ cause

/-- The core under run: in rotation the spare, or the core of the lane visited (R765); in CALIBRATE that of the procedure. -/
def State.underRun (s : State) (g : Nat) : Option Nat :=
  if s.rotState g = roSpareCal then some 8 else if s.rotState g = roCal then (s.rot g).visit else s.procCore g

/-- Rotation goes to IDLE (R73, R765): a provisional result is withdrawn, and a visit ends unless the spare serves its
ball. -/
def State.rotIdle (s : State) (g : Nat) : State :=
  if s.rotState g = roIdle then s
  else
    let keep := match (s.rot g).visit with | some l => s.spareServes g l | none => false
    let s := s.rotTo g roIdle 0xF
    let s := s.onRot g fun r => { r with visit := if keep then r.visit else none, faulted := false }
    s.each (List.range 9) fun s c => if (s.core g c).prov.isSome then s.onCore g c fun x => { x with prov := none } else s

/-- Rotation stops, and a run in progress is abandoned (R765, R766). -/
def State.rotStop (s : State) (g : Nat) : State :=
  if s.rotState g = roIdle then s
  else (match s.underRun g with | some c => s.setCause g c rcAbandoned | none => s).rotIdle g

/-- Rotation stops where it may no longer run. -/
def State.rotJudge (s : State) (g : Nat) : State := if s.rotMust g then s.rotStop g else s

end Sys2Proof.Machine
end

