-- ==== Sys2Proof/Machine/Safe.lean ====
section
/-! DEFINITION. SAFE taking effect on a sector and on the device (R56, R65, R66, R69, R70, R72, R967), and raising a
source with it. -/

namespace Sys2Proof.Machine
open Reg

/-- The causes of SAFE present on a sector (R68, R70), as a list of cause numbers. -/
def State.safeCauses (s : State) (k : Nat) : List Nat :=
  (if s.err.targets.any fun e => e.2.testBit k then [1] else [])
    ++ (if s.get QL.ILK.STAT.STATE = 0 && s.flag QL.ILK.STAT.A_CLOSED && s.flag QL.ILK.STAT.B_CLOSED then [] else [2])
    ++ (if s.flag DEV.MODE.SAFE_DEV then [3] else [])

/-- A sector's part in a SECTOR_MODE command has ended; the command replies after its last sector (R874). -/
def State.modeJob (s : State) (k : Nat) : State :=
  match s.findJob fun j => j.packet.opcode = 0x003 && j.mask.testBit k with
  | none => s
  | some j =>
    let left := maskOf ((bitsOf 8 j.mask).filter (· ≠ k))
    if left ≠ 0 then s.updateJob j { j with mask := left }
    else
      s.endJob j (if j.failed then stBusy else stDone)
        (((List.range 8).map fun i => (8, s.modeOf i)) ++ (List.range 8).map fun i => (8, s.get (SMODE.CTL.REFUSE_CAUSE i)))

/-- A transition in progress is abandoned, and with it a held request (R63, R69). -/
def State.dropTransition (s : State) (k : Nat) : State :=
  if s.flag (SMODE.CTL.BUSY k) then
    let s := ((s.set (SMODE.CTL.BUSY k) 0).set (SMODE.CTL.PENDING k) 0).set (SMODE.CTL.MODE_TGT k) (s.modeOf k)
    let s := if s.modeOf k = mOff then { s with mem := { s.mem with bist := s.mem.bist.erase k } } else s
    ((s.endReset (domSector k)).refreshDacs k).modeJob k
  else s

/-- What SAFE does to the blocks of a sector (R56, R65, R72): the Scribe halts, pins isolate, DACs park, measurements and
rotation stop, the Blotter marks it, and a calibration procedure or a transition is abandoned. -/
def State.safeBlocks (s : State) (k cause : Nat) : State :=
  let s := (s.askStop k stopSafe (1024 * s.tick)).refreshBalls k
  let s := (s.parkDacs k (cause = 2)).stopSines k
  let s := s.each (octetsOf k) fun s g => (((s.hlAbandon g).tdrAbandon g).dcBreak g).rotStop g
  let s := (s.blotSafe k).setProc k (let p := s.proc k; if p.kind = 0 then p else { p with broken := true })
  s.dropTransition k

/-- SAFE takes effect on a sector that is not in OFF, or by an F3 on any sector (R56, R64, R70, R967). -/
def State.sectorSafe (s : State) (k cause : Nat) : State :=
  if (s.modeOf k = mOff && cause ≠ 3) || !s.mainOn then s
  else
    let present := s.safeCauses k ++ (if cause = 4 then [] else [cause])
    let shown := if present.isEmpty then (if s.flag (SMODE.CTL.SAFE k) then s.get (SMODE.CTL.SAFE_CAUSE k) else 4) else present.foldl max 0
    let already := s.flag (SMODE.CTL.SAFE k)
    let s := s.set (SMODE.CTL.SAFE_CAUSE k) shown
    if already then s
    else ((s.set (SMODE.CTL.SAFE k) 1).notice (srcSecSafe k)).safeBlocks k cause

/-- SAFE for each sector of a mask. -/
def State.safeMask (s : State) (mask cause : Nat) : State := s.each (bitsOf 8 mask) fun s k => s.sectorSafe k cause

/-- The device SAFE of an F3 (R967). -/
def State.deviceSafe (s : State) (n : Nat) : State :=
  if srcClass n = .f3 && s.mainOn then (s.set DEV.MODE.SAFE_DEV 1).safeMask 0xFF 3 else s

/-- A source is raised, with the device SAFE of an F3 (R957, R967). -/
def State.raise (s : State) (n : Nat) : State := (s.notice n).deviceSafe n

end Sys2Proof.Machine
end

