-- ==== Sys2Proof/Machine/VaultOps.lean ====
section
/-! DEFINITION. The Colophon's append, the counter and the registers that show the vault (R820 to R844). -/

namespace Sys2Proof.Machine
open Reg

/-- Entry types (R827). -/
def colGenesis : Nat := 0x0001
def colProvision : Nat := 0x0002
def colSeal : Nat := 0x0003
def colService : Nat := 0x0004
def colParam : Nat := 0x0005
def colRetireLc : Nat := 0x0006
def colTamper : Nat := 0x0007
def colBoot : Nat := 0x0008
def colSealMeasure : Nat := 0x0009
def colCalRun : Nat := 0x0010
def colRotSummary : Nat := 0x0011
def colRetire : Nat := 0x0012
def colTapCand : Nat := 0x0013
def colDead : Nat := 0x0014
def colHbmPpr : Nat := 0x0020
def colTllRepair : Nat := 0x0021
def colColumnRepair : Nat := 0x0022
def colLinkWidth : Nat := 0x0023
def colRelease : Nat := 0x0030

/-- Bytes 0 to 47 of an entry (R825). -/
def ColEntry.head (e : ColEntry) : List Byte :=
  leBytes 4 e.seq ++ leBytes 2 e.kind ++ leBytes 1 e.lc ++ leBytes 1 e.flags ++ leBytes 6 e.qsec ++ leBytes 2 e.origin
    ++ leBytes 4 e.cnt ++ leBytes 28 e.payload

/-- The 64 bytes of an entry (R825). -/
def ColEntry.bytes (e : ColEntry) : List Byte := e.head ++ e.chain

/-- The chain value of an entry after a given one (R826). -/
def chainOver (before : List Byte) (e : ColEntry) : List Byte := (Config.sha384 (before ++ e.head)).take 16

/-- The head CHAIN; 16 bytes of zero before SEQ 0 (R826). -/
def Vault.chain (v : Vault) : List Byte :=
  match v.entries.getLast? with
  | some e => e.chain
  | none => List.replicate 16 0

/-- Free slots of the Colophon region, the reserve included (R829). -/
def Vault.free (v : Vault) : Nat := 12288 - v.entries.length

/-- Can `n` ordinary entries be appended? (R826, R829) -/
def Vault.room (v : Vault) (n : Nat) : Bool := decide (16 + n ≤ v.free) && decide (v.nextSeq + n ≤ 2 ^ 32)

/-- Can an entry be appended from the reserve? (R829) -/
def Vault.reserveRoom (v : Vault) : Bool := decide (1 ≤ v.free) && decide (v.nextSeq + 1 ≤ 2 ^ 32)

/-- May the seal event counter increment? (R821) -/
def Vault.mayCount (v : Vault) : Bool := decide (v.counter + 1 < 2 ^ 32)

/-- An entry appended (R825, R826); whether room and counter allow it is judged before. -/
def Vault.push (v : Vault) (kind origin flags qsec payload : Nat) : Vault :=
  let e : ColEntry := { seq := v.nextSeq, kind := kind, lc := v.lc, flags := flags, qsec := qsec, origin := origin,
                        cnt := v.counter, payload := payload % 2 ^ 224 }
  { v with nextSeq := v.nextSeq + 1, entries := v.entries ++ [{ e with chain := chainOver v.chain e }],
           first := if v.entries.isEmpty then v.nextSeq else v.first }

/-- First `n` bytes of a digest as a number, little-endian. -/
def digestNat (n : Nat) (d : List Byte) : Nat := leNat (d.take n)

/-- The values of a sealed set in the order of R812. -/
def SealedSet.values (t : SealedSet) (measure : List Byte) : List Nat :=
  t.points.flatMap (fun e => e.1 :: e.2.map fun m => trunc 64 m.value) ++ t.temps.flatMap (fun e => [e.1, e.2]) ++ [t.production] ++ t.repairs ++ t.trims
    ++ measure.map (·.toNat)

/-- The seal digest: SHA-384 of the sealed set (R813). -/
def Vault.sealDigest (v : Vault) (t : SealedSet) : List Byte := Config.sha384 (Config.serialise (t.values v.measure))

/-- The latest entry of a type. -/
def Vault.latest (v : Vault) (kind : Nat) : Option ColEntry := v.entries.reverse.find? (·.kind = kind)

/-- The sealed set as the registers and tables hold it now. -/
def State.sealedNow (s : State) : SealedSet :=
  { s.vault.set with
    trims := (List.range 8).map fun k => s.get (SREG.CTL.TRIM k)
    repairs := (List.range 8).map fun k => (s.rd (TLL.REPAIR.reg k)).toNat }

/-- `VAULT.VERDICT.SEALED_OK` (R839). -/
def State.sealedOk (s : State) : Bool :=
  decide (s.vault.lc = 2) && !s.vault.backupBad
    && (match s.vault.latest colSeal with
        | some e => decide (e.payload % 2 ^ 128 = digestNat 16 (s.vault.sealDigest s.sealedNow))
        | none => false)

/-- The vault registers show the vault (R841 to R844), and LOG_FULL follows the free slots (R829). -/
def State.showVault (s : State) : State :=
  if s.mainOn then
    let v := s.vault
    let full := decide (v.free < 17)
    let s := ((s.set VAULT.LC.STATE v.lc).set VAULT.SEAL_CNT.COUNT v.counter).set VAULT.COL_HEAD.SEQ (v.nextSeq - 1)
    let s := ((s.set VAULT.COL_FIRST.SEQ v.first).set VAULT.COL_FREE.SLOTS v.free).setB VAULT.STAT.LOG_FULL full
    let s := s.each (List.range 4) fun s i => s.set (VAULT.CHAIN.CHAIN i) (leNat (v.chain.drop (4 * i) |>.take 4))
    let s := ((s.setB VAULT.STAT.BACKUP_BAD v.backupBad).setB VAULT.STAT.AUTH_LOCK (v.authFails = 3)).set VAULT.STAT.AUTH_FAILS v.authFails
    let s := (s.setB VAULT.STAT.TAMPER_SEEN v.tamperSeen).setB VAULT.STAT.INTEGRITY_FAIL v.integrityFail
    if full then s.noticeHeld srcLogFull else s.quiet srcLogFull
  else s

/-- The vault replaced, with its registers. -/
def State.setVault (s : State) (v : Vault) : State := State.showVault { s with vault := v }

/-- An ordinary entry appended at the present Quill second, or nothing where the log is full (R829). -/
def State.append (s : State) (kind origin payload : Nat) : State :=
  if s.vault.room 1 then s.setVault (s.vault.push kind origin 0 s.quill.qsec payload) else s.showVault

/-- The wear ledger changed. -/
def State.wear (s : State) (f : Ledger → Ledger) : State := { s with vault := { s.vault with ledger := f s.vault.ledger } }

/-- The digest of an item of the sealed set, whose bytes the spec does not give (R820). -/
def itemDigest (vals : List Nat) : List Byte := Config.sha384 (Config.serialise vals)

/-- The payload of a PARAM_CHANGE entry (R820): item, index and the first 64 bits of both digests. -/
def paramPayload (item index : Nat) (before after : List Byte) : Nat :=
  item % 2 ^ 8 + index % 2 ^ 16 * 2 ^ 16 + digestNat 8 before * 2 ^ 32 + digestNat 8 after * 2 ^ 96

/-- A locked section waits for its backup in flash (R833, R836). -/
def State.openTx (s : State) (act : TxAct) (opcode origin : Nat) : State :=
  let s := if opcode = 0 then s else { s with lec := { s.lec with locked := some .lifecycle } }
  { s with vault := { s.vault with txs := s.vault.txs ++ [{ act := act, opcode := opcode, origin := origin }] },
           nvm := { s.nvm with op := s.nvm.op ++ [.backup] } }

/-- Every open locked section is discarded (R836). -/
def State.discardTxs (s : State) : State :=
  { s with vault := { s.vault with txs := [] }, nvm := { s.nvm with op := s.nvm.op.filter (· ≠ .backup) } }

/-- A full backup written into the copy that is not the newer (R833). -/
def Vault.writeBackup (v : Vault) (counter : Nat) (t : SealedSet) : Vault :=
  let copy := 1 - v.newer
  { v with newer := copy,
           backups := Tab.put (fun _ => {}) v.backups copy
             { counter := counter, digest := (v.sealDigest t).take 16, key := v.deviceKey, set := t } }

/-- One change of the sealed set (R820): counted and logged in PROVISIONED and SERVICE, neither in BLANK. -/
def State.sealedChange (s : State) (item index : Nat) (before : List Byte) (opcode : Nat) : State :=
  let set := s.sealedNow
  let s := { s with vault := { s.vault with set := set } }
  if s.lifecycle = 1 || s.lifecycle = 3 then
    s.openTx (.param item index before set) opcode (if opcode = 0 then 5 else 0)
  else s

end Sys2Proof.Machine
end

