-- ==== Sys2Proof/Machine/QuillOps.lean ====
section
/-! DEFINITION. Quill's event record, alerts, power-downs, wakes and rules (R985 to R1020), and the reset of the main
domain. -/

namespace Sys2Proof.Machine
open Reg

/-- Power states of `QL.STAT.PSTATE` (R1021). -/
def psDormant : Nat := 0
def psUp : Nat := 1
def psLight : Nat := 2
def psLightRest : Nat := 3
def psDoze : Nat := 4
def psDown : Nat := 5

def State.pstate (s : State) : Nat := s.get QL.STAT.PSTATE

/-- Is the device in doze? -/
def State.inDoze (s : State) : Bool := s.pstate = psDoze

/-- An entry of the event record (R1014 to R1016, R1019). -/
def State.event (s : State) (kind group data0 data1 : Nat) (ruleAlert : Bool) : State :=
  let i := s.get QL.EVT.PTR.WR
  let next := (i + 1) % 64
  let v := s.quill.seq % 2 ^ 16 + data0 % 2 ^ 16 * 2 ^ 16 + data1 % 2 ^ 32 * 2 ^ 32 + kind * 2 ^ 72 + s.quill.qsec % 2 ^ 48 * 2 ^ 80
  let hostLost := decide (64 ≤ s.quill.hostUnread)
  let smbLost := decide (64 ≤ s.quill.smbUnread.length)
  let s := s.each (List.range 4) fun s j => s.set (QL.EVT.ENTRY.W.V i j) (v / 2 ^ (32 * j))
  let s := s.set QL.EVT.PTR.WR next
  let s := if hostLost || smbLost then s.set QL.STAT.OVERFLOW 1 else s
  let s := if hostLost then s.set QL.EVT.PTR.HRD next else s
  let unread := (if smbLost then s.quill.smbUnread.drop 1 else s.quill.smbUnread) ++ [{ index := i, group := group, ruleAlert := ruleAlert }]
  let alerts := ruleAlert || s.quill.alertMask.testBit group
  let s := { s with quill := { s.quill with
    seq := s.quill.seq + 1, hostUnread := min 64 (s.quill.hostUnread + 1), smbUnread := unread,
    alertQuiet := s.quill.alertQuiet && !alerts } }
  if s.host.linkUp then s.setSignal QL.STAT.EVT_NEW 28 else s

/-- Is `SMB_ALERT_N` driven low? (R1019) -/
def State.alertLow (s : State) : Bool :=
  !s.quill.alertQuiet && s.quill.smbUnread.any fun e => e.ruleAlert || s.quill.alertMask.testBit e.group

/-- The wake timer is disarmed (R1000). -/
def State.disarm (s : State) : State := State.set { s with quill := { s.quill with wakeAt := none } } QL.WAKE.ARMED 0

/-- Is a key in the Quill mirror? -/
def inQuill (a : Nat) : Bool := decide (0x400000 ≤ a ∧ a < 0x500000)

/-- The main domain loses everything but what Quill, the vault's NVM, the flash and the fuses hold (R852, R985, R998,
R1005). An F3 stays in force (R968), and the test access port keeps its state (R1029). -/
def State.mainReset (s : State) : State :=
  let t : State := {
    pending := s.pending, free := s.free, answer := s.answer, hostMem := s.hostMem, quill := s.quill, nvm := { s.nvm with op := [] }
    vault := { s.vault with nonce := none, sram := [], txs := [], backupBad := false }
    host := { perst := s.host.perst, lastWidth := s.host.lastWidth, marginFails := s.host.marginFails }
    regs := s.regs.filter fun e => inQuill e.1 }
  let t := { t with dbg := { t.dbg with tapInstr := s.dbg.tapInstr, cells := s.dbg.cells } }
  if s.quill.f3 then
    let t := (t.set ERR.STAT.F3 1).set DEV.MODE.SAFE_DEV 1
    t.each s.quill.f3Stat fun t n => (t.setB (ERR.SRC.STAT n) true).setB ⟨ERR.SUM.reg (n / 32), n % 32, 1⟩ true
  else t

/-- What the end of a power cycle ends (R823, R843, R968). -/
def State.powerCycled (s : State) : State :=
  { s with quill := { s.quill with f3 := false, f3Stat := [] },
           vault := { s.vault with tamperSeen := false, integrityFail := false, authFails := 0 } }

/-- The code of a power-down's cause in a POWER_DOWN entry (R1015). -/
def DownCause.code : DownCause → Nat
  | .rest => 1
  | .rule _ => 2
  | .overtemp => 3
  | .cycle => 4
  | .pgLoss => 5

/-- Rail groups that are raised or being raised: groups below the answer. -/
def PwrPhase.raised : PwrPhase → Nat
  | .raising n | .settling n => n + 1
  | .aborting n | .lowering n => n
  | .up | .safeWait => 8
  | .unpowered | .delay | .cycleWait | .dormant => 0

/-- A power-down is ordered: SAFE where it is asked for, the timer is disarmed unless the host's REST asked, and Quill
begins to lower the rails (R107, R991, R995, R997). -/
def State.orderDown (s : State) (c : DownCause) (safe : Bool) : State :=
  let s := if safe then s.safeMask 0xFF 4 else s
  let s := if c = .rest then s else s.disarm
  State.set { s with quill := { s.quill with phase := .safeWait, down := some c, entering := none, waking := false } } QL.STAT.PSTATE psDown

/-- Is the device in DORMANT, or on its way down? -/
def State.downOrDormant (s : State) : Bool :=
  match s.quill.phase with
  | .unpowered | .dormant | .cycleWait | .safeWait | .lowering _ | .aborting _ => true
  | _ => false

/-- The rest depth that the device is in: 1 LIGHT, 2 DOZE, 3 DORMANT, 0 none. -/
def State.restDepth (s : State) : Nat :=
  if s.pstate = psLightRest then 1 else if s.pstate = psDoze then 2 else if s.quill.phase = .dormant then 3 else 0

/-- Is a wake source enabled at a depth? (R1003) -/
def State.wakeEnabled (s : State) (c depth : Nat) : Bool :=
  ((s.get QL.WAKE.EN).testBit (c - 1) || (c = 4 && depth = 1)) && (depth ≠ 3 || c ≤ 3)

/-- A wake begins (R75, R996, R1003, R1016): LIGHT and DOZE set EVT_NEW; from DORMANT the power-up delay starts. -/
def State.beginWake (s : State) (c depth : Nat) : State :=
  let s := (s.disarm.set QL.WAKE.LAST c).event 0x04 0 c depth false
  if depth = 3 then State.set { s with quill := { s.quill with phase := .delay, waking := true, step := 2, depth := 0 } } QL.STAT.PSTATE psUp
  else { s with quill := { s.quill with waking := true } }

/-- Quill's own temperature lies below 95 °C (R992). -/
def State.coolEnough (s : State) : Bool := decide (sext 16 (s.get QL.TEMP.QUILL) < 95 * 64)

/-- A wake source arrives (R992, R1002, R1003, R1020). -/
def State.wake (s : State) (c : Nat) : State :=
  let inhibited := s.flag QL.STAT.WAKE_INHIBIT
  if inhibited && !(c = 2 && s.coolEnough) then s
  else
    let depth := match s.quill.entering with | some d => d | none => s.restDepth
    let depth := if s.downOrDormant && s.quill.phase ≠ .unpowered then 3 else depth
    if depth = 0 || !s.wakeEnabled c depth || s.quill.phase = .unpowered then s
    else
      let s := if inhibited then s.set QL.STAT.WAKE_INHIBIT 0 else s
      if s.quill.waking then s.event 0x04 0 c depth false
      else if s.quill.entering.isSome || (s.downOrDormant && s.quill.phase ≠ .dormant) then
        { s with quill := { s.quill with heldWake := some (s.quill.heldWake.getD c) } }
      else s.beginWake c depth

/-- The device has reached DORMANT with every enable low; a held wake begins at once (R103, R107, R1002). -/
def State.reachDormant (s : State) : State :=
  let s := State.set { s with quill := { s.quill with phase := .dormant, down := none, depth := 3, entering := none, waking := false, step := 0 } }
    QL.STAT.PSTATE psDormant
  match s.quill.heldWake with
  | some c => State.beginWake { s with quill := { s.quill with heldWake := none } } c 3
  | none => s

/-- Group `n` is lowered; the core's rail is group 1, and `VIO` is group 0, whose loss resets the TAP (R1029). -/
def State.lowerGroup (s : State) (n : Nat) : State :=
  let s := { s with quill := { s.quill with en := s.quill.en &&& (255 - 2 ^ n) } }
  if n = 1 then s.mainReset else if n = 0 then { s with dbg := {} } else s

/-- The sampling of a rule (R994): the counting after it, and whether it fires. -/
def State.sampleRule (s : State) (k : Nat) (v : Int) : RuleCount × Bool :=
  let c := Tab.get (fun _ => {}) s.quill.rules k
  let signed := decide (8 ≤ s.get (QL.RULE.CFG.SRC k) ∧ s.get (QL.RULE.CFG.SRC k) ≤ 11)
  let num (n : Nat) : Int := if signed then sext 16 n else (n : Int)
  let th := num (s.get (QL.RULE.LEVEL.THRESH k))
  let hy := num (s.get (QL.RULE.LEVEL.HYST k))
  let above := s.flag (QL.RULE.CFG.DIR k)
  let need := max 1 (s.get (QL.RULE.CFG.PERSIST k))
  if c.fired then
    let back := if above then decide (v ≤ th - hy) else decide (th + hy ≤ v)
    let n := if back then c.back + 1 else 0
    if need ≤ n then ({}, false) else ({ c with back := n }, false)
  else
    let holds := if above then decide (th < v) else decide (v < th)
    let n := if holds then c.run + 1 else 0
    if need ≤ n then ({ fired := true }, true) else ({ c with run := n }, false)

/-- A rule fires: its bit, its entry and its actions but WAKE (R995). -/
def State.fireRule (s : State) (k : Nat) (v : Int) : State :=
  let act := s.get (QL.RULE.CFG.ACT k)
  let s := s.set QL.RULE_STAT.FIRED (s.get QL.RULE_STAT.FIRED ||| 2 ^ k)
  let s := s.event 0x30 3 k (trunc 32 v) (act.testBit 1)
  let s := if act.testBit 3 then s.safeMask 0xFF 4 else s
  if act.testBit 4 && !s.downOrDormant then s.orderDown (.rule k) true else s

/-- A sample of the enabled rules whose source has a value (R994, R995, R1020): a wake at the sample of a power-down is
only recorded. -/
def State.runRules (s : State) (vals : List (Nat × Int)) : State :=
  let fired := (List.range 16).filterMap fun k =>
    if s.flag (QL.RULE.CFG.EN k) then
      match vals.find? fun e => e.1 = s.get (QL.RULE.CFG.SRC k) with
      | some e => if (s.sampleRule k e.2).2 then some (k, e.2) else none
      | none => none
    else none
  let s := s.each (List.range 16) fun s k =>
    if s.flag (QL.RULE.CFG.EN k) then
      match vals.find? fun e => e.1 = s.get (QL.RULE.CFG.SRC k) with
      | some e => { s with quill := { s.quill with rules := Tab.put (fun _ => {}) s.quill.rules k (s.sampleRule k e.2).1 } }
      | none => s
    else s
  let down := fired.any fun e => (s.get (QL.RULE.CFG.ACT e.1)).testBit 4
  let s := s.each fired fun s e => s.fireRule e.1 e.2
  let wakes := fired.any fun e => (s.get (QL.RULE.CFG.ACT e.1)).testBit 2
  if wakes then (if down then s.event 0x04 0 3 s.restDepth false else s.wake 3) else s

/-- A state of the interlock other than ARMED holds every sector not in OFF in SAFE (R1007), from the end of start-up on
(R1011). -/
def State.ilkHold (s : State) : State := if s.get QL.ILK.STAT.STATE = 0 || s.quill.step ≠ 11 then s else s.safeMask 0xFF 2

/-- The interlock enters a state with an entry (R1008). -/
def State.ilkTo (s : State) (st count : Nat) : State := (s.set QL.ILK.STAT.STATE st).set QL.ILK.STAT.COUNT (min 0x3FFF count)

/-- One Quill tick of the interlock (R1008, R1009) with the filtered channels closed or not. -/
def State.ilkTick (s : State) (a b : Bool) : State :=
  let st := s.get QL.ILK.STAT.STATE
  let was := s.quill.ilk
  let d := if st = 1 || st = 3 || (st = 6 && was.disagree ≠ 0) then was.disc else s.get QL.ILK.CTL.DISC
  let put (s : State) (i : Interlock) : State := { s with quill := { s.quill with ilk := i } }
  let s := (s.setB QL.ILK.STAT.A_CLOSED a).setB QL.ILK.STAT.B_CLOSED b
  let bothClosed := a && b
  let bothOpen := !a && !b
  let openOne := if a then 2 else 1
  let closedOne := if a then 1 else 2
  let start (s : State) (st first : Nat) : State :=
    (put s { was with first := first, disagree := 1, disc := s.get QL.ILK.CTL.DISC, closedRun := 0 }).ilkTo st 1
  let fault (s : State) (n : Nat) (first : Nat) : State := ((s.ilkTo 5 n).event 0x13 1 first n false).notice srcIlkDisc
  match st with
  | 0 =>
    if bothClosed then s
    else if bothOpen then (s.ilkTo 2 0).event 0x10 1 3 0 false
    else start s 1 openOne
  | 1 =>
    let n := was.disagree + 1
    let otherOpen := if was.first = 1 then !b else !a
    if otherOpen then (s.ilkTo 2 was.disagree).event 0x10 1 was.first was.disagree false
    else if bothClosed then ((s.ilkTo 4 was.disagree).event 0x12 1 was.first was.disagree false).notice srcIlkNotice
    else if d < n then fault s n was.first
    else (put s { was with disagree := n }).ilkTo 1 n
  | 2 =>
    if bothOpen then s
    else if bothClosed then (s.ilkTo 4 0).event 0x11 1 3 0 false
    else start s 3 closedOne
  | 3 =>
    let n := was.disagree + 1
    let otherClosed := if was.first = 1 then b else a
    let firstOpen := if was.first = 1 then !a else !b
    if otherClosed then (s.ilkTo 4 was.disagree).event 0x11 1 was.first was.disagree false
    else if firstOpen then s.ilkTo 2 was.disagree
    else if d < n then fault s n was.first
    else (put s { was with disagree := n }).ilkTo 3 n
  | 4 =>
    if bothClosed then s
    else if bothOpen then (s.ilkTo 2 0).event 0x10 1 3 0 false
    else start s 1 openOne
  | 5 => if bothOpen then s.ilkTo 2 was.disagree else s
  | _ =>
    if bothOpen then (put s {}).ilkTo 2 0
    else if bothClosed then
      let n := was.closedRun + 1
      if d ≤ n then ((put s {}).ilkTo 0 0).event 0x14 1 0 0 false else put s { was with closedRun := n, disagree := 0 }
    else
      let n := was.disagree + 1
      let i := if was.disagree = 0 then { was with disc := s.get QL.ILK.CTL.DISC } else was
      if i.disc < n then fault (put s i) n openOne
      else (put s { i with disagree := n, closedRun := 0, first := openOne }).ilkTo 6 n

/-- A write of ARM (R1008, R1010). -/
def State.ilkArm (s : State) : State :=
  if s.get QL.ILK.STAT.STATE = 4 then (s.ilkTo 0 (s.get QL.ILK.STAT.COUNT)).event 0x14 1 0 0 false
  else s.set QL.ILK.STAT.ARM_REFUSED 1

/-- A write of `QL.ILK.CTL`: DISC outside 10 to 10,000 is ignored and sets CFG_ERR (R1009). -/
def State.ilkCtlWrite (s : State) (v : Nat) : State :=
  let disc := v % 2 ^ 14
  let s := if 10 ≤ disc && disc ≤ 10000 then s.set QL.ILK.CTL.DISC disc else s.set QL.ILK.STAT.CFG_ERR 1
  if v.testBit 31 then s.ilkArm else s

/-- A write of `QL.CTL` (R997). -/
def State.pcycle (s : State) : State :=
  match s.quill.phase with
  | .unpowered | .delay | .cycleWait => s
  | .dormant => State.set { s with quill := { s.quill with phase := .cycleWait, down := some .cycle } } QL.STAT.PSTATE psDown
  | _ => s.orderDown .cycle true

/-- A write of `QL.EVT.PTR`: the host's reader moves (R1016). -/
def State.hrdWrite (s : State) (v : Nat) : State :=
  let s := s.set QL.EVT.PTR.HRD v
  { s with quill := { s.quill with hostUnread := (s.get QL.EVT.PTR.WR + 64 - v % 64) % 64 } }

/-- The wait of a wiping begins where a tamper is detected (R840). -/
def State.tamperHit (s : State) (cause : Nat) : State := { s with quill := { s.quill with tamperWait := s.quill.tamperWait ++ [cause] } }

end Sys2Proof.Machine
end

