-- ==== Sys2Proof/Machine/Errata.lean ====
section
/-! DEFINITION. Errata's commands (R951 to R984) and the Lectern commands that wrap them (R881). -/

namespace Sys2Proof.Machine
open Reg

/-- Does a source have a detector? Spare sources have none (R956). -/
def srcHasDetector (n : Nat) : Bool :=
  if n < 64 then decide (n < 37) else if n < 320 then decide ((n - 64) % 32 < 29) else decide (n < 384)

/-- SOURCE_RAISE (R957, R967, R973): a detector asserts; `stays` says whether it goes on asserting or is quiet again. -/
def execSourceRaise (n : Source) (stays : Bool) (s : State) : Host.Outcome State Fault Refusal :=
  if srcHasDetector n then
    .next (if stays then (s.noticeHeld n).deviceSafe n else (s.raise n).quiet n)
  else .next s

/-- RAIL_BROKEN (R953 to R955): a detector's pair, or a pair inside Errata or on an escalation or SAFE wire (none), shows
equal rails for `ns`; from 20 ns to 50 ns `judged` tells how it is judged. -/
def execRailBroken (pair : Option Source) (ns : Nat) (judged stays : Bool) (s : State) : Host.Outcome State Fault Refusal :=
  if ns < 20 || (ns ≤ 50 && !judged) || !s.mainOn then
    match pair with
    | some n => .next (State.refreshActive { s with err := { s.err with brokenNow := s.err.brokenNow.filter (· ≠ n.val) } } n)
    | none => .next s
  else
    match pair with
    | none => .next (s.raise srcErrRail)
    | some n =>
      let s := (s.raise n).set (ERR.SRC.BROKEN n) 1 |>.set ERR.STAT.BROKEN_SEEN 1
      let b := s.err.brokenNow.filter (· ≠ n.val)
      .next (State.refreshActive { s with err := { s.err with brokenNow := if stays then insertNew n b else b } } n)

/-- An acknowledgement of a source (R960, R963, R969). -/
def State.ackSource (s : State) (n : Nat) : State :=
  if s.flag (ERR.SRC.PENDING n) || s.flag (ERR.SRC.ESCALATED n) then
    State.setReaction { s with err := { s.err with targets := s.err.targets.erase n, pendAt := s.err.pendAt.erase n } } n false false
  else s.set ERR.STAT.ACK_ERR 1

/-- ERR_ACK_WRITE (R960, R969). -/
def execErrAckWrite (n : Source) (s : State) : Host.Outcome State Fault Refusal := .next (s.ackSource n)

/-- The reaction time of a source in ticks (R961). -/
def State.reactTicks (s : State) (n : Nat) : Nat := usTicks (s.get (ERR.REACT.US (s.get (ERR.SRC.TSEL n))))

/-- ERR_ESCALATION (R960 to R962): the reaction timer of a source has reached T. While the baseline does not run, Errata
counts on its own oscillator, and the timer is not held to the tick counter. -/
def execErrEscalation (n : Source) (s : State) : Host.Outcome State Fault Refusal :=
  if s.flag (ERR.SRC.PENDING n) && (!s.clk.running || decide (Tab.get (fun _ => 0) s.err.pendAt n + s.reactTicks n ≤ s.tick)) then
    let targets := s.escTargets n
    let s := (s.setReaction n false true).irqHi.bump ERR.STAT.ESC_CNT 1
    let s := { s with err := { s.err with targets := Tab.put (fun _ => 0) s.err.targets n targets, pendAt := s.err.pendAt.erase n } }
    .next (s.safeMask targets 1)
  else .next s

/-- May the force bit of a source be written? (R966) -/
def State.mayForce (s : State) (n : Nat) : Bool := srcClass n ≠ .f3 || s.lifecycle = 0 || s.lifecycle = 3

/-- A write of FORCE (R964 to R966). -/
def State.forceWrite (s : State) (n : Nat) (b : Bool) : State :=
  if !s.mayForce n then s.set ERR.STAT.FORCE_REFUSED 1
  else
    let was := s.flag (ERR.SRC.ACTIVE n)
    let s := State.refreshActive (s.setB (ERR.SRC.FORCE n) b) n
    if b && !was then (s.record n true).deviceSafe n else s

/-- ERR_FORCE_WRITE (R964 to R966). -/
def execErrForceWrite (n : Source) (b : Bool) (s : State) : Host.Outcome State Fault Refusal := .next (s.forceWrite n b)

/-- A write of 1 to STAT (R958). -/
def State.statClear (s : State) (n : Nat) : State :=
  if s.flag (ERR.SRC.PENDING n) || s.flag (ERR.SRC.ESCALATED n) || srcClass n = .f3 then s else s.setStat n false

/-- ERR_STAT_CLEAR (R958). -/
def execErrStatClear (n : Source) (s : State) : Host.Outcome State Fault Refusal := .next (s.statClear n)

/-- A host write of `ERR.SRC[n]` (R981): its clears, its acknowledgement, its settings and its force bit, in this order. -/
def State.errSrcWrite (s : State) (n v : Nat) : State :=
  let s := if v.testBit 31 then s.statClear n else s
  let s := if v.testBit 16 then s.set (ERR.SRC.BROKEN n) 0 else s
  let s := if v.testBit 25 then s.ackSource n else s
  let s := ((s.setB (ERR.SRC.IRQ_EN n) (v.testBit 24)).set (ERR.SRC.ESC n) (v / 2 ^ 22)).set (ERR.SRC.TSEL n) (v / 2 ^ 20)
  if v.testBit 26 = s.flag (ERR.SRC.FORCE n) then s else s.forceWrite n (v.testBit 26)

/-- A host write of `ERR.REACT[i]` (R983). -/
def State.reactWrite (s : State) (i v : Nat) : State :=
  let us := v % 2 ^ 17
  if 10 ≤ us && us ≤ 100000 then s.set (ERR.REACT.US i) us else s.set ERR.STAT.CFG_ERR 1

/-- SHADOW_CLOSE (R972): 3,000 ticks after the end of the domain's reset. -/
def execShadowClose (d : BitVec 8) (s : State) : Host.Outcome State Fault Refusal :=
  if s.err.ending.contains d.toNat then
    .next { (s.set (ERR.RESET.SHADOW d.toNat) 0) with
      err := { s.err with shadows := s.err.shadows.filter (· ≠ d.toNat), ending := s.err.ending.filter (· ≠ d.toNat) } }
  else .next s

/-- A reply that carries an old generation of a domain is discarded (R974). -/
def State.discardStale (s : State) (d : Nat) : State := (s.bump (ERR.RESET.STALE d) 1).raise srcStale

/-- LEC_WATCHDOG_EXPIRE (R956, R1044). -/
def execLecWatchdogExpire (s : State) : Host.Outcome State Fault Refusal :=
  if s.flag LEC.STAT.RUNNING && !s.flag LEC.STAT.HALTED then .next (s.raise srcLecWdog) else .next s

/-- FABRIC_TIMEOUT (R956): on a lane of a sector, or of the central block (none). -/
def execFabricTimeout (k : Option Sector) (s : State) : Host.Outcome State Fault Refusal :=
  .next (s.raise (match k with | some k => srcFabricSec k | none => srcFabricCtr))

/-- The fields of a command whose parameters vary in number. -/
def Packet.fieldsOf (p : Packet) (widths : List Nat) : List Nat := unpackFields widths p.params

/-- ERR_ACK, command 0x701 (R881, R963): the whole list or none. -/
def execErrAck (s : State) : Host.Outcome State Fault Refusal :=
  match s.start 0x701 with
  | none => .next s
  | some (p, s) =>
    let n := p.arg 0
    let l := (p.fieldsOf (List.replicate (n + 1) 16)).drop 1
    if p.params.length * 2 < n + 1 then .next (s.reply p stBadParam [])
    else if l.all fun k => decide (k < 384) && decide (srcClass k = .f2) && (s.flag (ERR.SRC.PENDING k) || s.flag (ERR.SRC.ESCALATED k)) then
      .next ((s.each l State.ackSource).reply p stDone [(16, n)])
    else .next (s.reply p stBadParam [])

/-- ERR_FORCE, command 0x702 (R881, R966). -/
def execErrForce (s : State) : Host.Outcome State Fault Refusal :=
  match s.start 0x702 with
  | none => .next s
  | some (p, s) =>
    if !s.mayForce (p.arg 0) then .next (s.reply p stSealed [])
    else if 384 ≤ p.arg 0 || 2 ≤ p.arg 1 then .next (s.reply p stBadParam [])
    else .next ((s.forceWrite (p.arg 0) (p.arg 1 = 1)).reply p stDone [])

/-- ERR_READ, command 0x703 (R881): bits 31:24 of each source's register. -/
def execErrRead (s : State) : Host.Outcome State Fault Refusal :=
  match s.start 0x703 with
  | none => .next s
  | some (p, s) =>
    let n := p.arg 1
    if n = 0 || 384 < n || 384 < p.arg 0 + n then .next (s.reply p stBadParam [])
    else .next (s.reply p stDone ((List.range n).map fun i => (8, (s.rd (ERR.SRC.reg (p.arg 0 + i))).toNat / 2 ^ 24)))

end Sys2Proof.Machine
end

