-- ==== Sys2Proof/Machine/ModeReq.lean ====
section
/-! DEFINITION. Mode requests (R58 to R64, R76): their judgement, holding and refusal, and the end of a transition. -/

namespace Sys2Proof.Machine
open Reg

/-- A sector is in a mode, with no transition in progress. -/
def State.setMode (s : State) (k m : Nat) : State :=
  ((s.set (SMODE.CTL.MODE_CUR k) m).set (SMODE.CTL.MODE_TGT k) m).set (SMODE.CTL.BUSY k) 0

/-- A STOP write, or MODE_REQ = RUN in RUN (R60, R313, R343, R344, R360). -/
def State.stopWrite (s : State) (k : Nat) : State :=
  if (s.scribe k).stops.any (·.1 = stopHost) then s
  else if s.scState k = scPriming then s.askStop k stopHost s.nowDots
  else s.askStop k stopHost (1024 * (s.tick + 16))

/-- The refusal causes of R58. -/
def mcIllegal : Nat := 1
def mcInSafe : Nat := 2
def mcNotReady : Nat := 3
def mcSectorBist : Nat := 4

/-- A mode request is refused (R61); a SECTOR_MODE command that made it has failed for the sector (R874). -/
def State.modeRefuse (s : State) (k cause : Nat) : State :=
  let s := (s.set (SMODE.CTL.REFUSED k) 1).set (SMODE.CTL.REFUSE_CAUSE k) cause
  match s.findJob fun j => j.packet.opcode = 0x003 && j.mask.testBit k with
  | some j => (s.updateJob j { j with failed := true }).modeJob k
  | none => s

/-- A transition begins (R64): to and from OFF the reset of the sector's domain is announced (R971); on the way to SETUP the
DACs leave HIZ (R563). -/
def State.beginMode (s : State) (k tgt : Nat) : State :=
  let s := (s.set (SMODE.CTL.BUSY k) 1).set (SMODE.CTL.MODE_TGT k) tgt
  if tgt = mOff || s.modeOf k = mOff then s.announce (domSector k)
  else if s.entersSetup k then s.refreshDacs k else s

/-- Does the table of R64 reach a mode by a request? -/
def modeReach (cur req : Nat) : Bool :=
  [(0, 1), (1, 0), (1, 2), (2, 1), (2, 4), (4, 2), (2, 5), (5, 2)].contains (cur, req)

/-- A fresh mode request is judged and begun (R60, R61, R64). -/
def State.modeJudge (s : State) (k req : Nat) : State :=
  let cur := s.modeOf k
  if req = mRun then
    if cur = mRun then ((s.set (SMODE.CTL.BUSY k) 1).set (SMODE.CTL.MODE_TGT k) mSetup).stopWrite k else s.modeRefuse k mcIllegal
  else if !modeReach cur req then s.modeRefuse k mcIllegal
  else if cur = mStandby && req = mSetup && !(s.flag (TLL.STAT.LOCKED k) && s.flag (SREG.STAT.PGOOD k)) then s.modeRefuse k mcNotReady
  else if cur = mStandby && req = mSetup && (Tab.get (fun _ => {}) s.mem.bist k : Bist).banks ≠ 0 then s.modeRefuse k mcSectorBist
  else s.beginMode k req

/-- Does SAFE refuse a mode request of a sector? (R64, R1007) -/
def State.modeInSafe (s : State) (k : Nat) : Bool :=
  s.inSafe k || (s.modeOf k = mOff && s.get QL.ILK.STAT.STATE ≠ 0)

/-- A mode request (R60 to R64, R76, R1084): held behind a transition in progress, or in doze carried out after the wake. -/
def State.modeRequest (s : State) (k req : Nat) : State :=
  if !s.flag DEV.MODE.READY then s.modeRefuse k mcNotReady
  else if s.modeInSafe k then s.modeRefuse k mcInSafe
  else if s.flag (SMODE.CTL.BUSY k) then (s.set (SMODE.CTL.PENDING k) 1).set (SMODE.CTL.MODE_REQ k) req
  else if s.inDoze || s.quill.entering = some 2 then
    let s := (s.set (SMODE.CTL.BUSY k) 1).set (SMODE.CTL.MODE_TGT k) req
    let s := s.wake 4
    if s.quill.waking || s.quill.heldWake.isSome then s
    else if s.quill.entering.isSome then { s with quill := { s.quill with heldWake := some 4 } } else s.beginWake 4 2
  else s.modeJudge k req

/-- A request held under PENDING is carried out as a fresh one (R62). -/
def State.modeHeld (s : State) (k : Nat) : State :=
  if s.flag (SMODE.CTL.PENDING k) then
    let s := s.set (SMODE.CTL.PENDING k) 0
    let s := match s.findJob fun j => j.packet.opcode = 0x003 && j.aux.testBit k with
      | some j => s.updateJob j { j with aux := maskOf ((bitsOf 8 j.aux).filter (· ≠ k)) }
      | none => s
    s.modeRequest k (s.get (SMODE.CTL.MODE_REQ k))
  else s

/-- A transition of a sector has ended: SECTOR_MODE is told, unless its own request is the one held (R874), and a held
request is carried out (R62). -/
def State.modeEnds (s : State) (k : Nat) : State :=
  let held := s.lec.jobs.any fun j => j.packet.opcode = 0x003 && j.aux.testBit k
  (if held then s else s.modeJob k).modeHeld k

end Sys2Proof.Machine
end

