-- ==== Sys2Proof/Machine/ChanOps.lean ====
section
/-! DEFINITION. The channels of the Copyist: their states, the end of a descriptor, waiting for a code, and vector 27 (R890
to R909). -/

namespace Sys2Proof.Machine
open Reg

def State.chan (s : State) (c : Nat) : Chan := Tab.get (fun _ => {}) s.chans c
def State.setChan (s : State) (c : Nat) (x : Chan) : State := { s with chans := Tab.put (fun _ => {}) s.chans c x }
def State.onChan (s : State) (c : Nat) (f : Chan → Chan) : State := s.setChan c (f (s.chan c))

/-- Channel states (R914). -/
def cpIdle : Nat := 0
def cpFetch : Nat := 1
def cpExec : Nat := 2
def cpWait : Nat := 3
def cpEmpty : Nat := 4
def cpPaused : Nat := 5

def State.chState (s : State) (c : Nat) : Nat := s.get (CH.STAT.STATE c)
def State.setChState (s : State) (c st : Nat) : State := s.set (CH.STAT.STATE c) st

/-- Does Lectern hold a channel? (R886) -/
def State.lecHolds (s : State) (c : Nat) : Bool := (s.get CPY.LECT.HELD).testBit c

/-- Further statuses of a descriptor (R905). -/
def stIllegal : Nat := 0x0200
def stAddress : Nat := 0x0201
def stDataError : Nat := 0x0202
def stLinkError : Nat := 0x0203
def stWaitTimeout : Nat := 0x0204
def stAborted : Nat := 0x0205

/-- Opcodes of descriptors (R888). -/
def cpMove : Nat := 1
def cpLoop : Nat := 2
def cpEndloop : Nat := 3
def cpWaitOp : Nat := 4
def cpSignal : Nat := 5
def cpFence : Nat := 6
def cpStop : Nat := 7

/-- A word of the descriptor in progress, and fields of it (R887, R889). -/
def Chan.w (x : Chan) (i : Nat) : Nat := (x.desc.getD i 0).toNat
def Chan.op (x : Chan) : Nat := x.w 1 / 2 ^ 28
def Chan.fld (x : Chan) (i lo n : Nat) : Nat := x.w i / 2 ^ lo % 2 ^ n
def Chan.wide (x : Chan) (i : Nat) : Nat := x.w i + 2 ^ 32 * x.w (i + 1)

/-- The descriptor in progress ends with a status, and awaits its write-back (R891). -/
def State.endDesc (s : State) (c status : Nat) : State :=
  s.onChan c fun x => { x with ended := some status, moving := false, fencing := false }

/-- The Copyist interrupt condition (R909). -/
def State.cpyCond (s : State) : Bool :=
  s.get CPY.DIRQ.DIRQ ≠ 0
    || (List.range 32).any fun c => s.flag (CH.CTL.IRQ_EN c) && ((s.get CPY.DONE.DONE).testBit c || (s.get CPY.ERR.ERR).testBit c)

/-- A change that signals vector 27 when the condition passes from absent to present (R883, R909). -/
def State.cpyNotify (s : State) (f : State → State) : State :=
  let t := f s
  if !s.cpyCond && t.cpyCond then t.signal 27 else t

/-- The µs that a WAIT has waited (R889). -/
def State.chWaited (s : State) (c : Nat) : Nat := min (2 ^ 32 - 1) ((s.tick - (s.chan c).at_) / 1500)

/-- Is a code pending in the Copyist? (R897) -/
def State.cpyPending (s : State) (code : Nat) : Bool := (s.get (CPY.EVT_PEND.PEND (code / 32))).testBit (code % 32)

/-- Channels that wait for a code. -/
def State.waiters (s : State) (code : Nat) : List Nat :=
  (List.range 32).filter fun c =>
    let x := s.chan c
    s.chState c = cpWait && x.op = cpWaitOp && x.ended.isNone && x.fld 1 0 8 = code

/-- Every channel that waits for a pending code ends together with DONE; CONSUME then clears the code once (R897). -/
def State.endWaits (s : State) (code : Nat) : State :=
  if s.cpyPending code then
    let cs := s.waiters code
    let consume := cs.any fun c => (s.chan c).fld 1 8 1 = 1
    let s := s.each cs fun s c => (s.onChan c fun x => { x with waited := s.chWaited c }).endDesc c stDone
    if consume then s.setB ⟨CPY.EVT_PEND.reg (code / 32), code % 32, 1⟩ false else s
  else s

/-- An event reaches the Copyist (R334, R897). -/
def State.cpyEvent (s : State) (code : Nat) : State := (s.setB ⟨CPY.EVT_PEND.reg (code / 32), code % 32, 1⟩ true).endWaits code

end Sys2Proof.Machine
end

