-- ==== Sys2Proof/Machine/Clock.lean ====
section
/-! DEFINITION. The baseline PLL, the tap-lock loops and the reference outputs (R120 to R189), and the Lectern
commands that act on them (R876). -/

namespace Sys2Proof.Machine
open Reg

/-- The PLL states, as `CLK.PLL_STAT.STATE` shows them (R181). -/
def pllOff : Nat := 0
def pllAcquire : Nat := 1
def pllLocked : Nat := 2
def pllCoast : Nat := 3
def pllRelock : Nat := 4

def State.pll (s : State) : Nat := s.get CLK.PLL_STAT.STATE

/-- The sectors of the device ensemble that a sector belongs to; the sector alone where it is in none (R40, R349). -/
def State.ensembleOf (s : State) (k : Nat) : List Nat :=
  match (List.range 4).find? fun j => s.flag (ENS.EN j) && (s.get (ENS.SMASK j)).testBit k with
  | some j => bitsOf 8 (s.get (ENS.SMASK j))
  | none => [k]

/-- The enabled chain ensemble that a sector belongs to (R221). -/
def State.chainOf (s : State) (k : Nat) : Option Nat :=
  (List.range 4).find? fun j => s.flag (RUL.ENS.EN j) && (s.get (RUL.ENS.SMASK j)).testBit k

/-- Is a sector in STANDBY, SETUP or OFF? (R155) -/
def State.idleMode (s : State) (k : Nat) : Bool := !s.active3 k

/-- A sector's period domains count from an anchor (R155, R416). -/
def State.adopt (s : State) (k a : Nat) : State :=
  let s := { s with clk := { s.clk with adopted := Tab.put (fun _ => 0) s.clk.adopted k a, anchorWait := s.clk.anchorWait.erase k } }
  (s.set (TLL.STAT.ANCHOR_PEND k) 0).each (octetsOf k) fun s g => s.set64 (PER.ANCHOR_LO.reg g) (PER.ANCHOR_HI.reg g) a

/-- A sector adopts its waiting anchor once every sector of its ensemble is out of its working modes (R155, R156). A
sector of an enabled chain ensemble adopts none (R223). -/
def State.adoptIfIdle (s : State) (k : Nat) : State :=
  if s.flag (TLL.STAT.ANCHOR_PEND k) && (s.ensembleOf k).all s.idleMode && s.chainOf k = none then
    s.adopt k (Tab.get (fun _ => 0) s.clk.anchorWait k)
  else s

/-- A new anchor is offered to every sector (R155, R156). -/
def State.offerAnchor (s : State) (a : Nat) : State :=
  s.each (List.range 8) fun s k =>
    if s.chainOf k ≠ none then s
    else
      State.adoptIfIdle (State.set { s with clk := { s.clk with anchorWait := Tab.put (fun _ => 0) s.clk.anchorWait k a } }
        (TLL.STAT.ANCHOR_PEND k) 1) k

/-- The tap-lock loop of a sector is held unlocked (R158). -/
def State.unlockTll (s : State) (k : Nat) : State :=
  let s := { s with clk := { s.clk with goodRun := s.clk.goodRun.erase k, badRun := s.clk.badRun.erase k } }
  s.set (TLL.STAT.LOCKED k) 0

/-- Entry to ACQUIRE: the baseline stops, the modulator accumulators are cleared and the LFSR is loaded (R133, R158,
R159, R182); the chain outputs stop with the baseline (R194). -/
def State.enterAcquire (s : State) : State :=
  let s := (s.set CLK.PLL_STAT.STATE pllAcquire).set CLK.OCW.FROZEN 0
  let s := { s with
    clk := { s.clk with running := false, qualified := false, untried := [], modulator := [0, 0, 0], lfsr := s.get CLK.DITHER.SEED,
                        ditherOn := s.flag CLK.DITHER.EN && s.get CLK.DITHER.SEED ≠ 0 }
    rul := { s.rul with sending := false } }
  s.each (List.range 8) State.unlockTll

/-- Is a band entry usable for a measured REFCLK in kHz? (R126) -/
def State.bandUsable (s : State) (k fkHz : Nat) : Bool :=
  let pdiv := s.get (CLK.BAND.DIV.PDIV k) + 1
  let num := s.get (CLK.BAND.FRAC.NUM k)
  let den := s.get (CLK.BAND.FRAC.DEN k)
  let sum := s.get (CLK.BAND.RANGE.REF_MIN k) + s.get (CLK.BAND.RANGE.REF_MAX k)
  let fosc := sum * (s.get (CLK.BAND.DIV.NINT k) * den + num)
  s.flag (CLK.BAND.DIV.VALID k)
    && decide (20000 * pdiv ≤ fkHz ∧ fkHz ≤ 62500 * pdiv)
    && decide (den ≠ 0 ∧ num < den)
    && decide (597000 * (2 * pdiv * den) ≤ fosc ∧ fosc ≤ 603000 * (2 * pdiv * den))

/-- The entries to try, ascending (R127). -/
def State.bandTries (s : State) (fkHz : Nat) : List Nat :=
  if s.flag CLK.PLL_CTL.BAND_AUTO then
    (List.range 16).filter fun k =>
      s.bandUsable k fkHz && decide (10 * s.get (CLK.BAND.RANGE.REF_MIN k) ≤ fkHz ∧ fkHz ≤ 10 * s.get (CLK.BAND.RANGE.REF_MAX k))
  else
    let k := s.get CLK.PLL_CTL.BAND_SEL
    if s.bandUsable k fkHz then [k] else []

/-- The PLL tries a list of entries, or stays in OFF with a flag set and CLK_LOCK_FAIL raised (R128, R159). -/
def State.tryEntries (s : State) (tries : List Nat) (failFlag : Fld) : State :=
  match tries with
  | [] =>
    let s := { s with clk := { s.clk with untried := [] } }
    ((s.set failFlag 1).set CLK.PLL_STAT.STATE pllOff).raise srcClkLockFail
  | k :: t =>
    let s := { s with clk := { s.clk with untried := t } }
    ((s.set CLK.PLL_STAT.BAND_CUR k).set CLK.OCW.DCO_BAND (s.get (CLK.BAND.DCO.BAND k))).set CLK.OCW.WORD 0x8000

/-- REF_MEAS_DONE (R124, R127, R128): the measured frequency is reported and an entry chosen. -/
def execRefMeasDone (fkHz : BitVec 18) (s : State) : Host.Outcome State Fault Refusal :=
  if s.pll = pllAcquire then
    let s := s.set CLK.REF_MEAS.FREQ fkHz.toNat
    .next (s.tryEntries (s.bandTries fkHz.toNat) CLK.PLL_STAT.NO_BAND)
  else .next s

/-- A `PLL_RESTART` command replies at lock with the anchor and LOCK_GEN (R876). -/
def State.replyPllRestart (s : State) : State :=
  match s.findJob fun j => j.packet.opcode = 0x206 with
  | none => s
  | some j => s.endJob j stDone [(64, s.get64 CLK.ANCHOR_LO.reg CLK.ANCHOR_HI.reg), (8, s.get CLK.PLL_STAT.LOCK_GEN)]

/-- PLL_LOCK_DECLARED (R135 to R140, R155, R159): the anchor lies `ahead` dots after the present tick. -/
def execPllLockDeclared (ahead : Nat) (s : State) : Host.Outcome State Fault Refusal :=
  if s.pll = pllAcquire || s.pll = pllRelock then
    let a := (s.tick * 1024 + ahead) % 2 ^ 64
    let fresh := decide (s.pll = pllAcquire)
    let s := s.set64 CLK.ANCHOR_LO.reg CLK.ANCHOR_HI.reg a
    let s := (s.set CLK.PLL_STAT.LOCK_GEN (s.get CLK.PLL_STAT.LOCK_GEN + 1)).set CLK.PLL_STAT.STATE pllLocked
    let s := s.set CLK.OCW.FROZEN 0
    let s := { s with
      clk := { s.clk with running := true, counting := true, coasting := false, qualified := false, untried := [] }
      rul := { s.rul with sending := s.get RUL.CTL.ROLE ≠ 0 } }
    let s := if fresh then s.each (List.range 8) fun s k => s.adopt k a else s.offerAnchor a
    .next s.replyPllRestart
  else .next s

/-- PLL_ENTRY_TIMEOUT (R128, R159): the next entry is tried, or the PLL goes to OFF. -/
def execPllEntryTimeout (s : State) : Host.Outcome State Fault Refusal :=
  if s.pll = pllAcquire then .next (s.tryEntries s.clk.untried CLK.PLL_STAT.LOCK_FAIL) else .next s

/-- A loss in LOCKED freezes the fine word and enters COAST; a loss in RELOCK returns to COAST with the word of the
original freeze (R145, R149, R154, R159). -/
def State.loseLock (s : State) (seen : Fld) (frozen : Nat) : State :=
  if s.pll = pllLocked then
    let s := ((s.set seen 1).set CLK.PLL_STAT.STATE pllCoast).set CLK.OCW.FROZEN 1
    let s := s.set CLK.OCW.WORD frozen
    let s := { s with clk := { s.clk with frozenWord := frozen, freezeAt := s.tick, coasting := true, qualified := false } }
    s.raise srcClkCoast
  else if s.pll = pllRelock then
    let s := ((s.set seen 1).set CLK.PLL_STAT.STATE pllCoast).set CLK.OCW.FROZEN 1
    State.set { s with clk := { s.clk with qualified := false } } CLK.OCW.WORD s.clk.frozenWord
  else s

/-- LOSS_OF_REFERENCE (R141): `mean` is the mean fine word of R145. -/
def execLossOfReference (mean : BitVec 16) (s : State) : Host.Outcome State Fault Refusal :=
  .next (s.loseLock CLK.PLL_STAT.LOR_SEEN mean.toNat)

/-- LOSS_OF_LOCK (R142). -/
def execLossOfLock (mean : BitVec 16) (s : State) : Host.Outcome State Fault Refusal :=
  .next (s.loseLock CLK.PLL_STAT.LOL_SEEN mean.toNat)

/-- BAND_MARGIN (R143): the fine word `w` lies near the band edge. -/
def execBandMargin (w : BitVec 16) (s : State) : Host.Outcome State Fault Refusal :=
  if s.pll = pllLocked && (decide (w.toNat < 0x1000) || decide (0xF000 < w.toNat)) then
    .next (((s.set CLK.OCW.WORD w.toNat).set CLK.PLL_STAT.BAND_MARGIN 1).raise srcClkBandMargin)
  else .next s

/-- AUTO_REBAND (R144, R159). -/
def execAutoReband (s : State) : Host.Outcome State Fault Refusal :=
  if s.pll = pllLocked && s.flag CLK.PLL_CTL.AUTO_REBAND && s.flag CLK.PLL_STAT.BAND_MARGIN && !s.anyActive3 then .next s.enterAcquire
  else .next s

/-- COAST_LIMIT in ticks, held between 100 µs and 10,000 µs (R150). -/
def State.coastLimit (s : State) : Nat := usTicks (max 100 (min 10000 (s.get CLK.PLL_CTL.COAST_LIMIT)))

/-- COAST_LIMIT_EXPIRE (R150): COAST_LIMIT has passed since the freeze. -/
def execCoastLimitExpire (s : State) : Host.Outcome State Fault Refusal :=
  if (s.pll = pllCoast || s.pll = pllRelock) && decide (s.clk.freezeAt + s.coastLimit ≤ s.tick) then
    .next ((s.set CLK.PLL_STAT.COAST_LONG 1).raise srcClkCoastLong)
  else .next s

/-- The hitless relock begins (R153, R159). -/
def State.enterRelock (s : State) : State := (s.set CLK.PLL_STAT.STATE pllRelock).set CLK.OCW.FROZEN 0

/-- REFCLK_QUALIFIED (R152, R159). -/
def execRefclkQualified (s : State) : Host.Outcome State Fault Refusal :=
  if s.pll = pllCoast then
    let s := { s with clk := { s.clk with qualified := true } }
    .next (if s.flag CLK.PLL_CTL.AUTO_RELOCK then s.enterRelock else s)
  else .next s

/-- RELOCK_TIMEOUT (R154). -/
def execRelockTimeout (s : State) : Host.Outcome State Fault Refusal :=
  if s.pll = pllRelock then
    .next (((s.set CLK.PLL_STAT.STATE pllCoast).set CLK.OCW.FROZEN 1).set CLK.OCW.WORD s.clk.frozenWord)
  else .next s

/-- A write of RELOCK (R159). -/
def State.relockWrite (s : State) : State := if s.pll = pllCoast && s.clk.qualified then s.enterRelock else s

/-- RELOCK_WRITE (R159). -/
def execRelockWrite (s : State) : Host.Outcome State Fault Refusal := .next s.relockWrite

/-- A write of RESTART (R157, R159). -/
def State.restartWrite (s : State) : State :=
  if s.anyActive3 then s.set CLK.PLL_STAT.RESTART_REFUSED 1
  else if s.pll = pllAcquire then s
  else s.enterAcquire

/-- PLL_RESTART_WRITE (R157). -/
def execPllRestartWrite (s : State) : Host.Outcome State Fault Refusal := .next s.restartWrite

/-- Is a band entry the one in use? (R131) -/
def State.bandInUse (s : State) (k : Nat) : Bool := s.pll ≠ pllOff && s.get CLK.PLL_STAT.BAND_CUR = k

/-- The plain effect of a host write on a register (R25, R26). -/
def State.plainWrite (s : State) (a v : Nat) : State :=
  match rowAt a with
  | none => s
  | some r => s.wr a (r.written (!s.rwlOpen) (s.rd a).toNat v)

/-- A write to a register of a band entry (R131). -/
def State.bandWrite (s : State) (k w v : Nat) : State :=
  if s.bandInUse k then s.set CLK.PLL_STAT.ENTRY_LOCKED 1 else s.plainWrite (CLK.BAND.RANGE.reg k + 4 * w) v

/-- BAND_ENTRY_WRITE (R131): word `w` of entry `k`. -/
def execBandEntryWrite (k : Fin 16) (w : Fin 4) (v : Word) (s : State) : Host.Outcome State Fault Refusal :=
  .next (s.bandWrite k w v.toNat)

/-- ANCHOR_ADOPT (R155, R156): a sector, and with it its ensemble, adopts a waiting anchor. -/
def execAnchorAdopt (k : Sector) (s : State) : Host.Outcome State Fault Refusal :=
  .next (s.each (s.ensembleOf k) State.adoptIfIdle)

/-- How the loop moves BIAS at an update (R163). -/
def moveBias (b : Nat) (up : Option Bool) : Nat :=
  match up with
  | none => b
  | some true => min 0xFFF (b + 1)
  | some false => b - 1

/-- Does the tap-lock loop of a sector run? (R158, R164, R166) It runs from the accepted transition out of OFF. -/
def State.tllRuns (s : State) (k : Nat) : Bool :=
  (s.modeOf k ≠ mOff || s.get (SMODE.CTL.MODE_TGT k) ≠ mOff) && !s.clk.tllOff && 2 ≤ s.pll

/-- One update of a tap-lock loop (R162 to R165): the error in 0.01 ps, and the step that BIAS takes. -/
def State.tllStep (s : State) (k : Nat) (e : Int) (up : Option Bool) : State :=
  let good := if e.natAbs < 50 then Tab.get (fun _ => 0) s.clk.goodRun k + 1 else 0
  let bad := if 500 < e.natAbs then Tab.get (fun _ => 0) s.clk.badRun k + 1 else 0
  let s := (s.set (TLL.STAT.BIAS k) (moveBias (s.get (TLL.STAT.BIAS k)) up)).set (TLL.ERR.ERROR k) (trunc 16 e)
  let s := { s with clk := { s.clk with goodRun := Tab.put (fun _ => 0) s.clk.goodRun k (min 64 good),
                                        badRun := Tab.put (fun _ => 0) s.clk.badRun k (min 16 bad) } }
  if s.flag (TLL.STAT.LOCKED k) then
    if 16 ≤ bad then ((s.set (TLL.STAT.LOCKED k) 0).set (TLL.STAT.UNLOCK_SEEN k) 1).noticeHeld (srcTllUnlock k) else s
  else if 64 ≤ good then (s.set (TLL.STAT.LOCKED k) 1).quiet (srcTllUnlock k)
  else s

/-- TLL_UPDATE (R163 to R165). -/
def execTllUpdate (k : Sector) (e : Int) (up : Option Bool) (s : State) : Host.Outcome State Fault Refusal :=
  if s.tllRuns k then .next (s.tllStep k e up) else .next s

/-- The next settings of an output (R171). -/
def State.outNext (s : State) (n : Nat) : OutSet :=
  { div := (s.rd (CLKOUT.DIV.reg n)).toNat, phase := s.get (CLKOUT.CTL.PHASE n), en := s.flag (CLKOUT.CTL.EN n),
    safeStop := s.flag (CLKOUT.CTL.SAFE_STOP n) }

def outDefault : Nat → OutSet := fun _ => {}

/-- A write of GO (R171, R176). -/
def State.outGo (s : State) : State :=
  if s.flag CLK.OUT_UPDATE.BUSY then s.set CLK.OUT_UPDATE.OVERRUN 1
  else
    let sh := (List.range 4).foldl (fun t n => Tab.put outDefault t n (s.outNext n)) s.clk.shadow
    State.set { s with clk := { s.clk with shadow := sh, cycleEnded := [], goTick := s.tick } } CLK.OUT_UPDATE.BUSY 1

/-- CLKOUT_GO (R171, R176). -/
def execClkoutGo (align : Bool) (s : State) : Host.Outcome State Fault Refusal := .next ((s.setB CLK.OUT_UPDATE.ALIGN align).outGo)

/-- CLKOUT_CYCLE_END (R172). -/
def execClkoutCycleEnd (n : Fin 4) (s : State) : Host.Outcome State Fault Refusal :=
  if s.flag CLK.OUT_UPDATE.BUSY && (Tab.get outDefault s.clk.active n).en then
    .next { s with clk := { s.clk with cycleEnded := insertNew n s.clk.cycleEnded } }
  else .next s

/-- The local eighth of a tick nearest to the ruled instant of master tick `t` (R235). -/
def eighthOf (t : Nat) (off : Int) : Int := ((t : Int) * 1024 + off + 64) / 128

/-- The chain-wide output-update event within the present tick, as its local eighth (R234, R235). -/
def State.outEvent (s : State) : Option Nat :=
  if s.get RUL.CTL.ROLE = 0 then (if s.tick % 65536 = 0 then some (8 * s.tick) else none)
  else if s.get RUL.STAT.STATE = 4 then
    let m := (((s.tick : Int) * 1024 - s.rul.offset) / 1024).toNat
    ([m, m + 1].find? fun t => decide (t % 65536 = 0 ∧ eighthOf t s.rul.offset / 8 = (s.tick : Int))).map
      fun t => (eighthOf t s.rul.offset).toNat
  else none

/-- The update instant U, in eighths of a tick, if it falls in the present tick (R173). -/
def State.updateInstant (s : State) : Option Nat :=
  if decide (s.clk.goTick + 64 ≤ s.tick)
      && (List.range 4).all (fun n => !(Tab.get outDefault s.clk.active n).en || s.clk.cycleEnded.contains n) then
    if s.flag CLK.OUT_UPDATE.ALIGN then s.outEvent else if s.tick % 8 = 0 then some (8 * s.tick) else none
  else none

/-- Is an enabled output's divider outside 3.0 to 1,500.0? (R168, R175) -/
def OutSet.outOfRange (o : OutSet) : Bool := o.en && (decide (o.div < 3 * 2 ^ 20) || decide (1500 * 2 ^ 20 < o.div))

/-- CLKOUT_UPDATE_INSTANT (R173 to R175). -/
def execClkoutUpdateInstant (s : State) : Host.Outcome State Fault Refusal :=
  if s.flag CLK.OUT_UPDATE.BUSY then
    match s.updateInstant with
    | none => .next s
    | some u =>
      let s := s.set CLK.OUT_UPDATE.BUSY 0
      if (List.range 4).any fun n => (Tab.get outDefault s.clk.shadow n).outOfRange then .next (s.set CLK.OUT_UPDATE.RANGE_ERR 1)
      else
        let s := { s with clk := { s.clk with active := s.clk.shadow, updated := true, edgeBase := u, cycleEnded := [] } }
        let s := s.each (List.range 4) fun s n =>
          let o := Tab.get outDefault s.clk.active n
          (s.wr (CLKOUT.DIV_ACT.reg n) (BitVec.ofNat 32 o.div)).setB (CLKOUT.CTL.ACTIVE_EN n) o.en
        match s.findJob fun j => j.packet.opcode = 0x204 with
        | none => .next s
        | some j => .next (s.endJob j stDone [(64, u / 8)])
  else .next s

/-- Is a reference output high-impedance? (R177) -/
def State.outHighZ (s : State) (n : Nat) : Bool :=
  !s.clk.updated || !s.mainOn || s.flag DEV.MODE.SAFE_DEV || (s.safeNLow && (Tab.get outDefault s.clk.active n).safeStop)

/-- Rising edge `k` of an output, in eighths of a tick (R169). -/
def State.outRise (s : State) (n k : Nat) : Nat :=
  let o := Tab.get outDefault s.clk.active n
  s.clk.edgeBase + o.phase + 8 * k * o.div / 2 ^ 20

/-- Falling edge `k` of an output, in eighths of a tick (R169). -/
def State.outFall (s : State) (n k : Nat) : Nat := s.outRise n k + 4 * (Tab.get outDefault s.clk.active n).div / 2 ^ 20

/-- CLKOUT_SET, command 0x204 (R876): REFUSED_BUSY during an update, BAD_PARAM for a divider out of range; replies at
U. -/
def execClkoutSet (s : State) : Host.Outcome State Fault Refusal :=
  match s.start 0x204 with
  | none => .next s
  | some (p, s) =>
    let mask := p.arg 0
    let one (n : Nat) : OutSet :=
      if mask.testBit n then
        { div := p.arg (2 + 4 * n), phase := p.arg (3 + 4 * n) % 4096, en := p.arg (4 + 4 * n) % 2 = 1, safeStop := p.arg (5 + 4 * n) % 2 = 1 }
      else s.outNext n
    if s.flag CLK.OUT_UPDATE.BUSY then .next (s.reply p stBusy [])
    else if (List.range 4).any fun n => (one n).outOfRange then .next (s.reply p stBadParam [])
    else
      let s := s.each (List.range 4) fun s n =>
        if mask.testBit n then
          ((s.wr (CLKOUT.DIV.reg n) (BitVec.ofNat 32 (one n).div)).set (CLKOUT.CTL.PHASE n) (one n).phase).setB (CLKOUT.CTL.EN n) (one n).en
            |>.setB (CLKOUT.CTL.SAFE_STOP n) (one n).safeStop
        else s
      let s := (s.setB CLK.OUT_UPDATE.ALIGN (p.arg 1 % 2 = 1)).outGo
      .next (s.addJob p 0 0)

/-- PLL_BAND, command 0x205 (R876, R131). -/
def execPllBand (s : State) : Host.Outcome State Fault Refusal :=
  match s.start 0x205 with
  | none => .next s
  | some (p, s) =>
    let k := p.arg 0
    if s.bandInUse k then .next (s.reply p stBusy [])
    else if 16 ≤ k then .next (s.reply p stBadParam [])
    else .next ((s.each (List.range 4) fun s w => s.bandWrite k w (p.arg (1 + w))).reply p stDone [])

/-- PLL_RESTART, command 0x206 (R876, R157): replies at lock. -/
def execPllRestart (s : State) : Host.Outcome State Fault Refusal :=
  match s.start 0x206 with
  | none => .next s
  | some (p, s) =>
    if s.anyActive3 then .next (s.reply p stBusy [])
    else .next (s.restartWrite.addJob p 0 0)

end Sys2Proof.Machine
end

