-- ==== Sys2Proof/Machine/Ruling.lean ====
section
/-! DEFINITION. The Ruling chain's link: frames, states, deskew, offsets and anchors (R193 to R220, R236 to R243), and
the Lectern commands that wrap its registers (R882). -/

namespace Sys2Proof.Machine
open Reg

/-- The chain states, as `RUL.STAT.STATE` shows them (R240). -/
def chOff : Nat := 0
def chTrain : Nat := 1
def chDeskew : Nat := 2
def chRuling : Nat := 3
def chRuled : Nat := 4
def chBroken : Nat := 5

/-- Frame types (R198). -/
def ftIdle : Nat := 0x0
def ftAnchor : Nat := 0x1
def ftStart : Nat := 0x2
def ftEvent : Nat := 0x3
def ftCond : Nat := 0x4
def ftDecide : Nat := 0x5
def ftHalt : Nat := 0x6
def ftDeskew : Nat := 0x7
def ftHopval : Nat := 0x8
def ftFault : Nat := 0x9
def ftMeas : Nat := 0xA

/-- Payloads (R198). -/
def anchorPayload (gen a : Nat) : Nat := gen % 64 * 2 ^ 42 + a / 1024 % 2 ^ 32 * 2 ^ 10 + a % 1024
def startPayload (ens gen instant : Nat) : Nat := ens % 4 * 2 ^ 46 + gen % 64 * 2 ^ 40 + instant % 2 ^ 32
def eventPayload (code instant : Nat) : Nat := code % 256 * 2 ^ 40 + instant % 2 ^ 32
def condPayload (ens seq : Nat) (r : Bool) : Nat := ens % 4 * 2 ^ 46 + seq % 4096 * 2 ^ 34 + b2n r * 2 ^ 33
def decidePayload (ens seq : Nat) (r degraded : Bool) (instant : Nat) : Nat :=
  condPayload ens seq r + b2n degraded * 2 ^ 32 + instant % 2 ^ 32
def haltPayload (ens instant : Nat) : Nat := ens % 4 * 2 ^ 46 + instant % 2 ^ 32
def faultPayload (at_ cause : Nat) (ens : Option Nat) : Nat :=
  at_ % 32 * 2 ^ 43 + cause % 8 * 2 ^ 40 + (match ens with | some k => k % 4 * 2 ^ 38 + 2 ^ 37 | none => 0)

/-- One bit into the CRC-16 of R195. -/
def crcBit (crc : Nat) (b : Bool) : Nat :=
  let top := (crc.testBit 15) != b
  let sh := crc * 2 % 65536
  if top then sh ^^^ 0x1021 else sh

end Sys2Proof.Machine

namespace Sys2Proof

/-- Fields of a payload (R198). -/
def Frame.instant (f : Frame) : Nat := f.payload % 2 ^ 32
def Frame.ens (f : Frame) : Nat := f.payload / 2 ^ 46 % 4
def Frame.startGen (f : Frame) : Nat := f.payload / 2 ^ 40 % 64
def Frame.code (f : Frame) : Nat := f.payload / 2 ^ 40 % 256
def Frame.seq (f : Frame) : Nat := f.payload / 2 ^ 34 % 4096
def Frame.result (f : Frame) : Bool := f.payload.testBit 33
def Frame.degraded (f : Frame) : Bool := f.payload.testBit 32
def Frame.brokenAt (f : Frame) : Nat := f.payload / 2 ^ 43 % 32
def Frame.cause (f : Frame) : Nat := f.payload / 2 ^ 40 % 8
def Frame.faultEns (f : Frame) : Option Nat := if f.payload.testBit 37 then some (f.payload / 2 ^ 38 % 4) else none

/-- Bits 119:16 of a frame (R195). -/
def Frame.body (f : Frame) : Nat :=
  f.kind % 16 * 2 ^ 100 + f.origin % 32 * 2 ^ 95 + f.hops % 32 * 2 ^ 90 + f.ldot % 1024 * 2 ^ 80 + f.ltick % 2 ^ 32 * 2 ^ 48
    + f.payload % 2 ^ 48

/-- The CRC of a frame: x¹⁶ + x¹² + x⁵ + 1 from 0xFFFF over bits 119:16, most significant first (R195). -/
def Frame.crc (f : Frame) : Nat := (List.range 104).foldl (fun c i => Machine.crcBit c (f.body.testBit (103 - i))) 0xFFFF

/-- The 128 bits of a frame before scrambling (R195). -/
def Frame.bits (f : Frame) : Nat := 0xB8 * 2 ^ 120 + f.body * 2 ^ 16 + f.crc

/-- Are the stamps of a frame in force? Not those of a device in BROKEN, which sends only FAULT frames of a link cause
(R205). -/
def Frame.stamped (f : Frame) : Bool := f.kind ≠ Machine.ftFault || f.cause = 1 || f.cause = 2

end Sys2Proof

namespace Sys2Proof.Machine
open Reg

def State.chain (s : State) : Nat := s.get RUL.STAT.STATE
def State.isMaster (s : State) : Bool := s.get RUL.CTL.ROLE = 1
def State.chainAddr (s : State) : Nat := s.get RUL.STAT.ADDR

/-- CHAIN_LAT as it acts, in ticks (R217). -/
def State.chainLat (s : State) : Nat := max (s.get RUL.CHAIN_LAT.LAT) ((2 * s.get RUL.RT.RT + 1023) / 1024 + 256)

/-- The master-grid tick of a local time in dots (R216). -/
def State.masterTick (s : State) (dots : Nat) : Int := ((dots : Int) - s.rul.offset) / 1024

/-- The present master-grid tick. -/
def State.masterNow (s : State) : Nat := (s.masterTick (1024 * s.tick)).toNat

/-- Is the instant (low 32 bits of a master tick) at or before a master tick? (R218) -/
def reached (instant : Nat) (now : Int) : Bool := decide (sext 32 (trunc 32 ((instant : Int) - now)) ≤ 0)

/-- Has a ruled instant been reached at the present tick? (R216) -/
def State.ruledDue (s : State) (instant : Nat) : Bool := reached instant (s.masterTick (1024 * s.tick))

/-- A reply of RUL_ROLE, when STATE is RULED, BROKEN or OFF (R882). -/
def State.replyRole (s : State) : State :=
  match s.findJob fun j => j.packet.opcode = 0x801 with
  | some j => if s.chain = chRuled || s.chain = chBroken || s.chain = chOff then s.endJob j stDone [(32, (s.rd RUL.STAT.reg).toNat)] else s
  | none => s

/-- The chain state changes: vector 29 is signalled (R883). -/
def State.setChain (s : State) (st : Nat) : State := if s.chain = st then s else ((s.set RUL.STAT.STATE st).signal 29).replyRole

/-- A frame of this device's own is put in its queue; an EVENT that finds it full is dropped and sets LATE (R201). -/
def State.enqueue (s : State) (kind payload : Nat) : State :=
  if kind = ftEvent && decide (8 ≤ s.rul.queue.length) then s.set RUL.STAT.LATE 1
  else { s with rul := { s.rul with queue := s.rul.queue ++ [{ kind := kind, origin := s.chainAddr, payload := payload }] } }

/-- A ruled action is scheduled. -/
def State.schedule (s : State) (k : RuledKind) (instant : Nat) : State :=
  { s with rul := { s.rul with actions := s.rul.actions ++ [{ kind := k, instant := instant % 2 ^ 32 }] } }

/-- Is a sector of chain ensemble `k` of this device in RUN? -/
def State.chainRuns (s : State) (k : Nat) : Bool :=
  s.flag (RUL.ENS.EN k) && (List.range 8).any fun j => (s.get (RUL.ENS.SMASK k)).testBit j && s.modeOf j = mRun

/-- HALT for a chain ensemble: queued and scheduled on this device too (R227, R233). None is sent in BROKEN (R236). -/
def State.sendHalt (s : State) (ens : Nat) : State :=
  if s.chain = chRuled then
    let t := s.masterNow + s.chainLat
    (s.enqueue ftHalt (haltPayload ens t)).schedule (.halt ens) t
  else s

/-- The master answers a report of cause 1 or 2 with HALT (R227). -/
def State.haltForReport (s : State) (ens : Option Nat) : State :=
  match ens with
  | some k => s.sendHalt k
  | none => s.each ((List.range 4).filter s.chainRuns) State.sendHalt

/-- A report of this device: a FAULT frame, and on the master the HALT that answers it (R226, R227). -/
def State.report (s : State) (cause : Nat) (ens : Option Nat) : State :=
  let s := s.enqueue ftFault (faultPayload s.chainAddr cause ens)
  if s.isMaster then s.haltForReport ens else s

/-- Entry to BROKEN (R204, R205, R237). -/
def State.enterBroken (s : State) (at_ : Nat) : State :=
  let s := (s.set RUL.STAT.BROKEN_AT at_).setChain chBroken
  State.raise { s with rul := { s.rul with valid := 0, offsets := [] } } srcRulLink

/-- Entry to TRAIN (R204, R210). -/
def State.enterTrain (s : State) : State :=
  State.setChain { s with rul := { s.rul with sending := true, locked := false, valid := 0, offsets := [], forward := [], ready := [] } } chTrain

/-- Entry to RULING: the offset is measured afresh (R204). -/
def State.enterRuling (s : State) : State :=
  State.setChain { s with rul := { s.rul with locked := true, valid := 0, offsets := [] } } chRuling

/-- A write of ROLE (R204, R206); the reserved value 3 is ignored and sets CONFIG_REFUSED. -/
def State.roleWrite (s : State) (role : Nat) : State :=
  if (List.range 8).any (fun k => s.modeOf k = mRun) || role = 3 then s.set RUL.STAT.CONFIG_REFUSED 1
  else
    let s := s.set RUL.CTL.ROLE role
    let s := { s with rul := { s.rul with roleAt := s.tick } }
    if role = 0 then State.setChain { s with rul := { s.rul with sending := false, queue := [], forward := [], ready := [] } } chOff
    else if s.chain = chOff && 2 ≤ s.pll then s.enterTrain
    else s

/-- RUL_ROLE_WRITE (R204, R206). -/
def execRulRoleWrite (role : Fin 4) (s : State) : Host.Outcome State Fault Refusal := .next (s.roleWrite role)

/-- RUL_DESKEW replies once the chain has trained again (R210, R882). -/
def State.replyDeskew (s : State) : State :=
  match s.findJob fun j => j.packet.opcode = 0x802 with
  | some j => s.endJob j stDone [(32, (s.rd RUL.HOP_OUT.reg).toNat)]
  | none => s

/-- RUL_TRAINED (R203, R204, R210): frames arrive with HOPS `hops`. -/
def execRulTrained (hops : Fin 32) (s : State) : Host.Outcome State Fault Refusal :=
  if s.chain = chTrain then
    let s := s.set RUL.STAT.ADDR (if s.isMaster then 0 else hops + 1)
    let s := s.enterRuling
    if s.rul.hopPending then
      let s := s.enqueue ftHopval (s.get RUL.HOP_OUT.VALID * 2 ^ 32 + s.rul.hopResult % 2 ^ 16)
      .next (State.replyDeskew { s with rul := { s.rul with hopPending := false } })
    else .next s
  else .next s

/-- RUL_TRAIN_TIMEOUT (R204). -/
def execRulTrainTimeout (s : State) : Host.Outcome State Fault Refusal :=
  if s.chain = chTrain then .next ((s.set RUL.STAT.LINK_DOWN 1).enterBroken s.chainAddr) else .next s

/-- RUL_LINK_LOST (R204). -/
def execRulLinkLost (s : State) : Host.Outcome State Fault Refusal :=
  if s.chain = chRuled then
    let s := { s with rul := { s.rul with locked := false } }
    .next ((s.set RUL.STAT.LINK_DOWN 1).enterBroken s.chainAddr)
  else .next s

/-- RUL_BROKEN_RECOVER (R204, R238). -/
def execRulBrokenRecover (s : State) : Host.Outcome State Fault Refusal :=
  if s.chain = chBroken then .next s.enterRuling else .next s

/-- The mean of a list of dots, rounded toward minus infinity. -/
def meanDots (l : List Int) : Int := if l.isEmpty then 0 else l.sum / (l.length : Int)

/-- The spread of a list of dots. -/
def spread (l : List Int) : Int :=
  match l with
  | [] => 0
  | x :: t => t.foldl max x - t.foldl min x

/-- RULED is entered after 64 consecutive valid frames with a valid HOP_IN, a spread below 2 ps (at most 3 dots) and, on
the master, closure within its limit; without a valid HOP_IN, HOP_BAD is set (R204). -/
def State.judgeRuled (s : State) : State :=
  if s.chain = chRuling && decide (64 ≤ s.rul.valid) then
    if !s.flag RUL.HOP.VALID then s.set RUL.STAT.HOP_BAD 1
    else if (s.isMaster && s.rul.closureOk) || (!s.isMaster && decide (spread s.rul.offsets ≤ 3)) then s.setChain chRuled
    else s
  else s

/-- The offset in force has moved by more than 10 ps (15 dots) from that of a running chain pattern (R220). -/
def State.drifted (s : State) : Bool :=
  (List.range 4).any fun k => s.chainRuns k && decide (15 < (s.rul.offset - Tab.get (fun _ => 0) s.rul.frozen k).natAbs)

/-- Every valid frame: its stamp gives a slave's offset, or the master's closure error (R203, R212, R213, R220).
`arrive` is the local time of its timing mark, in dots. -/
def State.onFrame (s : State) (f : Frame) (arrive : Nat) : State :=
  if f.stamped && (s.chain = chRuling || s.chain = chRuled) then
    let o := sext 42 (trunc 42 ((arrive : Int) - (f.ltick * 1024 + f.ldot + s.get RUL.HOP.IN_DOTS : Nat)))
    let s := { s with rul := { s.rul with valid := min 64 (s.rul.valid + 1) } }
    if s.isMaster then
      let ok := decide (o.natAbs ≤ s.get RUL.CTL.CLOSURE_LIM)
      let s := { s with rul := { s.rul with closureOk := ok } }
      let s := (s.set RUL.CLOSURE.ERR (trunc 16 o)).set RUL.STAT.NDEV f.hops
      let s := if ok then s.quiet srcRulClosure else (s.set RUL.STAT.CLOSURE_ERR 1).noticeHeld srcRulClosure
      s.judgeRuled
    else
      let os := pushLast 64 s.rul.offsets o
      let s := { s with rul := { s.rul with offsets := os, offset := meanDots os } }
      let s := s.set64 RUL.OFFSET_LO.reg RUL.OFFSET_HI.reg (trunc 64 s.rul.offset)
      let s := if s.chain = chRuled && s.drifted then (s.set RUL.STAT.DRIFT 1).noticeHeld srcRulDrift else s.quiet srcRulDrift
      s.judgeRuled
  else s

/-- A slave keeps a frame it does not consume for retransmission (R200). -/
def State.keep (s : State) (f : Frame) : State :=
  if s.isMaster then s else { s with rul := { s.rul with forward := s.rul.forward ++ [f] } }

/-- The master rebroadcasts an EVENT, HALT or FAULT frame that a slave created (R202). -/
def State.rebroadcast (s : State) (f : Frame) : State :=
  if s.isMaster && f.origin ≠ 0 then { s with rul := { s.rul with queue := s.rul.queue ++ [f] } } else s

/-- A frame that has come back to the slave that created it is dropped (R202). -/
def State.ownFrame (s : State) (f : Frame) : Bool := !s.isMaster && f.origin = s.chainAddr

/-- A late frame is not acted on: LATE, RUL_LATE and a FAULT frame of cause 2 (R218). -/
def State.lateFrame (s : State) (ens : Option Nat) : State := ((s.set RUL.STAT.LATE 1).raise srcRulLate).report 2 ens

/-- Does a device take part in the chain's traffic? -/
def State.chainUp (s : State) : Bool := s.chain = chRuling || s.chain = chRuled

/-- An ANCHOR frame (R212, R215): the last two ruling anchors are kept, with their GEN. -/
def State.anchorFrame (s : State) (f : Frame) : State :=
  if s.chainUp && !s.isMaster then
    let e := (f.payload / 2 ^ 42 % 64, f.payload % 2 ^ 42)
    let as_ := if s.rul.anchors.head? = some e then s.rul.anchors else (e :: s.rul.anchors).take 2
    State.keep { s with rul := { s.rul with anchors := as_ } } f
  else s

/-- A DESKEW frame (R208): the procedure begins at INSTANT. -/
def State.deskewFrame (s : State) (f : Frame) (arrive : Nat) : State :=
  if s.chain = chRuled && !s.isMaster then
    let s := s.keep f
    if reached f.instant (s.masterTick arrive) then s.lateFrame none else s.schedule .deskew f.instant
  else s

/-- A HOPVAL frame (R210): consumed by the next device. -/
def State.hopvalFrame (s : State) (f : Frame) : State :=
  (s.setB RUL.HOP.VALID (f.payload.testBit 32)).set RUL.HOP.IN_DOTS f.payload

/-- A FAULT frame (R202, R204, R227). -/
def State.faultFrame (s : State) (f : Frame) : State :=
  if s.ownFrame f then s
  else if f.cause = 0 || f.cause = 3 then
    if s.chainUp then s.enterBroken f.brokenAt else s
  else if s.chainUp then
    let s := (s.keep f).rebroadcast f
    if s.isMaster then s.haltForReport f.faultEns else s
  else s

/-- A MEAS frame (R203, R214): on the master the round trip is recorded. -/
def State.measFrame (s : State) (f : Frame) (arrive : Nat) : State :=
  if s.isMaster then
    if s.chainUp && f.payload / 2 ^ 32 % 2 ^ 16 = s.rul.measId then s.wr RUL.RT.reg (BitVec.ofNat 32 (arrive - s.rul.measAt)) else s
  else s.keep f

/-- A frame with a bad CRC, or of a reserved type (R199). -/
def State.badFrame (s : State) (reserved : Bool) : State :=
  if s.chain = chOff then s
  else
    let s := (s.bump (if reserved then RUL.CRC_CNT.DROP else RUL.CRC_CNT.CRC) 1).set RUL.STAT.CRC_ERR 1
    { s with rul := { s.rul with valid := 0 } }

/-- RUL_FRAME_FORWARD (R200): the oldest frame to be retransmitted is ready for a slot, with HOPS one higher. -/
def execRulFrameForward (s : State) : Host.Outcome State Fault Refusal :=
  match s.rul.forward with
  | [] => .next s
  | f :: t => .next { s with rul := { s.rul with forward := t, ready := s.rul.ready ++ [{ f with hops := (f.hops + 1) % 32 }] } }

/-- The order of insertion (R201): smaller first. -/
def insertRank (kind : Nat) : Nat :=
  if kind = ftFault then 0 else if kind = ftDecide then 1 else if kind = ftCond then 2 else if kind = ftHalt then 3
  else if kind = ftStart then 4 else if kind = ftEvent then 5 else 6

/-- The frame of the queue that is inserted next: the first of the lowest rank. -/
def nextInsert (q : List Frame) : Option Frame :=
  (List.range 7).findSome? fun r => q.find? fun f => insertRank f.kind = r

/-- RUL_FRAME_SEND (R197, R200, R201, R205): a slot begins; `mark` is the local time of its timing mark in dots, on which
the launch stamp is computed. -/
def execRulFrameSend (mark : Nat) (s : State) : Host.Outcome State Fault Refusal :=
  let stamp := trunc 42 ((mark : Int) - s.rul.offset)
  let put (s : State) (f : Frame) : State := { s with rul := { s.rul with out := { f with ltick := stamp / 1024, ldot := stamp % 1024 } } }
  if !s.rul.sending || s.chain = chOff || s.chain = chDeskew then .next s
  else if s.chain = chBroken then
    .next (put s { kind := ftFault, origin := s.chainAddr, payload := faultPayload (s.get RUL.STAT.BROKEN_AT) 0 none })
  else
    match s.rul.ready with
    | f :: t => .next (put { s with rul := { s.rul with ready := t } } f)
    | [] =>
      match nextInsert s.rul.queue with
      | none => .next (put s { kind := ftIdle, origin := s.chainAddr })
      | some f =>
        let s := { s with rul := { s.rul with queue := dropFirst (fun x => decide (x = f)) s.rul.queue } }
        let s := if f.kind = ftMeas then { s with rul := { s.rul with measAt := mark } } else s
        .next (put s f)

/-- RUL_MEAS_SEND (R214). -/
def execRulMeasSend (s : State) : Host.Outcome State Fault Refusal :=
  if s.isMaster && s.chainUp then
    let id := (s.rul.measId + 1) % 65536
    .next (State.enqueue { s with rul := { s.rul with measId := id } } ftMeas (id * 2 ^ 32))
  else .next s

/-- RUL_ANCHOR_SEND (R215): the ruling instant is the master's latest anchor. -/
def execRulAnchorSend (s : State) : Host.Outcome State Fault Refusal :=
  if s.isMaster && s.chainUp then
    let gen := s.get CLK.PLL_STAT.LOCK_GEN % 64
    let a := s.get64 CLK.ANCHOR_LO.reg CLK.ANCHOR_HI.reg % 2 ^ 42
    let as_ := if s.rul.anchors.head? = some (gen, a) then s.rul.anchors else ((gen, a) :: s.rul.anchors).take 2
    .next (State.enqueue { s with rul := { s.rul with anchors := as_ } } ftAnchor (anchorPayload gen a))
  else .next s

/-- A write of DESKEW_GO (R207). -/
def State.deskewGo (s : State) : State :=
  if s.isMaster && s.chain = chRuled then
    let t := s.masterNow + s.chainLat
    (s.enqueue ftDeskew (t % 2 ^ 32)).schedule .deskew t
  else s.set RUL.STAT.CONFIG_REFUSED 1

/-- DESKEW_GO (R207). -/
def execDeskewGo (s : State) : Host.Outcome State Fault Refusal := .next s.deskewGo

/-- At the INSTANT of a DESKEW frame the device enters DESKEW (R204, R208). -/
def State.deskewDue (s : State) : State :=
  if s.rul.actions.any fun a => a.kind = .deskew && s.ruledDue a.instant then
    let s := { s with rul := { s.rul with actions := s.rul.actions.filter fun a => !(a.kind = .deskew && s.ruledDue a.instant) } }
    if s.chain = chRuled then s.setChain chDeskew else s
  else s

/-- RUL_DESKEW_END (R209, R210): the outgoing hop delay in dots, or the cause that makes it not valid. -/
def execRulDeskewEnd (dots : BitVec 16) (cause : Fin 5) (s : State) : Host.Outcome State Fault Refusal :=
  let s := s.deskewDue
  if s.chain = chDeskew then
    let s := ((s.setB RUL.HOP_OUT.VALID (cause.val = 0)).set RUL.HOP_OUT.CAUSE cause).set RUL.HOP_OUT.OUT_DOTS dots.toNat
    .next (State.enterTrain { s with rul := { s.rul with hopResult := dots.toNat, hopPending := true } })
  else .next s

/-- Would a mask of chain ensemble `k` put a sector in two chain ensembles? (R221) -/
def State.ensClash (s : State) (k mask : Nat) : Bool :=
  (List.range 4).any fun j => j ≠ k && s.get (RUL.ENS.SMASK j) &&& mask % 256 ≠ 0

/-- A write to `RUL.ENS[k]` (R221). -/
def State.rulEnsWrite (s : State) (k v : Nat) : State :=
  if s.ensClash k v then s.set RUL.STAT.CONFIG_REFUSED 1 else s.plainWrite (RUL.ENS.reg k) v

/-- RUL_ROLE, command 0x801 (R882). -/
def execRulRole (s : State) : Host.Outcome State Fault Refusal :=
  match s.start 0x801 with
  | none => .next s
  | some (p, s) =>
    if (List.range 8).any fun k => s.modeOf k = mRun then .next (s.reply p stBusy [])
    else if 3 ≤ p.arg 0 then .next (s.reply p stBadParam [])
    else .next (State.replyRole ((s.roleWrite (p.arg 0)).addJob p 0 0))

/-- RUL_ROLE_REPLY_TIMEOUT (R882): 10 ms after the write. -/
def execRulRoleReplyTimeout (s : State) : Host.Outcome State Fault Refusal :=
  match s.findJob fun j => j.packet.opcode = 0x801 with
  | some j =>
    if s.rul.roleAt + usTicks 10000 ≤ s.tick then .next (s.endJob j stDone [(32, (s.rd RUL.STAT.reg).toNat)]) else .next s
  | none => .next s

/-- RUL_DESKEW, command 0x802 (R207, R882). -/
def execRulDeskew (s : State) : Host.Outcome State Fault Refusal :=
  match s.start 0x802 with
  | none => .next s
  | some (p, s) =>
    if s.isMaster && s.chain = chRuled then .next (s.deskewGo.addJob p 0 0) else .next (s.reply p stBusy [])

/-- RUL_ENS, command 0x803 (R221, R882). -/
def execRulEns (s : State) : Host.Outcome State Fault Refusal :=
  match s.start 0x803 with
  | none => .next s
  | some (p, s) =>
    let k := p.arg 0
    let en := p.arg 1 % 2
    let v := en * 2 ^ 31 + p.arg 2
    if 4 ≤ k then .next (s.reply p stBadParam [])
    else if s.ensClash k (p.arg 2) then .next (s.reply p stBusy [])
    else .next (((s.rulEnsWrite k v).plainWrite (RUL.ENS_DEV.reg k) (p.arg 3)).reply p stDone [])

/-- RUL_HOP, command 0x804 (R211, R882). -/
def execRulHop (s : State) : Host.Outcome State Fault Refusal :=
  match s.start 0x804 with
  | none => .next s
  | some (p, s) => .next (((s.set RUL.HOP.VALID (p.arg 0)).set RUL.HOP.IN_DOTS (p.arg 1)).reply p stDone [])

/-- RUL_STATUS, command 0x805 (R882). -/
def execRulStatus (s : State) : Host.Outcome State Fault Refusal :=
  match s.start 0x805 with
  | none => .next s
  | some (p, s) =>
    .next (s.reply p stDone [(32, (s.rd RUL.STAT.reg).toNat), (64, s.get64 RUL.OFFSET_LO.reg RUL.OFFSET_HI.reg),
      (32, (s.rd RUL.RT.reg).toNat), (32, (s.rd RUL.CLOSURE.reg).toNat), (32, (s.rd RUL.CHAIN_LAT.reg).toNat)])

end Sys2Proof.Machine
end

