-- ==== Sys2Proof/Machine/StoreOps.lean ====
section
/-! DEFINITION. The memories of BAR2: windows, lines, errors, and the owners of sector-store banks (R244 to R299, R915 to
R936). -/

namespace Sys2Proof.Machine
open Reg

/-- 24 GiB, the size of a stack (R244). -/
def stackSize : Nat := 0x600000000
/-- The BAR2 offset of the first sector store (R245). -/
def storesBase : Nat := 0xC00000000
/-- 64 MiB, the unit of a window (R248). -/
def unitSize : Nat := 0x4000000

/-- What lies at a BAR2 offset (R245). -/
inductive Region where
  | stack (w addr : Nat)
  | store (s b byte : Nat)
  | reserved
deriving DecidableEq, Repr

def regionOf (off : Nat) : Region :=
  if off < stackSize then .stack 0 off
  else if off < storesBase then .stack 1 (off - stackSize)
  else if off < storesBase + 8 * 0x800000 then
    let r := off - storesBase
    .store (r / 0x800000) (r % 0x800000 / 0x80000) (r % 0x80000)
  else .reserved

/-- The BAR2 offset of a stack address. -/
def stackOff (w addr : Nat) : Nat := w * stackSize + addr

/-- The wing of a sector (R3). -/
def wingOf (k : Nat) : Nat := k / 4

/-- The sectors of a wing. -/
def sectorsOf (w : Nat) : List Nat := [4 * w, 4 * w + 1, 4 * w + 2, 4 * w + 3]

/-- The three windows of a sector: BASE and SIZE of the vector, fail and capture windows (R290). -/
def State.window (s : State) (k : Nat) (i : Nat) : Nat × Nat :=
  match i with
  | 0 => (s.get (PS.VEC_WIN.BASE k), s.get (PS.VEC_WIN.SIZE k))
  | 1 => (s.get (PS.FAIL_WIN.BASE k), s.get (PS.FAIL_WIN.SIZE k))
  | _ => (s.get (PS.CAP_WIN.BASE k), s.get (PS.CAP_WIN.SIZE k))

/-- Do two windows overlap? An empty window overlaps none (R248, R249). -/
def overlaps (a b : Nat × Nat) : Bool := a.2 ≠ 0 && b.2 ≠ 0 && decide (a.1 < b.1 + b.2) && decide (b.1 < a.1 + a.2)

/-- Lines that a sector's vector window holds (R251). -/
def State.lineLimit (s : State) (k : Nat) : Nat := (s.window k 0).2 * unitSize / 40

/-- The BAR2 offset of line `n` of a sector (R251). -/
def State.lineOff (s : State) (k n : Nat) : Nat := stackOff (wingOf k) ((s.window k 0).1 * unitSize + 40 * n)

/-- The 320 bits of line `n` of a sector (R253). -/
def State.lineBits (s : State) (k n : Nat) : Nat := leNat (memRds s.mem.mem (s.lineOff k n) 40)

/-- Does a stack address lie in a window? -/
def inWindow (w : Nat × Nat) (addr : Nat) : Bool := decide (w.1 * unitSize ≤ addr) && decide (addr < (w.1 + w.2) * unitSize)

/-- The sector whose window locks writes to a stack address (R252). -/
def State.lockedBy (s : State) (w addr : Nat) : Option Nat :=
  (sectorsOf w).find? fun k =>
    (s.modeOf k = mRun && inWindow (s.window k 0) addr)
      || ((s.modeOf k = mRun || s.modeOf k = mMeasure) && (inWindow (s.window k 1) addr || inWindow (s.window k 2) addr))

/-- Is a 32-byte word of a stack poisoned? -/
def State.poisoned (s : State) (word : Nat) : Bool := s.mem.poison.contains word

/-- Bytes of BAR2 memory. -/
def State.bar2Bytes (s : State) (off n : Nat) : List Byte := memRds s.mem.mem off n

/-- A byte of BAR2 memory written. -/
def State.bar2Put (s : State) (off : Nat) (b : Byte) : State := { s with mem := { s.mem with mem := memWr s.mem.mem off b } }

/-- Enabled bytes written from an offset upward. -/
def State.bar2Puts (s : State) (off : Nat) : List (Option Byte) → State
  | [] => s
  | none :: t => s.bar2Puts (off + 1) t
  | some b :: t => (s.bar2Put off b).bar2Puts (off + 1) t

/-- A whole 32-byte word has been replaced: no poison and no error is left in it (R247). -/
def State.freshWord (s : State) (word : Nat) : State :=
  { s with mem := { s.mem with poison := s.mem.poison.filter (· ≠ word), bad := s.mem.bad.filter (· ≠ word) } }

/-- The row of a stack is a repair candidate (R286). -/
def State.rowCandidate (s : State) (w row : Nat) : State :=
  let l := Tab.get (fun _ => []) s.vault.ledger.rowCand w
  if l.contains row || 64 ≤ l.length then s
  else (s.wear fun g => { g with rowCand := Tab.put (fun _ => []) g.rowCand w (l ++ [row]) }).set (PSC.STAT.CAND w) (l.length + 1)

/-- Times within 24 hours of Quill seconds, the present one added (R286, R932). -/
def within24 (now : Nat) (l : List Nat) : List Nat := (l.filter fun t => decide (now < t + 86400)) ++ [now]

/-- A correctable error of a stack (R283, R286). -/
def State.psCorrected (s : State) (w addr : Nat) : State :=
  let row := Config.hbmRow addr
  let s := s.bump (PSC.ECC_CNT.CE w) 1
  let key := 2 * row + w
  let times := within24 s.quill.qsec (Tab.get (fun _ => []) s.mem.rowTimes key)
  let s := { s with mem := { s.mem with rowTimes := Tab.put (fun _ => []) s.mem.rowTimes key (times.drop (times.length - 3)) } }
  let s := if 3 ≤ times.length then s.rowCandidate w row else s
  if s.get (PSC.ECC_CNT.CE w) = 1024 then (s.set (PSC.STAT.CE_LIMIT w) 1).raise (srcPsCeLimit w) else s

/-- An uncorrectable error of a stack (R284, R286). -/
def State.psUncorrectable (s : State) (w addr : Nat) : State :=
  let s := (s.bump (PSC.ECC_CNT.UE w) 1).set (PSC.STAT.UE w) 1
  let s := s.set64 (PSC.FAULT_ADDR_LO.reg w) (PSC.FAULT_ADDR_HI.reg w) (addr % 2 ^ 35)
  let s := { s with mem := { s.mem with bad := insertNew (stackOff w addr / 32) s.mem.bad } }
  (s.rowCandidate w (Config.hbmRow addr)).raise (srcPsUe w)

/-- A column of a bank is a repair candidate (R932, R933): cause 0 for correctable errors, 1 otherwise. -/
def State.colCandidate (s : State) (k b col cause : Nat) : State :=
  let key := 16 * k + b
  let l := Tab.get (fun _ => []) s.vault.ledger.colCand key
  if l.any fun e => e / 2 = col then s
  else (s.wear fun g => { g with colCand := Tab.put (fun _ => []) g.colCand key (l ++ [2 * col + cause]) }).set (SS.REPAIR.CAND k b) (min 15 (l.length + 1))

/-- A correctable error of a sector store (R932, R935). -/
def State.ssCorrected (s : State) (k b col : Nat) : State :=
  let s := s.bump (SS.ECC.CE k) 1
  let key := (16 * k + b) * 512 + col
  let times := within24 s.quill.qsec (Tab.get (fun _ => []) s.mem.colTimes key)
  let s := { s with mem := { s.mem with colTimes := Tab.put (fun _ => []) s.mem.colTimes key (times.drop (times.length - 3)) } }
  let s := if 3 ≤ times.length then s.colCandidate k b col 0 else s
  if s.get (SS.ECC.CE k) = 1024 then (s.set (SS.STAT.CE_LIMIT k) 1).raise (srcSsCe k) else s

/-- An uncorrectable error of a sector store (R932, R936). -/
def State.ssUncorrectable (s : State) (k b byte col : Nat) : State :=
  let s := ((s.bump (SS.ECC.UE k) 1).set (SS.STAT.UE k) 1).set (SS.FAULT_ADDR.ADDR k) (b * 0x80000 + byte / 8 * 8)
  (s.colCandidate k b col 1).raise (srcSsUe k)

/-- What error correction finds during an access (R283, R284, R935, R936). -/
def State.memError (s : State) (e : MemErr) : State :=
  match e with
  | .none => s
  | .corrected at_ col =>
    match regionOf at_ with
    | .stack w a => s.psCorrected w a
    | .store k b _ => s.ssCorrected k b col
    | .reserved => s
  | .uncorrectable at_ col =>
    match regionOf at_ with
    | .stack w a => s.psUncorrectable w a
    | .store k b y => s.ssUncorrectable k b y col
    | .reserved => s

/-- Does a read of bytes meet an uncorrectable or poisoned word? -/
def State.readBad (s : State) (off n : Nat) (e : MemErr) : Bool :=
  (match e with | .uncorrectable at_ _ => decide (off / 32 ≤ at_ / 32) && decide (at_ < off + n) | _ => false)
    || (match regionOf off with
        | .stack _ _ => s.mem.poison.any fun p => decide (off / 32 ≤ p) && decide (p * 32 < off + n)
        | _ => false)

/-- A poisoned word that is read reports UE (R287). -/
def State.poisonRead (s : State) (off n : Nat) (e : MemErr) : State :=
  match e, regionOf off with
  | .uncorrectable _ _, _ => s.memError e
  | _, .stack _ _ =>
    match s.mem.poison.find? fun p => decide (off / 32 ≤ p) && decide (p * 32 < off + n) with
    | some p => (match regionOf (p * 32) with
        | .stack w a => (s.memError e).psUncorrectable w a
        | _ => s.memError e)
    | none => s.memError e
  | _, _ => s.memError e

/-- A write of enabled bytes to one 32-byte word of a stack (R247, R252): merged, or whole. -/
def State.stackWordWrite (s : State) (off : Nat) (data : List (Option Byte)) (e : MemErr) : State :=
  let word := off / 32
  let whole := decide (off % 32 = 0) && decide (data.length = 32) && data.all (·.isSome)
  if whole then (s.bar2Puts off data).freshWord word
  else
    let hit := match e with | .uncorrectable at_ _ => decide (at_ / 32 = word) | _ => false
    let s := if s.poisoned word then s
      else if hit then
        let s := s.memError e
        { s with mem := { s.mem with poison := insertNew word s.mem.poison } }
      else s
    s.bar2Puts off data

/-- The pieces of a write that lie in one 32-byte word each: offset and data. -/
def wordPieces : Nat → Nat → List (Option Byte) → List (Nat × List (Option Byte))
  | 0, _, _ => []
  | _, _, [] => []
  | n + 1, off, data =>
    let k := 32 - off % 32
    (off, data.take k) :: wordPieces n (off + k) (data.drop k)

/-! ### Owners of banks -/

/-- Owner codes (R918). -/
def owHost : Nat := 0x00
def owLectern : Nat := 0x01
def owScribe : Nat := 0x02
def owMarginalia : Nat := 0x03
def owBlotter : Nat := 0x04
def owTest : Nat := 0x05
def owChannel (c : Nat) : Nat := 0x20 + c
def owNone : Nat := 0xFF

def State.owner (s : State) (k b : Nat) : Nat := s.get (SS.BANK.OWNER k b)

/-- Is a Copyist channel IDLE? -/
def State.channelIdle (s : State) (c : Nat) : Bool := s.get (CH.STAT.STATE c) = 0

/-- Is an owner code a channel? -/
def isChannel (o : Nat) : Bool := decide (0x20 ≤ o ∧ o < 0x40)

/-- May a bank be taken for the Scribe, Marginalia or the Blotter? (R921, R930) -/
def State.takable (s : State) (k b : Nat) : Bool :=
  let o := s.owner k b
  !s.flag (SS.BANK.BIST k b) && !s.flag (SS.BANK.PENDING k b)
    && (o = owHost || o = owLectern || (isChannel o && s.channelIdle (o - 0x20)))

/-- Is a bank handover that Lectern carries out in progress? (R1043) -/
def State.lecHandover (s : State) (k b : Nat) : Bool := s.flag (SS.BANK.PENDING k b) && s.owner k b = owLectern

/-- Is a locked section of R1043 in progress? -/
def State.lecLocked (s : State) : Bool :=
  s.lec.locked.isSome || !s.vault.txs.isEmpty || (List.range 8).any fun k => (List.range 16).any (s.lecHandover k)

/-- Lectern halts (R1044). -/
def State.haltNow (s : State) : State := ((s.set LEC.STAT.HALTED 1).set DEBUG.STATUS.HALTED 1).set DEBUG.STATUS.DEFERRED 0

/-- A deferred halt takes effect at the end of the locked section (R1043). -/
def State.haltDue (s : State) : State := if s.flag DEBUG.STATUS.DEFERRED && !s.lecLocked then s.haltNow else s

/-- A bank begins to pass to an owner (R923). -/
def State.passBank (s : State) (k b o : Nat) : State :=
  let s := s.set (SS.BANK.PENDING k b) 1
  { s with mem := { s.mem with next := Tab.put (fun _ => 0) s.mem.next (16 * k + b) (o + 1) } }

/-- The banks that a block may release: those it owns, or is about to own (R924). -/
def State.releaseBank (s : State) (k b o : Nat) : State :=
  if s.owner k b = o || Tab.get (fun _ => 0) s.mem.next (16 * k + b) = o + 1 then s.passBank k b owHost else s

/-- A write that names the banks of a block: the new ones are taken and the released ones pass to HOST (R921, R924). It is
refused as a whole where a take is (R922). -/
def State.renameBanks (s : State) (k o old new : Nat) : Option State :=
  let added := (bitsOf 16 new).filter fun b => !(old.testBit b && s.owner k b = o)
  let dropped := (bitsOf 16 old).filter fun b => !new.testBit b
  if added.all (s.takable k) then
    some ((s.each added fun s b => s.passBank k b o).each dropped fun s b => s.releaseBank k b o)
  else none

/-- Every bank of any sector that a reset block owns passes to LECTERN (R910, R924, R945). -/
def State.banksToLectern (s : State) (k o : Nat) : State :=
  s.each (List.range 16) fun s b =>
    let key := 16 * k + b
    if Tab.get (fun _ => 0) s.mem.next key = o + 1 then { s with mem := { s.mem with next := Tab.put (fun _ => 0) s.mem.next key (owLectern + 1) } }
    else if s.owner k b = o && !s.flag (SS.BANK.PENDING k b) then s.set (SS.BANK.OWNER k b) owLectern
    else s

/-- µs until the self-test of a sector ends, counted by passes still to run (R930). -/
def State.bistLeft (s : State) (k : Nat) : Nat :=
  let t := Tab.get (fun _ => {}) s.mem.bist k
  if t.banks = 0 then 0 else 200 * (if t.pass ≤ 4 then 5 - t.pass else 1)

/-- A discarded BAR2 write is recorded (R859, R873). -/
def State.discardWrite (s : State) (off : Nat) : State :=
  let s := (s.set DEV.HOSTACC.WR_REFUSED 1).bump DEV.HOSTACC.COUNT 1
  (s.set64 DEV.HOSTACC_ADDR_LO.reg DEV.HOSTACC_ADDR_HI.reg off).hostAccess 1 3 off

/-- A held host write is served, if its bank allows it now (R919, R945). -/
def State.serveHeld (s : State) (w : HeldWrite) : Option State :=
  match regionOf w.off with
  | .store k b _ =>
    let o := s.owner k b
    if o = owHost || (isChannel o && s.channelIdle (o - 0x20)) then some (s.bar2Puts w.off w.data) else none
  | _ => none

/-- Every held host write that may now be served is served, oldest first. -/
def State.flushHeld (s : State) : State :=
  let r := s.mem.held.foldl (fun (acc : State × List HeldWrite) w =>
    match acc.1.serveHeld w with
    | some s' => (s', acc.2)
    | none => (acc.1, acc.2 ++ [w])) (s, [])
  { r.1 with mem := { r.1.mem with held := r.2 } }

end Sys2Proof.Machine
end

