-- ==== Sys2Proof/Machine/RunOps.lean ====
section
/-! DEFINITION. Vector lines and the flow through them (R253 to R259, R314 to R327). -/

namespace Sys2Proof.Machine
open Reg

/-! ### Fields of a control word (R256, R314) -/

def lnOp (w : Nat) : Nat := w / 2 ^ 58 % 64
def lnTs (w : Nat) : Nat := w / 2 ^ 52 % 64
def lnCond (w : Nat) : Nat := w / 2 ^ 48 % 16
def lnEvt (w : Nat) : Nat := w / 2 ^ 40 % 256
def lnAux (w : Nat) : Nat := w / 2 ^ 32 % 256
def lnOperand (w : Nat) : Nat := w % 2 ^ 32
/-- OPERAND bits 29:0, a line address. -/
def lnAddr (w : Nat) : Nat := w % 2 ^ 30
/-- OPERAND bits 31:30, a counter. -/
def lnCn (w : Nat) : Nat := w / 2 ^ 30 % 4
/-- The AUX flags (R258). -/
def lnSeam (w : Nat) : Bool := w.testBit 39
def lnHint (w : Nat) : Bool := w.testBit 38
def lnLevel (w : Nat) : Bool := w.testBit 37
def lnFailEn (w : Nat) : Bool := w.testBit 36
def lnGate (w : Nat) : Bool := w.testBit 35
def lnAlt (w : Nat) : Bool := w.testBit 34
/-- The glyphs of local octet `o` (R254), eight of four bits. -/
def lnGlyphs (w o : Nat) : Nat := w / 2 ^ (64 + 32 * o) % 2 ^ 32

/-- The opcodes (R257). -/
def opNext : Nat := 0x00
def opRpt : Nat := 0x01
def opLoop : Nat := 0x02
def opEndl : Nat := 0x03
def opJmp : Nat := 0x04
def opCall : Nat := 0x05
def opRet : Nat := 0x06
def opMatch : Nat := 0x07
def opBr : Nat := 0x08
def opSig : Nat := 0x09
def opWaits : Nat := 0x0A
def opSetp : Nat := 0x0B
def opMark : Nat := 0x0C
def opHalt : Nat := 0x0D
def opIdxj : Nat := 0x0E
def opLdcnt : Nat := 0x0F
def opDecbr : Nat := 0x10
def opEnsync : Nat := 0x11

/-- Is a line illegal by its OP or AUX? (R259) -/
def lnIllegal (w : Nat) : Bool := decide (0x12 ≤ lnOp w) || decide (lnAux w % 4 ≠ 0)

/-- The class of a condition (R328): 0 immediate, 1 compare, 2 sampled. -/
def condClass (c : Nat) : Nat :=
  if c ≤ 1 || c = 0xC || c = 0xD then 0 else if c ≤ 6 then 1 else 2

/-- Does a line test a condition by COND? (R314) -/
def testsCond (w : Nat) : Bool := lnOp w = opMatch || lnOp w = opBr || lnOp w = opDecbr

/-- Does a line, when inked, name a sampled or compare decision? A DECBR may still decide at once (R327), and an ENSYNC
may act as NEXT (R361). -/
def isDecision (w : Nat) : Bool := (testsCond w && condClass (lnCond w) ≠ 0) || lnOp w = opWaits || lnOp w = opEnsync

/-- Does a line test the sticky flag? (R329) -/
def testsSticky (w : Nat) : Bool := testsCond w && (lnCond w = 5 || lnCond w = 6)

/-! ### Flow (R315 to R327) -/

def Flow.c (f : Flow) (n : Nat) : Nat := f.cnt.getD (n % 4) 0
def Flow.setC (f : Flow) (n v : Nat) : Flow := { f with cnt := f.cnt.set (n % 4) (v % 2 ^ 32) }

/-- Flow goes to a line by a route other than the return from an ENDL. -/
def Flow.goto (f : Flow) (pc : Nat) : Flow := { f with pc := pc, back := false }

/-- An immediate condition (R328) on the counters as they stand. -/
def Flow.immediate (f : Flow) (w : Nat) : Bool :=
  match lnCond w with
  | 0 => true
  | 0xC => decide (f.c (lnCn w) = 0)
  | 0xD => decide (f.c (lnCn w) ≠ 0)
  | _ => false

/-- The pass count of a LOOP line (R316). -/
def Flow.passes (f : Flow) (w : Nat) : Nat := max 1 (if (lnEvt w).testBit 7 then f.c (lnEvt w) else lnOperand w)

/-- Opening a loop (R316): the return from its own ENDL opens nothing. -/
def Flow.loop (f : Flow) (w : Nat) : Flow :=
  ({ f with loops := if f.back then f.loops else (f.pc, f.passes w) :: f.loops } : Flow).goto (f.pc + 1)

/-- Closing the innermost loop (R317). -/
def Flow.endl (f : Flow) : Flow :=
  match f.loops with
  | (start, n) :: t => if 1 < n then { f with pc := start, loops := (start, n - 1) :: t, back := true }
      else ({ f with loops := t } : Flow).goto (f.pc + 1)
  | [] => f.goto (f.pc + 1)

def Flow.call (f : Flow) (w : Nat) : Flow :=
  ({ f with calls := (f.pc + 1, f.loops.length) :: f.calls } : Flow).goto (lnAddr w)

def Flow.ret (f : Flow) : Flow :=
  match f.calls with
  | (a, _) :: t => ({ f with calls := t } : Flow).goto a
  | [] => f.goto (f.pc + 1)

/-- LDCNT (R326). -/
def Flow.ldcnt (f : Flow) (w : Nat) : Flow :=
  let n := lnEvt w % 4
  let v := match lnEvt w / 4 % 4 with
    | 0 => lnOperand w
    | 1 => f.c n + lnOperand w
    | 2 => f.c n + 2 ^ 32 - lnOperand w
    | _ => f.c (lnOperand w)
  (f.setC n v).goto (f.pc + 1)

/-- The decrement of DECBR (R327). -/
def Flow.decrement (f : Flow) (w : Nat) : Flow := if f.c (lnCn w) = 0 then f else f.setC (lnCn w) (f.c (lnCn w) - 1)

/-- The line after the last repetition of a line along its in-line path, with its effects on counters and stacks; for
MATCH, BR and DECBR with an immediate condition, along the path that the condition takes (R308, R310, R376). WAITS and
ENSYNC repeat. -/
def Flow.after (f : Flow) (w : Nat) : Flow :=
  let op := lnOp w
  if op = opLoop then f.loop w
  else if op = opEndl then f.endl
  else if op = opJmp then f.goto (lnAddr w)
  else if op = opCall then f.call w
  else if op = opRet then f.ret
  else if op = opMatch then
    f.goto (if condClass (lnCond w) = 0 && f.immediate w then f.pc + 1 else lnAddr w)
  else if op = opBr then
    f.goto (if condClass (lnCond w) = 0 && f.immediate w then lnAddr w else f.pc + 1)
  else if op = opDecbr then
    let d := f.decrement w
    d.goto (if condClass (lnCond w) = 0 && d.c (lnCn w) ≠ 0 && d.immediate w then lnAddr w else f.pc + 1)
  else if op = opIdxj then f.goto ((lnAddr w + f.c (lnCn w)) % 2 ^ 30)
  else if op = opLdcnt then f.ldcnt w
  else if op = opWaits || op = opEnsync then f.goto f.pc
  else f.goto (f.pc + 1)

/-- The first line of the pencilled track of a decision line (R376). -/
def altTarget (pc w : Nat) : Nat := if lnOp w = opBr || lnOp w = opDecbr then lnAddr w else pc + 1

/-- Flow at the start of a decision line's alternative (R376): a DECBR has decremented its counter. -/
def Flow.alternative (f : Flow) (w : Nat) : Flow :=
  (if lnOp w = opDecbr then f.decrement w else f).goto (altTarget f.pc w)

/-- The flag of `SCRIBE[s].FAULT` that a line sets (R318, R320), as its bit number. -/
def Flow.fault (f : Flow) (w : Nat) : Option Nat :=
  let op := lnOp w
  if op = opLoop && !f.back && decide (8 ≤ f.loops.length) then some 0
  else if op = opEndl && decide (f.loops.length ≤ (f.calls.head?.map (·.2)).getD 0) then some 1
  else if op = opCall && decide (16 ≤ f.calls.length) then some 2
  else if op = opRet && f.calls.isEmpty then some 3
  else if op = opRet && decide (f.loops.length ≠ (f.calls.head?.map (·.2)).getD 0) then some 4
  else if op = opMatch && (decide (f.pc < lnAddr w) || decide (lnAddr w + 4095 < f.pc)) then some 6
  else none

/-- The vector of local octet `o` that takes a line (R258, R305). -/
def takenOf (idx w o : Nat) : Taken :=
  { idx := some idx, glyphs := lnGlyphs w o, ts := lnTs w, alt := b2n (lnAlt w), gate := lnGate w }

end Sys2Proof.Machine
end

