-- ==== Sys2Proof/Machine/EventOps.lean ====
section
/-! DEFINITION. Events: posting, delivery, the event FIFO and the EVT_IO balls (R232, R331 to R338, R370 to R372). -/

namespace Sys2Proof.Machine
open Reg

/-- Sources of an event as `EVT.FIFO.SOURCE` shows them (R370). -/
def evHost : Nat := 8
def evIo : Nat := 9
def evChain : Nat := 10

/-- An event is posted at an instant in dots (R232, R334, R335); `io` tells that its `EVT_IO` outputs count from its
delivery. -/
def State.post (s : State) (code source at_ : Nat) (io : Bool) : State :=
  let r := (s.rd (EVT.ROUTE.reg code)).toNat
  let p : Posted := { code := code, source := source, route := r, at_ := at_, io := io }
  if s.flag (EVT.ROUTE.CHAIN code) then
    if s.chain = chRuled then
      let t := (s.masterTick at_).toNat + s.chainLat
      if 8 ≤ s.rul.queue.length then s.set RUL.STAT.LATE 1
      else
        let s := s.enqueue ftEvent (eventPayload code t)
        { s with ev := { s.ev with posted := s.ev.posted ++ [{ p with chain := some (t % 2 ^ 32), io := true }] } }
    else s.set EVT.FIFO.LOST 1
  else { s with ev := { s.ev with posted := s.ev.posted ++ [p] } }

/-- The head of the event FIFO as `EVT.FIFO` shows it (R370). -/
def State.showFifo (s : State) : State :=
  match s.ev.fifo with
  | [] => ((s.set EVT.FIFO.VALID 0).set EVT.FIFO.SOURCE 0).set EVT.FIFO.CODE 0
  | (src, code) :: _ => ((s.set EVT.FIFO.VALID 1).set EVT.FIFO.SOURCE src).set EVT.FIFO.CODE code

/-- An entry of the event FIFO, of 64 entries, and the event interrupt (R370, R883). -/
def State.fifoPush (s : State) (source code : Nat) : State :=
  if 64 ≤ s.ev.fifo.length then s.set EVT.FIFO.OVERFLOW 1
  else
    let first := s.ev.fifo.isEmpty
    let s := State.showFifo { s with ev := { s.ev with fifo := s.ev.fifo ++ [(source, code)] } }
    if first then s.signal 26 else s

/-- Is a code pending in a Scribe? -/
def State.evPending (s : State) (k code : Nat) : Bool := (s.get (SCRIBE.EVT_PEND.PEND k (code / 32))).testBit (code % 32)

/-- A code enters or leaves a pending set (R336). -/
def State.setPending (s : State) (k code : Nat) (b : Bool) : State :=
  s.setB ⟨SCRIBE.EVT_PEND.reg k (code / 32), code % 32, 1⟩ b

/-- An output edge of an EVT_IO pin is owed after a reference instant (R338). -/
def State.oweEdges (s : State) (mask ref : Nat) : State :=
  { s with ev := { s.ev with edges := s.ev.edges ++ (bitsOf 8 mask).map fun n => { pin := n, ref := ref } } }

/-- An event reaches its local recipients at an instant in dots (R334, R335). -/
def State.deliver (s : State) (p : Posted) (at_ : Nat) : State :=
  let s := s.each (bitsOf 8 (p.route % 256)) fun s k =>
    if s.modeOf k = mOff then s
    else (s.setPending k p.code true).onScribe k fun c => { c with got := (p.code, at_) :: c.got.filter (·.2 = at_) }
  let s := if p.route.testBit 29 then s.cpyEvent p.code else s
  let s := if p.route.testBit 31 then s.fifoPush p.source p.code else s
  if p.io then s.oweEdges (p.route / 256 % 256) at_ else s

/-- EVT_POST (R334, R370). -/
def execEvtPost (code : BitVec 8) (s : State) : Host.Outcome State Fault Refusal :=
  .next (s.post code.toNat evHost (1024 * s.tick) true)

/-- EVTIO_INPUT_EDGE (R338): the filtered level of an EVT_IO ball changes. -/
def execEvtioInputEdge (n : Fin 8) (level : Bool) (s : State) : Host.Outcome State Fault Refusal :=
  let old := s.ev.levels.testBit n
  let s := { s with ev := { s.ev with levels := maskOf ((List.range 8).filter fun i => if i = n.val then level else s.ev.levels.testBit i) } }
  if old != level && !s.flag (EVTIO.CTL.DIR n) && level != s.flag (EVTIO.CTL.FALL n) && s.mainOn then
    .next (s.post (s.get (EVTIO.CTL.CODE n)) evIo (1024 * s.tick) true)
  else .next s

/-- The delivery instant of an event with CHAIN = 0, in dots (R335). -/
def Posted.deliveredAt (p : Posted) : Nat := p.at_ + 16 * 1024

/-- EVENT_DELIVER (R335): the first posted event whose delivery instant has come reaches its recipients. -/
def execEventDeliver (s : State) : Host.Outcome State Fault Refusal :=
  match s.ev.posted.find? fun p => p.chain.isNone && decide (p.deliveredAt ≤ s.nowDots) with
  | none => .next s
  | some p =>
    .next (State.deliver { s with ev := { s.ev with posted := dropFirst (fun x => decide (x = p)) s.ev.posted } } p p.deliveredAt)

/-- The output level of an EVT_IO pin. -/
def State.driveIo (s : State) (n : Nat) (b : Bool) : State :=
  { s with ev := { s.ev with driven := maskOf ((List.range 8).filter fun i => if i = n then b else s.ev.driven.testBit i) } }

/-- EVTIO_OUTPUT_EDGE (R338): an owed edge of a pin falls due; pulses that overlap merge. -/
def execEvtioOutputEdge (n : Fin 8) (s : State) : Host.Outcome State Fault Refusal :=
  match s.ev.edges.find? fun e => decide (e.pin = n.val ∧ e.ref + 28 * 1024 ≤ s.nowDots) with
  | none => .next s
  | some e =>
    let s := { s with ev := { s.ev with edges := dropFirst (fun x => decide (x = e)) s.ev.edges } }
    if !s.flag (EVTIO.CTL.DIR n) then .next s
    else if s.flag (EVTIO.CTL.MODE n) then .next (s.driveIo n (!s.ev.driven.testBit n))
    else
      let till := 1024 * (s.tick + s.get (EVTIO.CTL.PULSE n) + 1)
      let s := s.driveIo n true
      .next { s with ev := { s.ev with pulses := Tab.put (fun _ => 0) s.ev.pulses n (max till (Tab.get (fun _ => 0) s.ev.pulses n)) } }

/-- A pulse of an EVT_IO output ends. -/
def State.endPulse (s : State) (n : Nat) : State :=
  if Tab.get (fun _ => 0) s.ev.pulses n = 0 then s
  else State.driveIo { s with ev := { s.ev with pulses := s.ev.pulses.erase n } } n false

/-- EVTIO_PULSE_END (R338). -/
def execEvtioPulseEnd (n : Fin 8) (s : State) : Host.Outcome State Fault Refusal :=
  if Tab.get (fun _ => 0) s.ev.pulses n ≤ s.nowDots then .next (s.endPulse n) else .next s

/-- A write of `EVTIO[n].CTL` (R338): clearing DIR ends a pulse in progress. -/
def State.evtioWrite (s : State) (n v : Nat) : State :=
  let s := s.plainWrite (EVTIO.CTL.reg n) v
  if s.flag (EVTIO.CTL.DIR n) then s else s.endPulse n

/-- A read of the event FIFO removes its head (R370). -/
def State.fifoRead (s : State) : State :=
  let w := s.rd EVT.FIFO.reg
  State.answers (State.showFifo { s with ev := { s.ev with fifo := s.ev.fifo.tail } }) [w]

/-- EVT_FIFO_READ (R370). -/
def execEvtFifoRead (s : State) : Host.Outcome State Fault Refusal := .next s.fifoRead

end Sys2Proof.Machine
end

