-- ==== Sys2Proof/Machine/MargOps.lean ====
section
/-! DEFINITION. Marginalia: counts, records, capacity and trips (R625 to R653). -/

namespace Sys2Proof.Machine
open Reg

/-! ### Records (R632 to R636) -/

/-- The record types (R632). -/
def mtFail : Nat := 1
def mtMark : Nat := 2
def mtFolio : Nat := 3
def mtClose : Nat := 4
def mtStart : Nat := 5

/-- The marks of FLAGS, by their place in the field (R636). -/
def mfSafe : Nat := 0x40
def mfBRec : Nat := 0x20
def mfARec : Nat := 0x10
def mfDrop : Nat := 0x08
def mfNosense : Nat := 0x04
def mfAge : Nat := 0x02
def mfCoast : Nat := 0x01

/-- The marks of a time tag that is now. -/
def State.tagFlags (s : State) (k : Nat) : Nat := (if s.inSafe k then mfSafe else 0) + (if s.clk.coasting then mfCoast else 0)

/-- A record from its type, its marks and its fields, as (lowest bit, width, value). -/
def margBits (kind flags : Nat) (fs : List (Nat × Nat × Nat)) : Nat :=
  fs.foldl (fun n f => n + f.2.2 % 2 ^ f.2.1 * 2 ^ f.1) (kind + flags % 2 ^ 8 * 2 ^ 12)

/-- The folio of a time tag in dots: 2^32 ticks (R637). -/
def folioOf (v : Nat) : Nat := v / 1024 / 2 ^ 32

/-! ### Capacity (R630, R631, R640 to R645) -/

/-- N_ink (R640). -/
def Marg.ink (m : Marg) : Nat := if m.running && m.mode ≠ 0 then m.pairs.length + m.marks + 2 else 0

/-- `MARG[s].RES` shows N_ink. -/
def State.setMargRes (s : State) (k : Nat) (m : Marg) : State := (s.setMarg k m).set (MARG.RES.INK k) (min (2 ^ 16 - 1) m.ink)

/-- Position and WRAP of a pointer register. -/
def ptrPos (w : Word) : Nat := w.field 0 30
def ptrWrap (w : Word) : Nat := w.field 31 1

/-- Records from a read pointer to a write pointer around a ring (R631). -/
def ringUsed (size : Nat) (w r : Word) : Nat :=
  if ptrWrap w = ptrWrap r then ptrPos w - ptrPos r else ptrPos w + size - ptrPos r

/-- Is a read pointer not beyond a write pointer around a ring? (R631) -/
def ringValid (size : Nat) (w r : Word) : Bool :=
  decide (ptrPos r < size) && (if ptrWrap w = ptrWrap r then decide (ptrPos r ≤ ptrPos w) else decide (ptrPos w ≤ ptrPos r))

/-- The free space of the destination (R642). -/
def State.margFree (s : State) (k : Nat) : Nat :=
  let m := s.marg k
  let w := s.rd (MARG.WPTR.reg k)
  if m.mode = 3 then m.size - ringUsed m.size w m.rptr else m.size - ptrPos w

/-- N_pen (R641): vectors of announced FAIL_EN lines, and announced marks. -/
def State.margPen (s : State) (k fails marks : Nat) : State := s.set (MARG.RES.PEN k) (min (2 ^ 16 - 1) ((fails + 1) / 2 + marks))

/-- The causes of a trip, in the order of R650. -/
def whyOrder : List Nat := [5, 4, 1, 2, 3]

/-- A trip at an instant in dots (R647 to R650). -/
def State.margTrip (s : State) (k why at_ : Nat) (stops : Bool) : State :=
  let m := s.marg k
  let old := s.get (MARG.STAT.WHY k)
  let first := if m.tripAt = some at_ then (whyOrder.find? fun w => w = why || w = old).getD why else why
  let s := (s.set (MARG.STAT.TRIP k) 1).set (MARG.STAT.WHY k) first
  let s := s.setMarg k { m with tripAt := some at_ }
  if stops then s.askStop k stopMarginalia at_ else s

/-- Recording stops on FULL with FULL_ACT = 1 (R645): what is formed and not yet written is lost, but START. -/
def State.margStopRecording (s : State) (k : Nat) : State :=
  let m := s.marg k
  let lp := (m.owed.filter fun r => r.kind = mtFail && r.failing).length
  let lm := (m.owed.filter (·.kind = mtMark)).length
  let s := (s.set (MARG.STAT.LOST_ANY k) 1).bump (MARG.LOST.PAIRS k) lp
  s.setMargRes k { m with stopped := true, owed := m.owed.filter (·.kind = mtStart), lostPairs := m.lostPairs + lp
                          lostMarks := m.lostMarks + lm, pairs := [], marks := m.marks - lm }

/-- The checks at a pace boundary, before a line crosses the ink line (R631, R642 to R645). -/
def State.margBoundary (s : State) (k bd : Nat) : State :=
  let m := s.marg k
  if m.running && m.mode ≠ 0 && m.start.stop.isNone && !m.stopped then
    let s := if m.rptrAt < bd / 1024 then s.setMarg k { m with rptr := s.rd (MARG.RPTR.reg k) } else s
    let free := s.margFree k
    let near := decide (free < m.ink + s.get (MARG.RES.PEN k) + s.get (MARG.NEAR_THR.RECORDS k))
    let rises := near && !s.flag (MARG.STAT.NEAR_FULL k)
    let s := s.setB (MARG.STAT.NEAR_FULL k) near
    let s := if 4096 < m.ink + 1 then (s.set (MARG.STAT.BACKLOG k) 1).margTrip k 5 bd true else s
    let full := decide (free < m.ink + 1)
    let act := s.flag (MARG.CFG.FULL_ACT k)
    let s := if full then (s.set (MARG.STAT.FULL k) 1).margTrip k 4 bd (!act) else s
    let s := if rises && s.flag (MARG.CFG.NEAR_EN k) then s.margTrip k 3 bd (s.flag (MARG.CFG.TRIP_STOP k)) else s
    if full && act then s.margStopRecording k else s
  else s

/-- A vector crosses the ink line: its pair and its mark are owed (R640). -/
def State.margInkLine (s : State) (k idx w : Nat) : State :=
  let m := s.marg k
  if m.running && m.mode ≠ 0 && !m.stopped then
    let pairs := if lnFailEn w && m.pairs.getLast? ≠ some (idx / 2) then m.pairs ++ [idx / 2] else m.pairs
    s.setMargRes k { m with pairs := pairs, marks := m.marks + b2n (lnOp w = opMark) }
  else s

/-! ### Forming records (R633 to R637) -/

/-- A record owed, after a FOLIO record where its time tag begins a new folio (R637). -/
def State.margOwe (s : State) (k v vidx : Nat) (r : MargRec) (flags : Nat) : State :=
  let m := s.marg k
  let folio : List MargRec := if folioOf v = m.folio || m.stopped then []
    else [{ kind := mtFolio, bits := margBits mtFolio (flags &&& (mfSafe + mfCoast)) [(20, 48, vidx), (128, 64, v / 1024)] }]
  s.setMarg k { m with owed := m.owed ++ folio ++ [r], folio := folioOf v }

/-- The START record (R635): vector 0 begins at the pace octet's balls, or the run ended with no vector. -/
def State.margBegin (s : State) (k v : Nat) : State :=
  let m := s.marg k
  if m.running && m.mode ≠ 0 && !m.began then
    s.setMarg k { m with
      began := true, folio := folioOf v
      owed := m.owed ++ [{ kind := mtStart, bits := (margBits mtStart (s.tagFlags k)
        [(68, 30, m.start.line), (128, 64, v / 1024), (192, 8, m.start.lockGen), (200, 3, s.get (MARG.CFG.MODE k))]) }] }
  else s

/-- A MARK record, or its loss (R635, R645). -/
def State.margMark (s : State) (k : Nat) (e : Inked) (flags : Nat) : State :=
  let m := s.marg k
  if m.stopped then s.setMargRes k { m with lostMarks := m.lostMarks + 1, marks := m.marks - 1 }
  else
    let t := e.v / 1024
    s.margOwe k e.v e.idx { kind := mtMark, bits := (margBits mtMark flags
      [(20, 48, e.idx), (68, 30, e.addr), (98, 8, lnEvt e.bits), (128, 32, lnOperand e.bits), (160, 32, t), (192, 16, t / 2 ^ 32)]) } flags

/-- The AGED registers name the pins that set AGE (R636). -/
def State.margAged (s : State) (k pins : Nat) : State :=
  if pins = 0 then s
  else
    (s.set (MARG.AGED_LO.MASK k) (s.get (MARG.AGED_LO.MASK k) ||| pins % 2 ^ 32)).set (MARG.AGED_HI.MASK k)
      (s.get (MARG.AGED_HI.MASK k) ||| pins / 2 ^ 32)

/-- Does the mode call for a FAIL record of a pair? (R628) -/
def State.margCalls (s : State) (k : Nat) (recorded failing : Bool) : Bool :=
  let m := s.marg k
  recorded && (if m.mode = 2 then true else if m.mode = 1 then failing && decide (m.fails < s.get (MARG.FIRST_N.N k)) else failing)

/-- A pair is complete: its FAIL record, its loss, or nothing (R633, R634, R645). -/
def State.margPair (s : State) (k : Nat) (a : MargHalf) (b : Option MargHalf) : State :=
  let m := s.marg k
  let bb := b.getD {}
  let failing := decide (a.fail ||| bb.fail ≠ 0)
  let s := s.setMarg k { m with half := none }
  if m.mode = 0 then s
  else if !s.margCalls k (a.recorded || bb.recorded) failing then
    s.setMargRes k { s.marg k with pairs := m.pairs.filter (· ≠ a.idx / 2) }
  else if m.stopped then
    if failing then
      ((s.set (MARG.STAT.LOST_ANY k) 1).bump (MARG.LOST.PAIRS k) 1).setMarg k { s.marg k with lostPairs := m.lostPairs + 1, fails := m.fails + 1 }
    else s
  else
    let flags := (a.flags ||| bb.flags) ||| (if a.recorded then mfARec else 0) ||| (if bb.recorded then mfBRec else 0)
    let s := (s.margAged k (a.aged ||| bb.aged)).setMarg k { s.marg k with fails := m.fails + 1 }
    s.margOwe k a.v a.idx { kind := mtFail, pair := some (a.idx / 2), failing := failing, bits := (margBits mtFail flags
      [(20, 48, a.idx), (68, 30, a.line), (98, 30, bb.line), (128, 64, a.fail), (192, 64, bb.fail)]) } flags

/-! ### Counts (R625 to R627) -/

/-- The pins that Marginalia records. -/
def State.rmask (s : State) (k : Nat) : Nat := s.get (MARG.RMASK_LO.MASK k) + s.get (MARG.RMASK_HI.MASK k) * 2 ^ 32

/-- One more in a 64-bit count. -/
def State.count64 (s : State) (lo hi : Nat) : State := s.set64 lo hi ((s.get64 lo hi + 1) % 2 ^ 64)

/-- The counts of a pin that fails in a recorded vector (R626). -/
def State.margPin (s : State) (k idx : Nat) (firsts : List FirstFail) (pin : Nat) : State :=
  let s := s.bump (MARG.PIN.PCNT.COUNT k pin) 1
  if s.flag (MARG.PIN.PFIRST_HI.VALID k pin) then s
  else
    let f := (firsts.find? (·.pin = pin)).getD {}
    let s := (s.set (MARG.PIN.PFIRST_LO.VIDX k pin) idx).set (MARG.PIN.PFIRST_HI.VIDX k pin) (idx / 2 ^ 32)
    (((s.set (MARG.PIN.PFIRST_HI.STB k pin) f.strobe).set (MARG.PIN.PFIRST_HI.LEVEL k pin) f.level).setB (MARG.PIN.PFIRST_HI.DROP k pin) f.drop).set
      (MARG.PIN.PFIRST_HI.VALID k pin) 1

/-- The counts of a recorded vector, and the trips N and PIN (R626, R647). -/
def State.margCount (s : State) (k : Nat) (e : Inked) (fail at_ : Nat) : State :=
  let s := s.count64 (MARG.RVEC_LO.reg k) (MARG.RVEC_HI.reg k)
  if fail = 0 then s
  else
    let pins := bitsOf 64 fail
    let s := s.count64 (MARG.FVEC_LO.reg k) (MARG.FVEC_HI.reg k)
    let s := if s.flag (MARG.FIRST_HI.VALID k) then s
      else (((s.set (MARG.FIRST_LO.VIDX k) e.idx).set (MARG.FIRST_HI.VIDX k) (e.idx / 2 ^ 32)).set (MARG.FIRST_HI.PIN k) (pins.headD 0)).set
        (MARG.FIRST_HI.VALID k) 1
    let s := s.each pins fun s p => s.margPin k e.idx e.firsts p
    let stops := s.flag (MARG.CFG.TRIP_STOP k)
    let n := s.get (MARG.STOP_N.N k)
    let s := if s.flag (MARG.CFG.N_EN k) && n ≠ 0 && s.get64 (MARG.FVEC_LO.reg k) (MARG.FVEC_HI.reg k) = n then s.margTrip k 1 at_ stops else s
    let q := s.get (MARG.PIN_N.N k)
    if s.flag (MARG.CFG.PIN_EN k) && q ≠ 0 && pins.any fun p => s.get (MARG.PIN.PCNT.COUNT k p) = q then s.margTrip k 2 at_ stops else s

/-- The resolution instant of a vector index, once nothing of it is still to happen (R623). -/
def Inked.resolvesAt (e : Inked) : Option Nat :=
  if e.closed && e.vectors = 0 && e.strobes = 0 then some (e.last + 24 * 1024) else none

/-- A vector result is final: Marginalia counts it and forms the records it owes (R625 to R637). -/
def State.margResolve (s : State) (k : Nat) (e : Inked) (at_ : Nat) : State :=
  let m := s.marg k
  if !m.running then s
  else
    let rm := s.rmask k
    let recorded := lnFailEn e.bits && decide ((e.fail ||| e.pass) &&& rm ≠ 0)
    let pins := if recorded then (e.fail ||| e.pass) &&& rm else 0
    let fail := e.fail &&& pins
    let s := if recorded then s.margCount k e fail at_ else s
    let aged := e.aged &&& pins
    let flags := (if e.safe then mfSafe else 0) + (if e.coast then mfCoast else 0) + (if e.drop &&& pins ≠ 0 then mfDrop else 0)
      + (if e.nosense &&& pins ≠ 0 then mfNosense else 0) + (if aged ≠ 0 then mfAge else 0)
    let h : MargHalf := { idx := e.idx, line := e.addr, recorded := recorded, fail := fail, flags := flags, aged := aged, v := e.v }
    let mark (s : State) : State := if lnOp e.bits = opMark && m.mode ≠ 0 then (s.margAged k aged).margMark k e flags else s
    if e.idx % 2 = 0 then mark (s.setMarg k { s.marg k with half := some h })
    else mark (s.margPair k (m.half.getD {}) (some h))

/-! ### Writing and closing (R629, R638, R652) -/

/-- The BAR2 offset of record `pos` of the destination (R629). -/
def State.margAddr (s : State) (k pos : Nat) : Nat :=
  let m := s.marg k
  if m.dest = 1 then stackOff (wingOf k) ((s.window k 1).1 * unitSize + 32 * pos)
  else storesBase + k * 0x800000 + m.banks.getD (pos / 16384) 0 * 0x80000 + 32 * (pos % 16384)

/-- The oldest owed record reaches its destination (R630, R632, R638). -/
def State.margWrite (s : State) (k : Nat) (r : MargRec) : State :=
  let m := s.marg k
  let pos := s.get (MARG.WPTR.POS k)
  let seq := s.get (MARG.STAT.SEQ k)
  let recs : Nat := if r.kind = mtClose then m.written + 1 else 0
  let bits := r.bits + seq * 2 ^ 4 + recs % 2 ^ 32 * 2 ^ 128
  let s := s.stackWordWrite (s.margAddr k pos) ((leBytes 32 bits).map some) .none
  let s := if m.mode = 3 && pos + 1 = m.size then (s.set (MARG.WPTR.POS k) 0).set (MARG.WPTR.WRAP k) (1 - s.get (MARG.WPTR.WRAP k))
    else s.set (MARG.WPTR.POS k) (pos + 1)
  let s := (s.set (MARG.STAT.SEQ k) (seq + 1)).bump (MARG.RECS.RECORDS k) 1
  let s := s.setMargRes k { m with
    owed := m.owed.tail, written := m.written + 1, marks := if r.kind = mtMark then m.marks - 1 else m.marks
    pairs := match r.pair with | some p => m.pairs.filter (· ≠ p) | none => m.pairs }
  s

/-- The run is closed (R652). -/
def State.margClosed (s : State) (k : Nat) : State :=
  let m := s.marg k
  let s := (s.set (MARG.STAT.CLOSED k) 1).set (MARG.STAT.CLOSE_CAUSE k) ((m.start.stop.map (·.cause)).getD 0)
  s.setMargRes k { m with running := false, closing := false }

/-- What a run still owes at its end is formed, with the CLOSE record last (R635, R637, R652). -/
def State.margForm (s : State) (k : Nat) (e : MargStop) : State :=
  let s := if e.idx = 0 then s.margBegin k e.at_ else s
  let s := match (s.marg k).half with | some a => s.margPair k a none | none => s
  let m := s.marg k
  if m.mode = 0 then s.setMarg k { m with closing := true }
  else
    let flags := if e.idx = 0 then s.tagFlags k else m.endFlags
    let tag := if e.idx = 0 then e.at_ else (s.scribe k).lastEnd
    let why := if e.cause = stopMarginalia then s.get (MARG.STAT.WHY k) else 0
    let line := if e.idx = 0 then m.start.line else e.line
    let s := s.margOwe k tag e.idx { kind := mtClose, bits := (margBits mtClose flags
      [(20, 48, e.idx), (68, 30, line), (98, 4, e.cause), (102, 4, why), (160, 32, m.lostPairs), (192, 16, min (2 ^ 16 - 1) m.lostMarks)]) } flags
    s.setMarg k { s.marg k with closing := true }

/-- A START came (R651). -/
def State.margStart (s : State) (k : Nat) : State :=
  s.onMarg k fun m => { m with queue := m.queue ++ [{ lockGen := s.get CLK.PLL_STAT.LOCK_GEN, line := s.get (SCRIBE.START_ADDR.ADDR k) }] }

/-- Has Marginalia opened the run that primes? (R303, R651) -/
def State.margReady (s : State) (k : Nat) : Bool := (s.marg k).queue.isEmpty

/-- The Scribe's run has ended (R652). -/
def State.margEnd (s : State) (k : Nat) : State :=
  let c := s.scribe k
  let e : MargStop := { cause := s.get (SCRIBE.STAT.STOP_CAUSE k), at_ := c.stopAt, idx := c.idx, line := s.get (SCRIBE.LINE_PTR.LINE k) }
  s.onMarg k fun m =>
    match m.queue.getLast? with
    | some q => { m with queue := m.queue.dropLast ++ [{ q with stop := some e }] }
    | none => if m.running && m.start.stop.isNone then { m with start := { m.start with stop := some e } } else m

end Sys2Proof.Machine
end

