-- ==== Sys2Proof/Machine/NibOps.lean ====
section
/-! DEFINITION. From a glyph and a time set to the instants at a ball, and the boundaries of an octet (R420, R429, R451 to
R482, R494 to R517). -/

namespace Sys2Proof.Machine
open Reg

/-! ### Time sets and strokes -/

/-- The 192 bits of a time set (R454). -/
def State.timeSet (s : State) (g l t : Nat) : Nat := wordsNat ((List.range 6).map fun k => s.rd (NIB.TS.W.reg g l t k))

/-- The time of edge E0 to E3 in dots (R12, R454). -/
def tsEdge (w e : Nat) : Nat := w / 2 ^ (22 * e) % 2 ^ 22
/-- Strobe time or window open, window close, and mode. -/
def tsA (w i : Nat) : Nat := w / 2 ^ (88 + 44 * i) % 2 ^ 22
def tsB (w i : Nat) : Nat := w / 2 ^ (110 + 44 * i) % 2 ^ 22
def tsMode (w i : Nat) : Nat := w / 2 ^ (180 + 2 * i) % 4
def tsEn (w e : Nat) : Bool := w.testBit (176 + e)
def tsStroke (w : Nat) : Nat := w / 2 ^ 184 % 16

/-- The time set that a pin uses for a vector (R453). -/
def State.tsUsed (s : State) (g l ts : Nat) : Nat := if s.flag (NIB.TS_SEL.FORCE g l) then s.get (NIB.TS_SEL.TS g l) else ts

/-- Formats (R500). -/
def fmNrz : Nat := 0
def fmDnrz : Nat := 1
def fmQnrz : Nat := 2
def fmRz : Nat := 3
def fmRo : Nat := 4
def fmSbc : Nat := 5
def fmPulse : Nat := 6
def fmClk : Nat := 7
def fmIo : Nat := 8

def isRaw (fm : Nat) : Bool := fm = fmDnrz || fm = fmQnrz

/-- Glyphs (R255). -/
def gD0 : Nat := 0
def gD1 : Nat := 1
def gDz : Nat := 2
def gDn : Nat := 3
def gDk : Nat := 4
def gL : Nat := 5
def gH : Nat := 6
def gM : Nat := 7
def gV : Nat := 8
def gX : Nat := 9
def gW : Nat := 0xA
def gP : Nat := 0xB
def gD0l : Nat := 0xC
def gD1h : Nat := 0xD
def gK : Nat := 0xE
def gQ : Nat := 0xF

/-- Q resolved by an alternate map (R513, R514); the second value tells that an entry of 0xF was met. -/
def State.resolveQ (s : State) (g l gl ts alt : Nat) : Nat × Bool :=
  if gl = gQ then
    let e := (s.rd (STK.ALT.reg g l alt (ts / 8))).toNat / 2 ^ (4 * (ts % 8)) % 16
    if e = 0xF then (gX, true) else (e, false)
  else (gl, false)

/-- Is a resolved glyph of the driving class? (R497) -/
def drives (gl : Nat) : Bool :=
  gl = gD0 || gl = gD1 || gl = gDn || gl = gDk || gl = gP || gl = gK || gl = gD0l || gl = gD1h

/-- Does a resolved glyph place strobes? (R497) -/
def strobes (gl : Nat) : Bool := gl = gD0l || gl = gD1h || gl = gL || gl = gH || gl = gM || gl = gV || gl = gW

/-- The drive value of a driving glyph, given the last driven bit (R497). -/
def driveValue (gl : Nat) (b : Bool) : Option Bool :=
  if gl = gD0 || gl = gD0l then some false
  else if gl = gD1 || gl = gD1h then some true
  else if gl = gDn then some (!b)
  else if gl = gDk then some b
  else none

/-- The edges that a driving vector uses, with the level each sets (R500, R502, R504, R505). -/
def roles (fm gl : Nat) (p b : Bool) : List (Nat × Bool) :=
  let clock := [(0, p), (1, !p), (2, p), (3, !p)]
  if fm = fmDnrz then [(0, gl.testBit 0), (1, gl.testBit 1)]
  else if fm = fmQnrz then [(0, gl.testBit 0), (1, gl.testBit 1), (2, gl.testBit 2), (3, gl.testBit 3)]
  else if gl = gK then clock
  else if gl = gP then
    if fm = fmPulse || fm = fmClk then clock
    else if fm = fmSbc then [(0, !b), (1, b), (2, !b)]
    else [(2, p), (3, !p)]
  else
    let d := (driveValue gl b).getD b
    if fm = fmRz then [(0, d), (1, false)]
    else if fm = fmRo then [(0, d), (1, true)]
    else if fm = fmSbc then [(0, !d), (1, d), (2, !d)]
    else if fm = fmPulse then (if d then [(0, p), (1, !p)] else [(2, p), (3, !p)])
    else if fm = fmClk then (if d then clock else [(0, !p)])
    else [(0, d)]

/-- The last driven bit after a driving vector (R498). -/
def nextB (fm gl : Nat) (b : Bool) : Bool :=
  if fm = fmDnrz then gl.testBit 1 else if fm = fmQnrz then gl.testBit 3 else (driveValue gl b).getD b

/-- Does an instant come before another? (R465) -/
def Pulse.before (p q : Pulse) : Bool :=
  decide (p.t < q.t) || (p.t = q.t && (decide (p.vec < q.vec) || (p.vec = q.vec && decide (p.eng < q.eng))))

/-- An instant put in its place (R465). -/
def insertPulse (p : Pulse) : List Pulse → List Pulse
  | [] => [p]
  | q :: t => if p.before q then p :: q :: t else q :: insertPulse p t

/-- The drive instants of a vector, counted from V (R500 to R510). `prev` tells whether the vector before drove, none for
the first of a run. -/
def drivePulses (w fm gl : Nat) (p b : Bool) (prev : Option Bool) : List Pulse :=
  if isRaw fm || drives gl then
    let used := ((roles fm gl p b).filter fun r => tsEn w r.1).map fun r => ({ t := tsEdge w r.1, eng := r.1, lev := some r.2 } : Pulse)
    let sorted := used.foldr insertPulse []
    if prev = some true then sorted
    else if fm = fmIo && tsEn w 1 then
      let on (q : Pulse) : Pulse := { q with de := some true }
      if sorted.any (·.eng = 1) then sorted.map fun q => if q.eng = 1 then on q else q
      else
        let ready := sorted.any fun q => q.eng = 0 && decide (q.t ≤ tsEdge w 1)
        insertPulse { t := tsEdge w 1, eng := 1, lev := if ready then none else some b, de := some true } sorted
    else
      match sorted with
      | q :: t => { q with de := some true } :: t
      | [] => [{ t := 0, eng := 0, de := some true }]
  else if prev = some true then
    if fm = fmIo then [{ t := if tsEn w 2 then tsEdge w 2 else 0, eng := 2, de := some false }]
    else [{ t := if tsEn w 0 then tsEdge w 0 else 0, eng := 0, de := some false }]
  else []

/-- The strobes of a vector, counted from V (R456, R497, R502, R511). -/
def strobePulses (w fm gl : Nat) : List Pulse :=
  if isRaw fm || !strobes gl then []
  else
    ([0, 1].filter fun i => tsMode w i ≠ 0).map fun i =>
      { t := tsA w i, eng := 4 + i, close := if tsMode w i = 2 then tsB w i else tsA w i, window := tsMode w i = 2 }

/-- The instants that a vector uses at a ball are fixed as it crosses the ink line (R484, R498, R499). -/
def State.formLane (s : State) (g l : Nat) (t : Taken) : List Pulse × State :=
  let ts := s.tsUsed g l t.ts
  let w := s.timeSet g l ts
  let k := tsStroke w
  let fm := s.get (STK.ENT.FORMAT g l k)
  let p := s.flag (STK.ENT.POL g l k)
  let b := s.flag (STK.STAT.B g l)
  let raw := t.glyphs / 2 ^ (4 * l) % 16
  let r := if isRaw fm then (raw, false) else s.resolveQ g l raw ts t.alt
  let ball := s.ball g l
  let ps := (drivePulses w fm r.1 p b ball.driving ++ strobePulses w fm r.1).map fun q => { q with vec := t.n, idx := t.idx, glyph := r.1 }
  let driving := isRaw fm || drives r.1
  let s := s.setBall g l { ball with driving := some driving }
  let s := if driving then s.setB (STK.STAT.B g l) (nextB fm r.1 b) else s
  (ps, if r.2 then s.set (STK.STAT.ALT_Q g l) 1 else s)

/-- A vector of an octet crosses the ink line. -/
def State.formVector (s : State) (g : Nat) (t : Taken) : State :=
  let r := (bitsOf 8 t.lanes).foldl (fun (acc : List (Nat × Pulse) × State) l =>
    let f := acc.2.formLane g l t
    (acc.1 ++ f.1.map fun q => (l, q), f.2)) ([], s)
  let s := r.2.onOct g fun o => { o with vectors := o.vectors ++ [{ t with pulses := r.1 }] }
  match t.idx with
  | some i => s.onInked (g / 8) i fun e => { e with vectors := e.vectors + 1 }
  | none => s

/-! ### Flags (R470, R493) -/

/-- Does a slot show a drop? -/
def State.dropFlag (s : State) (g l : Nat) : Bool :=
  s.flag (NIB.STAT.EDGE_DROP g l) || s.flag (NIB.STAT.RANGE_DROP g l) || s.flag (NIB.STAT.STB_DROP g l)

/-- `NIBO[g].SUM` follows the slots (R493). -/
def State.showNibSum (s : State) (g : Nat) : State :=
  s.set (NIBO.SUM.FLAG g) (maskOf ((List.range 9).filter fun l => s.dropFlag g l || s.flag (NIB.STAT.CFG_ERR g l)))

/-- The detector of NIB_DROP follows the flags of the cores that serve a ball of the sector (R470). -/
def State.judgeNibDrop (s : State) (g : Nat) : State :=
  let s := s.showNibSum g
  let k := g / 8
  if (octetsOf k).any fun h => (List.range 8).any fun l => s.dropFlag h l then
    (if s.err.detector.contains (srcNibDrop k) then s else s.noticeHeld (srcNibDrop k))
  else s.quiet (srcNibDrop k)

/-- A dropped instant is flagged and counted (R464, R466, R467, R470). -/
def State.countDrop (s : State) (g l : Nat) (p : Pulse) (range : Bool) : State :=
  let s := if range then s.set (NIB.STAT.RANGE_DROP g l) 1
    else if p.eng < 4 then s.set (NIB.STAT.EDGE_DROP g l) 1 else s.set (NIB.STAT.STB_DROP g l) 1
  let s := if p.eng < 4 then s.bump (if range then NIB.DROP_EDGE.RANGE g l else NIB.DROP_EDGE.SPACING g l) 1
    else s.bump (if range then NIB.DROP_STB.RANGE g l else NIB.DROP_STB.SPACING g l) 1
  s.judgeNibDrop g

/-! ### Strobe results (R615 to R624) -/

/-- Does a strobe give a result? (R512, R615) -/
def Pulse.judged (p : Pulse) : Bool := decide (4 ≤ p.eng) && p.glyph ≠ gW && p.idx.isSome

/-- A strobe no longer waits: it has given its result, or it gives none. -/
def State.strobeGone (s : State) (g : Nat) (p : Pulse) : State :=
  if 4 ≤ p.eng && p.glyph = gW then s.wTaken g p.vec id
  else match p.idx with
  | some i => if p.judged then s.onInked (g / 8) i fun e => { e with strobes := e.strobes - 1 } else s
  | none => s

/-- The requested end of a strobe (R471, R474). -/
def State.strobeEnd (s : State) (g l : Nat) (p : Pulse) : Nat := max p.t p.close + s.get (NIB.DESKEW.CMP g l)

/-- A strobe result enters the vector result of its pin (R622, R623, R626); of a failing result the first in the order of
R465 is kept. -/
def Inked.result (e : Inked) (pin at_ : Nat) (p : Pulse) (pass : Bool) (code : Nat) (drop nosense : Bool) : Inked :=
  let e := { e with last := max e.last at_, nosense := if nosense then e.nosense ||| 2 ^ pin else e.nosense }
  if pass then { e with pass := e.pass ||| 2 ^ pin }
  else
    let f : FirstFail := { pin := pin, instant := p.t, strobe := p.eng - 4, level := code, drop := drop }
    let first := match e.firsts.find? (·.pin = pin) with
      | some x => if decide (f.instant < x.instant) || (f.instant = x.instant && decide (f.strobe < x.strobe)) then f else x
      | none => f
    { e with fail := e.fail ||| 2 ^ pin, drop := if drop then e.drop ||| 2 ^ pin else e.drop
             firsts := (e.firsts.filter (·.pin ≠ pin)) ++ [first] }

/-- A result of a ball's strobe: in MEASURE it counts in the tally (R728), in RUN it enters the vector result. A strobe
under W gives none. -/
def State.strobeResult (s : State) (g l : Nat) (p : Pulse) (pass : Bool) (code : Nat) (drop : Bool) : State :=
  if 4 ≤ p.eng && p.glyph = gW then s.strobeGone g p
  else match p.idx with
  | some i =>
    if p.judged then
      (s.onInked (g / 8) i fun e => e.result (8 * (g % 8) + l) (s.strobeEnd g l p) p pass code drop (s.noSense g l)).strobeGone g p
    else s
  | none => s.bump (if pass then MSR.TALLY.PASS g l else MSR.TALLY.FAIL g l) 1

/-! ### Placing (R464 to R469) -/

/-- The first waiting instant of a ball is placed or dropped; `begun` is the latest vector begun at the balls. -/
def State.settleOne (s : State) (g l begun : Nat) (p : Pulse) : State :=
  let b := s.ball g l
  let b := { b with waiting := b.waiting.tail }
  let range := decide (p.vec + 4 ≤ begun)
  let close (last : Option Nat) : Bool := match last with | some t => decide (p.t < t + 246) | none => false
  let spacing := if p.eng < 4 then close b.lastDrive else close (b.lastStb.getD (p.eng - 4) none)
  if range || spacing then
    let s := (s.setBall g l b).countDrop g l p range
    let s := if p.de = some true && b.readied = some p.vec then s.set (STK.STAT.TURN_CLASH g l) 1 else s
    if 4 ≤ p.eng then s.strobeResult g l p false 0 true else s
  else
    let b := { b with placed := b.placed ++ [p] }
    s.setBall g l (if p.eng < 4 then { b with lastDrive := some p.t }
      else { b with lastStb := b.lastStb.set (p.eng - 4) (some (max p.t p.close)) })

/-- Waiting instants before an instant are settled, in order. -/
def State.settleLane (s : State) (g l begun till : Nat) : Nat → State
  | 0 => s
  | n + 1 =>
    match (s.ball g l).waiting with
    | p :: _ => if p.t < till then (s.settleOne g l begun p).settleLane g l begun till n else s
    | [] => s

/-- Every instant of the octet before an instant is settled. -/
def State.settle (s : State) (g begun till : Nat) : State :=
  s.each (List.range 8) fun s l => s.settleLane g l begun till ((s.ball g l).waiting.length)

/-- Instants at or after the end of the last vector are discarded (R469). -/
def State.discardTail (s : State) (g : Nat) : State :=
  s.each (List.range 8) fun s l =>
    let b := s.ball g l
    if b.waiting.isEmpty then s
    else
      let s := (s.setBall g l { b with waiting := [] }).set (NIB.STAT.TAIL g l) 1
      s.each b.waiting fun s p => s.strobeGone g p

/-! ### Boundaries (R420, R429) -/

/-- The line inked at `i` reaches the pace octet's balls at V: its time tag, and what SAFE, COAST and the classes are
there (R636), its mark, its event outputs; vector 0 begins the records (R338, R635, R679, R681). -/
def State.beginLine (s : State) (k i v : Nat) : State :=
  let aged := (List.range 8).foldl (fun m o => m + s.agedLanes (8 * k + o) * 2 ^ (8 * o)) 0
  let s := s.onInked k i fun e => { e with v := v, safe := s.inSafe k, coast := s.clk.coasting, aged := aged }
  let s := if i = 0 then (s.margBegin k v).blotLive k v else s
  let s := match (s.scribe k).sigs.find? (·.1 = i) with
    | some e => (s.oweEdges e.2 v).onScribe k fun c => { c with sigs := c.sigs.filter (·.1 ≠ i) }
    | none => s
  match (s.scribe k).inked.find? (·.idx = i) with
  | some e => if lnOp e.bits = opMark && !e.early then s.blotPattern k v 0 (lnEvt e.bits) (lnOperand e.bits) 0 0 else s
  | none => s

/-- A vector begins at the balls at V (R420, R455): its instants wait to be placed; at the pace octet its line gets its
time tag. -/
def State.beginVector (s : State) (g n b : Nat) : State :=
  let o := s.oct g
  let v := dotOf b
  match o.vectors.find? (·.n = n) with
  | none => s
  | some t =>
    let k := g / 8
    let s := s.each t.pulses fun s q =>
      let p := { q.2 with t := q.2.t + v, close := if 4 ≤ q.2.eng then q.2.close + v else 0 }
      let s := s.onBall g q.1 fun ball => { ball with waiting := insertPulse p ball.waiting }
      match p.idx with
      | some i => if p.judged then s.onInked k i fun e => { e with strobes := e.strobes + 1 } else s
      | none => s
    let ws := (t.pulses.filter fun q => decide (4 ≤ q.2.eng) && q.2.glyph = gW).length
    let idx := t.idx.getD 0
    let s := s.onOct g fun o => { o with
      recent := ({ vec := n, v := v, idx := idx, gate := t.gate } :: o.recent).take 16
      wsets := if ws = 0 then o.wsets else o.wsets ++ [{ vec := n, v := v, idx := idx, gate := t.gate, left := ws }] }
    match t.idx with
    | some i => if g = s.paceOctet k then s.beginLine k i v else s
    | none => s

/-- A vector ends at the balls (R420, R623). -/
def State.endVector (s : State) (g n b : Nat) : State :=
  let o := s.oct g
  let e := dotOf b
  match o.vectors.find? (·.n = n) with
  | none => s
  | some t =>
    let k := g / 8
    let s := s.onOct g fun o => { o with vectors := o.vectors.filter (·.n ≠ n) }
    match t.idx with
    | some i =>
      let s := s.onMarg k fun m => { m with endFlags := s.tagFlags k }
      (s.onInked k i fun x => { x with vectors := x.vectors - 1, last := max x.last e }).onScribe k fun c => { c with lastEnd := max c.lastEnd e }
    | none => s

/-- The next boundary of an octet, and the change that the vector now beginning ends with (R417, R429, R430). -/
def State.nextBoundary (s : State) (g begun b : Nat) : State :=
  let o := s.oct g
  match o.changes.find? (·.1 = begun) with
  | some (_, e) =>
    let target := b + s.period g o.entry
    let m := s.boundaryNo g e target
    let next := s.boundaryAt g e m
    s.onOct g fun o => { o with entry := e, m := m, next := next, changes := o.changes.filter (·.1 ≠ begun)
                                effect := some (e, dotOf next - dotOf target) }
  | none => s.onOct g fun o => { o with m := o.m + 1, next := s.boundaryAt g o.entry (o.m + 1) }

/-- A boundary of an octet: one vector crosses the ink line, unless the octet inks no more; the vector that crossed 12
boundaries ago begins at the balls, and the one before it ends. -/
def State.octetStep (s : State) (g : Nat) (line : Option Taken) : State :=
  let s := s.applyBatches g
  let o := s.oct g
  let b := o.next
  let n := o.count
  let s := s.onOct g fun o => { o with count := n + 1 }
  let s := match line with
    | some t =>
      let s := s.formVector g { t with n := n }
      if o.wait.isEmpty then s else s.onOct g fun o => { o with batches := o.batches ++ [(n, o.wait)], wait := [] }
    | none => s
  let s := if 13 ≤ n then s.endVector g (n - 13) b else s
  let s := if 12 ≤ n then s.beginVector g (n - 12) b else s
  let last := !(s.oct g).vectors.any fun t => decide (n - 12 ≤ t.n)
  if (s.oct g).isOver && last then
    let s := s.discardTail g
    let s := s.levelEnd g
    let s := s.onOct g fun o => { o with running := false, vectors := [], changes := [], effect := none }
    ((s.set (PER.STAT.RUNNING g) 0).set (PER.STAT.CHANGE_PEND g) 0).set (PER.STAT.NEXT_PT g) (s.get (PER.STAT.CUR_PT g)) |>.feBoundary g
  else
    let s := if 12 ≤ n then s.nextBoundary g (n - 12) b
      else s.onOct g fun o => { o with m := o.m + 1, next := s.boundaryAt g o.entry (o.m + 1) }
    (s.settle g (n - 12) (dotOf (s.oct g).next)).feBoundary g

end Sys2Proof.Machine
end

