-- ==== Sys2Proof/Machine/Store.lean ====
section
/-! DEFINITION. The commands of the pattern store and of the sector stores (R244 to R299, R875, R880, R915 to R950). -/

namespace Sys2Proof.Machine
open Reg

/-- A BAR2 read is answered. -/
def State.bar2Answer (s : State) (off n : Nat) (poisoned : Bool) : State :=
  { s with answer := { bytes := s.bar2Bytes off n, poisoned := poisoned } }

/-- Free bytes, where the spec gives a read's contents no meaning (R919, R926). -/
def State.freeBytes (s : State) (n : Nat) (poisoned : Bool) : State :=
  let r := s.fresh
  { r.2 with answer := { bytes := leBytes n r.1, poisoned := poisoned } }

/-- Which port of bank 0 the host uses: A as owner, B as guest (R925). -/
def State.hostIsGuest (s : State) (k b : Nat) : Bool := b = 0 && s.owner k b ≠ owHost && s.get (SS.GUEST.CODE k) = owHost

/-- A host read of a sector store (R919, R926, R935, R936, R1086). -/
def State.storeRead (s : State) (k b off n : Nat) (e : MemErr) (m : Meeting) : State :=
  if s.modeOf k = mOff then { s.hostAccess 1 1 off with answer := { bytes := List.replicate n 0 } }
  else if s.owner k b = owTest then s.freeBytes n false
  else if s.owner k b = owNone then { s.hostAccess 1 1 off with answer := { bytes := List.replicate n 0 } }
  else if b = 0 && m = .write then
    if s.hostIsGuest k b then (s.set (SS.STAT.BUSY_B k) 1).bar2Answer off n false
    else (((s.set (SS.STAT.DP_UNDEF k) 1).set (SS.STAT.BUSY_B k) 1).raise (srcSsDpUndef k)).freeBytes n true
  else (s.memError e).bar2Answer off n (s.readBad off n e)

/-- BAR2_READ (R245 to R247, R284, R848, R849, R919, R1004): `n` bytes from an offset. -/
def execBar2Read (off : BitVec 36) (n : BitVec 13) (e : MemErr) (m : Meeting) (s : State) : Host.Outcome State Fault Refusal :=
  if !s.host.linkUp then .next s
  else
    let s := s.wake 4
    let off := off.toNat
    match regionOf off with
    | .reserved => .next { s.hostAccess 1 1 off with answer := { bytes := List.replicate n.toNat 0 } }
    | .stack _ _ =>
      let bad := s.readBad off n.toNat e
      .next ((s.poisonRead off n.toNat e).bar2Answer off n.toNat bad)
    | .store k b _ => .next (s.storeRead k b off n.toNat e m)

/-- A host write of a sector store (R919, R926, R1086). -/
def State.storeWrite (s : State) (k b off : Nat) (data : List (Option Byte)) (m : Meeting) : State :=
  let o := s.owner k b
  if s.modeOf k = mOff then s.discardWrite off
  else if s.hostIsGuest k b then
    if m = .write then s.set (SS.STAT.WRITE_LOST k) 1
    else
      let s := s.bar2Puts off data
      if m = .read then ((s.set (SS.STAT.BUSY_B k) 1).set (SS.STAT.DP_UNDEF k) 1).raise (srcSsDpUndef k) else s
  else if o = owHost then
    let s := s.bar2Puts off data
    if b = 0 && m = .write then s.set (SS.STAT.WRITE_LOST k) 1
    else if b = 0 && m = .read then s.set (SS.STAT.BUSY_B k) 1
    else s
  else if isChannel o then
    if s.channelIdle (o - 0x20) then s.bar2Puts off data
    else { s with mem := { s.mem with held := s.mem.held ++ [{ off := off, data := data, tick := s.tick }] } }
  else s.discardWrite off

/-- A host write of BAR2, in pieces of one 32-byte word (R246, R247, R252, R873). -/
def State.bar2Write (s : State) (off : Nat) (data : List (Option Byte)) (e : MemErr) (m : Meeting) : State :=
  s.each (wordPieces (data.length + 1) off data) fun s p =>
    match regionOf p.1 with
    | .reserved => s.hostAccess 1 1 p.1
    | .stack w a =>
      match s.lockedBy w a with
      | some k => s.set (PS.RA_STAT.WLOCK k) 1
      | none => s.stackWordWrite p.1 p.2 e
    | .store k b _ => s.storeWrite k b p.1 p.2 m

/-- BAR2_WRITE (R247, R252, R919, R1004): the bytes from an offset, none where a byte enable is 0. -/
def execBar2Write (off : BitVec 36) (data : List (Option Byte)) (e : MemErr) (m : Meeting) (s : State) : Host.Outcome State Fault Refusal :=
  if s.host.linkUp then .next ((s.wake 4).bar2Write off.toNat data e m) else .next s

/-- Does a sector's state forbid a window write? (R250) -/
def State.windowBusy (s : State) (k : Nat) : Bool := s.flag (PS.RESV.HELD k) || s.modeOf k = mRun || s.modeOf k = mMeasure

/-- Do windows of a sector fit its stack, one another and the wing's other sectors? (R248, R249) -/
def State.windowsFit (s : State) (k : Nat) (ws : List (Nat × Nat)) : Bool :=
  ws.all (fun w => decide (w.1 + w.2 ≤ 384))
    && (List.range 3).all (fun i => (List.range 3).all fun j => i = j || !overlaps (ws.getD i (0, 0)) (ws.getD j (0, 0)))
    && ((sectorsOf (wingOf k)).filter (· ≠ k)).all fun j => (List.range 3).all fun i => ws.all fun w => !overlaps w (s.window j i)

/-- A window register written. -/
def State.setWindow (s : State) (k i : Nat) (w : Nat × Nat) : State :=
  match i with
  | 0 => (s.set (PS.VEC_WIN.BASE k) w.1).set (PS.VEC_WIN.SIZE k) w.2
  | 1 => (s.set (PS.FAIL_WIN.BASE k) w.1).set (PS.FAIL_WIN.SIZE k) w.2
  | _ => (s.set (PS.CAP_WIN.BASE k) w.1).set (PS.CAP_WIN.SIZE k) w.2

/-- A write of a window register (R248 to R250). -/
def State.windowWrite (s : State) (k i v : Nat) : State :=
  let w := (v % 512, v / 2 ^ 16 % 512)
  let ws := (List.range 3).map fun j => if j = i then w else s.window k j
  if s.windowBusy k || !s.windowsFit k ws then s.set (PS.RA_STAT.CFG_ERR k) 1 else s.setWindow k i w

/-- PS_WINDOW_WRITE (R71, R248 to R250): window 0 vector, 1 fail, 2 capture. -/
def execPsWindowWrite (k : Sector) (i : Fin 3) (v : Word) (s : State) : Host.Outcome State Fault Refusal :=
  .next (s.whileOn k (PS.VEC_WIN.reg k + 4 * i) fun s => s.windowWrite k i v.toNat)

/-- A write of RA_CFG (R261, R262, R921, R922). -/
def State.raCfgWrite (s : State) (k v : Nat) : State :=
  let banks := v % 2 ^ 16
  let res := v / 2 ^ 16 % 2 ^ 16
  let refuse := s.set (PS.RA_STAT.CFG_ERR k) 1
  if s.modeOf k = mRun || banks.testBit 0 || banks &&& res ≠ res || banks = res then refuse
  else
    match s.renameBanks k owScribe (s.get (PS.RA_CFG.BANKS k)) banks with
    | none => refuse
    | some s => (s.set (PS.RA_CFG.BANKS k) banks).set (PS.RA_CFG.RES k) res

/-- RA_CFG_WRITE (R71, R261, R262). -/
def execRaCfgWrite (k : Sector) (v : Word) (s : State) : Host.Outcome State Fault Refusal :=
  .next (s.whileOn k (PS.RA_CFG.reg k) fun s => s.raCfgWrite k v.toNat)

def State.cache (s : State) (k : Nat) : Cache := Tab.get (fun _ => {}) s.mem.caches k

/-- A cache replaced, with the registers that show it (R292). -/
def State.setCache (s : State) (k : Nat) (c : Cache) : State :=
  let lead := (c.groups.filter fun e => e.2.arrived).length
  let s := { s with mem := { s.mem with caches := Tab.put (fun _ => {}) s.mem.caches k c } }
  (s.set (PS.RA_STAT.CREDIT k) (c.credit / 8)).set (PS.RA_STAT.LEAD k) (min 8191 lead)

/-- Does the Scribe of a sector prime or run? -/
def State.scribeBusy (s : State) (k : Nat) : Bool := s.get (SCRIBE.STAT.STATE k) ≠ 0

/-- FETCH_ISSUE (R260, R264, R266, R267): the fetch path reaches line group `g`, inside the body of a resident loop or not;
`again` names an uncorrectable word of the sector store that holds its copy (R936). -/
def execFetchIssue (k : Sector) (g : Nat) (body : Option Nat) (again : MemErr) (s : State) : Host.Outcome State Fault Refusal :=
  if !s.scribeBusy k then .next s
  else
    let s := s.memError again
    let c := s.cache k
    let lost := match again with | .uncorrectable _ _ => true | _ => false
    match c.groups.find? fun e => decide (e.1 = g) with
    | some e =>
      if lost then
        if 32 ≤ c.credit then
          .next (s.setCache k { c with credit := c.credit - 32, groups := Tab.put (fun _ => { uses := 0 }) c.groups g { e.2 with arrived := false, bad := 0 } })
        else .next (s.setCache k { c with groups := c.groups.erase g })
      else .next (s.setCache k { c with groups := Tab.put (fun _ => { uses := 0 }) c.groups g { e.2 with uses := e.2.uses + 1 } })
    | none =>
      if 32 ≤ c.credit then
        .next (s.setCache k { c with credit := c.credit - 32, groups := Tab.put (fun _ => { uses := 0 }) c.groups g { body := body } })
      else .next s

/-- FETCH_COMPLETE (R267, R283, R284): a line group arrives; an uncorrectable or poisoned word marks it. -/
def execFetchComplete (k : Sector) (g : Nat) (e : MemErr) (s : State) : Host.Outcome State Fault Refusal :=
  let r := s.transfer (sectorLink k 0)
  if !r.1 then .next r.2
  else
    let s := r.2
    let c := s.cache k
    match c.groups.find? fun x => decide (x.1 = g ∧ x.2.arrived = false) with
    | none => .next s
    | some x =>
      let off := s.lineOff k (4 * g)
      let bad := maskOf ((List.range 4).filter fun i => s.readBad (off + 40 * i) 40 e)
      .next ((s.poisonRead off 160 e).setCache k { c with groups := Tab.put (fun _ => { uses := 0 }) c.groups g { x.2 with arrived := true, bad := bad } })

/-- STACK_TEMP_READ (R118, R285, R296): a stack's temperature in °C. -/
def execStackTempRead (w : Wing) (t : BitVec 8) (s : State) : Host.Outcome State Fault Refusal :=
  if s.flag (PSC.LINK.TRAINED w) then
    let s := (s.set (PSC.LINK.TEMP w) t.toNat).setB (PSC.LINK.REFRESH_X2 w) (decide (85 < t.toNat))
    if 95 < t.toNat then .next ((s.set (PSC.STAT.HOT w) 1).noticeHeld (srcPsHot w)) else .next (s.quiet (srcPsHot w))
  else .next s

/-! ### Admission -/

/-- Ceiling of a data rate in 0.25 GB/s (R270). -/
def ceilingOf (rate : Nat) : Nat :=
  match rate with
  | 4 => 1955
  | 3 => 1710
  | 2 => 1466
  | 1 => 1221
  | _ => 0

/-- A quotient rounded up. -/
def ceilDiv (a b : Nat) : Nat := (a + b - 1) / b

/-- V + F + K of a request in 0.25 GB/s (R271). -/
def resvUnits (floor : Nat) (fail : Bool) (cap : Nat) : Nat :=
  ceilDiv (240 * 2 ^ 32) floor + (if fail then ceilDiv (96 * 2 ^ 32) floor else 0) + cap

/-- PAT_ADMIT, command 0x101 (R271 to R273, R276). -/
def execPatAdmit (s : State) : Host.Outcome State Fault Refusal :=
  match s.start 0x101 with
  | none => .next s
  | some (p, s) =>
    let k := p.arg 0
    let fail := decide (p.arg 1 ≠ 0)
    let cap := p.arg 2
    let lines := p.arg 3
    let floor := p.arg 4
    if k < 8 && (s.flag (PS.RESV.HELD k) || !(s.modeOf k = mStandby || s.modeOf k = mSetup)) then .next (s.reply p stBusy [])
    else if 8 ≤ k || 2 ≤ p.arg 1 || floor < 2 ^ 32 || 2 ^ 48 ≤ floor || 64 < cap || (fail && (s.window k 1).2 = 0) || (cap ≠ 0 && (s.window k 2).2 = 0) then
      .next (s.reply p stBadParam [])
    else
      let w := wingOf k
      let u := resvUnits floor fail cap
      let total := s.get (PSC.LEDGER.TOTAL w)
      let ceil := s.get (PSC.LEDGER.CEIL w)
      let limit := s.lineLimit k
      if ceil < total + u || limit < lines then
        .next (s.reply p stCapacity [(16, total + u - ceil), (16, ceil), (16, total), (32, lines - limit)])
      else
        let s := s.set (PSC.LEDGER.TOTAL w) (total + u)
        let s := ((s.set (PS.RESV.HELD k) 1).setB (PS.RESV.FAIL_ON k) fail).set (PS.RESV.CAP_BUDGET k) cap
        let s := s.set (PS.RESV.FLOOR k) (min 0xFFFF (floor / 2 ^ 24))
        let s := { s with mem := { s.mem with resv := Tab.put (fun _ => {}) s.mem.resv k { units := u, floor := floor } } }
        .next (s.reply p stDone [(16, total + u)])

/-- A reservation is released (R274). -/
def State.releaseResv (s : State) (k : Nat) : State :=
  if s.flag (PS.RESV.HELD k) then
    let u := (Tab.get (fun _ => {}) s.mem.resv k).units
    let w := wingOf k
    let s := (s.set (PSC.LEDGER.TOTAL w) (s.get (PSC.LEDGER.TOTAL w) - u)).wr (PS.RESV.reg k) 0
    { s with mem := { s.mem with resv := s.mem.resv.erase k } }
  else s

/-- PAT_RELEASE, command 0x102 (R274). -/
def execPatRelease (s : State) : Host.Outcome State Fault Refusal :=
  match s.start 0x102 with
  | none => .next s
  | some (p, s) =>
    let k := p.arg 0
    if k < 8 && s.active3 k then .next (s.reply p stBusy [])
    else if 8 ≤ k then .next (s.reply p stBadParam [])
    else
      let s := s.releaseResv k
      .next (s.reply p stDone [(16, s.get (PSC.LEDGER.TOTAL (wingOf k)))])

/-- PS_HOST_RES, command 0x103 (R275). -/
def execPsHostRes (s : State) : Host.Outcome State Fault Refusal :=
  match s.start 0x103 with
  | none => .next s
  | some (p, s) =>
    let w := p.arg 0
    let h := p.arg 1
    if 2 ≤ w || h < 32 || 224 < h || 256 < h + s.get (PSC.HOST_RES.H (1 - w)) then .next (s.reply p stBadParam [])
    else
      let total := s.get (PSC.LEDGER.TOTAL w) - s.get (PSC.HOST_RES.H w) + h
      if s.get (PSC.LEDGER.CEIL w) < total then .next (s.reply p stCapacity [])
      else .next (((s.set (PSC.HOST_RES.H w) h).set (PSC.LEDGER.TOTAL w) total).reply p stDone [(16, total)])

/-- PS_WINDOWS, command 0x104 (R71, R248 to R250, R875): all three windows or none. -/
def execPsWindows (s : State) : Host.Outcome State Fault Refusal :=
  match s.start 0x104 with
  | none => .next s
  | some (p, s) =>
    let k := p.arg 0
    let ws := [(p.arg 1, p.arg 2), (p.arg 3, p.arg 4), (p.arg 5, p.arg 6)]
    if k < 8 && (s.modeOf k = mOff || s.windowBusy k) then .next (s.reply p stBusy [])
    else if 8 ≤ k || !s.windowsFit k ws then .next (s.reply p stBadParam [])
    else .next (((List.range 3).foldl (fun s i => s.setWindow k i (ws.getD i (0, 0))) s).reply p stDone [])

/-- PS_STATUS, command 0x106 (R875). -/
def execPsStatus (s : State) : Host.Outcome State Fault Refusal :=
  match s.start 0x106 with
  | none => .next s
  | some (p, s) =>
    let w := p.arg 0
    if 2 ≤ w then .next (s.reply p stBadParam [])
    else .next (s.reply p stDone ([PSC.LEDGER.reg w, PSC.HOST_RES.reg w, PSC.LINK.reg w, PSC.STAT.reg w].map fun a => (32, (s.rd a).toNat)))

/-! ### Owners and self-test -/

/-- A write of `SS[s].BANK[b]` (R921, R922, R930). -/
def State.bankWrite (s : State) (k b code : Nat) : State :=
  let o := s.owner k b
  if (code = owHost || isChannel code) && !s.flag (SS.BANK.PENDING k b) && !s.flag (SS.BANK.BIST k b)
      && (o = owHost || o = owLectern || isChannel o) then s.passBank k b code
  else s.set (SS.STAT.OWN_ERR k) 1

/-- SS_BANK_WRITE (R71, R921, R922, R946). -/
def execSsBankWrite (k : Sector) (b : Fin 16) (code : BitVec 8) (s : State) : Host.Outcome State Fault Refusal :=
  .next (s.whileOn k (SS.BANK.reg k b) fun s => s.bankWrite k b code.toNat)

/-- A write of `SS[s].GUEST` (R925). -/
def State.guestWrite (s : State) (k code : Nat) : State :=
  if code ≠ s.owner k 0 && (code = owHost || code = owLectern || isChannel code || code = 0xFF) then s.set (SS.GUEST.CODE k) code
  else s.set (SS.STAT.OWN_ERR k) 1

/-- SS_GUEST_WRITE (R71, R925, R947). -/
def execSsGuestWrite (k : Sector) (code : BitVec 8) (s : State) : Host.Outcome State Fault Refusal :=
  .next (s.whileOn k (SS.GUEST.reg k) fun s => s.guestWrite k code.toNat)

/-- BANK_HANDOVER_DONE (R923): the old owner's accesses have completed. Held host writes that the new owner allows are
served, and a halt that waits for the section takes effect (R1043). -/
def execBankHandoverDone (k : Sector) (b : Fin 16) (s : State) : Host.Outcome State Fault Refusal :=
  let key := 16 * k.val + b.val
  let n := Tab.get (fun _ => 0) s.mem.next key
  if n = 0 then .next s
  else
    let s := { s with mem := { s.mem with next := s.mem.next.erase key } }
    .next (((s.set (SS.BANK.PENDING k b) 0).set (SS.BANK.OWNER k b) (n - 1)).flushHeld.haltDue)

/-- HOST_WRITE_HOLD_TIMEOUT (R919, R945): the oldest held write has waited 100 µs. -/
def execHostWriteHoldTimeout (s : State) : Host.Outcome State Fault Refusal :=
  let s := s.flushHeld
  match s.mem.held with
  | [] => .next s
  | w :: t =>
    if w.tick + usTicks 100 ≤ s.tick then .next (State.discardWrite { s with mem := { s.mem with held := t } } w.off) else .next s

/-- A bank fails (R934, R945). -/
def State.failBank (s : State) (k b : Nat) : State :=
  let s := if s.flag (SS.BANK.PENDING k b) then (s.set (SS.BANK.PENDING k b) 0).set (SS.STAT.OWN_ERR k) 1 else s
  let s := { s with mem := { s.mem with next := s.mem.next.erase (16 * k + b) } }
  let s := ((s.set (SS.BANK.OWNER k b) owNone).set (SS.BANK.FAILED k b) 1).set (SS.BANK.BIST k b) 0
  let keep (n : Nat) : Nat := n - (n &&& 2 ^ b)
  let s := (s.set (PS.RA_CFG.BANKS k) (keep (s.get (PS.RA_CFG.BANKS k)))).set (PS.RA_CFG.RES k) (keep (s.get (PS.RA_CFG.RES k)))
  let s := s.set (MARG.BUF.BANKS k) (keep (s.get (MARG.BUF.BANKS k)))
  (s.wear fun g => { g with bankFailed := insertNew (16 * k + b) g.bankFailed }).raise (srcSsBankFail k)

/-- Spare columns that a bank has left (R917, R933). -/
def State.spares (s : State) (k b : Nat) : Nat :=
  4 - (Tab.get (fun _ => 0) s.nvm.colFuse (16 * k + b) + (Tab.get (fun _ => []) s.vault.ledger.colSoft (16 * k + b)).length)

/-- The registers that show a bank's repairs (R950). -/
def State.showRepair (s : State) (k b : Nat) : State :=
  let key := 16 * k + b
  ((s.set (SS.REPAIR.SOFT k b) (Tab.get (fun _ => []) s.vault.ledger.colSoft key).length).set (SS.REPAIR.FUSE k b)
    (Tab.get (fun _ => 0) s.nvm.colFuse key)).set (SS.REPAIR.CAND k b) (min 15 (Tab.get (fun _ => []) s.vault.ledger.colCand key).length)

/-- A soft repair of the first candidate column of a bank (R933). -/
def State.repairColumn (s : State) (k b e : Nat) : State :=
  let key := 16 * k + b
  let s := s.wear fun g => { g with
    colSoft := Tab.put (fun _ => []) g.colSoft key (Tab.get (fun _ => []) g.colSoft key ++ [e / 2])
    colCand := Tab.put (fun _ => []) g.colCand key ((Tab.get (fun _ => []) g.colCand key).filter (· ≠ e)) }
  let s := s.showRepair k b
  if s.vault.room 1 then s.append colColumnRepair 3 (k + b * 2 ^ 4 + e / 2 % 512 * 2 ^ 8 + e % 2 * 2 ^ 17 + s.spares k b * 2 ^ 18)
  else s.set (SS.STAT.LOG_SKIP k) 1

/-- The bytes of a bank become zero (R927). -/
def State.clearBank (s : State) (k b : Nat) : State :=
  let lo := storesBase + k * 0x800000 + b * 0x80000
  { s with mem := { s.mem with mem := s.mem.mem.filter fun e => !(decide (lo ≤ e.1) && decide (e.1 < lo + 0x80000)) } }

def State.bistOf (s : State) (k : Nat) : Bist := Tab.get (fun _ => {}) s.mem.bist k
def State.setBist (s : State) (k : Nat) (t : Bist) : State :=
  let s := { s with mem := { s.mem with bist := Tab.put (fun _ => {}) s.mem.bist k t } }
  s.set (SS.STAT.BIST_LEFT k) (s.bistLeft k)

/-- A self-test of banks begins; each returns to the owner given (R927, R929). -/
def State.startBist (s : State) (k mask : Nat) (owners : List (Nat × Nat)) (job : Bool) : State :=
  let run := (bitsOf 16 mask).filter fun b => !(s.vault.ledger.bankFailed.contains (16 * k + b)) || s.lifecycle = 3
  let s := s.each run fun s b =>
    let s := { s with mem := { s.mem with next := s.mem.next.erase (16 * k + b) } }
    ((s.set (SS.BANK.PENDING k b) 0).set (SS.BANK.BIST k b) 1).set (SS.BANK.OWNER k b) owTest
  s.setBist k { banks := maskOf run, pass := 1, named := mask, owners := owners, job := job }

/-- A bank's test ends without a failure: it holds zero and returns to its owner (R927). -/
def State.endBankTest (s : State) (k b : Nat) : State :=
  let t := s.bistOf k
  let back := ((t.owners.find? fun e => e.1 = b).map (·.2)).getD owHost
  let back := if back = owNone then owHost else back
  let s := (s.clearBank k b).wear fun g => { g with bankFailed := g.bankFailed.filter (· ≠ 16 * k + b) }
  let s := ((s.set (SS.BANK.BIST k b) 0).set (SS.BANK.FAILED k b) 0).set (SS.BANK.OWNER k b) back
  let t := s.bistOf k
  s.setBist k { t with banks := t.banks - (t.banks &&& 2 ^ b), passed := t.passed ||| 2 ^ b }

/-- The repairs of a bank after its fourth pass (R927, R933, R934): it fails where spares run out, or runs a fifth
pass. -/
def State.repairBank (s : State) (k b : Nat) : State :=
  let cand := Tab.get (fun _ => []) s.vault.ledger.colCand (16 * k + b)
  let n := min cand.length (s.spares k b)
  let s := s.each (cand.take n) fun s e => s.repairColumn k b e
  let t := s.bistOf k
  let s := s.setBist k { t with repaired := t.repaired + n }
  if n < cand.length then
    let t := s.bistOf k
    (s.setBist k { t with banks := t.banks - (t.banks &&& 2 ^ b) }).failBank k b
  else s

/-- The test of a sector has ended in every bank: STORE_BIST replies (R929). -/
def State.endBist (s : State) (k : Nat) : State :=
  let t := s.bistOf k
  if t.banks = 0 then
    let s := s.setBist k {}
    if t.job then
      match s.findJob fun j => decide (j.packet.opcode = 0x607 ∧ j.packet.arg 0 = k) with
      | some j => s.endJob j (if t.passed &&& t.named = t.named then stDone else stDoneReduced) [(16, t.passed), (16, t.repaired)]
      | none => s
    else s
  else s

/-- BIST_PASS_END (R927, R932 to R934): a pass ends, with the columns that failed in it. -/
def execBistPassEnd (k : Sector) (fails : List (Fin 16 × BitVec 9)) (s : State) : Host.Outcome State Fault Refusal :=
  let t := s.bistOf k
  if t.banks = 0 then .next s
  else
    let s := s.each fails fun s e => if t.banks.testBit e.1 then s.colCandidate k e.1 e.2.toNat 1 else s
    if t.pass < 4 then .next (s.setBist k { t with pass := t.pass + 1 })
    else if t.pass = 4 then
      let needs := (bitsOf 16 t.banks).filter fun b => !(Tab.get (fun _ => []) s.vault.ledger.colCand (16 * k.val + b)).isEmpty
      let good := (bitsOf 16 t.banks).filter fun b => !needs.contains b
      let s := (s.each good fun s b => s.endBankTest k b).each needs fun s b => s.repairBank k b
      .next (State.endBist (s.setBist k { s.bistOf k with pass := 5 }) k)
    else
      let s := s.each (bitsOf 16 t.banks) fun s b =>
        if !(Tab.get (fun _ => []) s.vault.ledger.colCand (16 * k.val + b)).isEmpty && s.spares k b = 0 then
          let t := s.bistOf k
          (s.setBist k { t with banks := t.banks - (t.banks &&& 2 ^ b) }).failBank k b
        else s.endBankTest k b
      .next (s.endBist k)

/-- STORE_BIST, command 0x607 (R880, R928 to R930). -/
def execStoreBist (s : State) : Host.Outcome State Fault Refusal :=
  match s.start 0x607 with
  | none => .next s
  | some (p, s) =>
    let k := p.arg 0
    let mask := p.arg 1
    let busy := k < 8 && (s.modeOf k = mOff || s.active3 k
      || (bitsOf 16 mask).any fun b => s.flag (SS.BANK.PENDING k b) || (isChannel (s.owner k b) && !s.channelIdle (s.owner k b - 0x20)))
    if busy then .next (s.reply p stBusy [])
    else if k < 8 && decide ((s.bistOf k).banks &&& mask ≠ 0) then .next (s.reply p stSelftest [(32, s.bistLeft k)])
    else if 8 ≤ k || mask = 0 then .next (s.reply p stBadParam [])
    else
      let owners := (bitsOf 16 mask).map fun b => (b, s.owner k b)
      .next (State.endBist ((s.addJob p 0 0).startBist k mask owners true) k)

/-- REQUEST_URGENT (R51, R872, R899, R938): a waiting request of class P0 to P3, control (4) or P4 (5) passes its
threshold; one of class P3 is a delay of the command or channel that it belongs to. -/
def execRequestUrgent (cls : Fin 6) (who : Requester) (s : State) : Host.Outcome State Fault Refusal :=
  match who with
  | .other => .next s
  | .command r tag =>
    if cls = 3 then
      match s.findJob fun j => decide (j.packet.ring = r.val ∧ j.packet.tag = tag.toNat) with
      | some j => .next (s.updateJob j { j with delay := j.delay + 1 })
      | none => .next s
    else .next s
  | .channel c => if cls = 3 then .next (s.bump (CH.COUNTS.DELAY c) 1) else .next s

end Sys2Proof.Machine
end

