-- ==== Sys2Proof/Machine/Pencil.lean ====
section
/-! DEFINITION. Staged lines, the pencil slot and the items that holders see early (R373 to R414). -/

namespace Sys2Proof.Machine
open Reg

/-! ### Lines as the fetch engine and the Scribe see them -/

/-- The members of the ensemble that a sector acts in (R351). -/
def State.inEnsemble (s : State) (k : Nat) : Bool := decide (1 < (s.ensembleOf k).length)

/-- The other members of its ensemble. -/
def State.fellows (s : State) (k : Nat) : List Nat := (s.ensembleOf k).filter (· ≠ k)

/-- A line that is in the read-ahead cache (R260). -/
def State.cachedLine (s : State) (k pc : Nat) : Option Nat :=
  if s.lineLimit k ≤ pc then none
  else if (s.cache k).groups.any fun e => decide (e.1 = pc / 4) && e.2.arrived then some (s.lineBits k pc)
  else none

/-- A line marked uncorrectable in the cache (R284). -/
def State.lineBad (s : State) (k pc : Nat) : Bool := (s.cache k).groups.any fun e => decide (e.1 = pc / 4) && e.2.bad.testBit (pc % 4)

/-- The in-line continuation of a line in a sector: outside an ensemble ENSYNC acts as NEXT (R361). -/
def State.lineAfter (s : State) (k : Nat) (f : Flow) (w : Nat) : Flow :=
  if lnOp w = opEnsync && !s.inEnsemble k then f.goto (f.pc + 1) else f.after w

/-- Does a line of a sector name a sampled or compare decision? -/
def State.decides (s : State) (k w : Nat) : Bool := isDecision w && (lnOp w ≠ opEnsync || s.inEnsemble k)

/-- Does a track end at a line? (R265, R383) -/
def trackEnds (f : Flow) (w : Nat) : Bool := lnOp w = opHalt || lnIllegal w || (f.fault w).isSome

/-- Are the first `n` lines along a path in the cache, or those up to its end if fewer? (R265) -/
def State.pathReady (s : State) (k : Nat) : Nat → Flow → Bool
  | 0, _ => true
  | n + 1, f =>
    if s.lineLimit k ≤ f.pc then true
    else match s.cachedLine k f.pc with
      | none => false
      | some w => if trackEnds f w then true else s.pathReady k n (s.lineAfter k f w)

/-- The first decision line along a path whose lines are in the cache, with the flow there. -/
def State.nextDecision (s : State) (k : Nat) : Nat → Flow → Option (Flow × Nat)
  | 0, _ => none
  | n + 1, f =>
    match s.cachedLine k f.pc with
    | none => none
    | some w =>
      if s.decides k w then some (f, w) else if trackEnds f w then none else s.nextDecision k n (s.lineAfter k f w)

/-- The flow at the first line of the main track that is not yet being inked (R375). -/
def State.trackStart (s : State) (k : Nat) : Flow :=
  let c := s.scribe k
  if c.reps = 0 then c.flow else s.lineAfter k c.flow (s.lineBits k c.flow.pc)

/-! ### Registers -/

/-- Is the held track ready? (R382, R385) -/
def Pencil.ready (p : Pencil) : Bool := p.holder.isSome && (p.handed || decide (64 ≤ p.depth) || p.ended)

/-- `PEN[s].STAT` shows the slot (R411). -/
def State.showPen (s : State) (k : Nat) : State :=
  let p := (s.scribe k).pen
  ((((s.setB (PEN.STAT.SLOT k) p.holder.isSome).setB (PEN.STAT.READY k) p.ready).setB (PEN.STAT.PRED k) (p.holder.isSome && p.predAlt)).set
    (PEN.STAT.DEPTH k) p.depth).set (PEN.STAT.TAG k) p.tag

def State.setPen (s : State) (k : Nat) (p : Pencil) : State := (s.onScribe k fun c => { c with pen := p }).showPen k

/-! ### Items (R393 to R402) -/

/-- The vectors of a line (R315, R641). -/
def lineVectors (w : Nat) : Nat := if lnOp w = opRpt then max 1 (lnOperand w) else 1

/-- The announced lines of a sector. -/
def State.announced (s : State) (k : Nat) : List Staged :=
  ((s.scribe k).main ++ (s.scribe k).pen.track).filter (·.tag.isSome)

/-- `PEN[s].HELD_EVT` of a sector shows what the other members of its ensemble hold for it (R398). -/
def State.showHeld (s : State) (k : Nat) : State :=
  let codes := (s.fellows k).flatMap fun j => ((s.announced j).filter (·.held.testBit k)).map fun l => lnEvt l.bits
  s.each (List.range 8) fun s i => s.set (PEN.HELD_EVT.HELD k i) (maskOf ((codes.filter fun c => c / 32 = i).map (· % 32)))

/-- The holders follow the announced lines of a sector (R395). -/
def State.refreshHolders (s : State) (k : Nat) : State :=
  let l := s.announced k
  let fails := ((l.filter fun e => lnFailEn e.bits).map fun e => lineVectors e.bits).sum
  let marks := (l.filter fun e => lnOp e.bits = opMark).length
  (s.margPen k fails marks).each (s.fellows k) State.showHeld

/-- A line on the predicted track announces its items under a tag as it is staged (R393, R400). -/
def State.announceLine (s : State) (k tag at_ : Nat) (l : Staged) : State × Staged :=
  let l := { l with tag := some tag }
  if lnOp l.bits = opSig then
    (s, { l with held := s.get (EVT.ROUTE.SMASK (lnEvt l.bits)) &&& maskOf (s.fellows k) })
  else if lnOp l.bits = opMark && s.flag (PEN.CTL.EARLY_MARK k) && s.capturing k then
    let c := s.scribe k
    let e := (c.earlies.find? (·.tag = tag)).getD { tag := tag }
    let s := s.blotPattern k at_ bfPencilled (lnEvt l.bits) (lnOperand l.bits) tag e.total
    (s.onScribe k fun c => { c with earlies := (c.earlies.filter (·.tag ≠ tag)) ++ [{ e with total := e.total + 1 }] },
      { l with early := some e.total })
  else (s, l)

/-- The fate of a tag is decided as soon as its set is closed and all its early marks are inked (R401). -/
def State.judgeFate (s : State) (k tag at_ : Nat) : State :=
  match (s.scribe k).earlies.find? (·.tag = tag) with
  | some e =>
    if e.closed && e.inked = e.total then
      (s.onScribe k fun c => { c with earlies := c.earlies.filter (·.tag ≠ tag) }).blotFate k true tag e.inked at_
    else s
  | none => s

/-- The set of items announced under a tag closes (R397). -/
def State.closeTag (s : State) (k tag at_ : Nat) : State :=
  (s.onScribe k fun c => { c with earlies := c.earlies.map fun e => if e.tag = tag then { e with closed := true } else e }).judgeFate k tag at_

/-- An early mark is inked. -/
def State.earlyInked (s : State) (k tag at_ : Nat) : State :=
  (s.onScribe k fun c => { c with earlies := c.earlies.map fun e => if e.tag = tag then { e with inked := e.inked + 1 } else e }).judgeFate k tag at_

/-- Staged lines are erased: they are counted, and each tag with an early mark among them meets its fate (R401, R403 to
R405). The lines have left their track. -/
def State.eraseLines (s : State) (k at_ : Nat) (ls : List Staged) : State :=
  let s := s.bump (PEN.ERASED.LINES k) ls.length
  let tags := ((ls.filter (·.early.isSome)).filterMap (·.tag)).eraseDups
  let s := s.each tags fun s tag =>
    match (s.scribe k).earlies.find? (·.tag = tag) with
    | some e => (s.onScribe k fun c => { c with earlies := c.earlies.filter (·.tag ≠ tag) }).blotFate k false tag e.inked at_
    | none => s
  s.refreshHolders k

/-- Every staged line of the main track is erased. -/
def State.eraseMain (s : State) (k at_ : Nat) : State :=
  let ls := (s.scribe k).main
  (s.onScribe k fun c => { c with main := [], mainOn := false }).eraseLines k at_ ls

/-- The pencilled track is erased and the slot is free (R381, R403). -/
def State.erasePencil (s : State) (k at_ : Nat) : State :=
  let ls := (s.scribe k).pen.track
  (s.setPen k {}).eraseLines k at_ ls

/-! ### The slot -/

/-- A decision line that may take the slot: its address, its control word, its tag, and the flow at the start of its
alternative. -/
structure Candidate where
  pc : Nat
  w : Nat
  tag : Nat
  flow : Flow
deriving DecidableEq, Repr

/-- The slot held by a decision line, with nothing staged (R380, R390, R394). -/
def State.slotFor (s : State) (k : Nat) (e : Candidate) : Pencil :=
  { holder := some e.pc, op := lnOp e.w, operand := lnOperand e.w, tag := e.tag % 4096, target := altTarget e.pc e.w, flow := e.flow
    predAlt := !(lnHint e.w && s.flag (PEN.CTL.HINT_EN k)) }

/-- Lines that the search for the next decision line follows at most. -/
def searchBound : Nat := 65536

/-- The decision line to which the slot goes now, with its tag (R380): a pending decision, or the first on the main
track. -/
def State.slotNext (s : State) (k : Nat) : Option Candidate :=
  let c := s.scribe k
  match c.decisions with
  | d :: _ => some ⟨d.addr, s.lineBits k d.addr, d.seq, c.flow.goto d.target⟩
  | [] => (s.nextDecision k searchBound (s.trackStart k)).map fun e => ⟨e.1.pc, e.2, c.seq + 1, e.1.alternative e.2⟩

/-- PENCIL_SLOT_ASSIGN (R380). -/
def execPencilSlotAssign (k : Sector) (s : State) : Host.Outcome State Fault Refusal :=
  if (s.scState k = scPriming || s.scState k = scRunning) && (s.scribe k).pen.holder.isNone then
    match s.slotNext k with
    | some e => .next (s.setPen k (s.slotFor k e))
    | none => .next s
  else .next s

/-- Does a line read counter `n`? (R384) -/
def readsCounter (n w : Nat) : Bool :=
  let op := lnOp w
  ((op = opIdxj || op = opDecbr) && lnCn w = n)
    || (op = opLdcnt && (((lnEvt w / 4 % 4 = 1 || lnEvt w / 4 % 4 = 2) && lnEvt w % 4 = n) || (lnEvt w / 4 % 4 = 3 && lnOperand w % 4 = n)))
    || (op = opLoop && (lnEvt w).testBit 7 && lnEvt w % 4 = n)
    || (testsCond w && (lnCond w = 0xC || lnCond w = 0xD) && lnCn w = n)

/-- Does pencilling stop before a line? (R384) -/
def State.pencilStops (s : State) (k w : Nat) : Bool :=
  let p := (s.scribe k).pen
  p.op = opMatch && s.flag (SCRIBE.CFG.MATCH_TO k) && readsCounter (p.operand / 2 ^ 30 % 4) w

/-- A line is staged on the pencilled track (R383 to R385). -/
def State.stageAlt (s : State) (k : Nat) (p : Pencil) (w : Nat) : State :=
  let l : Staged := { addr := p.flow.pc, bits := w }
  let r := if p.predAlt then s.announceLine k p.tag (1024 * s.tick) l else (s, l)
  let p := { p with track := p.track ++ [r.2], flow := s.lineAfter k p.flow w, depth := p.depth + 1
                    ended := lnOp w = opHalt || decide (256 ≤ p.depth + 1) }
  (r.1.setPen k p).refreshHolders k

/-- The next line of the pencilled track is staged (R383 to R385). -/
def State.stagePencil (s : State) (k : Nat) : State :=
  let p := (s.scribe k).pen
  if p.holder.isNone || p.ended then s
  else if s.lineLimit k ≤ p.flow.pc then s.setPen k { p with ended := true }
  else match s.cachedLine k p.flow.pc with
    | none => s
    | some w =>
      if s.pencilStops k w || lnIllegal w || (p.flow.fault w).isSome then s.setPen k { p with ended := true } else s.stageAlt k p w

/-- Is the line announced as it is staged on the main track: a predicted in-line track, up to 256 lines? (R391, R393) -/
def Scribe.announces (c : Scribe) : Bool :=
  (c.pen.holder.any fun a => c.main.any (·.addr = a) || c.decisions.any (·.addr = a)) && !c.pen.predAlt
    && decide ((c.main.filter fun e => e.tag = some c.pen.tag).length < 256)

/-- A line is staged on the main track (R375, R391). -/
def State.stageInline (s : State) (k : Nat) (f : Flow) (w : Nat) : State :=
  let c := s.scribe k
  let l : Staged := { addr := f.pc, bits := w }
  let r := if c.announces then s.announceLine k c.pen.tag (1024 * s.tick) l else (s, l)
  (r.1.onScribe k fun c => { c with main := c.main ++ [r.2], mainFlow := s.lineAfter k f w, mainOn := true }).refreshHolders k

/-- Is the main track full, or does it end in HALT? -/
def Scribe.mainEnds (c : Scribe) : Bool :=
  decide (256 ≤ c.main.length) || (match c.main.getLast? with | some l => lnOp l.bits = opHalt | none => c.halted)

/-- The next line of the main track is staged, up to 256 lines (R375, R391). -/
def State.stageMain (s : State) (k : Nat) : State :=
  let c := s.scribe k
  let f := if c.mainOn then c.mainFlow else s.trackStart k
  if c.mainEnds then s
  else match s.cachedLine k f.pc with
    | none => s
    | some w => if lnIllegal w || (f.fault w).isSome then s else s.stageInline k f w

/-- PENCIL_LINE_STAGED (R375, R385, R393): the next line of the pencilled or of the main track. -/
def execPencilLineStaged (k : Sector) (pencilled : Bool) (s : State) : Host.Outcome State Fault Refusal :=
  if s.scState k = scPriming || s.scState k = scRunning then .next (if pencilled then s.stagePencil k else s.stageMain k) else .next s

/-- The slot passes on, or is free, after an in-line landing of a decision that is no loop (R381, R382, R387). -/
def State.releaseInline (s : State) (k at_ : Nat) : State :=
  let p := (s.scribe k).pen
  let s := s.closeTag k p.tag at_
  match s.slotNext k with
  | some e =>
    let q := s.slotFor k e
    if q.target = p.target then s.setPen k { q with track := p.track, flow := p.flow, depth := p.depth, ended := p.ended, handed := true }
    else s.erasePencil k at_
  | none => s.erasePencil k at_

/-- An alternative landing on a ready track (R382, R387): the rest of the main track is erased and the pencilled track
becomes the main track. -/
def State.takeAlternative (s : State) (k at_ : Nat) : State :=
  let p := (s.scribe k).pen
  let cnt := (s.scribe k).flow.cnt
  let s := s.eraseMain k at_
  let s := s.onScribe k fun c => { c with main := p.track, mainFlow := { p.flow with cnt := if p.op = opMatch then cnt else p.flow.cnt }
                                          mainOn := !p.track.isEmpty, reps := 0, waits := 0
                                          flow := { c.flow with pc := p.target, back := false } }
  let s := (s.setPen k {}).closeTag k p.tag at_
  match s.slotNext k with
  | some e =>
    let q := s.slotFor k e
    let copy := p.track.dropWhile fun l => l.addr ≠ q.target
    if copy.isEmpty then s.refreshHolders k
    else
      (s.setPen k { q with track := copy.map fun l => { l with tag := none, early := none, held := 0 }
                           flow := p.flow, depth := copy.length, ended := p.ended, handed := true }).refreshHolders k
  | none => s.refreshHolders k

/-- A staged line crosses the ink line (R378): it leaves the main track, and its early mark is inked. A line that had not
been staged is staged and inked at one instant. Staged lines that execution does not follow are erased. -/
def State.unstage (s : State) (k pc at_ : Nat) : State :=
  match (s.scribe k).main with
  | l :: t =>
    if l.addr = pc then
      let s := s.onScribe k fun c => { c with main := t }
      let s := match l.early, l.tag with | some _, some tag => s.earlyInked k tag at_ | _, _ => s
      if l.tag.isSome then s.refreshHolders k else s
    else s.eraseMain k at_
  | [] => s.onScribe k fun c => { c with mainOn := false }

end Sys2Proof.Machine
end

