-- ==== Sys2Proof/Machine/ScribeOps.lean ====
section
/-! DEFINITION. Starting and stopping a run, decisions and their outcomes (R300 to R312, R320 to R333, R339 to R361). -/

namespace Sys2Proof.Machine
open Reg

/-! ### Starting (R300 to R303, R355) -/

/-- Start refusal codes (R301). -/
def refNotSetup : Nat := 0x1
def refInSafe : Nat := 0x2
def refTll : Nat := 0x3
def refNoResv : Nat := 0x4
def refFloor : Nat := 0x5
def refRange : Nat := 0x6
def refNotLead : Nat := 0x7
def refMember : Nat := 0x8
def refBusy : Nat := 0x9

/-- Is a period-table entry of a sector below the floor of its reservation? (R301, R425) -/
def State.belowFloor (s : State) (k : Nat) : Bool :=
  let floor := (Tab.get (fun _ => {}) s.mem.resv k).floor
  (octetsOf k).any fun g => (List.range 16).any fun e => decide (s.period g e < floor)

/-- The first condition of R301, codes 1 to 6, that a sector fails; BUSY comes first. -/
def State.startFails (s : State) (k : Nat) : Option Nat :=
  if s.scState k ≠ scIdle then some refBusy
  else if s.modeOf k ≠ mSetup then some refNotSetup
  else if s.flag (SMODE.CTL.SAFE k) then some refInSafe
  else if !s.flag (TLL.STAT.LOCKED k) then some refTll
  else if !s.flag (PS.RESV.HELD k) then some refNoResv
  else if s.belowFloor k then some refFloor
  else if s.lineLimit k ≤ s.get (SCRIBE.START_ADDR.ADDR k) then some refRange
  else none

/-- A START is refused (R301). -/
def State.refuseStart (s : State) (k cause : Nat) : State :=
  (s.set (SCRIBE.STAT.START_REFUSED k) 1).set (SCRIBE.STAT.REFUSE_CAUSE k) cause

/-- The counters and depths of a Scribe as its registers show them (R366, R367). -/
def State.showFlow (s : State) (k : Nat) : State :=
  let c := s.scribe k
  let s := s.each (List.range 4) fun s n => s.set (SCRIBE.CNT.VALUE k n) (c.flow.c n)
  (((s.set (SCRIBE.DEPTH.CALL k) c.flow.calls.length).set (SCRIBE.DEPTH.LOOP k) c.flow.loops.length).set (SCRIBE.DEPTH.DEC_SEQ k) c.seq).setB
    (SCRIBE.DEPTH.DEC_PEND k) (!c.decisions.isEmpty)

/-- A START is accepted on a sector (R300): it enters RUN and the Scribe begins to prime. -/
def State.beginPriming (s : State) (k : Nat) (chain : Option (Nat × Nat)) : State :=
  let cnt := (List.range 4).map fun n => s.get (SCRIBE.CNT.VALUE k n)
  let s := (s.setMode k mRun).set (SCRIBE.STAT.STATE k) scPriming
  let s := (s.setCache k {}).each (List.range 8) fun s i => s.wr (SCRIBE.EVT_PEND.reg k i) 0
  let s := (s.wr (SCRIBE.VEC_IDX_LO.reg k) 0).wr (SCRIBE.VEC_IDX_HI.reg k) 0
  let old := s.scribe k
  let s := s.setScribe k { flow := { pc := s.get (SCRIBE.START_ADDR.ADDR k), cnt := cnt }, chain := chain, inked := old.inked, lastEnd := old.lastEnd }
  let s := ((s.showFlow k).showPen k).each (List.range 8) fun s i => s.wr (PEN.HELD_EVT.reg k i) 0
  ((s.margStart k).blotStart k false).refreshBalls k

/-- Priming of a sector is done: the previous run has closed and the first lines are in the cache (R265, R303). -/
def State.primedNow (s : State) (k : Nat) : Bool :=
  s.margReady k && s.blotReady k && s.pathReady k 1024 (s.scribe k).flow

/-- The octets of a sector begin to run, the pace octet at its boundary `m`, the others at or after that (R422 to
R424). -/
def State.startOctets (s : State) (k : Nat) (m : Int) : State :=
  let p := s.paceOctet k
  let e0 := s.get (PER.CTL.START_PT p)
  let b0 := s.boundaryAt p e0 m
  s.each (octetsOf k) fun s g =>
    let e := s.get (PER.CTL.START_PT g)
    let m := if g = p then m else s.boundaryNo g e b0
    let s := (((s.set (PER.STAT.RUNNING g) 1).set (PER.STAT.CUR_PT g) e).set (PER.STAT.NEXT_PT g) e).set (PER.STAT.CHANGE_PEND g) 0
    s.onOct g fun o => { running := true, entry := e, m := m, next := s.boundaryAt g e m, heldFrac := o.heldFrac, staging := o.staging }

/-- The start instant is fixed and the Scribe runs (R302, R424). -/
def State.beginRunning (s : State) (k S : Nat) : State :=
  let p := s.paceOctet k
  let e := s.get (PER.CTL.START_PT p)
  let m := match (s.scribe k).chain with
    | some (_, t) => s.boundaryNo p e (t * dotUnit) - 12
    | none => s.boundaryNo p e (S * dotUnit)
  ((s.set (SCRIBE.STAT.STATE k) scRunning).onScribe k fun c => { c with start := some S }).startOctets k m

/-! ### Stopping (R339 to R344, R359) -/

/-- The other members of an ensemble stop 32 ticks after an instant (R359). -/
def State.stopFellows (s : State) (k at_ : Nat) : State :=
  s.each (s.fellows k) fun s j =>
    if s.scState j = scPriming || s.scState j = scRunning then
      s.onScribe j fun c => { c with ensStop := some (match c.ensStop with | some t => min t (at_ + 32 * 1024) | none => at_ + 32 * 1024) }
    else s

/-- A run has ended: the Scribe is IDLE, and the sector is in SETUP unless SAFE holds it (R300). A member of a chain
ensemble that was not stopped by a HALT line sends HALT (R233). -/
def State.endRun (s : State) (k : Nat) : State :=
  let s := (s.set (SCRIBE.STAT.STATE k) scIdle).setSignal (SCRIBE.STAT.STOPPED k) (10 + k)
  let s := if s.flag (SMODE.CTL.SAFE k) || s.modeOf k ≠ mRun then s else s.setMode k mSetup
  let s := if s.get (SCRIBE.STAT.STOP_CAUSE k) ≠ stopHalt then
      match s.chainOf k with | some e => s.sendHalt e | none => s
    else s
  let s := (s.margEnd k).blotOver k (s.scribe k).lastEnd
  ((s.stopSines k).refreshBalls k).modeEnds k

/-- The cause that a stop reports (R340). -/
def reportedCause (causes : List Nat) : Option Nat := stopOrder.find? causes.contains

/-- The stop boundary (R300, R339, R342): no line crosses the ink line at or after it. -/
def State.stopAtBoundary (s : State) (k cause bd : Nat) : State :=
  let s := (s.set (SCRIBE.STAT.STATE k) scDraining).set (SCRIBE.STAT.STOP_CAUSE k) cause
  let ink := (s.scribe k).inked
  let s := s.onScribe k fun c => { c with decisions := [], stopAt := bd, inked := ink.map fun e => { e with closed := true } }
  let s := ((s.eraseMain k bd).erasePencil k bd).set (SCRIBE.DEPTH.DEC_PEND k) 0
  let s := s.each (octetsOf k) fun s g =>
    let o := s.oct g
    if o.vectors.isEmpty then
      (((s.set (PER.STAT.RUNNING g) 0).set (PER.STAT.CHANGE_PEND g) 0).set (PER.STAT.NEXT_PT g) (s.get (PER.STAT.CUR_PT g))).onOct g fun o =>
        { o with isOver := true, running := false, changes := [] }
    else s.onOct g fun o => { o with isOver := true }
  if cause = stopHalt then s else s.stopFellows k bd

/-- A fault of a line (R341): the Errata source and the address. -/
def State.scribeFault (s : State) (k pc : Nat) : State := (s.set (SCRIBE.FAULT_ADDR.LINE k) pc).raise (srcScrFault k)

/-- The lines that may cross the ink line while a decision is pending (R311). -/
def State.allowedPending (s : State) (k pc w : Nat) : Bool :=
  let op := lnOp w
  op = opNext || op = opRpt || op = opSig || op = opMark || op = opJmp || op = opHalt || (op = opEnsync && !s.inEnsemble k)
    || (s.scribe k).decisions.any fun d => d.addr = pc

/-- The stop cause of the line that would cross the ink line next (R259, R268, R284, R311, R318). -/
def State.lineCause (s : State) (k : Nat) : Option Nat :=
  let c := s.scribe k
  let pc := c.flow.pc
  if s.lineLimit k ≤ pc then some stopLineRange
  else if !(c.main.head?.any (·.addr = pc)) && (s.cachedLine k pc).isNone then some stopUnderrun
  else if s.lineBad k pc then some stopUe
  else
    let w := s.lineBits k pc
    if lnIllegal w then some stopIllegal
    else if (c.flow.fault w).isSome || (!c.decisions.isEmpty && !s.allowedPending k pc w) then some stopSequence
    else none

/-- What a stop before a faulting line leaves besides the stop itself (R259, R268, R284, R341, R368). -/
def State.lineStop (s : State) (k cause : Nat) : State :=
  let c := s.scribe k
  let pc := c.flow.pc
  let w := s.lineBits k pc
  if cause = stopLineRange then
    (((s.set (PS.RA_STAT.LINE_RANGE k) 1).set (PS.FAULT_LINE.LINE k) pc).scribeFault k pc)
  else if cause = stopUnderrun then
    ((s.set (PS.RA_STAT.UNDERRUN k) 1).set (PS.FAULT_LINE.LINE k) pc).raise (srcPsUnderrun k)
  else if cause = stopUe then (s.set (PS.RA_STAT.UE_HALT k) 1).set (PS.FAULT_LINE.LINE k) pc
  else if cause = stopIllegal then
    let s := if 0x12 ≤ lnOp w then s.set (SCRIBE.FAULT.ILLEGAL_OP k) 1 else s
    let s := if lnAux w % 4 ≠ 0 then s.set (SCRIBE.FAULT.ILLEGAL_AUX k) 1 else s
    s.scribeFault k pc
  else if cause = stopSequence then
    let s := match c.flow.fault w with
      | some b => s.set ⟨SCRIBE.FAULT.reg k, b, 1⟩ 1
      | none => s.set (SCRIBE.FAULT.DEC_OVERLAP k) 1
    s.scribeFault k pc
  else s

/-! ### Decisions (R308 to R333, R355 to R361, R228 to R231) -/

/-- The instant at which a sampled condition resolves (R309). -/
def Decision.sampledAt (d : Decision) : Nat := d.at_ + 6 * 1024

/-- Is a decision one of a condition that is sampled? A WAITS tests EVENT (R322). -/
def Decision.sampled (d : Decision) : Bool := d.op = opWaits || (d.op ≠ opEnsync && condClass d.cond = 2)

/-- The CMASK pins of a sector. -/
def State.cmask (s : State) (k : Nat) : Nat := (s.rd (SCRIBE.CMASK_LO.reg k)).toNat + (s.rd (SCRIBE.CMASK_HI.reg k)).toNat * 2 ^ 32

/-- A sampled condition as it stands (R328). -/
def State.sampledValue (s : State) (k : Nat) (d : Decision) : Bool :=
  if d.op = opWaits then s.evPending k d.evt
  else match d.cond with
    | 0x7 => s.evPending k d.evt
    | 0x8 => !s.evPending k d.evt
    | 0x9 => s.flag (SCRIBE.CTL.HFLAG k)
    | 0xA => s.flag (MARG.STAT.TRIP k)
    | 0xB => (s.scribe k).trigs.any fun t => decide (d.since ≤ t) && decide (t ≤ d.sampledAt)
    | 0xE => s.ev.levels.testBit (d.evt % 8)
    | _ => !s.ev.levels.testBit (d.evt % 8)

/-- A compare condition from the final vector results (R328 to R330). -/
def compareValue (mask : Nat) (finals : List Final) (d : Decision) : Bool :=
  let own := finals.filter (·.idx = d.idx)
  let spanned := finals.filter fun f => decide (d.span ≤ f.idx) && decide (f.idx ≤ d.idx)
  match d.cond with
  | 0x2 => own.all fun f => f.fail &&& mask = 0
  | 0x3 => own.any fun f => f.fail &&& mask ≠ 0
  | 0x4 => own.any fun f => f.pass &&& mask ≠ 0
  | 0x5 => spanned.all fun f => f.fail &&& mask = 0
  | _ => spanned.any fun f => f.fail &&& mask ≠ 0

/-- The outcome of a decision in its own sector, once it has resolved there (R309). -/
def State.ownOutcome (s : State) (k : Nat) (d : Decision) : Option (Nat × Bool) :=
  if d.op = opEnsync then none
  else if d.sampled then (if d.sampledAt ≤ s.nowDots then some (d.sampledAt, s.sampledValue k d) else none)
  else
    match (s.scribe k).finals.find? (·.idx = d.idx) with
    | some f => if f.instant ≤ s.nowDots then some (f.instant, compareValue (s.cmask k) (s.scribe k).finals d) else none
    | none => none

/-- A pending decision changed. -/
def State.onDecision (s : State) (k seq : Nat) (f : Decision → Decision) : State :=
  s.onScribe k fun c => { c with decisions := c.decisions.map fun d => if d.seq = seq then f d else d }

/-- The timeout counter of a MATCH is decremented by a false outcome; is that a timeout? (R321) -/
def State.matchFalse (s : State) (k n : Nat) : Bool × State :=
  let c := s.scribe k
  let v := c.flow.c n
  if v = 0 then (true, s)
  else
    let dec (f : Flow) : Flow := if f.c n = 0 then f else f.setC n (f.c n - 1)
    let s := s.onScribe k fun c => { c with flow := dec c.flow, mainFlow := dec c.mainFlow }
    (decide (v = 1), s.set (SCRIBE.CNT.VALUE k n) (v - 1))

/-- The outcome of a decision that will land is known (R310, R321, R322). -/
def State.finish (s : State) (k seq at_ : Nat) (outcome : Bool) : State :=
  match (s.scribe k).decisions.find? (·.seq = seq) with
  | none => s
  | some d =>
    if d.op = opMatch && !outcome && s.flag (SCRIBE.CFG.MATCH_TO k) then
      let r := s.matchFalse k (d.operand / 2 ^ 30 % 4)
      r.2.onDecision k seq fun d => { d with done := some (at_, outcome), timeout := r.1 }
    else s.onDecision k seq fun d => { d with done := some (at_, outcome), timeout := d.lastRep && !outcome }

/-- The local instant, in dots, of a master tick given by its low 32 bits (R216). -/
def State.localInstant (s : State) (instant : Nat) : Nat :=
  let now := s.masterTick (1024 * s.tick)
  let t : Int := now + sext 32 (trunc 32 ((instant : Int) - now))
  (t * 1024 + s.rul.offset).toNat

/-- The member sectors of a chain ensemble on this device. -/
def State.chainMembers (s : State) (e : Nat) : List Nat :=
  if s.flag (RUL.ENS.EN e) then bitsOf 8 (s.get (RUL.ENS.SMASK e)) else []

/-- The outcome of a chain decision reaches the member sectors of this device (R228, R230). -/
def State.applyOutcome (s : State) (e seq : Nat) (outcome : Bool) (instant : Nat) : State :=
  let t := s.localInstant instant
  s.each (s.chainMembers e) fun s k =>
    match (s.scribe k).decisions.find? fun d => d.chainSeq.map (· % 4096) = some seq && d.done.isNone with
    | some d => s.finish k d.seq t outcome
    | none => s

/-- The master sends DECIDE for a chain decision (R229). -/
def State.sendDecide (s : State) (d : ChainDecision) (outcome degraded : Bool) : State :=
  let t := d.reached + s.chainLat
  let s := s.enqueue ftDecide (decidePayload d.ens d.seq outcome degraded t)
  let s := { s with rul := { s.rul with
    decisions := s.rul.decisions.filter fun x => x ≠ d
    conds := s.rul.conds.filter fun c => !(c.ens = d.ens && c.seq = d.seq) } }
  s.applyOutcome d.ens d.seq outcome t

/-- The master sends DECIDE for every decision for which it holds COND from every member device (R229). -/
def State.judgeDecide (s : State) : State :=
  if s.isMaster && s.chain = chRuled then
    s.each s.rul.decisions fun s d =>
      let cs := s.rul.conds.filter fun c => c.ens = d.ens && c.seq = d.seq
      let devs := insertNew 0 (bitsOf 32 (s.rd (RUL.ENS_DEV.reg d.ens)).toNat)
      if devs.all fun v => cs.any (·.dev = v) then s.sendDecide d (cs.all (·.result)) false else s
  else s

/-- The k-th decisions of the members of an ensemble have all resolved: the AND lands 4 ticks later (R356). -/
def State.combine (s : State) (k seq : Nat) : State :=
  let ms := s.ensembleOf k
  let ds := ms.filterMap fun j => ((s.scribe j).decisions.find? (·.seq = seq)).bind (·.own)
  if ds.length = ms.length then
    let t := (ds.map (·.1)).foldl max 0 + 4 * 1024
    s.each ms fun s j => s.finish j seq t (ds.all (·.2))
  else s

/-- A chain decision of this device: the members here have all resolved; their AND goes to the master (R228, R229). -/
def State.combineChain (s : State) (k seq cs : Nat) : State :=
  match s.chainOf k with
  | none => s
  | some e =>
    let ms := bitsOf 8 (s.get (RUL.ENS.SMASK e))
    let ds := ms.filterMap fun j => ((s.scribe j).decisions.find? (·.seq = seq)).bind (·.own)
    if ds.length = ms.length && s.chain = chRuled then
      let r := ds.all (·.2)
      if s.isMaster then
        State.judgeDecide { s with rul := { s.rul with conds := s.rul.conds ++ [{ ens := e, seq := cs % 4096, dev := 0, result := r }] } }
      else s.enqueue ftCond (condPayload e (cs % 4096) r)
    else s

/-- A decision has resolved in its own sector (R309, R356, R228). -/
def State.resolved (s : State) (k : Nat) (d : Decision) (o : Nat × Bool) : State :=
  let s := s.onDecision k d.seq fun d => { d with own := some o, vecs := 0 }
  match d.chainSeq with
  | some cs => s.combineChain k d.seq cs
  | none => if s.inEnsemble k then s.combine k d.seq else s.finish k d.seq o.1 o.2

/-- Every member has inked an ENSYNC line with one code: its decisions land 16 ticks after the last (R361). -/
def State.release (s : State) (k code : Nat) : State :=
  let ms := s.ensembleOf k
  let ts := ms.filterMap fun j => ((s.scribe j).ensync.find? (·.1 = code)).map (·.2)
  if ts.length = ms.length then
    let t := ts.foldl max 0 + 16 * 1024
    s.each ms fun s j =>
      let s := s.onScribe j fun c => { c with ensync := c.ensync.filter (·.1 ≠ code) }
      match (s.scribe j).decisions.find? fun d => d.op = opEnsync && d.evt = code && d.done.isNone with
      | some d => s.finish j d.seq t true
      | none => s
  else s

/-- An inked line launches a decision (R307, R310, R322, R361). -/
def State.launch (s : State) (k pc w : Nat) (lastRep : Bool) : State :=
  let c := s.scribe k
  let seq := c.seq + 1
  let inChain := (s.chainOf k).isSome && testsCond w
  let d : Decision := {
    seq := seq, idx := c.idx - 1, addr := pc, op := lnOp w, cond := lnCond w, evt := lnEvt w, operand := lnOperand w
    target := altTarget pc w, at_ := c.at_, span := c.span, since := c.since, lastRep := lastRep
    chainSeq := if inChain then some (c.chainSeq + 1) else none }
  let s := s.onScribe k fun c => { c with decisions := c.decisions ++ [d], seq := seq, chainSeq := c.chainSeq + b2n inChain }
  let s := (s.set (SCRIBE.DEPTH.DEC_SEQ k) seq).set (SCRIBE.DEPTH.DEC_PEND k) 1
  if inChain && s.isMaster then
    match s.chainOf k with
    | some e =>
      if (bitsOf 8 (s.get (RUL.ENS.SMASK e))).head? = some k then
        { s with rul := { s.rul with decisions := s.rul.decisions ++
          [{ ens := e, seq := (c.chainSeq + 1) % 4096, reached := (s.masterTick c.at_).toNat }] } }
      else s
    | none => s
  else s

/-- A line ends its sticky span, or its BLOT_TRIG span, as it is inked (R328, R329). -/
def State.endSpans (s : State) (k w : Nat) : State :=
  let c := s.scribe k
  let s := if testsSticky w then s.onScribe k fun c => { c with span := c.idx } else s
  if testsCond w && lnCond w = 0xB then s.onScribe k fun d => { d with since := c.at_ } else s

/-- Final results that no pending decision and no open span can still ask for are forgotten. -/
def State.trimFinals (s : State) (k : Nat) : State :=
  s.onScribe k fun c =>
    let from_ := c.decisions.foldl (fun m d => min m (min d.span d.idx)) (min c.span (c.idx - c.inked.length))
    { c with finals := c.finals.filter fun f => decide (from_ ≤ f.idx) }

/-- The boundary at which the Scribe stands: the exact time of the pace octet's next boundary. -/
def State.paceNext (s : State) (k : Nat) : Nat := (s.oct (s.paceOctet k)).next

/-- The first decision whose landing boundary is at or before an instant (R310). -/
def State.landable (s : State) (k bd : Nat) : Option Decision :=
  (s.scribe k).decisions.find? fun d => match d.done with | some (t, _) => decide (t ≤ bd) | none => false

/-- A timeout (R321): the flag and the Errata source. -/
def State.timeoutFlag (s : State) (k : Nat) : State := (s.set (SCRIBE.STAT.TIMEOUT k) 1).raise (srcScrTimeout k)

/-- An outcome lands (R310, R321, R332, R381 to R388). -/
def State.land (s : State) (k bd : Nat) (d : Decision) : State :=
  let c := s.scribe k
  let outcome := match d.done with | some (_, o) => o | none => false
  let ready := c.pen.holder = some d.addr && c.pen.ready
  let s := s.onScribe k fun c => { c with decisions := c.decisions.filter (·.seq ≠ d.seq) }
  let s := s.set (SCRIBE.DEPTH.DEC_PEND k) (b2n (!(s.scribe k).decisions.isEmpty))
  let s := if d.timeout then s.timeoutFlag k else s
  let all (s : State) : State := (s.onScribe k fun c => { c with decisions := [] }).set (SCRIBE.DEPTH.DEC_PEND k) 0
  if d.timeout && s.flag (SCRIBE.CFG.TO_HALT k) then (all s).askStop k stopTimeout bd
  else if outcome || d.timeout then
    let s := (all s).bump (PEN.LANDS.ALT k) 1
    let clears := outcome && (d.op = opWaits || (d.cond = 7 && (d.op = opMatch || d.op = opBr)))
    let s := if clears && !c.got.contains (d.evt, bd) then s.setPending k d.evt false else s
    if ready then s.takeAlternative k bd
    else
      let s := ((s.set (PEN.STAT.SHORT_STOP k) 1).set (PS.RA_STAT.UNDERRUN k) 1).set (PS.FAULT_LINE.LINE k) d.target
      (s.askStop k stopUnderrun bd).raise (srcPsUnderrun k)
  else
    let s := s.bump (PEN.LANDS.INLINE k) 1
    let s := if ready then s else (s.set (PEN.STAT.SHORT k) 1).raise (srcPenShort k)
    if d.op = opBr || d.op = opDecbr then
      if c.pen.holder = some d.addr then s.releaseInline k bd else s
    else s

/-- Nothing that the boundary of a sector depends on is still to happen before it: no decision to resolve or to land, no
strobe result, no converted stop, no boundary of another octet, no period change (R309, R310, R426, R429). -/
def State.boundaryClear (s : State) (k : Nat) : Bool :=
  let b := s.paceNext k
  let bd := dotOf b
  let c := s.scribe k
  c.word.isNone
    && (s.landable k bd).isNone
    && !(c.decisions.any fun d => d.own.isNone && match s.ownOutcome k d with | some (t, _) => decide (t ≤ bd) | none => false)
    && (match c.ensStop with | some t => decide (bd < t) | none => true)
    && (match c.inked.head? with | some e => (match e.resolvesAt with | some t => decide (bd < t) | none => true) | none => true)
    && (octetsOf k).all (fun g => let o := s.oct g; !o.running || (decide (b ≤ o.next) && o.effect.isNone))
    && !(s.balls.any fun e => decide (e.1 / 64 = k) && e.2.placed.any fun p => decide (4 ≤ p.eng) && decide (max p.t p.close ≤ bd))

/-- SETP lines inked since the last pace boundary fix their change vectors (R428, R433). -/
def State.fixChanges (s : State) (k : Nat) : State :=
  let l := (s.scribe k).setps
  (s.onScribe k fun c => { c with setps := [] }).each l fun s e =>
    s.each (bitsOf 8 e.1) fun s o =>
      let g := 8 * k + o
      let r := s.oct g
      let v := r.count - 1
      if r.changes.any (·.1 = v) then
        (s.set (PER.STAT.MERGED g) 1).onOct g fun r => { r with changes := r.changes.map fun c => if c.1 = v then (v, e.2) else c }
      else s.onOct g fun r => { r with changes := r.changes ++ [(v, e.2)] }

/-- The causes that stop a run at a boundary (R231, R339, R358). -/
def State.stopCauses (s : State) (k bd : Nat) : List Nat :=
  let c := s.scribe k
  ((c.stops.filter fun e => decide (e.2 ≤ bd)).map (·.1))
    ++ (if c.halted then [stopHalt] else [])
    ++ (if c.decisions.any fun d => d.own.isSome && decide (256 ≤ d.vecs) && d.chainSeq.isNone then [stopEnsemble] else [])
    ++ (if c.decisions.any fun d => d.chainSeq.isSome && decide (256 ≤ d.lines) then [stopChain] else [])
    ++ (if c.reps = 0 && !c.halted then (s.lineCause k).toList else [])

/-- What the reported cause leaves besides the stop (R231, R341, R358, R406). -/
def State.causeEffects (s : State) (k cause bd : Nat) : State :=
  let c := s.scribe k
  if cause = stopEnsemble && (c.decisions.any fun d => d.own.isSome && decide (256 ≤ d.vecs)) then
    (s.set (SCRIBE.STAT.ENS_SKEW k) 1).raise (srcScrFault k)
  else if cause = stopChain && (c.decisions.any fun d => d.chainSeq.isSome && decide (256 ≤ d.lines)) then
    ((s.set (PEN.STAT.WINDOW_END k) 1).erasePencil k bd).raise srcRulLate
  else if c.stops.any fun e => decide (e.1 = cause ∧ e.2 ≤ bd) then s
  else s.lineStop k cause

/-- The group of a line leaves the cache once execution has passed it; a resident body stays until its loop exits (R264,
R266). -/
def State.leaveGroup (s : State) (k g : Nat) : State :=
  let c := s.cache k
  match c.groups.find? fun e => decide (e.1 = g) with
  | some e =>
    if e.2.body.isSome then s
    else if e.2.uses ≤ 1 then s.setCache k { c with groups := c.groups.erase g }
    else s.setCache k { c with groups := Tab.put (fun _ => { uses := 0 }) c.groups g { e.2 with uses := e.2.uses - 1 } }
  | none => s

/-- The resident body of a loop leaves the cache as its ENDL exits (R264). -/
def State.dropBody (s : State) (k start : Nat) : State :=
  let c := s.cache k
  s.setCache k { c with groups := c.groups.filter fun e => e.2.body ≠ some start }

/-- A vector crosses the ink line at a pace boundary (R304 to R307, R589): the Scribe's registers, the fetch credit,
Marginalia's owing and the pace octet. -/
def State.inkLine (s : State) (k b : Nat) : State :=
  let bd := dotOf b
  let c := s.scribe k
  let pc := c.flow.pc
  let w := s.lineBits k pc
  let first := c.reps = 0
  let s := if first then s.unstage k pc bd else s
  let reps := (if first then lineVectors w else c.reps) - 1
  let early := first && c.main.head?.any fun l => l.addr = pc && l.early.isSome
  let e : Inked := { idx := c.idx, addr := pc, bits := w, at_ := bd, early := early }
  let s := s.onScribe k fun c => { c with
    reps := reps, idx := c.idx + 1, at_ := bd, word := some (pc, w)
    inked := (c.inked.map fun e => { e with closed := true }) ++ [e]
    decisions := c.decisions.map fun d => { d with vecs := d.vecs + 1, lines := d.lines + 1 } }
  let s := (s.set (SCRIBE.LINE_PTR.LINE k) pc).set64 (SCRIBE.VEC_IDX_LO.reg k) (SCRIBE.VEC_IDX_HI.reg k) (c.idx + 1)
  let ch := s.cache k
  let s := s.setCache k { ch with credit := min 32768 (ch.credit + 9) }
  let s := if first && lnLevel w then s.levelTake k else s
  (s.margInkLine k c.idx w).octetStep (s.paceOctet k) (some (takenOf c.idx w (s.get (SCRIBE.CFG.PACE k))))

/-- The line at the present boundary whose opcode has still to act, if it is of an opcode. -/
def State.inkedWord (s : State) (k op : Nat) : Option (Nat × Nat) :=
  match (s.scribe k).word with
  | some (pc, w) => if lnOp w = op then some (pc, w) else none
  | none => none

/-- The opcode has acted: after the last repetition flow goes on in line (R310, R315), and the group that execution has
left leaves the cache. -/
def State.goOn (s : State) (k w : Nat) : State :=
  let c := s.scribe k
  let f := if c.reps = 0 then s.lineAfter k c.flow w else c.flow
  let s := s.onScribe k fun c => { c with word := none, flow := f }
  let s := if c.reps = 0 && f.pc / 4 ≠ c.flow.pc / 4 then s.leaveGroup k (c.flow.pc / 4) else s
  s.showFlow k

/-- The opcode has acted and flow goes to a line named. -/
def State.goTo (s : State) (k pc : Nat) : State :=
  let c := s.scribe k
  let s := s.onScribe k fun c => { c with word := none, flow := c.flow.goto pc }
  let s := if pc / 4 ≠ c.flow.pc / 4 then s.leaveGroup k (c.flow.pc / 4) else s
  s.showFlow k

end Sys2Proof.Machine
end

