-- ==== Sys2Proof/Machine/Scribe.lean ====
section
/-! DEFINITION. The commands of the Scribe: starting, pace boundaries, the opcodes, decisions, stopping, ensembles (R300 to
R372). -/

namespace Sys2Proof.Machine
open Reg

/-- A start of a chain ensemble by its lead (R224, R424): INSTANT lies on the lead's pace oscillator, counted from the
latest ruling anchor; a device that is not RULED sends none. -/
def State.chainStart (s : State) (k e : Nat) : State :=
  match s.rul.anchors with
  | [] => (s.set RUL.STAT.START_REFUSED 1).refuseStart k refNotLead
  | (gen, a) :: _ =>
    if s.chain ≠ chRuled then (s.set RUL.STAT.START_REFUSED 1).refuseStart k refNotLead
    else
      let p := s.paceOctet k
      let per := max 1 (s.period p (s.get (PER.CTL.START_PT p)))
      let from_ := (s.masterNow + s.chainLat) * 1024
      let base := sext 42 (trunc 42 ((a : Int) - from_)) + from_
      let m := ceilI (((from_ : Int) - base) * dotUnit) per
      let t := ((base * dotUnit + m * per) / (dotUnit * 1024 : Nat)).toNat
      (s.enqueue ftStart (startPayload e gen t)).schedule (.start e gen) t

/-- The local anchor, in dots, that a ruling anchor and an offset give (R223, R416). -/
def State.localAnchor (s : State) (a : Nat) : Nat :=
  let here : Int := 1024 * s.tick
  let l : Int := a + s.rul.offset
  (sext 42 (trunc 42 (l - here)) + here).toNat

/-- The member sectors of a chain ensemble begin to prime for a start at a master tick (R223, R225). -/
def State.chainPrime (s : State) (e gen t : Nat) : State :=
  match s.rul.anchors.find? (·.1 = gen) with
  | none => s
  | some (_, a) =>
    let at_ := (((t : Int) * 1024) + s.rul.offset).toNat
    let here : Int := 1024 * s.tick
    let at_ := (sext 42 (trunc 42 ((at_ : Int) - here)) + here).toNat
    let s := { s with rul := { s.rul with frozen := Tab.put (fun _ => 0) s.rul.frozen e s.rul.offset, base := Tab.put (fun _ => 0) s.rul.base e a
                                          seqs := s.rul.seqs.erase e } }
    let la := s.localAnchor a
    s.each (bitsOf 8 (s.get (RUL.ENS.SMASK e))) fun s k =>
      (s.each (octetsOf k) fun s g => s.set64 (PER.ANCHOR_LO.reg g) (PER.ANCHOR_HI.reg g) la).beginPriming k (some (e, at_))

/-- A START write (R301, R224, R354, R355). -/
def State.startWrite (s : State) (k : Nat) : State :=
  if s.scState k ≠ scIdle then s.refuseStart k refBusy
  else
    let own := s.startFails k
    let chain := s.chainOf k
    let ms := match chain with | some e => bitsOf 8 (s.get (RUL.ENS.SMASK e)) | none => s.ensembleOf k
    let lead := ms.head? = some k && (chain.isNone || s.isMaster)
    let failing := if lead then ms.filter fun j => j ≠ k && (s.startFails j).isSome else []
    let s := s.each failing fun s j => s.refuseStart j ((s.startFails j).getD 0)
    let s := if chain.isSome && !lead then s.set RUL.STAT.START_REFUSED 1 else s
    match own with
    | some c => s.refuseStart k c
    | none =>
      if !lead then s.refuseStart k refNotLead
      else
        if !failing.isEmpty then s.refuseStart k refMember
        else
          match chain with
          | some e =>
            let s' := s.chainStart k e
            (match s'.rul.actions.getLast? with
              | some a => if s'.rul.actions.length = s.rul.actions.length then s'
                  else (match a.kind with | .start _ gen => s'.chainPrime e gen a.instant | _ => s')
              | none => s')
          | none => s.each ms fun s j => s.beginPriming j none

/-- SCRIBE_START (R71, R301). -/
def execScribeStart (k : Sector) (s : State) : Host.Outcome State Fault Refusal :=
  .next (s.whileOn k (SCRIBE.CTL.reg k) fun s => s.startWrite k)

/-- SCRIBE_STOP (R71, R343). -/
def execScribeStop (k : Sector) (s : State) : Host.Outcome State Fault Refusal :=
  .next (s.whileOn k (SCRIBE.CTL.reg k) fun s => s.stopWrite k)

/-- PRIMING_DONE (R265, R302, R303, R355): a Scribe alone runs 64 ticks later; members of an ensemble wait for the last. -/
def execPrimingDone (k : Sector) (s : State) : Host.Outcome State Fault Refusal :=
  let k := k.val
  if s.scState k = scPriming && !(s.scribe k).primed && (s.scribe k).stops.isEmpty && s.primedNow k then
    let s := s.onScribe k fun c => { c with primed := true }
    let at_ := 1024 * (s.tick + 64)
    if (s.scribe k).chain.isSome then .next (s.beginRunning k at_)
    else
      let ms := s.ensembleOf k
      if ms.all fun j => s.scState j = scPriming && (s.scribe j).primed then .next (s.each ms fun s j => s.beginRunning j at_)
      else .next s
  else .next s

/-- PRIMING_STOP (R300, R339): a stop cause that came during PRIMING ends the run at once. -/
def execPrimingStop (k : Sector) (s : State) : Host.Outcome State Fault Refusal :=
  let k := k.val
  if s.scState k = scPriming then
    match reportedCause ((s.scribe k).stops.map (·.1)) with
    | some c =>
      let s := (s.set (SCRIBE.STAT.STOP_CAUSE k) c).onScribe k fun d => { d with stopAt := s.nowDots }
      .next (((s.eraseMain k s.nowDots).erasePencil k s.nowDots).stopFellows k s.nowDots |>.endRun k)
    | none => .next s
  else .next s

/-- PACE_BOUNDARY (R304, R306, R339, R340): the stop boundary takes effect, or one vector crosses the ink line; the
opcode of its line acts as the row of that opcode. -/
def execPaceBoundary (k : Sector) (s : State) : Host.Outcome State Fault Refusal :=
  let k := k.val
  let b := s.paceNext k
  let bd := dotOf b
  if s.scState k = scRunning && s.due b && s.boundaryClear k then
    let s := (s.fixChanges k).margBoundary k bd
    match reportedCause (s.stopCauses k bd) with
    | some cause => .next (((s.causeEffects k cause bd).stopAtBoundary k cause bd).octetStep (s.paceOctet k) none)
    | none => .next (s.inkLine k b)
  else .next s

/-- NEXT (R315). -/
def execNextLine (k : Sector) (s : State) : Host.Outcome State Fault Refusal :=
  match s.inkedWord k opNext with
  | some (_, w) => .next (s.goOn k w)
  | none => .next s

/-- RPT (R315): one repetition. -/
def execRptLine (k : Sector) (s : State) : Host.Outcome State Fault Refusal :=
  match s.inkedWord k opRpt with
  | some (_, w) => .next (s.goOn k w)
  | none => .next s

/-- LOOP (R316). -/
def execLoopLine (k : Sector) (s : State) : Host.Outcome State Fault Refusal :=
  match s.inkedWord k opLoop with
  | some (_, w) => .next (s.goOn k w)
  | none => .next s

/-- ENDL (R317): a resident body leaves the cache at the exit (R264). -/
def execEndlLine (k : Sector) (s : State) : Host.Outcome State Fault Refusal :=
  match s.inkedWord k opEndl with
  | some (_, w) =>
    match (s.scribe k).flow.loops with
    | (start, n) :: _ => .next (if 1 < n then s.goOn k w else (s.goOn k w).dropBody k start)
    | [] => .next (s.goOn k w)
  | none => .next s

/-- JMP (R315). -/
def execJmpLine (k : Sector) (s : State) : Host.Outcome State Fault Refusal :=
  match s.inkedWord k opJmp with
  | some (_, w) => .next (s.goOn k w)
  | none => .next s

/-- CALL (R315). -/
def execCallLine (k : Sector) (s : State) : Host.Outcome State Fault Refusal :=
  match s.inkedWord k opCall with
  | some (_, w) => .next (s.goOn k w)
  | none => .next s

/-- RET (R319). -/
def execRetLine (k : Sector) (s : State) : Host.Outcome State Fault Refusal :=
  match s.inkedWord k opRet with
  | some (_, w) => .next (s.goOn k w)
  | none => .next s

/-- An immediate MATCH pass that is false (R321): with MATCH_TO its timeout is counted at once. -/
def State.matchPass (s : State) (k pc w : Nat) : State :=
  if s.flag (SCRIBE.CFG.MATCH_TO k) then
    let r := s.matchFalse k (lnCn w)
    if r.1 then
      let s := r.2.timeoutFlag k
      if s.flag (SCRIBE.CFG.TO_HALT k) then (s.askStop k stopTimeout (s.scribe k).at_).goTo k (pc + 1) else s.goTo k (pc + 1)
    else r.2.goTo k (lnAddr w)
  else s.goTo k (lnAddr w)

/-- MATCH (R320, R321). -/
def execMatchLine (k : Sector) (s : State) : Host.Outcome State Fault Refusal :=
  match s.inkedWord k opMatch with
  | some (pc, w) =>
    if condClass (lnCond w) = 0 then
      if (s.scribe k).flow.immediate w then .next (s.goTo k (pc + 1)) else .next (s.matchPass k pc w)
    else .next (((s.launch k pc w false).endSpans k w).goOn k w)
  | none => .next s

/-- BR (R308, R310, R315). -/
def execBrLine (k : Sector) (s : State) : Host.Outcome State Fault Refusal :=
  match s.inkedWord k opBr with
  | some (pc, w) =>
    if condClass (lnCond w) = 0 then .next (s.goOn k w) else .next (((s.launch k pc w false).endSpans k w).goOn k w)
  | none => .next s

/-- SIG (R334, R335, R337, R338): with CHAIN = 0 its outputs count from V of its vector at the pace octet's balls. -/
def execSigLine (k : Sector) (s : State) : Host.Outcome State Fault Refusal :=
  match s.inkedWord k opSig with
  | some (_, w) =>
    let c := s.scribe k
    let code := lnEvt w
    let outs := s.get (EVT.ROUTE.OUTMASK code)
    let s := s.post code k c.at_ false
    let s := if s.flag (EVT.ROUTE.CHAIN code) || outs = 0 then s else s.onScribe k fun d => { d with sigs := d.sigs ++ [(c.idx - 1, outs)] }
    .next (s.goOn k w)
  | none => .next s

/-- WAITS (R322): each repetition launches a decision on its event. -/
def execWaitsLine (k : Sector) (s : State) : Host.Outcome State Fault Refusal :=
  match s.inkedWord k opWaits with
  | some (pc, w) =>
    let n := (s.scribe k).waits + 1
    let s := s.onScribe k fun c => { c with waits := n }
    .next ((s.launch k pc w (lnOperand w ≠ 0 && n = lnOperand w)).goOn k w)
  | none => .next s

/-- SETP (R324, R428): the change is recorded; its change vectors are fixed at the next pace boundary. -/
def execSetpLine (k : Sector) (s : State) : Host.Outcome State Fault Refusal :=
  match s.inkedWord k opSetp with
  | some (_, w) =>
    let mask := lnOperand w / 256 % 256
    let e := lnOperand w % 16
    let s := s.each (bitsOf 8 mask) fun s o => (s.set (PER.STAT.CHANGE_PEND (8 * k + o)) 1).set (PER.STAT.NEXT_PT (8 * k + o)) e
    let s := if mask = 0 then s else s.onScribe k fun c => { c with setps := c.setps ++ [(mask, e)] }
    .next (s.goOn k w)
  | none => .next s

/-- MARK (R315): the mark is in the record of its inked vector, from which Marginalia and the Blotter take it (R639,
R681). -/
def execMarkLine (k : Sector) (s : State) : Host.Outcome State Fault Refusal :=
  match s.inkedWord k opMark with
  | some (_, w) => .next (s.goOn k w)
  | none => .next s

/-- HALT (R312, R315, R339): the run stops at the next boundary; pending decisions are discarded. -/
def execHaltLine (k : Sector) (s : State) : Host.Outcome State Fault Refusal :=
  match s.inkedWord k opHalt with
  | some (_, w) =>
    let c := s.scribe k
    let s := s.set (SCRIBE.HALT_CODE.CODE k) (lnOperand w)
    let s := if c.decisions.isEmpty then s else s.set (SCRIBE.STAT.DEC_DROPPED k) 1
    .next ((s.onScribe k fun c => { c with word := none, halted := true, decisions := [] }).showFlow k)
  | none => .next s

/-- IDXJ (R315). -/
def execIdxjLine (k : Sector) (s : State) : Host.Outcome State Fault Refusal :=
  match s.inkedWord k opIdxj with
  | some (_, w) => .next (s.goOn k w)
  | none => .next s

/-- LDCNT (R326). -/
def execLdcntLine (k : Sector) (s : State) : Host.Outcome State Fault Refusal :=
  match s.inkedWord k opLdcnt with
  | some (_, w) => .next (s.goOn k w)
  | none => .next s

/-- DECBR (R327): a counter of 0 after the decrement makes the outcome false at once. -/
def execDecbrLine (k : Sector) (s : State) : Host.Outcome State Fault Refusal :=
  match s.inkedWord k opDecbr with
  | some (pc, w) =>
    let left := ((s.scribe k).flow.decrement w).c (lnCn w)
    let s := if condClass (lnCond w) ≠ 0 && left ≠ 0 then s.launch k pc w false else s
    .next ((s.endSpans k w).goOn k w)
  | none => .next s

/-- ENSYNC (R361): outside an ensemble it acts as NEXT; inside, its first repetition launches one decision, and
repetition OPERAND without a release is a timeout. -/
def execEnsyncLine (k : Sector) (s : State) : Host.Outcome State Fault Refusal :=
  let k := k.val
  match s.inkedWord k opEnsync with
  | some (pc, w) =>
    if !s.inEnsemble k then .next (s.goOn k w)
    else
      let code := lnEvt w
      let n := (s.scribe k).waits + 1
      let s := s.onScribe k fun c => { c with waits := n }
      let s := if n = 1 then
          let s := (s.launch k pc w false).onScribe k fun c => { c with ensync := (c.ensync.filter (·.1 ≠ code)) ++ [(code, c.at_)] }
          s.release k code
        else s
      let c := s.scribe k
      let s := match c.decisions.find? fun d => d.op = opEnsync && d.done.isNone with
        | some d => if lnOperand w ≠ 0 && n = lnOperand w then
            s.onDecision k d.seq fun d => { d with done := some (c.at_ + 16 * 1024, false), timeout := true }
          else s
        | none => s
      .next (s.goOn k w)
  | none => .next s

/-- DECISION_RESOLVE (R309, R331, R356): the first pending decision that has not resolved, once its instant has come. -/
def execDecisionResolve (k : Sector) (s : State) : Host.Outcome State Fault Refusal :=
  match (s.scribe k).decisions.find? fun d => d.own.isNone && d.op ≠ opEnsync with
  | some d =>
    match s.ownOutcome k d with
    | some o => .next ((s.resolved k d o).trimFinals k)
    | none => .next s
  | none => .next s

/-- DECISION_LANDING (R310, R387, R388): at the pace boundary that has come, before a line crosses it. -/
def execDecisionLanding (k : Sector) (s : State) : Host.Outcome State Fault Refusal :=
  let b := s.paceNext k
  if s.scState k = scRunning && s.due b && (s.scribe k).word.isNone then
    match s.landable k (dotOf b) with
    | some d => .next ((s.land k (dotOf b) d).trimFinals k)
    | none => .next s
  else .next s

/-- DRAIN_END (R300, R435): the last inked vector has ended in every octet. -/
def execDrainEnd (k : Sector) (s : State) : Host.Outcome State Fault Refusal :=
  let k := k.val
  if s.scState k = scDraining && (octetsOf k).all fun g => !(s.oct g).running then .next ((s.levelFlush k).endRun k) else .next s

/-- ENSEMBLE_STOP (R359): the instant 32 ticks after another member's stop has come. -/
def execEnsembleStop (k : Sector) (s : State) : Host.Outcome State Fault Refusal :=
  match (s.scribe k).ensStop with
  | some t =>
    if t ≤ s.nowDots then .next ((s.onScribe k fun c => { c with ensStop := none }).askStop k stopEnsemble t) else .next s
  | none => .next s

/-- Would a write put a sector in two ensembles? (R349) -/
def State.ensDouble (s : State) (k v : Nat) : Bool :=
  (List.range 4).any fun j => j ≠ k && decide (s.get (ENS.SMASK j) &&& (v % 256) ≠ 0)

/-- Is a sector that a write adds or removes, or whose ensemble it enables or disables, at work? (R350) -/
def State.ensBusy (s : State) (k v : Nat) : Bool :=
  let old := s.get (ENS.SMASK k)
  (old ≠ v % 256 || s.flag (ENS.EN k) != v.testBit 31)
    && (bitsOf 8 (old ||| (v % 256))).any fun j => decide (3 ≤ s.modeOf j)

/-- A write of `ENS[k]` (R349, R350). -/
def State.ensWrite (s : State) (k v : Nat) : State :=
  let s := if v.testBit 30 then s.set (ENS.CFG_REFUSED k) 0 else s
  if s.ensDouble k v || s.ensBusy k v then s.set (ENS.CFG_REFUSED k) 1
  else (s.setB (ENS.EN k) (v.testBit 31)).set (ENS.SMASK k) v

/-- ENS_WRITE (R349, R350). -/
def execEnsWrite (k : Fin 4) (v : Word) (s : State) : Host.Outcome State Fault Refusal := .next (s.ensWrite k v.toNat)

end Sys2Proof.Machine
end

