-- ==== Sys2Proof/Machine/Chain.lean ====
section
/-! DEFINITION. Frames as they arrive at the chain input, and what a chain does to its member sectors: starts, decisions,
events and halts at ruled instants (R216 to R236, R1049 to R1052). -/

namespace Sys2Proof.Machine
open Reg

/-- A START frame (R218, R225, R226). -/
def State.startFrame (s : State) (f : Frame) (arrive : Nat) : State :=
  if s.chain = chRuled && !s.isMaster then
    let s := s.keep f
    if reached f.instant (s.masterTick arrive) then s.lateFrame (some f.ens)
    else
      let ms := s.chainMembers f.ens
      if ms.isEmpty then s
      else if !(s.rul.anchors.any (·.1 = f.startGen)) || ms.any (fun k => (s.startFails k).isSome) then s.report 1 (some f.ens)
      else (s.chainPrime f.ens f.startGen f.instant).schedule (.start f.ens f.startGen) f.instant
  else s

/-- An EVENT frame (R202, R218, R232, R334). -/
def State.eventFrame (s : State) (f : Frame) (arrive : Nat) : State :=
  if s.chain = chRuled && !s.ownFrame f && !(s.isMaster && f.origin = 0) then
    let s := (s.keep f).rebroadcast f
    if reached f.instant (s.masterTick arrive) then s.lateFrame none
    else
      { s with ev := { s.ev with posted := s.ev.posted ++ [{
          code := f.code, source := evChain, route := (s.rd (EVT.ROUTE.reg f.code)).toNat, at_ := arrive, chain := some f.instant }] } }
  else s

/-- A COND frame (R228, R229). -/
def State.condFrame (s : State) (f : Frame) : State :=
  if s.chain = chRuled then
    if s.isMaster then
      State.judgeDecide { s with rul := { s.rul with conds := s.rul.conds ++ [{ ens := f.ens, seq := f.seq, dev := f.origin, result := f.result }] } }
    else s.keep f
  else s

/-- A DECIDE frame (R218, R228 to R230). -/
def State.decideFrame (s : State) (f : Frame) (arrive : Nat) : State :=
  if s.chain = chRuled && !s.isMaster then
    let s := s.keep f
    if reached f.instant (s.masterTick arrive) then s.lateFrame (some f.ens) else s.applyOutcome f.ens f.seq f.result f.instant
  else s

/-- A HALT frame (R202, R218, R233). -/
def State.haltFrame (s : State) (f : Frame) (arrive : Nat) : State :=
  if s.chain = chRuled && !s.ownFrame f && !(s.isMaster && f.origin = 0) then
    let s := (s.keep f).rebroadcast f
    if reached f.instant (s.masterTick arrive) then s.lateFrame (some f.ens) else s.schedule (.halt f.ens) f.instant
  else s

/-- A valid frame acts by its type (R198). -/
def State.frameActs (s : State) (f : Frame) (arrive : Nat) : State :=
  if f.kind = ftFault && s.ownFrame f then s
  else
    let s := s.onFrame f arrive
    if f.kind = ftAnchor then s.anchorFrame f
    else if f.kind = ftStart then s.startFrame f arrive
    else if f.kind = ftEvent then s.eventFrame f arrive
    else if f.kind = ftCond then s.condFrame f
    else if f.kind = ftDecide then s.decideFrame f arrive
    else if f.kind = ftHalt then s.haltFrame f arrive
    else if f.kind = ftDeskew then s.deskewFrame f arrive
    else if f.kind = ftHopval then s.hopvalFrame f
    else if f.kind = ftFault then s.faultFrame f
    else if f.kind = ftMeas then s.measFrame f arrive
    else s

/-- The frames that REORDER holds are received (R1050). -/
def State.releaseFrames (s : State) (arrive : Nat) : State :=
  let l := s.dbg.heldFrames
  State.each { s with dbg := { s.dbg with heldFrames := [] } } l fun s f => s.frameActs f arrive

/-- The link number of the chain input (R1048). -/
def linkChain : Nat := 0x80

/-- A frame passes the chain input, where an armed injection slot may strike it (R1049, R1050, R1052). -/
def State.receive (s : State) (f : Frame) (arrive : Nat) : State :=
  let r := s.strike linkChain
  if r.1 = 1 then r.2
  else if r.1 = 2 then r.2.badFrame false
  else if r.1 = 3 then { r.2 with dbg := { r.2.dbg with heldFrames := r.2.dbg.heldFrames ++ [f], frameAt := r.2.tick } }
  else
    let s := r.2.frameActs f arrive
    if f.kind = ftIdle then s else s.releaseFrames arrive

/-- RUL_FRAME_IDLE (R198). -/
def execRulFrameIdle (f : Frame) (arrive : Nat) (s : State) : Host.Outcome State Fault Refusal :=
  .next (if f.kind = ftIdle then s.receive f arrive else s)

/-- RUL_FRAME_ANCHOR (R212, R215). -/
def execRulFrameAnchor (f : Frame) (arrive : Nat) (s : State) : Host.Outcome State Fault Refusal :=
  .next (if f.kind = ftAnchor then s.receive f arrive else s)

/-- RUL_FRAME_START (R225, R226). -/
def execRulFrameStart (f : Frame) (arrive : Nat) (s : State) : Host.Outcome State Fault Refusal :=
  .next (if f.kind = ftStart then s.receive f arrive else s)

/-- RUL_FRAME_EVENT (R232). -/
def execRulFrameEvent (f : Frame) (arrive : Nat) (s : State) : Host.Outcome State Fault Refusal :=
  .next (if f.kind = ftEvent then s.receive f arrive else s)

/-- RUL_FRAME_COND (R228, R229). -/
def execRulFrameCond (f : Frame) (arrive : Nat) (s : State) : Host.Outcome State Fault Refusal :=
  .next (if f.kind = ftCond then s.receive f arrive else s)

/-- RUL_FRAME_DECIDE (R228). -/
def execRulFrameDecide (f : Frame) (arrive : Nat) (s : State) : Host.Outcome State Fault Refusal :=
  .next (if f.kind = ftDecide then s.receive f arrive else s)

/-- RUL_FRAME_HALT (R233). -/
def execRulFrameHalt (f : Frame) (arrive : Nat) (s : State) : Host.Outcome State Fault Refusal :=
  .next (if f.kind = ftHalt then s.receive f arrive else s)

/-- RUL_FRAME_DESKEW (R208). -/
def execRulFrameDeskew (f : Frame) (arrive : Nat) (s : State) : Host.Outcome State Fault Refusal :=
  .next (if f.kind = ftDeskew then s.receive f arrive else s)

/-- RUL_FRAME_HOPVAL (R210). -/
def execRulFrameHopval (f : Frame) (arrive : Nat) (s : State) : Host.Outcome State Fault Refusal :=
  .next (if f.kind = ftHopval then s.receive f arrive else s)

/-- RUL_FRAME_FAULT (R202, R204, R227). -/
def execRulFrameFault (f : Frame) (arrive : Nat) (s : State) : Host.Outcome State Fault Refusal :=
  .next (if f.kind = ftFault then s.receive f arrive else s)

/-- RUL_FRAME_MEAS (R203, R214). -/
def execRulFrameMeas (f : Frame) (arrive : Nat) (s : State) : Host.Outcome State Fault Refusal :=
  .next (if f.kind = ftMeas then s.receive f arrive else s)

/-- RUL_FRAME_BAD (R199): a bad CRC, or a reserved type. -/
def execRulFrameBad (reserved : Bool) (s : State) : Host.Outcome State Fault Refusal :=
  let r := s.strike linkChain
  .next (if r.1 = 1 then r.2 else r.2.badFrame reserved)

/-- The first ruled action that satisfies a test and whose instant has come, and the state without it (R216). -/
def State.takeAction (s : State) (p : RuledKind → Bool) : Option (RuledAction × State) :=
  match s.rul.actions.find? fun a => p a.kind && s.ruledDue a.instant with
  | some a => some (a, { s with rul := { s.rul with actions := dropFirst (fun x => decide (x = a)) s.rul.actions } })
  | none => none

/-- CHAIN_START_INSTANT (R225, R226): a member sector that is not ready at INSTANT does not start, and the device reports
cause 1. -/
def execChainStartInstant (s : State) : Host.Outcome State Fault Refusal :=
  match s.takeAction fun k => match k with | .start _ _ => true | _ => false with
  | some (a, s) =>
    (match a.kind with
      | .start e _ =>
        let late := (s.chainMembers e).filter fun k => s.scState k = scPriming && (s.scribe k).chain.isSome
        if late.isEmpty then .next s
        else .next ((s.each late fun s k => s.askStop k stopChain s.nowDots).report 1 (some e))
      | _ => .next s)
  | none => .next s

/-- CHAIN_EVENT_DELIVER (R232, R335). -/
def execChainEventDeliver (s : State) : Host.Outcome State Fault Refusal :=
  match s.ev.posted.find? fun p => match p.chain with | some t => s.ruledDue t | none => false with
  | some p =>
    .next (State.deliver { s with ev := { s.ev with posted := dropFirst (fun x => decide (x = p)) s.ev.posted } } p
      (s.localInstant (p.chain.getD 0)))
  | none => .next s

/-- CHAIN_HALT_INSTANT (R233): every member sector halts at its first line boundary at or after INSTANT. -/
def execChainHaltInstant (s : State) : Host.Outcome State Fault Refusal :=
  match s.takeAction fun k => match k with | .halt _ => true | _ => false with
  | some (a, s) =>
    (match a.kind with
      | .halt e => .next (s.each (s.chainMembers e) fun s k => s.askStop k stopChain (s.localInstant a.instant))
      | _ => .next s)
  | none => .next s

/-- DECIDE_DEGRADED (R229): half of CHAIN_LAT after D a COND is still missing. -/
def execDecideDegraded (s : State) : Host.Outcome State Fault Refusal :=
  let s := s.judgeDecide
  if s.isMaster && s.chain = chRuled then
    match s.rul.decisions.find? fun d => decide (d.reached + s.chainLat / 2 ≤ s.masterNow) with
    | some d => .next ((s.sendDecide d false true).raise srcRulLate)
    | none => .next s
  else .next s

end Sys2Proof.Machine
end

