-- ==== Sys2Proof/Machine/Period.lean ====
section
/-! DEFINITION. The period table and the end of a change vector (R415 to R450). -/

namespace Sys2Proof.Machine
open Reg

/-- What becomes of a write of a period-table entry (R443, R447). -/
inductive PtResult where
  | done | ignored | bad
deriving DecidableEq, Repr

/-- Does the mode ignore a write of an entry? (R443) -/
def State.ptIgnored (s : State) (g e : Nat) : Bool :=
  let k := g / 8
  let o := s.oct g
  s.scState k ≠ scIdle || s.modeOf k = mCalibrate || (o.running && o.meas && o.entry = e)

/-- A commit of an entry with a period in 16.32 (R277, R443, R447). -/
def State.ptCommit (s : State) (g e p : Nat) : PtResult × State :=
  let k := g / 8
  let s' := s.onOct g fun o => { o with heldFrac := o.heldFrac.erase e }
  if s.ptIgnored g e then (.ignored, s'.set (PER.STAT.WR_IGNORED g) 1)
  else if p < 2 ^ 32 then (.bad, s'.set (PER.STAT.CFG_ERR g) 1)
  else if s.flag (PS.RESV.HELD k) && decide (p < (Tab.get (fun _ => {}) s.mem.resv k).floor) then
    (.bad, (s'.set (PER.STAT.CFG_ERR g) 1).hostAccess 0 2 (PER.PT.HI.reg g e))
  else (.done, (s'.wr (PER.PT.LO.reg g e) (BitVec.ofNat 32 p)).set (PER.PT.HI.INT g e) (p / 2 ^ 32))

/-- A write of LO is held until the next write of HI (R446). -/
def State.ptLoWrite (s : State) (g e v : Nat) : State :=
  if s.ptIgnored g e then s.set (PER.STAT.WR_IGNORED g) 1
  else s.onOct g fun o => { o with heldFrac := Tab.put (fun _ => 0) o.heldFrac e (v + 1) }

/-- A write of HI (R447). -/
def State.ptHiWrite (s : State) (g e v : Nat) : State :=
  let h := Tab.get (fun _ => 0) (s.oct g).heldFrac e
  let frac := if h = 0 then (s.rd (PER.PT.LO.reg g e)).toNat else h - 1
  (s.ptCommit g e (v % 2 ^ 16 * 2 ^ 32 + frac)).2

/-- PT_HI_COMMIT (R447); a sector in OFF ignores it (R71). -/
def execPtHiCommit (g : Octet) (e : Fin 16) (v : Word) (s : State) : Host.Outcome State Fault Refusal :=
  if s.modeOf (g / 8) = mOff then .next (s.hostAccess 0 2 (PER.PT.HI.reg g e)) else .next (s.ptHiWrite g e v.toNat)

/-- PERIOD_CHANGE_EFFECT (R429 to R434): a change vector ends and the new entry is in force. -/
def execPeriodChangeEffect (g : Octet) (s : State) : Host.Outcome State Fault Refusal :=
  let o := s.oct g
  match o.effect with
  | none => .next s
  | some (e, stretch) =>
    if o.running && s.due o.next then
      let waits := (s.scribe (g / 8)).setps.any fun x => x.1.testBit (g % 8)
      let pend := !o.changes.isEmpty || waits
      let s := s.onOct g fun o => { o with effect := none }
      let s := ((s.set (PER.STAT.CUR_PT g) e).set64 (PER.CHG_LO.reg g) (PER.CHG_HI.reg g) (dotOf o.next)).set (PER.STRETCH.DOTS g) stretch
      .next (if pend then s else (s.set (PER.STAT.CHANGE_PEND g) 0).set (PER.STAT.NEXT_PT g) e)
    else .next s

end Sys2Proof.Machine
end

