-- ==== Sys2Proof/Machine/Nib.lean ====
section
/-! DEFINITION. The commands of the Nibs and formatters: instants that act, strobes, time sets and strokes (R458 to R462,
R484 to R493, R495, R506 to R508, R519 to R526, R615 to R621). -/

namespace Sys2Proof.Machine
open Reg

/-- A drive instant acts on DE and LEV (R494 to R496, R508). -/
def State.driveActs (s : State) (g l : Nat) (p : Pulse) : State :=
  let b := s.ball g l
  let b := { b with placed := dropFirst (fun x => decide (x = p)) b.placed }
  let de := s.flag (STK.STAT.DE g l)
  let s := s.setBall g l b
  let s :=
    if p.lev.isSome && !de && p.de ≠ some true then
      let ahead := (b.placed ++ b.waiting).any fun q => q.vec = p.vec && q.de = some true
      if ahead then s.onBall g l fun b => { b with readied := some p.vec } else s.set (STK.STAT.TURN_CLASH g l) 1
    else s
  let s := match p.lev with | some v => s.setB (STK.STAT.LEV g l) v | none => s
  (match p.de with
    | some v => s.setB (STK.STAT.DE g l) v
    | none => s).refreshBall g l

/-- DRIVE_INSTANT (R471, R495): the first placed drive instant of a ball, once its requested instant has come. -/
def execDriveInstant (g : Octet) (l : Lane) (s : State) : Host.Outcome State Fault Refusal :=
  match (s.ball g l).placed.find? fun p => decide (p.eng < 4) with
  | some p => if p.t + s.get (NIB.DESKEW.DRV g l) ≤ s.nowDots then .next (s.driveActs g l p) else .next s
  | none => .next s

/-- Does a level code meet the expectation of a glyph? (R618) -/
def meets (gl code : Nat) : Bool :=
  if gl = gL || gl = gD0l then code = 1
  else if gl = gH || gl = gD1h then code = 2
  else if gl = gM then code = 0
  else code = 1 || code = 2

/-- STROBE_INSTANT (R615 to R621, R796): a placed strobe observes the level codes given, one for an edge strobe; at a DEAD
ball it fails. -/
def execStrobeInstant (g : Octet) (l : Lane) (i : Fin 2) (codes : List (Fin 4)) (s : State) : Host.Outcome State Fault Refusal :=
  match (s.ball g l).placed.find? fun p => decide (p.eng = 4 + i.val) with
  | some p =>
    if s.strobeEnd g l p ≤ s.nowDots then
      let cs := if p.window then codes.map (·.val) else (codes.map (·.val)).take 1
      let s := s.onBall g l fun b => { b with placed := dropFirst (fun x => decide (x = p)) b.placed }
      if p.glyph = gW then
        let ns := s.noSense g l
        .next (s.wTaken g p.vec fun w => { w with
          valid := w.valid + 2 ^ (2 * l.val + i.val), codes := w.codes + cs.getLast?.getD 0 * 2 ^ (4 * l.val + 2 * i.val)
          wchg := if cs.any (some · ≠ cs.head?) then w.wchg ||| 2 ^ l.val else w.wchg, nosense := w.nosense || ns })
      else if (s.get (ROT.CORES.DEAD g)).testBit l then .next (s.strobeResult g l p false (cs.headD 0) false)
      else
        match cs.find? fun c => !meets p.glyph c with
        | some c => .next (s.strobeResult g l p false c false)
        | none => if cs.isEmpty then .next (s.strobeResult g l p (meets p.glyph 0) 0 false)
            else .next (s.strobeResult g l p true (cs.getLast?.getD 0) false)
    else .next s
  | none => .next s

/-- Are the tables of a sector's Nibs and formatters locked? (R462, R490, R519) -/
def State.nibLocked (s : State) (g : Nat) : Bool := s.scState (g / 8) ≠ scIdle || s.modeOf (g / 8) = mCalibrate

/-- A write of W0 to W4 of a time set loads a staging word (R458, R462). -/
def State.tsStage (s : State) (g l w v : Nat) : State :=
  if s.nibLocked g then s.set (NIB.STAT.WR_IGNORED g l) 1
  else s.onOct g fun o => { o with staging := Tab.put (fun _ => 0) o.staging (5 * l + w) v }

/-- Is a time set refused at its commit? (R461) -/
def tsBad (w : Nat) : Bool :=
  let es := (List.range 4).filter (tsEn w)
  (es.any fun a => es.any fun b => decide (a < b) && decide ((tsEdge w a : Int) - tsEdge w b < 246) && decide ((tsEdge w b : Int) - tsEdge w a < 246))
    || [0, 1].any fun i => tsMode w i = 3 || (tsMode w i = 2 && decide (tsB w i < tsA w i + 128))

/-- Six words become time set `t` of a slot, or are refused (R461). -/
def State.tsPut (s : State) (g l t : Nat) (ws : List Word) : Bool × State :=
  if tsBad (wordsNat ws) then (false, (s.set (NIB.STAT.CFG_ERR g l) 1).showNibSum g)
  else (true, s.each (List.range 6) fun s k => s.wr (NIB.TS.W.reg g l t k) (ws.getD k 0))

/-- A write of W5 commits time set `t` (R458, R461, R462). -/
def State.tsCommit (s : State) (g l t v : Nat) : State :=
  if s.nibLocked g then s.set (NIB.STAT.WR_IGNORED g l) 1
  else
    let st := (s.oct g).staging
    (s.tsPut g l t ((List.range 5).map (fun k => BitVec.ofNat 32 (Tab.get (fun _ => 0) st (5 * l + k))) ++
      [BitVec.ofNat 32 (v % 2 ^ 28)])).2

/-- A write of a stroke entry (R519, R520). -/
def State.strokeWrite (s : State) (g l k v : Nat) : State :=
  if s.nibLocked g then s.set (STK.STAT.WR_IGNORED g l) 1
  else if 9 ≤ v % 16 then s.set (STK.STAT.CFG_ERR g l) 1
  else s.plainWrite (STK.ENT.reg g l k) v

/-- A write of a register of an alternate map (R519). -/
def State.altWrite (s : State) (g l m i v : Nat) : State :=
  if s.nibLocked g then s.set (STK.STAT.WR_IGNORED g l) 1 else s.plainWrite (STK.ALT.reg g l m i) v

/-- A write of TS_SEL or DESKEW (R490). -/
def State.nibCtlWrite (s : State) (g l a v : Nat) : State :=
  if s.nibLocked g then s.set (NIB.STAT.WR_IGNORED g l) 1 else s.plainWrite a v

/-- TS_STAGE_WRITE (R458); a sector in OFF ignores it (R71). -/
def execTsStageWrite (g : Octet) (l : Slot) (t : Fin 64) (w : Fin 5) (v : Word) (s : State) : Host.Outcome State Fault Refusal :=
  .next (s.whileOn (g / 8) (NIB.TS.W.reg g l t w) fun s => s.slotWrite g l fun s l => s.tsStage g l w v.toNat)

/-- TS_COMMIT (R458, R461). -/
def execTsCommit (g : Octet) (l : Slot) (t : Fin 64) (v : Word) (s : State) : Host.Outcome State Fault Refusal :=
  .next (s.whileOn (g / 8) (NIB.TS.W.reg g l t 5) fun s => s.slotWrite g l fun s l => s.tsCommit g l t v.toNat)

/-- CORRECTION_SET_APPLY (R477 to R481): a set issued for a core is in full effect in every slice of it; the sets themselves
no port shows. -/
def execCorrectionSetApply (g : Octet) (l : Slot) (s : State) : Host.Outcome State Fault Refusal :=
  if s.modeOf (g / 8) = mOff then .next s
  else
    let c := s.coreAt g l
    match (s.core g c).next with
    | some set => .next ((s.onCore g c fun x => { x with set := set, next := none }).set (NIB.STAT.CORR_GEN g l) (s.get (NIB.STAT.CORR_GEN g l) + 1))
    | none => .next s

end Sys2Proof.Machine
end

