-- ==== Sys2Proof/Machine/Front.lean ====
section
/-! DEFINITION. The commands of the pin front end (R541 to R576). -/

namespace Sys2Proof.Machine
open Reg

/-- A ball no longer waits for a boundary to take its state. -/
def State.unqueue (s : State) (g l : Nat) : State := s.onOct g fun o => { o with fe := o.fe.filter (· ≠ l) }

/-- OVERCURRENT_TRIP (R554, R555): of a ball whose driver or load is connected. -/
def execOvercurrentTrip (g : Octet) (l : Lane) (s : State) : Host.Outcome State Fault Refusal :=
  let st := s.ballState g l
  if 1 ≤ st && st ≤ fsHigh then
    .next ((((s.set (FE.STAT.OC g l) 1).unqueue g l).refreshBall g l).raise (srcFeOc (g / 8)))
  else .next s

/-- OC_SHUTDOWN_FAIL (R557): current still flows in SHUTDOWN. -/
def execOcShutdownFail (g : Octet) (l : Lane) (s : State) : Host.Outcome State Fault Refusal :=
  if s.flag (FE.STAT.OC g l) && s.ballState g l = fsShutdown then
    .next (((s.set (FE.STAT.OC_FAIL g l) 1).refreshBall g l).raise srcFeOcFail)
  else .next s

/-- OC is cleared (R556). -/
def State.ocClear (s : State) (g l : Nat) : State :=
  if s.flag (FE.STAT.OC g l) then (s.set (FE.STAT.OC g l) 0).releaseBall g l else s

/-- OC_CLEAR (R556, R575). -/
def execOcClear (g : Octet) (l : Lane) (s : State) : Host.Outcome State Fault Refusal :=
  .next (s.whileOn (g / 8) (FE.STAT.reg g l) fun s => s.ocClear g l)

/-- OVER_VOLTAGE (R558, R559, R568): a DC connection of the ball is lost. -/
def execOverVoltage (g : Octet) (l : Lane) (s : State) : Host.Outcome State Fault Refusal :=
  if s.modeOf (g / 8) = mOff then .next s
  else
    let was := s.ballState g l = fsIsolated
    let s := s.set (STEER.STAT.OV g) (s.get (STEER.STAT.OV g) ||| 2 ^ l.val)
    let d := s.dcUnit g
    let s := if d.link ≠ 0 && d.ball = l.val then (s.set (DC.STAT.LOST g) 1).dcBreak g else s
    let s := (s.unqueue g l).refreshBall g l
    if was then .next s else .next (s.raise (srcFeOv (g / 8)))

/-- OV bits are cleared (R560). -/
def State.ovClear (s : State) (g mask : Nat) : State :=
  let old := s.get (STEER.STAT.OV g)
  let s := s.set (STEER.STAT.OV g) (old - (old &&& mask))
  s.each (bitsOf 8 (old &&& mask)) fun s l => s.releaseBall g l

/-- OV_CLEAR (R560, R571). -/
def execOvClear (g : Octet) (l : Lane) (s : State) : Host.Outcome State Fault Refusal :=
  .next (s.whileOn (g / 8) (STEER.STAT.reg g) fun s => s.ovClear g (2 ^ l.val))

/-- LOAD_COMPLIANCE (R546): a shortfall of the load in state LOAD. -/
def execLoadCompliance (g : Octet) (l : Lane) (s : State) : Host.Outcome State Fault Refusal :=
  if s.ballState g l = fsLoad then .next ((s.set (FE.STAT.COMPLY g l) 1).raise (srcFeComply (g / 8))) else .next s

/-- A write of `STEER[g].CTL` (R569, R570). -/
def State.forceIso (s : State) (g v : Nat) : State :=
  let old := s.get (STEER.CTL.FORCE_ISO g)
  let new := v % 256
  let s := s.set (STEER.CTL.FORCE_ISO g) new
  s.each (List.range 8) fun s l =>
    if new.testBit l && !old.testBit l then (s.unqueue g l).refreshBall g l
    else if old.testBit l && !new.testBit l then s.releaseBall g l
    else s

/-- FORCE_ISO_WRITE (R570). -/
def execForceIsoWrite (g : Octet) (v : Word) (s : State) : Host.Outcome State Fault Refusal :=
  .next (s.whileOn (g / 8) (STEER.CTL.reg g) fun s => s.forceIso g v.toNat)

/-- A write of `FE[g][l].CFG` in one core slot (R572 to R574). -/
def State.feCfgSlot (s : State) (g l v : Nat) : State :=
  let k := g / 8
  if s.scState k ≠ scIdle || s.modeOf k = mCalibrate then s.set (FE.STAT.WR_IGNORED g l) 1
  else if 6 ≤ v / 2 ^ 8 % 8 || v % 4 = 3 then s.set (FE.STAT.CFG_ERR g l) 1
  else
    let o := s.oct g
    let s := if s.modeOf k = mMeasure && o.running && !o.oldCfg.any (·.1 = l) then
        s.setOct g { o with oldCfg := o.oldCfg ++ [(l, (s.rd (FE.CFG.reg g l)).toNat)] }
      else s
    let s := s.plainWrite (FE.CFG.reg g l) v
    if l < 8 then s.refreshBall g l else s

/-- FE_CFG_WRITE (R573, R574, R768, R769). -/
def execFeCfgWrite (g : Octet) (l : Slot) (v : Word) (s : State) : Host.Outcome State Fault Refusal :=
  .next (s.whileOn (g / 8) (FE.CFG.reg g l) fun s => s.slotWrite g l fun s l => s.feCfgSlot g l v.toNat)

end Sys2Proof.Machine
end

