-- ==== Sys2Proof/Machine/RotOps.lean ====
section
/-! DEFINITION. Corrections over temperature, ages and classes, failed runs and retirement (R756 to R797), and what a visit
copies and exchanges between a lane and the spare (R767, R770, R778). -/

namespace Sys2Proof.Machine
open Reg

/-! ### Corrections (R756 to R762, R785, R786) -/

/-- Fractions. -/
def Frac.add (a b : Frac) : Frac := if a.den = b.den then ⟨a.num + b.num, a.den⟩ else ⟨a.num * b.den + b.num * a.den, a.den * b.den⟩
def Frac.neg (a : Frac) : Frac := ⟨-a.num, a.den⟩
/-- The nearest integer, halves upward. -/
def Frac.round (a : Frac) : Int := (2 * a.num + a.den) / (2 * max 1 a.den : Nat)
/-- Is the magnitude greater than a limit? -/
def Frac.beyond (a : Frac) (lim : Nat) : Bool := decide (lim * a.den < a.num.natAbs)

/-- The temperature points that exist, as (point, temperature), ascending (R758). -/
def State.tempPoints (s : State) : List (Nat × Int) :=
  ((List.range 8).filter fun i => (s.vault.set.temps.any (·.1 = i))).map fun i => (i, sext 16 (Tab.get (fun _ => 0) s.vault.set.temps i))

/-- The values of a core at a temperature point. -/
def State.pointAt (s : State) (g c i : Nat) : List Measured := Tab.get (fun _ => []) s.vault.set.points (8 * (9 * g + c) + i)

/-- The two points between which a temperature lies, or one point twice beyond the ends (R758). -/
def bracket (t : Int) : List (Nat × Int) → Option ((Nat × Int) × (Nat × Int))
  | [] => none
  | [a] => some (a, a)
  | a :: b :: r => if t ≤ a.2 then some (a, a) else if t ≤ b.2 then some (a, b) else bracket t (b :: r)

/-- I(T) of a core, entry by entry (R758). -/
def State.interpolated (s : State) (g c : Nat) (t : Int) : List Frac :=
  match bracket t s.tempPoints with
  | none => []
  | some (a, b) =>
    let d := (b.2 - a.2).toNat
    if d = 0 then (s.pointAt g c a.1).map fun m => ⟨m.value, 1⟩
    else (List.zip (s.pointAt g c a.1) (s.pointAt g c b.1)).map fun e => ⟨e.1.value * d + (e.2.value - e.1.value) * (t - a.2), d⟩

/-- The kinds of a core's entries. -/
def State.entryKinds (s : State) (g c : Nat) : List CalKind :=
  match s.tempPoints with
  | a :: _ => (s.pointAt g c a.1).map (·.kind)
  | [] => []

/-- A value rounded to the resolution of its entry (R757). -/
def roundEntry (k : CalKind) (x : Frac) : Int :=
  let step := match k with
    | .timing => 1
    | .level => max 1 (Config.levelStep 1)
    | .gain => max 1 (Config.levelStep 2)
    | .current => max 1 (Config.levelStep 3)
  Frac.round ⟨x.num, x.den * step⟩ * step

/-- The temperature of a sector, 1/64 °C. -/
def State.temp (s : State) (k : Nat) : Int := sext 16 (s.get (CAL.TEMP.TEMP k))

/-- D of a core: that of a provisional run, or the committed one (R762, R765). -/
def State.driftOf (s : State) (g c : Nat) : List Frac :=
  match (s.core g c).prov with
  | some p => p.drift
  | none => (s.core g c).drift

/-- C(T) of a core, rounded (R757). -/
def State.corrections (s : State) (g c : Nat) : List Int :=
  let i := s.interpolated g c (s.temp (g / 8))
  let d := s.driftOf g c
  (List.zip (s.entryKinds g c) (List.zipIdx i)).map fun e => roundEntry e.1 (e.2.1.add (d.getD e.2.2 {}))

/-- Does an entry differ enough to issue a new set? (R761) -/
def entryDiffers (k : CalKind) (a b : Int) : Bool :=
  match k with
  | .timing => decide (1 ≤ (a - b).natAbs)
  | .level => decide (50 ≤ (a - b).natAbs)
  | .gain => decide (50 ≤ 3 * (a - b).natAbs)
  | .current => decide (500 ≤ (a - b).natAbs)

/-- The limits of abs(D) (R786), in the units of `CalKind`. -/
def driftLimit (k : CalKind) : Nat :=
  match k with
  | .timing => 192
  | .level => 3000
  | .gain => 1000
  | .current => 40000

/-- D that a run would commit: M − I(T_cal) (R762). -/
def State.runDrift (s : State) (g c : Nat) (ms : List Measured) : List Frac :=
  let i := s.interpolated g c (s.temp (g / 8))
  (List.zipIdx ms).map fun e => Frac.add ⟨e.1.value, 1⟩ (i.getD e.2 {}).neg

/-- Does D pass a limit of R786? -/
def driftFails (ms : List Measured) (d : List Frac) : Bool := (List.zip ms d).any fun e => e.2.beyond (driftLimit e.1.kind)

/-! ### Ages and classes (R788 to R791) -/

/-- The saturated age in ms. -/
def ageMax : Nat := 0x7FFFFFF

/-- The age of a core in ms (R788). -/
def State.ageMs (s : State) (g c : Nat) : Nat :=
  match (s.core g c).commitAt with
  | some t => min ageMax ((s.tick - t) / usTicks 1000)
  | none => ageMax

/-- The age class of a core (R789): 0 FRESH, 1 NOTICE, 2 NOT_ASSURED. -/
def State.ageClass (s : State) (g c : Nat) : Nat :=
  match (s.core g c).commitAt with
  | some t => if usTicks 60000000 < s.tick - t then 2 else if usTicks 10000000 < s.tick - t then 1 else 0
  | none => 2

/-- Does the temperature of a sector lie outside the table's range? (R760) -/
def State.tempOutside (s : State) (k : Nat) : Bool :=
  let ps := s.tempPoints
  match ps.head?, ps.getLast? with
  | some a, some b => decide (s.temp k < a.2 - 320) || decide (b.2 + 320 < s.temp k)
  | _, _ => false

/-- The class of a core (R790): 0 none, 1 T3, 2 T2, 3 T1. -/
def State.coreClass (s : State) (g c : Nat) : Nat :=
  let x := s.core g c
  let age := s.ageClass g c
  let dt := (s.temp (g / 8) - x.tcal).natAbs
  let best := if x.verr ≤ 25 && age = 0 && dt ≤ 128 then 3
    else if x.verr ≤ 50 && age ≤ 1 && dt ≤ 320 then 2
    else if x.verr ≤ 100 && age ≤ 1 then 1 else 0
  if s.tempOutside (g / 8) then min best 1 else best

/-- The age classes of an octet's balls and spare show, and a ball that enters a worse class raises its source (R789). -/
def State.showAges (s : State) (g : Nat) : State :=
  let k := g / 8
  let s := s.each (List.range 8) fun s l =>
    let c := s.coreAt g l
    let old := s.get (ROT.AGE.ACLASS g l)
    let new := s.ageClass g c
    let s := s.onSecCal k fun x => { x with greatest := max x.greatest (s.ageMs g c) }
    let s := s.set (ROT.AGE.ACLASS g l) new
    if old = new then s
    else if new = 1 then s.notice (srcCalNotice k)
    else if new = 2 then s.notice (srcCalAge k) else s
  s.set (ROT.AGE_LS.ACLASS g) (s.ageClass g 8)

/-- The balls of the device that a test counts. -/
def countBalls (p : Nat → Nat → Bool) : Nat := ((List.range 64).map fun g => ((List.range 8).filter (p g)).length).sum

/-- `CAL.STAT` counts the balls below the class and in NOT_ASSURED (R791, R811). -/
def State.showCal (s : State) : State :=
  let below := countBalls fun g l => !(s.get (ROT.CLASS.MET g)).testBit l
  let old := countBalls fun g l => s.get (ROT.AGE.ACLASS g l) = 2
  ((s.set CAL.STAT.BELOW below).set CAL.STAT.NOT_ASSURED old).setB CAL.STAT.LOG_FULL (s.flag VAULT.STAT.LOG_FULL)

/-- The classes of an octet show (R790, R791). -/
def State.showClasses (s : State) (g : Nat) : State :=
  let dead := s.get (ROT.CORES.DEAD g)
  let cls (l : Nat) : Nat := if dead.testBit l then 0 else s.coreClass g (s.coreAt g l)
  let need := s.get CAL.CTL.CLASS
  let s := s.set (ROT.CLASS.BALL g) (((List.range 8).map fun l => cls l * 4 ^ l).sum)
  let s := s.set (ROT.CLASS.LS g) (s.coreClass g 8)
  (s.set (ROT.CLASS.MET g) (maskOf ((List.range 8).filter fun l => decide (need ≤ cls l)))).showCal

/-! ### Entries of the Colophon (R803) -/

/-- An entry of calibration in a sector (R828). -/
def State.calEntry (s : State) (kind k payload : Nat) : State := s.append kind (0x10 + k) payload

/-- The digest of every D of a sector (R803). -/
def State.driftDigest (s : State) (k : Nat) : List Byte :=
  Config.sha384 (Config.serialise ((List.range 72).flatMap fun i =>
    (s.core (8 * k + i / 9) (i % 9)).drift.flatMap fun f => [trunc 64 f.num, f.den]))

/-- A ROT_SUMMARY entry (R803), which also writes the drift section of the backup (R833). -/
def State.rotSummary (s : State) (k : Nat) : State :=
  let c := s.secCal k
  let fails := (List.zipIdx c.causes).foldl (fun n e => n + min 15 e.1 * 2 ^ (4 * e.2)) 0
  let s := s.calEntry colRotSummary k (min (2 ^ 16 - 1) c.visits + min (2 ^ 16 - 1) c.skips * 2 ^ 16 + fails * 2 ^ 32
    + min ageMax c.greatest * 2 ^ 96 + digestNat 12 (s.driftDigest k) * 2 ^ 128)
  let v := s.vault
  let b := Tab.get (fun _ => {}) v.backups v.newer
  let cores := (List.range 72).map fun i => 72 * k + i
  let drift := cores.foldl (fun d i => Tab.put (fun _ => []) d i (Tab.get (fun _ => {}) s.cores i).drift) b.drift
  let s := { s with vault := { v with backups := Tab.put (fun _ => {}) v.backups v.newer { b with drift := drift } } }
  s.setSecCal k { filt := c.filt, primed := c.primed, ranAt := s.quill.qsec }

/-! ### Failed runs and retirement (R766, R792 to R797, R804) -/

/-- Is a core retired? -/
def State.retired (s : State) (g c : Nat) : Bool := (s.get (ROT.CORES.RETIRED g)).testBit c

/-- The ball that a core serves, if any. -/
def State.servedBy (s : State) (g c : Nat) : Option Nat := (List.range 8).find? fun l => s.coreAt g l = c

/-- A ball is left without a core (R796, R803). -/
def State.ballDead (s : State) (g l : Nat) : State :=
  let s := s.set (ROT.CORES.DEAD g) (s.get (ROT.CORES.DEAD g) ||| 2 ^ l)
  ((s.calEntry colDead (g / 8) (8 * g + l)).refreshBall g l).showClasses g

/-- The RETIRED and DEAD bits, and DEGRADED, that the wear ledger and the balls' cores give (R793 to R796). -/
def State.coreRetires (s : State) (g c : Nat) : State :=
  let served := s.servedBy g c
  let degraded := s.flag (ROT.STAT.DEGRADED g)
  let s := (s.set (ROT.CORES.RETIRED g) (s.get (ROT.CORES.RETIRED g) ||| 2 ^ c)).set (ROT.STAT.DEGRADED g) 1
  let s := ((if s.underRun g = some c then s.rotIdle g else s.rotStop g)).onRot g fun r => { r with visit := none }
  match served with
  | some l => if degraded then s.ballDead g l else if c ≠ 8 then s.onRot g fun r => { r with owed := some l } else s
  | none => s

/-- A core is retired, unless the log is full (R792, R804); the first 128 bits of its RETIRE entry: core, cause, T, Quill
seconds. -/
def State.retire (s : State) (g c cause : Nat) : State :=
  if s.retired g c then s
  else if !s.vault.room 1 then s.set (ROT.STAT.RETIRE_HELD g) 1
  else
    let k := g / 8
    let s := s.wear fun w => { w with cores := w.cores ++ [9 * g + c] }
    let s := s.calEntry colRetire k (9 * g + c + cause * 2 ^ 16 + s.get (CAL.TEMP.TEMP k) * 2 ^ 32 + s.quill.qsec % 2 ^ 48 * 2 ^ 64)
    ((s.set (ROT.STAT.RETIRED_NEW g) 1).notice (srcCalRetire k)).coreRetires g c

/-- A run of a core fails (R766): a second failed run in a row retires the core. -/
def State.failRun (s : State) (g c cause : Nat) : State :=
  let k := g / 8
  let s := s.setCause g c cause
  let s := s.onSecCal k fun x => { x with causes := x.causes.set cause ((x.causes.getD cause 0) + 1) }
  if 1 ≤ cause && cause ≤ 6 then
    let n := (s.core g c).fails + 1
    let s := (s.set (ROT.STAT.RUN_FAIL g) 1).onCore g c fun x => { x with fails := n, prov := none }
    if 2 ≤ n then s.retire g c cause else s
  else s.onCore g c fun x => { x with prov := none }

/-- A run is committed (R762, R765, R766, R788). -/
def State.commitRun (s : State) (g c : Nat) (p : Provision) : State :=
  let s := s.onCore g c fun x => { x with
    drift := p.drift, verr := p.verr, tcal := p.tcal, commitAt := some s.tick, fails := 0, prov := none }
  (s.showAges g).showClasses g

/-- New tap candidates of a core, as (slice, tap), are entered in the ledger and the Colophon (R785, R803). -/
def State.tapCandidates (s : State) (g c : Nat) (taps : List (Nat × Nat)) : State :=
  s.each taps fun s t =>
    let key := 8 * (9 * g + c) + t.1
    let l := Tab.get (fun _ => []) s.vault.ledger.taps key
    if l.contains t.2 then s
    else (s.wear fun w => { w with taps := Tab.put (fun _ => []) w.taps key (l ++ [t.2]) }).calEntry colTapCand (g / 8) (key + t.2 * 2 ^ 16)

/-! ### A lane and the spare (R767, R770, R778, R5) -/

/-- Registers of one place copied to another, over `len` offsets. -/
def State.copyRegs (s : State) (from_ to_ len : Nat) : State :=
  let s := s.resetRegs fun a => decide (to_ ≤ a ∧ a < to_ + len)
  s.each (s.regs.filter fun e => decide (from_ ≤ e.1 ∧ e.1 < from_ + len)) fun s e => s.wr (e.1 - from_ + to_) e.2

/-- Registers of two places exchanged. -/
def State.swapRegs (s : State) (a b len : Nat) : State :=
  let f (x : Nat) : Nat := if a ≤ x && x < a + len then x - a + b else if b ≤ x && x < b + len then x - b + a else x
  let moved := s.regs.filter fun e => f e.1 ≠ e.1
  let s := s.resetRegs fun x => f x ≠ x
  s.each moved fun s e => s.wr (f e.1) e.2

/-- A lane's registers and DACs change places with those of slot 8 (R5). -/
def State.swapSlots (s : State) (g l : Nat) : State :=
  let s := (s.swapRegs (slotBase g l) (slotBase g 8) 0x800).swapRegs (FE.CFG.reg g l) (FE.CFG.reg g 8) 8
  let f (i : Nat) : Nat := if i / 8 = 9 * g + l then 72 * g + 64 + i % 8 else if i / 8 = 9 * g + 8 then 72 * g + 8 * l + i % 8 else i
  let p (i : Nat) : Nat := if i = 9 * g + l then 9 * g + 8 else if i = 9 * g + 8 then 9 * g + l else i
  { s with dacs := s.dacs.foldl (fun t e => Tab.put (fun _ => {}) t (f e.1) e.2) []
           parks := s.parks.foldl (fun t e => Tab.put (fun _ => 0) t (p e.1) e.2) [] }

/-- The content that the spare takes from a lane (R767, R770). -/
def State.mirror (s : State) (g l : Nat) : State :=
  let a := slotBase g l
  let b := slotBase g 8
  let s := (s.copyRegs a b 0x680).copyRegs (a + 0x7C0) (b + 0x7C0) 8
  let s := (s.wr (DAC.MOD.reg g 8) (s.rd (DAC.MOD.reg g l))).wr (FE.CFG.reg g 8) (s.rd (FE.CFG.reg g l))
  let s := s.each (List.range 8) fun s k =>
    let s := (s.set (DAC.LVL.CFG.SPAN g 8 k) (s.get (DAC.LVL.CFG.SPAN g l k))).set (DAC.LVL.STAGE.CODE g 8 k) (s.get (DAC.LVL.STAGE.CODE g l k))
    (s.setPend g 8 k (s.flag (DAC.LVL.STAGE.PEND g l k))).program g 8 k (s.get (DAC.LVL.CODE.CODE g l k))
  ((s.setB (STK.STAT.DE g 8) (s.flag (STK.STAT.DE g l))).setB (STK.STAT.LEV g 8) (s.flag (STK.STAT.LEV g l))).setB (STK.STAT.B g 8)
    (s.flag (STK.STAT.B g l))

/-- The spare takes a ball, or gives it back (R551, R777). -/
def State.handOver (s : State) (g l : Nat) (toSpare : Bool) : State :=
  let s := (s.swapSlots g l).set (STEER.STAT.SPARE g) (if toSpare then 2 ^ l else 0)
  ((s.refreshBall g l).showAges g).showClasses g

end Sys2Proof.Machine
end

