-- ==== Sys2Proof/Machine/Dac.lean ====
section
/-! DEFINITION. The commands of the level DACs and sine generators (R577 to R614), and LVL_WRITE (R876). -/

namespace Sys2Proof.Machine
open Reg

/-! ### Codes (R585, R586, R609) -/

/-- Does the mode ignore a write of CODE or MOD? (R585, R609) -/
def State.levelShut (s : State) (k : Nat) : Bool := s.scState k ≠ scIdle || s.modeOf k = mCalibrate

/-- A write of CODE in one slot (R585, R594). -/
def State.codeWrite (s : State) (g l k code : Nat) : State :=
  if s.levelShut (g / 8) then s.set (DAC.STAT.WR_IGNORED g l) 1
  else if s.modeOf (g / 8) = mMeasure && (s.oct g).running && (s.dac g l k).span.isNone then
    s.onDac g l k fun d => { d with boundary := some code }
  else s.program g l k code

/-- DAC_CODE_WRITE (R585). -/
def execDacCodeWrite (g : Octet) (l : Slot) (k : DacIdx) (code : BitVec 16) (s : State) : Host.Outcome State Fault Refusal :=
  .next (s.whileOn (g / 8) (DAC.LVL.CODE.reg g l k) fun s => s.slotWrite g l fun s l => s.codeWrite g l k code.toNat)

/-- A write of STAGE in one slot (R586). -/
def State.stageWrite (s : State) (g l k v : Nat) : State :=
  if s.modeOf (g / 8) = mCalibrate then s.set (DAC.STAT.WR_IGNORED g l) 1
  else if v.testBit 30 then s.setPend g l k false
  else (s.set (DAC.LVL.STAGE.CODE g l k) v).setPend g l k true

/-- DAC_STAGE_WRITE (R586). -/
def execDacStageWrite (g : Octet) (l : Slot) (k : DacIdx) (v : Word) (s : State) : Host.Outcome State Fault Refusal :=
  .next (s.whileOn (g / 8) (DAC.LVL.STAGE.reg g l k) fun s => s.slotWrite g l fun s l => s.stageWrite g l k v.toNat)

/-- A write of MOD in one slot (R609). -/
def State.modWrite (s : State) (g l v : Nat) : State :=
  if s.levelShut (g / 8) then s.set (DAC.STAT.WR_IGNORED g l) 1 else s.plainWrite (DAC.MOD.reg g l) v

/-- LEVEL_BATCH_APPLY (R589, R590): the batches whose vector has begun at the balls of an octet. -/
def execLevelBatchApply (g : Octet) (s : State) : Host.Outcome State Fault Refusal := .next (s.applyBatches g)

/-! ### Span changes (R593, R594) -/

/-- Ticks from the acceptance of a span change to the switch of the span, and to its step 5. -/
def spanSwitch : Nat := 15000
def spanStep5 : Nat := 30000

/-- A write of SPAN in one slot (R593, R594). -/
def State.spanWrite (s : State) (g l k span : Nat) : State :=
  let m := s.modeOf (g / 8)
  if !(m = mStandby || m = mSetup) || s.flag (DAC.STAT.SPAN_CHG g l) then s.set (DAC.STAT.WR_IGNORED g l) 1
  else if s.get (DAC.LVL.CFG.SPAN g l k) = span then s
  else
    let s := (s.set (DAC.STAT.SPAN_CHG g l) 1).onDac g l k fun d => { d with span := some s.tick, to_ := span, stage := 0, written := false }
    let s := s.rebase g l k (safeCode k)
    if l < 8 then s.refreshBall g l else s

/-- DAC_SPAN_WRITE (R593). -/
def execDacSpanWrite (g : Octet) (l : Slot) (k : DacIdx) (span : Fin 2) (s : State) : Host.Outcome State Fault Refusal :=
  .next (s.whileOn (g / 8) (DAC.LVL.CFG.reg g l k) fun s => s.slotWrite g l fun s l => s.spanWrite g l k span)

/-- The steps of a DAC's span change that time has reached (R593): the switch of the span, and step 5. -/
def State.spanStep (s : State) (g l k : Nat) : State :=
  let d := s.dac g l k
  match d.span with
  | none => s
  | some t0 =>
    let s := if d.stage = 0 && t0 + spanSwitch ≤ s.tick then
        let s := ((s.set (DAC.LVL.CFG.SPAN g l k) d.to_).setPend g l k false).onDac g l k fun d => { d with stage := 1 }
        if d.written then s else s.set (DAC.LVL.CODE.CODE g l k) (safeCode k)
      else s
    if (s.dac g l k).stage = 1 && t0 + spanStep5 ≤ s.tick then
      let s := s.onDac g l k fun d => { d with stage := 2 }
      s.rebaseCore g l
    else s

/-- Every span change takes the steps that time has reached. -/
def State.spanSteps (s : State) : State :=
  s.each (s.dacs.filter fun e => e.2.span.isSome) fun s e => s.spanStep (e.1 / 72) (e.1 % 72 / 8) (e.1 % 8)

/-- LVL_WRITE goes on with a slot whose span has changed, and replies after the last (R876). -/
def State.lvlSpanDone (s : State) (g l : Nat) : State :=
  match s.findJob fun j => j.packet.opcode = 0x203 && j.packet.arg 0 = g && j.mask.testBit l with
  | none => s
  | some j =>
    let p := j.packet
    let s := if (p.arg 3).testBit 0 then s.stageWrite g l (p.arg 2) (p.arg 5) else s
    let left := maskOf ((bitsOf 9 j.mask).filter (· ≠ l))
    if left = 0 then s.endJob j stDone [] else s.updateJob j { j with mask := left }

/-- SPAN_CHANGE_DONE (R593, R594): SPAN_CHG returns to 0, and the ball to its state. -/
def execSpanChangeDone (g : Octet) (l : Slot) (s : State) : Host.Outcome State Fault Refusal :=
  let s := s.each (List.range 8) fun s k => s.spanStep g l k
  match (List.range 8).find? fun k => (s.dac g l k).span.isSome with
  | some k =>
    if (s.dac g l k).stage = 2 then
      let s := s.onDac g l k fun d => { d with span := none, written := false }
      let s := s.rebaseCore g l
      let s := s.set (DAC.STAT.SPAN_CHG g l) 0
      let s := if l.val < 8 then s.refreshBall g l else s
      .next (s.lvlSpanDone g l)
    else .next s
  | none => .next s

/-! ### Holds, parking, the monitor (R582 to R584, R596, R599) -/

/-- DAC_HOLD_END (R582, R584, R603): a sample that fell in the hold is applied at its end. -/
def execDacHoldEnd (g : Octet) (l : Slot) (k : DacIdx) (s : State) : Host.Outcome State Fault Refusal :=
  let d := s.dac g l k
  match d.hold with
  | some t =>
    if t ≤ s.tick then
      let s := (s.set (DAC.LVL.ACT.HOLD g l k) 0).setDac g l k { d with hold := none, waits := false }
      .next (if d.waits then s.dacFollow g l k else s)
    else .next s
  | none => .next s

/-- DAC_PARK_START (R596): the paths of the ball are open. -/
def execDacParkStart (g : Octet) (l : Slot) (s : State) : Host.Outcome State Fault Refusal :=
  let t := Tab.get (fun _ => 0) s.parks (9 * g + l)
  if t ≠ 0 && t ≤ s.tick + 1 then .next (s.parkSlot g l) else .next s

/-- A DAC fault counts toward the retirement of its core, and fails a run of it (R787, R792). -/
def State.dacFaultCore (s : State) (g c : Nat) : State :=
  let times := ((s.core g c).faults.filter fun t => decide (s.quill.qsec < t + 86400)) ++ [s.quill.qsec]
  let s := s.onCore g c fun x => { x with faults := times.drop (times.length - 3) }
  let s := if s.underRun g = some c then s.onRot g fun r => { r with faulted := true } else s
  if 3 ≤ times.length then s.retire g c rcDacFault else s

/-- DAC_MONITOR_FAULT (R599): the output has differed from its code by more than 5 mV for 10 µs while it was compared. -/
def execDacMonitorFault (g : Octet) (l : Slot) (k : DacIdx) (s : State) : Host.Outcome State Fault Refusal :=
  let d := s.dac g l k
  if s.get (DAC.LVL.ACT.OUT g l k) ≠ doHiz && d.hold.isNone && decide (d.upd + 18000 ≤ s.tick) && !s.flag (DAC.STAT.SPAN_CHG g l)
      && !(s.get (DAC.MOD.EN g l)).testBit k then
    let core := s.coreAt g l
    let s := (s.set (DAC.STAT.FAULT g l) (s.get (DAC.STAT.FAULT g l) ||| 2 ^ k.val)).refreshDac g l k
    let s := if l.val < 8 then (s.set (STEER.CTL.FORCE_ISO g) (s.get (STEER.CTL.FORCE_ISO g) ||| 2 ^ l.val)).refreshBall g l else s
    .next ((s.raise (srcDacFault (g / 8))).dacFaultCore g core)
  else .next s

/-- FAULT bits of a slot are cleared (R599). -/
def State.faultClear (s : State) (g l mask : Nat) : State :=
  let old := s.get (DAC.STAT.FAULT g l)
  let s := s.set (DAC.STAT.FAULT g l) (old - (old &&& mask))
  s.each (bitsOf 8 (old &&& mask)) fun s k => s.refreshDac g l k

/-! ### Sine generators (R600 to R607, R613, R614) -/

/-- A write of GO (R604). -/
def State.sineGo (s : State) : State :=
  if s.flag DEV.SINE_GO.BUSY then s else { s.set DEV.SINE_GO.BUSY 1 with sineAt := some ((s.tick + 128 + 63) / 64 * 64) }

/-- SINE_GO (R604). -/
def execSineGo (s : State) : Host.Outcome State Fault Refusal := .next s.sineGo

/-- May a generator run? (R605, R606) -/
def State.sineMay (s : State) (k : Nat) : Bool :=
  (s.modeOf k = mSetup || s.modeOf k = mRun || s.modeOf k = mMeasure) && !s.inSafe k

/-- SINE_START (R604): at the instant that GO fixed. -/
def execSineStart (s : State) : Host.Outcome State Fault Refusal :=
  match s.sineAt with
  | some t =>
    if t ≤ s.tick then
      let s := { s.set DEV.SINE_GO.BUSY 0 with sineAt := none }
      .next (s.each (List.range 64) fun s g =>
        if s.flag (SINE.CTL.ARM g) && !s.flag (SINE.CTL.RUN g) && s.sineMay (g / 8) then
          (((s.set (SINE.CTL.ARM g) 0).set (SINE.CTL.RUN g) 1).set (SINE.PHASE.PHASE g) (s.get (SINE.PHASE0.PHASE g))).setSine g
            { amp := s.get (SINE.CTL.AMP g), next := t + 64 }
        else s)
    else .next s
  | none => .next s

/-- SINE_SAMPLE (R600, R605 to R607): the next sample of a running generator. -/
def execSineSample (g : Octet) (s : State) : Host.Outcome State Fault Refusal :=
  let x := s.sine g
  if s.flag (SINE.CTL.RUN g) && x.next ≤ s.tick then
    let old := s.get (SINE.PHASE.PHASE g)
    let new := (old + s.get (SINE.FTW.FTW g)) % 2 ^ 32
    let s := s.set (SINE.PHASE.PHASE g) new
    let c := crosses old new
    if c && x.stop then
      .next ((((s.set (SINE.CTL.RUN g) 0).set (SINE.CTL.STOPPED g) 1).setSine g { x with stop := false }).clearSamples g)
    else
      let amp := if c then s.get (SINE.CTL.AMP g) else x.amp
      let s := s.setSine g { x with amp := amp, next := x.next + 64 }
      let m := s.modeOf (g / 8)
      .next (if m = mRun || m = mMeasure then s.spreadSample g (sineSample amp new) else s)
  else .next s

/-- A write of STOP asks a running generator to stop (R606). -/
def State.sineStop (s : State) (g : Nat) : State :=
  if s.flag (SINE.CTL.RUN g) then s.setSine g { s.sine g with stop := true } else s

/-- SINE_STOP_WRITE (R606). -/
def execSineStopWrite (g : Octet) (s : State) : Host.Outcome State Fault Refusal :=
  .next (s.whileOn (g / 8) (SINE.CTL.reg g) fun s => s.sineStop g)

/-- A write of `SINE[g].CTL` (R601, R606, R613): ARM and AMP, unless AMP is beyond its limit; STOP; the W1C bits. -/
def State.sineCtlWrite (s : State) (g v : Nat) : State :=
  let stop (s : State) : State := if v.testBit 29 then s.sineStop g else s
  if 2000 < v % 2 ^ 12 then stop (s.set (SINE.CTL.CFG_ERR g) 1) else stop (s.plainWrite (SINE.CTL.reg g) v)

/-- A write of `SINE[g].FTW` (R601, R607). -/
def State.sineFtwWrite (s : State) (g v : Nat) : State :=
  if 0x15D867C4 < v then s.set (SINE.CTL.CFG_ERR g) 1 else s.plainWrite (SINE.FTW.reg g) v

/-! ### LVL_WRITE (R876) -/

/-- Is a slot of the octet closed to a write by R769? -/
def State.slotShut (s : State) (g l : Nat) : Bool := l = 8 && ((s.rot g).visit.isSome || s.get (STEER.STAT.SPARE g) ≠ 0)

/-- LVL_WRITE, command 0x203 (R585, R586, R593, R594, R876). -/
def execLvlWrite (s : State) : Host.Outcome State Fault Refusal :=
  match s.start 0x203 with
  | none => .next s
  | some (p, s) =>
    let g := p.arg 0
    let lanes := bitsOf 9 (p.arg 1)
    let k := p.arg 2
    let sec := g / 8
    let m := s.modeOf sec
    let stage := (p.arg 3).testBit 0
    let span := (p.arg 3).testBit 1
    if 64 ≤ g || 512 ≤ p.arg 1 then .next (s.reply p stBadParam [])
    else if m = mOff || (stage && m = mCalibrate) || (!stage && s.levelShut sec) || (span && !(m = mStandby || m = mSetup))
        || lanes.any fun l => s.slotShut g l || (span && s.flag (DAC.STAT.SPAN_CHG g l)) then .next (s.reply p stBusy [])
    else if 8 ≤ k || (span && 2 ≤ p.arg 4) then .next (s.reply p stBadParam [])
    else
      let s := if span then s.each lanes fun s l => s.slotWrite g l fun s l => s.spanWrite g l k (p.arg 4) else s
      let chg := maskOf (lanes.filter fun l => s.flag (DAC.STAT.SPAN_CHG g l))
      let s := s.each lanes fun s l => s.slotWrite g l fun s i =>
        if !stage then s.codeWrite g i k (p.arg 5) else if chg.testBit l then s else s.stageWrite g i k (p.arg 5)
      .next (if chg = 0 then s.reply p stDone [] else s.addJob p chg 0)

end Sys2Proof.Machine
end

