-- ==== Sys2Proof/Machine/Marginalia.lean ====
section
/-! DEFINITION. The rows of Marginalia: vectors that resolve, records written, runs opened and closed, and its registers'
writes (R622 to R664). -/

namespace Sys2Proof.Machine
open Reg

/-- VECTOR_RESOLVE (R623): the oldest vector index not yet final, once its resolution instant has come; its result is kept for
compare decisions (R624) and counted by Marginalia (R625, R626). -/
def execVectorResolve (k : Sector) (s : State) : Host.Outcome State Fault Refusal :=
  match (s.scribe k).inked with
  | [] => .next s
  | e :: rest =>
    match e.resolvesAt with
    | none => .next s
    | some at_ =>
      if s.nowDots < at_ then .next s
      else
        let final : Final := { idx := e.idx, fail := e.fail, pass := e.pass &&& (2 ^ 64 - 1 - e.fail), instant := at_ }
        let s := s.onScribe k fun c => { c with
          inked := rest, resolved := c.resolved + 1
          finals := if s.scState k = scRunning then c.finals ++ [final] else c.finals }
        .next ((s.margResolve k e at_).trimFinals k)

/-- MARG_RECORD_WRITE (R638): the oldest owed record crosses the sector's fail-record lane and lies in the destination; after
the CLOSE record the run is closed (R652). -/
def State.margRecordWrite (s : State) (k : Nat) : State :=
  match (s.marg k).owed with
  | [] => s
  | r :: _ =>
    let t := s.transfer (sectorLink k 1)
    if t.1 then
      let s := t.2.margWrite k r
      if r.kind = mtClose then s.margClosed k else s
    else t.2

def execMargRecordWrite (k : Sector) (s : State) : Host.Outcome State Fault Refusal := .next (s.margRecordWrite k)

/-- The counts of R662 and R664. -/
def State.margClearCounts (s : State) (k : Nat) : State :=
  let b := margBase k
  s.resetRegs fun a => (decide (b + 0x30 ≤ a) && decide (a ≤ b + 0x54)) || (decide (b + 0x1000 ≤ a) && decide (a < b + 0x1400))

/-- The destination of a run (R629, R630), as (kind, size, banks). -/
def State.margDest (s : State) (k : Nat) : Nat × Nat × List Nat :=
  if s.flag (PS.RESV.FAIL_ON k) && decide (0 < (s.window k 1).2) then (1, (s.window k 1).2 * 2097152, [])
  else
    let named := s.get (MARG.BUF.BANKS k)
    let banks := (List.range 16).filter fun b => named.testBit b && s.get (SS.BANK.OWNER k b) = owMarginalia
    if banks.isEmpty then (0, 0, []) else (2, 16384 * banks.length, banks)

/-- A run is opened for the oldest START that waits (R629, R651). -/
def State.margOpen (s : State) (k : Nat) (q : MargStart) : State :=
  let m := s.marg k
  let d := s.margDest k
  let accum := s.flag (MARG.CFG.ACCUM k)
  let mode := if d.1 = 0 then 0 else s.get (MARG.CFG.MODE k)
  let s := if d.1 = 0 then s.set (MARG.STAT.NO_DEST k) 1 else s
  let s := ((s.set (MARG.STAT.TRIP k) 0).set (MARG.STAT.WHY k) 0).set (MARG.STAT.NEAR_FULL k) 0
  let s := (((s.set (MARG.STAT.CLOSED k) 0).set (MARG.STAT.SEQ k) 0).set (MARG.RES.INK k) 0).set (MARG.RES.PEN k) 0
  let s := if accum then s
    else
      let s := (s.margClearCounts k).wr (MARG.WPTR.reg k) 0
      if s.get (MARG.CFG.MODE k) = 3 then s.wr (MARG.RPTR.reg k) 0 else s
  s.setMargRes k { queue := m.queue.tail, running := true, start := q, mode := mode, dest := d.1, size := d.2.1, banks := d.2.2
                   fails := if accum then m.fails else 0, folio := m.folio, lostPairs := 0, lostMarks := 0
                   rptr := s.rd (MARG.RPTR.reg k), rptrAt := s.tick }

/-- MARG_RUN_OPEN (R651): once the previous run is closed. -/
def execMargRunOpen (k : Sector) (s : State) : Host.Outcome State Fault Refusal :=
  let m := s.marg k
  match m.queue with
  | q :: _ => if m.running || !(s.scribe k).inked.isEmpty then .next s else .next (s.margOpen k q)
  | [] => .next s

/-- Every owed record of a run is written, in order; a struck transfer waits for its retry (R652, R1051). -/
def State.margFlush (s : State) (k : Nat) : Nat → State
  | 0 => s
  | n + 1 =>
    let left := (s.marg k).owed.length
    let s := s.margRecordWrite k
    if (s.marg k).owed.length < left then s.margFlush k n else s

/-- MARG_RUN_CLOSE (R652): the Scribe's run has ended and its last vector has resolved. A run that writes no records is
closed at once. -/
def execMargRunClose (k : Sector) (s : State) : Host.Outcome State Fault Refusal :=
  let m := s.marg k
  match m.running, m.start.stop with
  | true, some e =>
    if !(s.scribe k).inked.isEmpty then .next s
    else
      let s := if m.closing then s else s.margForm k e
      if (s.marg k).mode = 0 then .next (s.margClosed k) else .next (s.margFlush k (s.marg k).owed.length)
  | _, _ => .next s

/-- A write of `MARG[s].RPTR` (R631). -/
def State.margRptrWrite (s : State) (k : Nat) (v : Word) : State :=
  let m := s.marg k
  let v := v &&& 0xBFFFFFFF
  if m.mode = 3 && !ringValid m.size (s.rd (MARG.WPTR.reg k)) v then s.set (MARG.STAT.RP_ERR k) 1
  else
    let old := s.rd (MARG.RPTR.reg k)
    (s.wr (MARG.RPTR.reg k) v).onMarg k fun m => if m.rptrAt = s.tick then m else { m with rptr := old, rptrAt := s.tick }

/-- MARG_RPTR_WRITE (R631). -/
def execMargRptrWrite (k : Sector) (v : Word) (s : State) : Host.Outcome State Fault Refusal :=
  .next (s.whileOn k (MARG.RPTR.reg k) fun s => s.margRptrWrite k v)

/-- A write of `MARG[s].CLR` (R655, R663). -/
def State.margClrWrite (s : State) (k : Nat) (v : Word) : State :=
  if !v.getLsbD 0 then s
  else if s.scribeBusy k then s.set (MARG.STAT.WR_IGNORED k) 1
  else
    let s := ((s.margClearCounts k).wr (MARG.WPTR.reg k) 0).wr (MARG.RPTR.reg k) 0
    s.onMarg k fun m => { m with rptr := 0, rptrAt := s.tick }

/-- MARG_CLR (R663). -/
def execMargClr (k : Sector) (s : State) : Host.Outcome State Fault Refusal :=
  .next (s.whileOn k (MARG.CLR.reg k) fun s => s.margClrWrite k 1)

/-- A write of a configuration register of Marginalia (R656, R658, R659): `MARG[s].CFG`, the limits and masks, and BUF,
whose banks take their owner from it. -/
def State.margConfigWrite (s : State) (k off : Nat) (v : Word) : State :=
  if s.scribeBusy k then s.set (MARG.STAT.WR_IGNORED k) 1
  else if off = 0 && decide (4 ≤ v.field 0 3) then s.set (MARG.STAT.CFG_ERR k) 1
  else if off = 0x20 then
    if v.getLsbD 0 || decide (v.field 0 16 &&& s.get (PS.RA_CFG.BANKS k) ≠ 0) then s.set (MARG.STAT.CFG_ERR k) 1
    else
      match s.renameBanks k owMarginalia (s.get (MARG.BUF.BANKS k)) (v.field 0 16) with
      | none => s.set (MARG.STAT.CFG_ERR k) 1
      | some s => s.plainWrite (MARG.BUF.reg k) v.toNat
  else s.plainWrite (margBase k + off) v.toNat

end Sys2Proof.Machine
end

