-- ==== Sys2Proof/Machine/Blotter.lean ====
section
/-! DEFINITION. The rows of the Blotter: records, triggers, masks, resolution, draining and the registers' writes (R665 to
R706). -/

namespace Sys2Proof.Machine
open Reg

/-- The tag of phase `p` of the present tick (R667). -/
def State.phaseTag (s : State) (p : Nat) : Nat := 1024 * s.tick + 128 * p

/-- The vector index and the gate that a sample of an octet carries (R672, R680, R700). -/
def State.sampleVector (s : State) (k g tag : Nat) : Nat × Bool :=
  if (s.blot k).measure then (0, true)
  else match s.begunAt g tag with
    | some b => (b.idx, b.gate)
    | none => (0, false)

/-- Are samples at a tag taken into the capture? (R679, R700) -/
def State.blotTakes (s : State) (k tag : Nat) : Bool :=
  let b := s.blot k
  s.capturing k && decide (b.from_ ≤ tag) && (match b.isOver with | some t => decide (tag ≤ t) | none => true)

/-! ### CHANGE records (R672, R673, R687) -/

/-- Two bits of lane `l`. -/
def laneCode (w l : Nat) : Nat := w / 4 ^ l % 4

/-- How often a code changes along a sequence. -/
def changesIn : List Nat → Nat
  | a :: b :: t => b2n (decide (a ≠ b)) + changesIn (b :: t)
  | _ => 0

/-- The recorded pins of a local octet. -/
def State.capMask (s : State) (k o : Nat) : Nat :=
  (s.get (BLOT.CAPMASK_LO.MASK k) + s.get (BLOT.CAPMASK_HI.MASK k) * 2 ^ 32) / 2 ^ (8 * o) % 2 ^ 8

/-- A sample interval of local octet `o` ends at phase `p` of the present tick (R672, R673, R687): `samples` are the codes of
its lanes, two bits each, at the phases of the interval. -/
def State.blotForm (s : State) (k o p : Nat) (samples : List Nat) : State :=
  let b := s.blot k
  let g := 8 * k + o
  let tag := s.phaseTag p
  let res := s.get (BLOT.STAT.RES k)
  let v := s.sampleVector k g tag
  if !s.blotTakes k tag || (8 * s.tick + p + 1) % 2 ^ res ≠ 0 || s.gateShut k v.2 then s
  else
    match samples.getLast? with
    | none => s
    | some now =>
      let whole := b.whole.testBit o
      let old := Tab.get (fun _ => 0) b.last o
      let mask := s.capMask k o
      let lanes := List.range 8
      let seq (l : Nat) : List Nat := (if whole then [] else [laneCode old l]) ++ samples.map (laneCode · l)
      let chg := if whole then 0xFF else maskOf (lanes.filter fun l => mask.testBit l && laneCode now l ≠ laneCode old l)
      let glitch := maskOf (lanes.filter fun l => mask.testBit l && decide (2 ≤ changesIn (seq l)))
      if chg = 0 && glitch = 0 then s
      else
        let shows := if whole then 0xFF else mask
        let levels := (lanes.map fun l => (if shows.testBit l then laneCode now l else laneCode old l) * 4 ^ l).sum
        let in_ := lanes.filter fun l => shows.testBit l
        let flags := s.blotFlags k + (if res ≠ 0 then bfCoarse else 0) + (if in_.any (s.noSense g) then bfNosense else 0)
          + (if in_.any fun l => (s.agedLanes g).testBit l then bfAge else 0)
        let before := (s.blot k).gapLost
        let s := s.blotData k o { tag := tag, rank := brChange o, bits := blotBits 1 flags o levels tag (chg + glitch * 2 ^ 8 + v.1 % 2 ^ 32 * 2 ^ 22) }
        if (s.blot k).gapLost ≠ before && (s.blot k).decim then s
        else s.onBlot k fun b => { b with last := Tab.put (fun _ => 0) b.last o levels, whole := maskOf ((bitsOf 8 b.whole).filter (· ≠ o)) }

/-- BLOT_RECORD_FORM (R673). -/
def execBlotRecordForm (k : Sector) (o : Fin 8) (p : Fin 8) (samples : List (BitVec 16)) (s : State) : Host.Outcome State Fault Refusal :=
  .next (s.blotForm k o p (samples.map (·.toNat)))

/-! ### Triggers and masks (R690 to R698) -/

/-- A condition holds at a sample: every pin's code is in its set (R690). -/
def State.trigHolds (s : State) (k j codes : Nat) : Bool :=
  (List.range 64).all fun p => (s.get (BLOT.TRG.SET.SET k j (p / 8))).testBit (4 * (p % 8) + laneCode codes p)

/-- A firing or a mask stop counts for BLOT_TRIG from its detection instant (R693); the spec leaves it open up to a bound. -/
def State.blotDetect (s : State) (k tag : Nat) : State :=
  let most := (List.range 64).foldl (fun m p => max m (s.get (NIB.DESKEW.CMP (8 * k + p / 8) (p % 8)))) 0
  let f := s.fresh
  f.2.onScribe k fun c => { c with trigs := (tag + f.1 % (24 * 1024 + most + 1)) :: c.trigs }

/-- The Blotter interrupt of a sector (R693, R883). -/
def State.blotIrq (s : State) (k : Nat) : State := s.signal (18 + k)

/-- The TRIG mark of a sample (R694): one for all firings and violations of it. Pins and masks are merged lowest first. -/
def State.trigMark (s : State) (k tag tbits mbits act pin : Nat) (stops : Bool) : State :=
  let b := s.blot k
  let vidx := (s.sampleVector k (s.paceOctet k) tag).1
  let form (flags tb mb a q : Nat) : Nat :=
    blotBits 3 flags bkTrig (tb + mb * 2 ^ 8 + a * 2 ^ 12) tag (vidx % 2 ^ 32 + q * 2 ^ 32)
  match b.staging.find? fun r => decide (r.tag = tag ∧ r.rank = brTrig) with
  | some r =>
    let tb := r.bits / 2 ^ 16 % 2 ^ 8
    let mb := r.bits / 2 ^ 24 % 2 ^ 4
    let a := r.bits / 2 ^ 28 % 2 ^ 4
    let q := r.bits / 2 ^ 106 % 2 ^ 6
    let lowest (m : Nat) : Nat := (bitsOf 4 m).headD 4
    let q' := if lowest mbits < lowest mb then pin else if lowest mbits = lowest mb && mbits ≠ 0 then min pin q else q
    let a' := if act = 3 || a = 3 then 3 else if tb ≠ 0 then a else act
    let r' := { r with bits := form (r.bits / 2 ^ 4 % 2 ^ 8 * 2 ^ 4) (tb ||| tbits) (mb ||| mbits) a' q', stops := r.stops || stops }
    s.setStaging k (b.staging.map fun x => if x.tag = tag && x.rank = brTrig then r' else x)
  | none =>
    if !s.capturing k then s
    else if act = 0 && (b.decim || (s.get (BLOT.STAT.RES k) = s.get (BLOT.CFG.MAX_RES k) && decide (blotDecimate ≤ b.staging.length))) then
      s.blotDrop k tag 0
    else s.blotAdd k { tag := tag, rank := brTrig, bits := form (s.blotFlags k) tbits mbits act pin, stops := stops }

/-- The capture stops after POST_N further records (R692, R699); the mark of the stop is given with it. -/
def State.blotStop (s : State) (k tag : Nat) (mark : Bool → State → State) : State :=
  if !s.capturing k then mark false s
  else
    let first := (s.blot k).post.isNone
    let s := mark first (s.set (BLOT.STAT.STOPPED k) 1)
    if !first || !s.capturing k then s
    else
      let n := s.get (BLOT.POST_N.RECORDS k)
      if n = 0 then s.blotEnd k beStop tag else s.onBlot k fun b => { b with post := some n }

/-- A trigger is judged at a sample (R691): whether it fires, and how it stands afterwards. -/
def State.trigJudge (s : State) (k codes : Nat) (gate : Bool) (j : Nat) : Bool × TrigRun :=
  let t := s.trigRun k j
  let holds := s.trigHolds k j codes
  let entry := holds && !t.held && t.armed && !t.spent && (gate || !s.flag (BLOT.TRG.CTL.GATE k j)) && s.flag (BLOT.TRG.CTL.EN k j)
  let n := max 1 (s.get (BLOT.TRG.CTL.N k j))
  let count := t.count + b2n entry
  if entry && decide (n ≤ count) then (true, { t with held := holds, count := 0, spent := !s.flag (BLOT.TRG.CTL.REARM k j) })
  else (false, { t with held := holds, count := count })

/-- A sample of the sector's pins, two bits each (R690 to R694): every trigger is judged on it; where any fires, the lowest
acts, unless the stop of a mask at the same sample outranks it. -/
def State.trigSample (s : State) (k p codes : Nat) : State :=
  let b := s.blot k
  let tag := s.phaseTag p
  if !b.live || tag < b.liveAt then s
  else
    let gate := (s.sampleVector k (s.paceOctet k) tag).2
    let judged := (List.range 8).map (s.trigJudge k codes gate)
    let fired := (List.range 8).filter fun j => (judged.getD j (false, {})).1
    let s := s.each (List.range 8) fun s j => s.setTrig k j (judged.getD j (false, {})).2
    match fired with
    | [] => s
    | j :: _ =>
      let s := s.each (List.range 8) fun s i =>
        let by_ := s.get (BLOT.TRG.CTL.ARM_BY k i)
        if 8 ≤ by_ && fired.contains (by_ - 8) then s.setTrig k i { s.trigRun k i with armed := true } else s
      let s := s.each fired fun s i =>
        let s := (s.bump (BLOT.TRG.CNT.FIRES k i) 1).blotDetect k tag
        if s.flag (BLOT.TRG.CTL.IRQ k i) then s.blotIrq k else s
      let s := (s.set (BLOT.STAT.FIRED k) 1).set (BLOT.STAT.TBITS k) (s.get (BLOT.STAT.TBITS k) ||| maskOf fired)
      let act := s.get (BLOT.TRG.CTL.ACT k j)
      let outranked := b.staging.any fun r => decide (r.tag = tag ∧ r.rank = brTrig ∧ r.bits / 2 ^ 28 % 16 = 3)
      let mark (stops : Bool) (s : State) : State := s.trigMark k tag (maskOf fired) 0 act 0 stops
      if outranked then mark false s
      else if act = 1 then mark false (if (s.blot k).mode = 2 then s.blotCapture k tag else s)
      else if act = 2 then s.blotStop k tag mark
      else mark false s

/-- TRIGGER_FIRE (R691). -/
def execTriggerFire (k : Sector) (p : Fin 8) (codes : BitVec 128) (s : State) : Host.Outcome State Fault Refusal :=
  .next (s.trigSample k p codes.toNat)

/-- A sample of a mask window: its index where it violates (R696). -/
def violation (codes : List Nat) : Option Nat :=
  codes.findIdx? fun c => c = 0 || c = 3 || some c ≠ codes.head?

/-- The end at the balls of the `back`-th latest vector of an octet. -/
def State.begunEnd (s : State) (g back : Nat) (b : Begun) : Nat :=
  let o := s.oct g
  if 0 < back then (o.recent.getD (back - 1) {}).v else b.v + dotOf (s.period g o.entry)

/-- The window of unit interval `j` of a vector on a pin has passed, with the codes of its samples (R695 to R698). -/
def State.maskWindow (s : State) (k m pin j back : Nat) (codes : List Nat) : State :=
  let b := s.blot k
  let g := 8 * k + pin / 8
  let t := s.maskRun k m
  let mode := s.get (BLOT.MSK.CTL.MODE k m)
  let pins := s.get (BLOT.MSK.PMASK_LO.MASK k m) + s.get (BLOT.MSK.PMASK_HI.MASK k m) * 2 ^ 32
  match (s.oct g).recent[back]? with
  | none => s
  | some v =>
    let start := v.v + s.get (BLOT.MSK.CTL.OFFSET k m) + j * t.ui
    let from_ := (start + t.open_ + 127) / 128
    let n := (start + t.close) / 128 + 1 - from_
    let gated := s.flag (BLOT.MSK.CTL.GATE k m) && !b.measure && !v.gate
    if mode = 0 || !pins.testBit pin || s.get (BLOT.MSK.CTL.UIN k m) < j || !b.live || start < b.liveAt || t.stopped || gated
        || s.begunEnd g back v ≤ start || s.nowDots < start + t.close then s
    else
      let taken := codes.take n
      if taken.isEmpty then s.set (BLOT.MSK.FIRST_HI.EMPTY k m) 1
      else
        let s := s.bump (BLOT.MSK.WCNT.COUNT k m) 1
        match violation taken with
        | none => s
        | some i =>
          let tag := 128 * (from_ + i)
          let s := s.bump (BLOT.MSK.VCNT.COUNT k m) 1
          let s := if s.flag (BLOT.MSK.FIRST_HI.VALID k m) then s
            else
              let s := (s.set (BLOT.MSK.FIRST_LO.TICK k m) (tag / 1024)).set (BLOT.MSK.FIRST_HI.DOT k m) (tag % 1024)
              let s := (s.set (BLOT.MSK.FIRST_HI.PIN k m) pin).set (BLOT.MSK.FIRST_HI.VALID k m) 1
              if s.flag (BLOT.MSK.CTL.IRQ k m) then s.blotIrq k else s
          let marked := Tab.get (fun _ => 0) t.marks (pin / 8) = v.v + 1
          let same := b.staging.any fun r => decide (r.tag = tag ∧ r.rank = brTrig) && (r.bits / 2 ^ 24 % 16).testBit m
          if mode < 2 || (marked && !same) then s
          else
            let stops := decide (mode = 3)
            let s := s.setMask k m { t with marks := Tab.put (fun _ => 0) t.marks (pin / 8) (v.v + 1), stopped := stops }
            let mark (first : Bool) (s : State) : State := s.trigMark k tag 0 (2 ^ m) (if stops then 3 else 0) pin first
            if stops then (s.blotDetect k tag).blotStop k tag mark else mark false s

/-- MASK_VIOLATION (R696): the window of interval `j` of the `back`-th latest vector of the pin's octet. -/
def execMaskViolation (k : Sector) (m : Fin 4) (pin : Fin 64) (j back : Fin 16) (codes : List (Fin 4)) (s : State) :
    Host.Outcome State Fault Refusal :=
  .next (s.maskWindow k m pin j back (codes.map (·.val)))

/-! ### Folios, resolution and decimation (R678, R688, R689) -/

/-- FOLIO_MARK (R678). -/
def execFolioMark (k : Sector) (s : State) : Host.Outcome State Fault Refusal :=
  if s.tick % 2 ^ 32 = 0 && s.blotTakes k (1024 * s.tick) then .next (s.blotMark k brFolio bkFolio 0 0 (1024 * s.tick) (s.tick / 2 ^ 32 % 2 ^ 32))
  else .next s

/-- The resolution changes, with its COARSEN mark at the first sample of the new level (R687, R688). -/
def State.blotResolve (s : State) (k res : Nat) : State :=
  let first := (8 * s.tick + 2 ^ res - 1) / 2 ^ res * 2 ^ res + 2 ^ res - 1
  let s := (s.set (BLOT.STAT.RES k) res).onBlot k fun b => { b with changedAt := s.tick, lowAt := b.lowAt.map fun _ => s.tick }
  s.blotMark k brCoarsen bkCoarsen 0 res (128 * first) 0

/-- BLOT_RESOLUTION_CHANGE (R688). -/
def execBlotResolutionChange (k : Sector) (s : State) : Host.Outcome State Fault Refusal :=
  let b := s.blot k
  let res := s.get (BLOT.STAT.RES k)
  let low := match b.lowAt with | some t => decide (t + 4096 ≤ s.tick) | none => false
  if !s.capturing k then .next s
  else if s.get (BLOT.RED.HI k) ≤ b.staging.length && decide (b.changedAt + 512 ≤ s.tick) && decide (res < s.get (BLOT.CFG.MAX_RES k)) then
    .next (s.blotResolve k (res + 1))
  else if low && res ≠ 0 then .next (s.blotResolve k (res - 1))
  else .next s

/-- BLOT_DECIMATION_START (R689). -/
def execBlotDecimationStart (k : Sector) (s : State) : Host.Outcome State Fault Refusal :=
  let b := s.blot k
  if s.capturing k && !b.decim && s.get (BLOT.STAT.RES k) = s.get (BLOT.CFG.MAX_RES k) && decide (blotDecimate ≤ b.staging.length) then
    .next (s.onBlot k fun b => { b with decim := true })
  else .next s

/-- BLOT_DECIMATION_END (R689): the first sample kept is phase `p` of the present tick. -/
def execBlotDecimationEnd (k : Sector) (p : Fin 8) (s : State) : Host.Outcome State Fault Refusal :=
  let b := s.blot k
  if s.capturing k && b.decim && decide (b.staging.length ≤ s.get (BLOT.RED.LO k)) then
    .next ((s.blotGapEnd k (s.phaseTag p)).blotCounted k (s.phaseTag p))
  else .next s

/-! ### Draining (R677, R682 to R686) -/

/-- Position of a Blotter pointer, with its WRAP (R704). -/
def blotPos (w : Word) : Nat := w.field 0 31

/-- Records from a read pointer to a write pointer around a ring, and whether the read pointer is not beyond (R631, R704). -/
def blotUsed (size : Nat) (w r : Word) : Nat :=
  if ptrWrap w = ptrWrap r then blotPos w - blotPos r else blotPos w + size - blotPos r
def blotValid (size : Nat) (w r : Word) : Bool :=
  decide (blotPos r < size) && (if ptrWrap w = ptrWrap r then decide (blotPos r ≤ blotPos w) else decide (blotPos w ≤ blotPos r))

/-- `RPTR` as the room of a ring takes it: a write in the present cycle counts from the next (R699). -/
def State.blotRptr (s : State) (k : Nat) : Word :=
  let b := s.blot k
  if b.rptrAt = s.tick then b.rptr else s.rd (BLOT.RPTR.reg k)

/-- Has the destination room, and does it accept a record now? (R686) -/
def State.blotRoomNow (s : State) (k : Nat) : Bool :=
  let b := s.blot k
  if b.dest = 2 then s.host.linkUp && !s.host.d3hot && decide (blotUsed b.size (s.rd (BLOT.WPTR.reg k)) (s.blotRptr k) < b.size) else true

/-- The head of the staging buffer reaches the destination (R684 to R686, R692, R703). -/
def State.blotWrite (s : State) (k : Nat) (r : BlotRec) : State :=
  let b := s.blot k
  let pos := s.get (BLOT.WPTR.POS k)
  let isEnd := r.rank = brEnd
  let bytes := leBytes 16 (if isEnd then r.bits + (b.written + 1) % 2 ^ 32 * 2 ^ 74 else r.bits)
  let hbase := s.get64 (BLOT.HBASE_LO.reg k) (BLOT.HBASE_HI.reg k)
  let s := if b.dest = 1 then s.stackWordWrite (stackOff (wingOf k) ((s.window k 2).1 * unitSize + 16 * pos)) (bytes.map some) .none
    else s.toHost (hbase + 16 * pos) bytes
  let s := if pos + 1 = b.size && (b.dest = 2 || s.flag (BLOT.CFG.RING k)) then
      (s.set (BLOT.WPTR.POS k) 0).set (BLOT.WPTR.WRAP k) (1 - s.get (BLOT.WPTR.WRAP k))
    else s.set (BLOT.WPTR.POS k) (pos + 1)
  let s := if b.dest = 2 then s.toHost (hbase + 16 * b.size) (leBytes 8 (s.rd (BLOT.WPTR.reg k)).toNat) else s
  let s := (s.bump (BLOT.RECS.COUNT k) 1).onBlot k fun b => { b with written := b.written + 1, ended := b.ended && !isEnd }
  let s := if r.stops then s.set (BLOT.TRIG_POS.POS k) pos else s
  let s := if isEnd then (s.set (BLOT.STAT.ENDED k) 1).set (BLOT.STAT.END_CAUSE k) (r.bits / 2 ^ 16 % 16) else s
  s.setStaging k (s.blot k).staging.tail

/-- BLOT_RECORD_DRAIN (R677, R685): the oldest record, once no earlier one can still enter the staging buffer. -/
def execBlotRecordDrain (k : Sector) (s : State) : Host.Outcome State Fault Refusal :=
  match (s.blot k).staging with
  | [] => .next s
  | r :: _ =>
    if s.tick < r.tag / 1024 + 160 || !s.blotRoomNow k then .next s
    else if (s.blot k).dest = 1 then
      let t := s.transfer (sectorLink k 2)
      if t.1 then .next (t.2.blotWrite k r) else .next t.2
    else .next (s.blotWrite k r)

/-- BLOT_CAPTURE_END (R682): the run's or the mode's records have ended. -/
def execBlotCaptureEnd (k : Sector) (s : State) : Host.Outcome State Fault Refusal :=
  match (s.blot k).isOver with
  | some tag => .next (s.blotEnd k beRun tag)
  | none => .next s

/-! ### Register writes (R682, R697, R702 to R706) -/

/-- BLOT_DISARM (R682). -/
def execBlotDisarm (k : Sector) (s : State) : Host.Outcome State Fault Refusal :=
  .next (s.whileOn k (BLOT.CTL.reg k) fun s => s.blotEnd k beDisarm (1024 * s.tick))

/-- A write of `BLOT[s].RPTR` (R704, R631). -/
def State.blotRptrWrite (s : State) (k : Nat) (v : Word) : State :=
  let b := s.blot k
  let ring := b.dest = 2 || (b.dest = 1 && s.flag (BLOT.CFG.RING k))
  if ring && !blotValid b.size (s.rd (BLOT.WPTR.reg k)) v then s.set (BLOT.STAT.RP_ERR k) 1
  else
    let old := s.blotRptr k
    (s.wr (BLOT.RPTR.reg k) v).onBlot k fun b => { b with rptr := old, rptrAt := s.tick }

/-- BLOT_RPTR_WRITE (R704). -/
def execBlotRptrWrite (k : Sector) (v : Word) (s : State) : Host.Outcome State Fault Refusal :=
  .next (s.whileOn k (BLOT.RPTR.reg k) fun s => s.blotRptrWrite k v)

/-- Are configuration writes of the Blotter ignored? (R700) -/
def State.blotLocked (s : State) (k : Nat) : Bool :=
  s.capturing k || s.modeOf k = mRun || (s.modeOf k = mMeasure && s.flag (BLOT.CFG.MEAS_EN k))

/-- A write of `BLOT[s].MSK[m].CTL` commits UI and WIN (R697, R706). -/
def State.maskCommit (s : State) (k m : Nat) (v : Word) : State :=
  let ui := s.get (BLOT.MSK.UI.UI k m)
  let open_ := s.get (BLOT.MSK.WIN.OPEN k m)
  let close := s.get (BLOT.MSK.WIN.CLOSE k m)
  if s.blotLocked k then s.set (BLOT.STAT.WR_IGNORED k) 1
  else if ui < 128 || close < open_ + 127 || ui ≤ close then s.set (BLOT.STAT.CFG_ERR k) 1
  else (s.plainWrite (BLOT.MSK.CTL.reg k m) v.toNat).setMask k m { s.maskRun k m with ui := ui, open_ := open_, close := close }

/-- MASK_COMMIT (R697). -/
def execMaskCommit (k : Sector) (m : Fin 4) (v : Word) (s : State) : Host.Outcome State Fault Refusal :=
  .next (s.whileOn k (BLOT.MSK.CTL.reg k m) fun s => s.maskCommit k m v)

/-- A write of another configuration register of the Blotter (R702, R705, R706). -/
def State.blotConfigWrite (s : State) (k off : Nat) (v : Word) : State :=
  let trg := decide (0x100 ≤ off) && decide (off < 0x300) && off % 0x40 = 0
  let reserved := (off = 0 && (v.field 24 3 = 7 || v.field 16 2 = 3 || v.field 0 2 = 3))
    || (trg && (v.field 26 2 = 3 || (1 ≤ v.field 16 4 && v.field 16 4 < 8)))
  if s.blotLocked k then s.set (BLOT.STAT.WR_IGNORED k) 1
  else if reserved then s.set (BLOT.STAT.CFG_ERR k) 1
  else s.plainWrite (blotBase k + off) v.toNat

/-! ### Opening a run (R683, R686, R701) -/

/-- Is a number a power of two from 2^12 to 2^28? -/
def hostSizeOk (n : Nat) : Bool := (List.range 17).any fun i => n = 2 ^ (12 + i)

/-- The destination of a run and its size (R683, R684, R686). -/
def State.blotDest (s : State) (k : Nat) : Nat × Nat :=
  if s.get (BLOT.CFG.DEST k) = 1 && (s.window k 2).2 ≠ 0 && s.get (PS.RESV.CAP_BUDGET k) ≠ 0 then (1, (s.window k 2).2 * 4194304)
  else if s.get (BLOT.CFG.DEST k) = 2 && s.get (BLOT.HBASE_LO.ADDR k) % 4096 = 0 && hostSizeOk (s.get (BLOT.HSIZE.RECORDS k)) then
    (2, s.get (BLOT.HSIZE.RECORDS k))
  else (0, 0)

/-- The registers that a run clears (R701): pointers, trigger and mask counts. -/
def State.blotClear (s : State) (k : Nat) : State :=
  let s := ((s.wr (BLOT.WPTR.reg k) 0).wr (BLOT.RPTR.reg k) 0).wr (BLOT.TRIG_POS.reg k) 0
  let s := (s.set (BLOT.STAT.TBITS k) 0).set (BLOT.STAT.RES k) 0
  let s := s.each (List.range 8) fun s j => s.wr (BLOT.TRG.CNT.reg k j) 0
  s.each (List.range 4) fun s m =>
    let s := ((s.wr (BLOT.MSK.WCNT.reg k m) 0).wr (BLOT.MSK.VCNT.reg k m) 0).wr (BLOT.MSK.FIRST_LO.reg k m) 0
    ((s.set (BLOT.MSK.FIRST_HI.VALID k m) 0).set (BLOT.MSK.FIRST_HI.PIN k m) 0).set (BLOT.MSK.FIRST_HI.DOT k m) 0

/-- The Blotter opens a run (R683, R701). -/
def State.blotOpen (s : State) (k : Nat) : State :=
  let b := s.blot k
  let d := s.blotDest k
  let s := (s.blotClear k).setB (BLOT.STAT.NO_DEST k) (d.1 = 0 || s.flag (BLOT.STAT.NO_DEST k))
  let s := s.setBlot k { lockGen := b.lockGen, enteredAt := b.enteredAt, measure := b.measure
                         mode := if d.1 = 0 then 0 else s.get (BLOT.CFG.CAPMODE k), dest := d.1, size := d.2
                         masks := (b.masks.foldl (fun l e => Tab.put (fun _ => {}) l e.1 { e.2 with stopped := false, marks := [] }) []), rptrAt := b.rptrAt }
  s.setStaging k []

/-- Evaluation begins 64 ticks after the entry to MEASURE (R700). -/
def State.blotEnter (s : State) (k : Nat) : State :=
  let b := s.blot k
  if b.measure && !b.opening && !b.live && s.modeOf k = mMeasure && s.tick = b.enteredAt + 64 then s.blotLive k (1024 * s.tick) else s

/-- BLOT_RUN_OPEN (R701): once the previous capture's END mark is written, or at once on entry to MEASURE. -/
def execBlotRunOpen (k : Sector) (s : State) : Host.Outcome State Fault Refusal :=
  let b := s.blot k
  if !b.opening || (!b.measure && (s.capturing k || !b.staging.isEmpty)) then .next s
  else
    let s := s.blotOpen k
    if b.measure && s.modeOf k = mMeasure && decide (b.enteredAt + 64 ≤ s.tick) then .next (s.blotLive k (1024 * (b.enteredAt + 64))) else .next s

end Sys2Proof.Machine
end

