-- ==== Sys2Proof/Machine/Measure.lean ====
section
/-! DEFINITION. The Hairlines, the MEASURE stimulus, TDR and the DC units (R707 to R755), the boundaries of octets that are not
the pace octet (R426), and the commands of group 0x3xx (R877). -/

namespace Sys2Proof.Machine
open Reg

/-- A number as a word. -/
def wordOf (n : Nat) : Word := BitVec.ofNat 32 n

/-! ### Boundaries of an octet (R426, R443, R727 to R730) -/

/-- An octet of a sector in MEASURE begins its stimulus at the first MEAS_PT boundary at or after 64 ticks after the entry
(R443, R727, R728). -/
def State.startStimulus (s : State) (g : Nat) : State :=
  let e := s.get (PER.CTL.MEAS_PT g)
  let m := s.boundaryNo g e ((s.tick + 64) * 1024 * dotUnit)
  let s := (((s.set (PER.STAT.RUNNING g) 1).set (PER.STAT.CUR_PT g) e).set (PER.STAT.NEXT_PT g) e).set (PER.STAT.CHANGE_PEND g) 0
  let s := s.each (List.range 8) fun s l => (s.setBall g l {}).setB (STK.STAT.B g l) false
  s.onOct g fun o => { running := true, meas := true, entry := e, m := m, next := s.boundaryAt g e m, heldFrac := o.heldFrac, staging := o.staging }

/-- The stimulus of an octet ends with MEASURE (R443). -/
def State.stopStimulus (s : State) (g : Nat) : State :=
  if (s.oct g).meas then
    let s := s.each (List.range 8) fun s l => s.setBall g l {}
    let s := s.onOct g fun o => { o with running := false, meas := false, vectors := [], wsets := [], recent := [], stim := [], rep := 0 }
    ((s.set (PER.STAT.RUNNING g) 0).set (PER.STAT.CHANGE_PEND g) 0).feBoundary g
  else s

/-- The stimulus vector of the next boundary (R727, R728, R730); none while TDR holds the octet (R732). -/
def State.stimulusStep (s : State) (g : Nat) : State :=
  if !(s.tdr g).lanes.isEmpty then s.octetStep g none
  else
    let s := if (s.oct g).rep = 0 then
        s.onOct g fun o => { o with stim := (s.rd (MSR.CTL.reg g)).toNat :: (List.range 8).map fun k => (s.rd (MSR.STIM.reg g k)).toNat }
      else s
    let o := s.oct g
    let ctl := wordOf (o.stim.headD 0)
    let t : Taken := { glyphs := o.stim.getD (1 + o.rep) 0, ts := ctl.field 8 6, gate := true, lanes := ctl.field 0 8 }
    (s.onOct g fun o => { o with rep := if ctl.field 16 3 ≤ o.rep then 0 else o.rep + 1 }).octetStep g (some t)

/-- The line that a vector of an octet other than the pace octet takes (R426): the one inked last, while its span lasts. -/
def State.spanLine (s : State) (k o : Nat) : Option Taken :=
  match (s.scribe k).inked.getLast? with
  | some e => if e.closed then none else some (takenOf e.idx e.bits o)
  | none => none

/-- OCTET_VECTOR_BOUNDARY (R426, R420, R443): the next boundary of an octet, once its instant has come. -/
def execOctetVectorBoundary (g : Octet) (s : State) : Host.Outcome State Fault Refusal :=
  let o := s.oct g
  let k := g.val / 8
  if !o.running || !s.due o.next then .next s
  else if o.meas then .next (s.stimulusStep g)
  else if o.isOver then .next (s.octetStep g none)
  else if g.val = s.paceOctet k || (s.scribe k).word.isSome || s.paceNext k ≤ o.next then .next s
  else .next (s.octetStep g (s.spanLine k (g % 8)))

/-! ### Hairline (R707 to R726, R748 to R751) -/

/-- Is a measurement in progress or queued, or does TDR hold the Hairline? -/
def State.hlBusy (s : State) (g : Nat) : Bool := s.flag (HL.STAT.BUSY g) || s.flag (HL.STAT.QUEUED g)

/-- Is a source a comparator? (R708) -/
def isComparator (c : Nat) : Bool := decide (1 ≤ c) && decide (c ≤ 4)

/-- Are the values of a GO refused? (R713, R717, R718, R749) The words of CTL, SRC, WIN and FREQ_CFG. -/
def hlBad (ctl src win freq : Word) : Bool :=
  let op := ctl.field 28 2
  let start := src.field 28 4
  let stop := src.field 20 4
  let stops := ctl.field 16 4
  decide (2 ≤ op)
    || (if op = 1 then !isComparator start || freq.field 0 16 = 0
        else start = 0 || decide (7 ≤ start) || decide (7 ≤ stop) || (ctl.getLsbD 27 && decide (2 ≤ stops)))
    || decide (win.field 16 16 < win.field 0 16) || win.field 16 16 = 0 || decide (stops < src.field 8 4)

/-- Does a source see the core's own node? (R709) -/
def State.hlNoSense (s : State) (g : Nat) : Bool :=
  let see (src lane : Nat) : Bool := isComparator src && s.noSense g lane
  see (s.get (HL.SRC.START_SRC g)) (s.get (HL.SRC.START_LANE g))
    || (s.get (HL.CTL.OP g) = 0 && see (s.get (HL.SRC.STOP_SRC g)) (s.get (HL.SRC.STOP_LANE g)))

/-- A measurement starts with the two-point calibration (R715). -/
def State.hlStart (s : State) (g : Nat) : State :=
  let s := (s.set (HL.STAT.BUSY g) 1).set (HL.STAT.QUEUED g) 0
  s.onHair g fun h => { h with phase := 1, at_ := s.tick, began := s.tick, coast := s.clk.coasting, left := max 1 (s.get (HL.CTL.REPEAT g))
                               good := [], short := 0, lastStart := 0, lastStops := [] }

/-- A write of `HL[g].CTL` (R720, R723, R724, R749). -/
def State.hlCtlWrite (s : State) (g : Nat) (v : Word) : State :=
  let go := v.getLsbD 31
  if s.hlBusy g then
    if v.getLsbD 30 then s.hlAbandon g else s.set (HL.STAT.WR_IGNORED g) 1
  else if go && s.modeOf (g / 8) ≠ mMeasure then s.set (HL.STAT.REFUSED g) 1
  else
    let s := s.plainWrite (HL.CTL.reg g) v.toNat
    if !go then s
    else if hlBad v (s.rd (HL.SRC.reg g)) (s.rd (HL.WIN.reg g)) (s.rd (HL.FREQ_CFG.reg g)) then s.set (HL.STAT.CFG_ERR g) 1
    else if s.flag (HL.STAT.SELFCHECK g) then s.set (HL.STAT.QUEUED g) 1
    else s.hlStart g

/-- A write of SRC, WIN, TIMEOUT or FREQ_CFG (R724). -/
def State.hlConfigWrite (s : State) (g a : Nat) (v : Word) : State :=
  if s.hlBusy g then s.set (HL.STAT.WR_IGNORED g) 1 else s.plainWrite a v.toNat

/-- HL_GO (R710, R720, R724): a write of CTL with GO. -/
def execHlGo (g : Octet) (v : Word) (s : State) : Host.Outcome State Fault Refusal :=
  .next (s.whileOn (g / 8) (HL.CTL.reg g) fun s => s.hlCtlWrite g (v ||| 0x80000000))

/-- HL_ABORT (R724). -/
def execHlAbort (g : Octet) (s : State) : Host.Outcome State Fault Refusal :=
  .next (s.whileOn (g / 8) (HL.CTL.reg g) fun s => if s.hlBusy g then s.hlAbandon g else s)

/-- The dead time in dots, the conversion and the two-point calibration in ticks of the method in use (R713). -/
def State.hlMethod (s : State) (g : Nat) : Nat × Nat × Nat := if s.flag (HL.CTL.RAMP g) then (1024, 1500, 48000) else (256, 48, 400)

/-- HL_CAL_DONE (R715, R716): the sums of the 16 one-tick and of the 16 two-tick intervals, in dots. -/
def execHlCalDone (g : Octet) (one two : BitVec 32) (s : State) : Host.Outcome State Fault Refusal :=
  let h := s.hair g
  if h.phase ≠ 1 || s.tick < h.at_ + (s.hlMethod g).2.2 then .next s
  else
    let far (sum each lim : Nat) : Bool := decide (16 * each + 16 * lim < sum) || decide (sum + 16 * lim < 16 * each)
    if far one.toNat 1024 32 || far two.toNat 2048 64 then
      .next (((s.set (HL.STAT.CAL_FAIL g) 1).raise (srcHlCal (g / 8))).hlFinish g true)
    else
      let s := if s.hlNoSense g then s.set (HL.STAT.NOSENSE g) 1 else s
      .next (s.onHair g fun h => { h with phase := if s.get (HL.CTL.OP g) = 1 then 3 else 2, at_ := s.tick })

/-- The stops of a shot among the instants of the stop source, in dots from the start, with those missed (R710, R711). -/
def takeStops (dead most : Nat) : Option Nat → List Nat → List Nat × Nat
  | _, [] => ([], 0)
  | last, t :: r =>
    if most = 0 then ([], 0)
    else if (match last with | some l => decide (t < l + dead) | none => false) then
      let x := takeStops dead most last r
      (x.1, x.2 + 1)
    else
      let x := takeStops dead (most - 1) (some t) r
      (t :: x.1, x.2)

/-- A square root over n whose rounding the spec leaves open: the greatest integer not above √v / n, or the next. -/
def State.rootOpen (s : State) (v n : Nat) : Nat × State :=
  let r := isqrt v
  if n = 0 then s.fresh
  else if r * r = v && r % n = 0 then (r / n, s)
  else let f := s.fresh; (r / n + f.1 % 2, f.2)

/-- The mean and the population standard deviation of intervals in dots, both in 1/64 dot (R714). -/
def State.meanSpread (s : State) (l : List Nat) : Nat × Nat × State :=
  let n := l.length
  if n = 0 then (0, 0, s)
  else
    let sum := l.sum
    let m := s.roundOpen (64 * sum) n
    let r := m.2.rootOpen (4096 * (n * (l.map fun x => x * x).sum - sum * sum)) n
    (m.1, r.1, r.2)

/-- An interval measurement reports (R714) and ends. -/
def State.hlReport (s : State) (g : Nat) : State :=
  let h := s.hair g
  let s := s.set64 (HL.START_LO.reg g) (HL.START_HI.reg g) h.lastStart
  let s := s.each h.lastStops.zipIdx fun s e => s.set (HL.STOP.INTERVAL g e.2) e.1
  let s := s.set (HL.STOPVALID.VALID g) (2 ^ h.lastStops.length - 1)
  let s := (s.set (HL.SHOTS.GOOD g) h.good.length).set (HL.SHOTS.SHORT g) h.short
  let r := s.meanSpread h.good
  let s := (r.2.2.set (HL.MEAN.DOTS64 g) r.1).set (HL.SPREAD.DOTS64 g) r.2.1
  let s := (s.set (HL.MIN.INTERVAL g) (h.good.foldl min (h.good.headD 0))).set (HL.MAX.INTERVAL g) (h.good.foldl max 0)
  s.hlFinish g false

/-- HL_SHOT_END (R710, R711, R714): the start of the present shot, 54.10, and the instants of the stop source after it in dots
from it, as the Hairline measures them. -/
def execHlShotEnd (g : Octet) (start : BitVec 64) (stops : List (BitVec 32)) (s : State) : Host.Outcome State Fault Refusal :=
  let h := s.hair g
  let t0 := start.toNat
  let most := s.get (HL.CTL.STOPS g) + 1
  let from_ := 1024 * s.get (HL.WIN.OPEN g)
  let till := 1024 * s.get (HL.WIN.CLOSE g)
  let in_ := if s.get (HL.SRC.STOP_SRC g) = 0 then []
    else (stops.map (·.toNat)).filter fun t => decide (0 < t) && decide (from_ ≤ t) && decide (t ≤ till)
  let x := takeStops (s.hlMethod g).1 most none in_
  let ends := t0 + (if x.1.length = most then x.1.getLast?.getD 0 else till)
  if h.phase ≠ 2 || t0 / 1024 < h.at_ || s.nowDots < ends then .next s
  else
    let s := s.bump (HL.MISSED.COUNT g) x.2
    let s := if s.hlNoSense g then s.set (HL.STAT.NOSENSE g) 1 else s
    let good := decide (x.1.length = most)
    let s := s.onHair g fun h => { h with
      good := if good then h.good ++ [x.1.getD (s.get (HL.SRC.STAT_STOP g)) 0] else h.good
      short := if good then h.short else h.short + 1, left := h.left - 1
      lastStart := t0, lastStops := x.1, at_ := ends / 1024 + (s.hlMethod g).2.1 }
    if (s.hair g).left = 0 then .next (s.hlReport g) else .next s

/-- HL_START_TIMEOUT (R712). -/
def execHlStartTimeout (g : Octet) (s : State) : Host.Outcome State Fault Refusal :=
  let h := s.hair g
  let us := s.get (HL.TIMEOUT.US g)
  if h.phase ≠ 2 || s.tick < h.at_ + usTicks (if us = 0 then 65536 else us) then .next s
  else .next ((s.set (HL.STAT.NO_START g) 1).hlReport g)

/-- HL_FREQ_GATE_END (R718, R719): n prescaler edges over dt, 54.10; `near` tells that two edges fell less than 2 ticks apart. -/
def execHlFreqGateEnd (g : Octet) (n : BitVec 32) (dt : BitVec 64) (near : Bool) (s : State) : Host.Outcome State Fault Refusal :=
  let h := s.hair g
  if h.phase ≠ 3 || s.tick < h.at_ + usTicks (s.get (HL.FREQ_CFG.GATE g)) then .next s
  else
    let s := if s.hlNoSense g then s.set (HL.STAT.NOSENSE g) 1 else s
    let s := (s.set64 (HL.FSPAN_LO.reg g) (HL.FSPAN_HI.reg g) dt.toNat).set (HL.FCOUNT.N g) n.toNat
    let num := n.toNat * (s.get (HL.FREQ_CFG.PRESC g) + 1) * 1024 * 1500000000
    let hz : Nat × State := if dt = 0 then s.fresh else ((2 * num + dt.toNat) / (2 * dt.toNat), s)
    let s := hz.2.set (HL.FHZ.HZ g) (if near then 0 else min (2 ^ 32 - 1) hz.1)
    .next ((if near then s.set (HL.STAT.OVERRANGE g) 1 else s).hlFinish g false)

/-- HL_SELFCHECK_START (R722, R723): 100 ms after the last one, with nothing in progress or queued. -/
def execHlSelfcheckStart (g : Octet) (s : State) : Host.Outcome State Fault Refusal :=
  if s.modeOf (g / 8) = mOff || s.flag (HL.STAT.SELFCHECK g) || s.hlBusy g || s.tick < (s.hair g).checked + usTicks 100000 then .next s
  else .next (s.set (HL.STAT.SELFCHECK g) 1)

/-- HL_SELFCHECK_END (R722, R723): with its outcome. -/
def execHlSelfcheckEnd (g : Octet) (pass : Bool) (s : State) : Host.Outcome State Fault Refusal :=
  if !s.flag (HL.STAT.SELFCHECK g) then .next s
  else
    let s := (s.set (HL.STAT.SELFCHECK g) 0).onHair g fun h => { h with checked := s.tick }
    let s := if pass then s else (s.set (HL.STAT.CAL_FAIL g) 1).raise (srcHlCal (g / 8))
    if s.flag (HL.STAT.QUEUED g) then .next (s.hlStart g) else .next s

/-! ### TDR (R731 to R736, R752) -/

/-- A level of a lane, times 65,535, in µV (R577, R578). -/
def State.levelUv (s : State) (g l k : Nat) : Int :=
  let span := s.get (DAC.LVL.CFG.SPAN g l k)
  let lo : Int := (if k = 3 || k = 4 then -600000 else -500000) / (if span = 1 then 2 else 1)
  lo * 65535 + s.get (DAC.LVL.CODE.CODE g l k) * spanWidth k span

/-- The DACs that TDR uses. -/
def dkVil : Nat := 0
def dkVih : Nat := 1
def dkVol : Nat := 3
def dkVoh : Nat := 4

/-- The base code of a threshold moves to a fraction of the swing, in percent above VIL; the spec leaves its rounding to a
code open (R732). -/
def State.tdrThreshold (s : State) (g l k percent : Nat) : State :=
  let span := s.get (DAC.LVL.CFG.SPAN g l k)
  let lo : Int := (-600000) / (if span = 1 then 2 else 1)
  let vil := s.levelUv g l dkVil
  let target : Int := 100 * (vil - lo * 65535) + percent * (s.levelUv g l dkVih - vil)
  let r := s.roundOpen target.toNat (100 * spanWidth k span)
  if s.dacActive g l k then r.2.setBase g l k (min 65535 r.1) else s

/-- A lane's thresholds for a phase of TDR: 5 % and 95 % in the quiet check, 25 % and 75 % in a pass (R732). -/
def State.tdrLevels (s : State) (g l : Nat) (quiet : Bool) : State :=
  (s.tdrThreshold g l dkVol (if quiet then 5 else 25)).tdrThreshold g l dkVoh (if quiet then 95 else 75)

/-- A lane's thresholds return to their programmed values. -/
def State.tdrLevelsBack (s : State) (g l : Nat) : State :=
  s.each [dkVol, dkVoh] fun s k => if s.dacActive g l k then s.setBase g l k (s.activeBase g l k) else s

/-- The entry in force of an octet in MEASURE, or the one that will be (R731). -/
def State.tdrEntry (s : State) (g : Nat) : Nat := if (s.oct g).running then (s.oct g).entry else s.get (PER.CTL.MEAS_PT g)

/-- Is a TDR of lanes refused for its values? (R731) -/
def State.tdrBad (s : State) (g lanes : Nat) : Bool :=
  decide (s.period g (s.tdrEntry g) < 256 * 2 ^ 32)
    || ((bitsOf 8 lanes).any fun l => decide ((s.levelUv g l dkVih - s.levelUv g l dkVil).natAbs < 400000 * 65535))
    || s.hlBusy g

/-- The next lane of a TDR begins its quiet check. -/
def State.tdrLane (s : State) (g : Nat) : State :=
  match (s.tdr g).lanes with
  | [] => s
  | l :: _ => ((s.setTdr g { s.tdr g with phase := 0, at_ := s.tick, passes := 0, passA := [] }).tdrLevels g l true).refreshOctet g

/-- The DESKEW that a TDR with APPLY writes (R735). -/
def State.tdrApply (s : State) (g : Nat) (t : Tdr) : State :=
  let open_ := (bitsOf 8 t.named).filter fun l => s.get (TDR.RES.SIG g l) = 1
  let one (l : Nat) : Nat := s.get (TDR.RES.ONEWAY g l)
  let r := if t.ref ≠ 0 then t.ref else open_.foldl (fun m l => max m (one l)) 0
  s.each open_ fun s l => s.slotWrite g l fun s x => (s.set (NIB.DESKEW.CMP g x) (one l)).set (NIB.DESKEW.DRV g x) (r - one l)

/-- A lane of a TDR has ended; after the last one the TDR is done (R735). -/
def State.tdrNext (s : State) (g : Nat) : State :=
  let t := s.tdr g
  let s := match t.lanes with | l :: _ => s.tdrLevelsBack g l | [] => s
  match t.lanes.tail with
  | [] =>
    let s := if t.apply then s.tdrApply g t else s
    ((s.tdrRelease g).setDone g (TDR.CTL.DONE g)).tdrReply g
  | rest => (s.setTdr g { t with lanes := rest }).tdrLane g

/-- A TDR starts (R731, R732). -/
def State.tdrStart (s : State) (g lanes : Nat) (apply : Bool) (ref : Nat) : State :=
  let s := s.each (bitsOf 8 lanes) fun s l => s.wr (TDR.RES.reg g l) 0
  if lanes = 0 then (s.setDone g (TDR.CTL.DONE g)).tdrReply g
  else ((s.setTdr g { lanes := bitsOf 8 lanes, named := lanes, apply := apply, ref := ref }).set (HL.STAT.BUSY g) 1).tdrLane g

/-- A write of `TDR[g].CTL` (R731, R752). -/
def State.tdrCtlWrite (s : State) (g : Nat) (v : Word) : State :=
  let go := v.getLsbD 15
  if go && s.modeOf (g / 8) ≠ mMeasure then s.set (HL.STAT.REFUSED g) 1
  else
    let s := s.plainWrite (TDR.CTL.reg g) v.toNat
    if !go then s
    else if s.tdrBad g (v.field 0 8) then s.set (TDR.CTL.CFG_ERR g) 1
    else s.tdrStart g (v.field 0 8) (v.getLsbD 8) (v.field 16 16)

/-- TDR_GO (R731). -/
def execTdrGo (g : Octet) (v : Word) (s : State) : Host.Outcome State Fault Refusal :=
  .next (s.whileOn (g / 8) (TDR.CTL.reg g) fun s => s.tdrCtlWrite g (v ||| 0x8000))

/-- The signature of a shot (R733); 0 where the table names none. -/
def shotSig (x : TdrShot) : Nat :=
  if x.early then 4
  else match x.clFall, x.chRise with
    | none, _ => 5
    | some _, some _ => if x.chStays then 1 else 0
    | some _, none => if x.clRiseAgain then 2 else 3

/-- The signature of a pass (R733). -/
def passSig (l : List TdrShot) : Nat :=
  ([1, 2, 3, 4, 5].find? fun g => decide (250 ≤ (l.filter fun x => shotSig x = g).length)).getD 7

/-- The round trips of the OPEN shots of a pass. -/
def trips (l : List TdrShot) : List Nat := (l.filter fun x => shotSig x = 1).map fun x => x.chRise.getD 0 - x.clFall.getD 0

/-- The lane under test ends with a signature. -/
def State.tdrEnds (s : State) (g l sig : Nat) : State := (s.set (TDR.RES.SIG g l) sig).tdrNext g

/-- Both passes of a lane were OPEN (R734): their round trips in dots. -/
def State.tdrBoth (s : State) (g l : Nat) (b : List Nat) : State :=
  let t := s.tdr g
  let a := t.passA
  let na := a.length
  let nb := b.length
  let d := ((a.sum * nb : Nat) - (b.sum * na : Nat) : Int).natAbs
  if 1536 * na * nb < 1000 * d then
    if 2 ≤ t.passes then s.tdrEnds g l 7
    else s.setTdr g { t with phase := 1, at_ := s.tick, passes := t.passes + 1, passA := [] }
  else
    let one := (2 * (a.sum * nb + b.sum * na) + 4 * na * nb) / (8 * na * nb)
    let range := decide (65535 < one) || decide (one < 128) || (t.ref ≠ 0 && decide (t.ref < one))
    let r := s.meanSpread (a ++ b)
    let f : Nat × State := if 65535 < one then r.2.2.fresh else (one, r.2.2)
    ((f.2.set (TDR.RES.ONEWAY g l) f.1).set (TDR.RES.SPREAD g l) (min 4095 r.2.1)).tdrEnds g l (if range then 6 else 1)

/-- TDR_PHASE_END (R732 to R735). -/
def execTdrPhaseEnd (g : Octet) (ph : TdrPhase) (s : State) : Host.Outcome State Fault Refusal :=
  let t := s.tdr g
  match t.lanes with
  | [] => .next s
  | l :: _ =>
    match ph with
    | .quiet transition =>
      if t.phase ≠ 0 || s.tick < t.at_ + 15000 then .next s
      else if transition then .next (s.tdrEnds g l 4)
      else .next (((s.setTdr g { t with phase := 1, at_ := s.tick }).tdrLevels g l false).refreshOctet g)
    | .pass shots =>
      if t.phase = 0 || s.tick < t.at_ + 512 * s.period g (s.tdrEntry g) / 2 ^ 32 then .next s
      else
        let sig := passSig shots
        if sig ≠ 1 then .next (s.tdrEnds g l sig)
        else if t.phase = 1 then .next (s.setTdr g { t with phase := 2, at_ := s.tick, passA := trips shots })
        else .next (s.tdrBoth g l (trips shots))

/-! ### DC units (R737 to R746, R754, R755) -/

/-- Is a forced voltage outside the limits of R737? -/
def forceBad (mode value : Nat) : Bool := mode = 1 && (decide (sext 16 value < -5000) || decide (25000 < sext 16 value))

/-- Why a write of `DC[g].CTL` is not carried out (R738, R740, R742). -/
inductive DcJudge where
  | accept | refuse | ignore
deriving DecidableEq, Repr

/-- May a CTL word be written? (R738, R740, R742) -/
def State.dcJudge (s : State) (g : Nat) (v : Word) : DcJudge :=
  let d := s.dcUnit g
  let m := s.modeOf (g / 8)
  if v.field 16 2 = 3 || decide (5 ≤ v.field 8 3) || forceBad (v.field 16 2) (s.get (DC.FORCE.VALUE g)) then .ignore
  else if !v.getLsbD 31 then .accept
  else if d.link = 1 || d.link = 3 || (d.link = 2 && d.ball ≠ v.field 24 3) then .ignore
  else if d.link = 0 && (s.inSafe (g / 8) || !(m = mSetup || m = mRun || m = mMeasure)) then .refuse
  else .accept

/-- The unit begins to connect (R738). -/
def State.dcConnect (s : State) (g : Nat) (v : Word) : State :=
  let s := s.plainWrite (DC.CTL.reg g) v.toNat
  if (s.dcUnit g).link = 2 then s
  else
    let s := s.rotStop g
    (s.onDc g fun d => { d with link := 1, ball := v.field 24 3, at_ := s.tick }).refreshBall g (v.field 24 3)

/-- The unit begins to disconnect (R739). -/
def State.dcDisconnect (s : State) (g : Nat) (v : Word) : State :=
  let s := s.plainWrite (DC.CTL.reg g) v.toNat
  let d := s.dcUnit g
  if d.link = 1 || d.link = 2 then
    let s := (s.set (DC.CTL.MODE g) 0).dcAbandon g
    (s.onDc g fun d => { d with link := 3, at_ := s.tick }).refreshBall g d.ball
  else s

/-- A request is refused (R738, R746). -/
def State.dcRefuse (s : State) (g cause : Nat) : State := (s.set (DC.STAT.REFUSED g) 1).set (DC.STAT.REFUSE_CAUSE g) cause

/-- A request waits for the end of a self-test (R746). -/
def State.dcQueue (s : State) (g : Nat) (q : DcRequest) : State :=
  (s.set (DC.STAT.QUEUED g) 1).onDc g fun d => { d with queued := some q, queuedAt := s.tick }

/-- A write of `DC[g].CTL` (R738 to R742, R746). -/
def State.dcCtlWrite (s : State) (g : Nat) (v : Word) : State :=
  match s.dcJudge g v with
  | .ignore => s.set (DC.STAT.CFG_ERR g) 1
  | .refuse => s.dcRefuse g 1
  | .accept =>
    if !v.getLsbD 31 then s.dcDisconnect g v
    else if s.flag (DC.STAT.SELFTEST g) then s.dcQueue g (.connect v.toNat)
    else s.dcConnect g v

/-- DC_CONNECT_WRITE (R738): a write of CTL with CONNECT = 1. -/
def execDcConnectWrite (g : Octet) (v : Word) (s : State) : Host.Outcome State Fault Refusal :=
  .next (s.whileOn (g / 8) (DC.CTL.reg g) fun s => s.dcCtlWrite g (v ||| 0x80000000))

/-- DC_PATH_CLOSED (R738): 22,500 ticks after the acceptance. -/
def execDcPathClosed (g : Octet) (s : State) : Host.Outcome State Fault Refusal :=
  let d := s.dcUnit g
  if d.link ≠ 1 || s.tick < d.at_ + 22500 then .next s
  else
    let s := ((s.onDc g fun d => { d with link := 2 }).set (DC.STAT.CONNECTED g) 1).set (STEER.STAT.DC_BALL g) d.ball
    let s := s.refreshBall g d.ball
    match s.octetJob [0x304] g with
    | some j => .next (s.endJob j stDone [])
    | none => .next s

/-- DC_DISCONNECT_WRITE (R739): a write of CTL with CONNECT = 0. -/
def execDcDisconnectWrite (g : Octet) (v : Word) (s : State) : Host.Outcome State Fault Refusal :=
  .next (s.whileOn (g / 8) (DC.CTL.reg g) fun s => s.dcCtlWrite g (v &&& 0x7FFFFFFF))

/-- DC_PATH_OPENED (R739). -/
def execDcPathOpened (g : Octet) (s : State) : Host.Outcome State Fault Refusal :=
  if (s.dcUnit g).link = 3 then .next (s.dcOpened g) else .next s

/-- A write of `DC[g].FORCE` (R742). -/
def State.dcForceWrite (s : State) (g : Nat) (v : Word) : State :=
  if forceBad (s.get (DC.CTL.MODE g)) (v.field 0 16) then s.set (DC.STAT.CFG_ERR g) 1 else s.plainWrite (DC.FORCE.reg g) v.toNat

/-- Conversions start (R744). -/
def State.dcMeasure (s : State) (g : Nat) (v : Word) : State :=
  let s := (s.plainWrite (DC.MCFG.reg g) v.toNat).set (DC.STAT.BUSY g) 1
  let s := s.onDc g fun d => { d with comply := false, doneAt := s.tick + usTicks ((v.field 16 8 + 1) * 2 ^ v.field 0 4) }
  if (s.dcUnit g).link = 2 then s else s.set (DC.STAT.LOST g) 1

/-- A write of `DC[g].MCFG` (R744, R746). -/
def State.dcMcfgWrite (s : State) (g : Nat) (v : Word) : State :=
  if v.field 0 4 = 15 then s.set (DC.STAT.CFG_ERR g) 1
  else if !v.getLsbD 31 then s.plainWrite (DC.MCFG.reg g) v.toNat
  else if s.flag (DC.STAT.BUSY g) then s.set (DC.STAT.CFG_ERR g) 1
  else if s.flag (DC.STAT.SELFTEST g) then s.dcQueue g (.go v.toNat)
  else s.dcMeasure g v

/-- DC_MEASURE_GO (R744): a write of MCFG with GO. -/
def execDcMeasureGo (g : Octet) (v : Word) (s : State) : Host.Outcome State Fault Refusal :=
  .next (s.whileOn (g / 8) (DC.MCFG.reg g) fun s => s.dcMcfgWrite g (v ||| 0x80000000))

/-- A mean of codes, whose rounding the spec leaves open (R744). -/
def State.meanCode (s : State) (l : List Int) : Nat × State :=
  let n := l.length
  if n = 0 then (let f := s.fresh; (f.1 % 2 ^ 16, f.2))
  else
    let q := l.sum / (n : Int)
    if q * n = l.sum then (trunc 16 q, s) else let f := s.fresh; (trunc 16 (q + (f.1 % 2 : Nat)), f.2)

/-- DC_MEASURE_DONE (R744): the codes that the conversions gave. -/
def execDcMeasureDone (g : Octet) (volts amps : List Int) (s : State) : Host.Outcome State Fault Refusal :=
  let d := s.dcUnit g
  if !s.flag (DC.STAT.BUSY g) || s.tick < d.doneAt then .next s
  else
    let v := s.meanCode volts
    let i : Nat × State := if s.get (DC.CTL.MODE g) = 0 then (0, v.2) else v.2.meanCode amps
    let s := ((i.2.set (DC.RES.V g) v.1).set (DC.RES.I g) i.1).set (DC.STAT.BUSY g) 0
    let s := if d.comply then s.set (DC.STAT.COMPLY g) 1 else s
    .next ((s.setDone g (DC.STAT.DONE g)).dcReply g false)

/-- DC_CLAMP_COMPLY (R743): a clamp has been held for more than 10 µs. -/
def execDcClampComply (g : Octet) (s : State) : Host.Outcome State Fault Refusal :=
  if s.get (DC.CTL.MODE g) = 0 || (s.dcUnit g).link = 0 then .next s
  else
    let s := (s.set (DC.STAT.COMPLY g) 1).raise (srcDcComply (g / 8))
    .next (if s.flag (DC.STAT.BUSY g) then s.onDc g fun d => { d with comply := true } else s)

/-- May a self-test begin? (R745) -/
def State.dcIdle (s : State) (g : Nat) : Bool :=
  (s.dcUnit g).link = 0 && !s.flag (DC.STAT.BUSY g) && !s.flag (DC.STAT.SELFTEST g)

/-- A self-test begins, where one may. -/
def State.dcTest (s : State) (g : Nat) : State := if s.dcIdle g then s.set (DC.STAT.SELFTEST g) 1 else s

/-- A write of `DC[g].ST_CFG` (R745). -/
def State.dcStWrite (s : State) (g : Nat) (v : Word) : State :=
  let s := s.plainWrite (DC.ST_CFG.reg g) v.toNat
  if !v.getLsbD 31 then s else if s.dcIdle g then s.dcTest g else s.set (DC.STAT.CFG_ERR g) 1

/-- DC_SELFTEST_START (R745): by a write of ST_CFG, or at its interval; the entry to SETUP starts one of its own. -/
def execDcSelftestStart (g : Octet) (write : Option Word) (s : State) : Host.Outcome State Fault Refusal :=
  match write with
  | some v => .next (s.whileOn (g / 8) (DC.ST_CFG.reg g) fun s => s.dcStWrite g (v ||| 0x80000000))
  | none =>
    let n := s.get (DC.ST_CFG.INTERVAL g)
    if s.modeOf (g / 8) ≠ mOff && n ≠ 0 && decide ((s.dcUnit g).tested + usTicks (1000000 * n) ≤ s.tick) then .next (s.dcTest g) else .next s

/-- A queued request is refused 1 ms after its write (R746): EST holds an estimate that the spec bounds by the length of a
self-test. -/
def State.dcExpire (s : State) (g : Nat) : State :=
  let f := s.fresh
  let est := f.1 % 2001
  let s := (((f.2.set (DC.STAT.QUEUED g) 0).dcRefuse g 2).set (DC.STAT.EST g) est).onDc g fun d => { d with queued := none }
  match s.octetJob [0x304, 0x305] g with
  | some j => s.endJob j stSelftest [(32, est)]
  | none => s

/-- DC_SELFTEST_END (R745, R746). -/
def execDcSelftestEnd (g : Octet) (pass : Bool) (s : State) : Host.Outcome State Fault Refusal :=
  if !s.flag (DC.STAT.SELFTEST g) then .next s
  else
    let s := (s.set (DC.STAT.SELFTEST g) 0).onDc g fun d => { d with tested := s.tick }
    let s := if pass then s else (s.set (DC.STAT.ST_FAIL g) 1).raise (srcDcSt (g / 8))
    let d := s.dcUnit g
    match d.queued with
    | none => .next s
    | some q =>
      if d.queuedAt + usTicks 1000 < s.tick then .next (s.dcExpire g)
      else
        let s := (s.set (DC.STAT.QUEUED g) 0).onDc g fun d => { d with queued := none }
        match q with
        | .connect v => .next (s.dcCtlWrite g (wordOf v))
        | .go v => .next (s.dcMcfgWrite g (wordOf v))

/-- DC_QUEUE_TIMEOUT (R746). -/
def execDcQueueTimeout (g : Octet) (s : State) : Host.Outcome State Fault Refusal :=
  let d := s.dcUnit g
  if d.queued.isSome && decide (d.queuedAt + usTicks 1000 ≤ s.tick) then .next (s.dcExpire g) else .next s

/-! ### Commands of group 0x3xx (R877): a refusal comes before any register is written (R872) -/

/-- A Hairline command with the words of its registers, given as (register, word), CTL last. -/
def State.hlCommand (s : State) (p : Packet) (g : Nat) (ctl src win freq : Word) (writes : List (Nat × Word)) (bad : Bool) : State :=
  if 64 ≤ g then s.reply p stBadParam []
  else if s.modeOf (g / 8) ≠ mMeasure || s.hlBusy g then s.reply p stBusy []
  else if bad || hlBad ctl src win freq then s.reply p stBadParam []
  else
    let s := s.each writes fun s w => s.plainWrite w.1 w.2.toNat
    (s.addJob p 0 0).hlCtlWrite g ctl

/-- HL_INTERVAL (R877). -/
def execHlInterval (s : State) : Host.Outcome State Fault Refusal :=
  match s.start 0x301 with
  | none => .next s
  | some (p, s) =>
    let g := p.arg 0
    let ctl : Word := ((wordOf (p.arg 5)).withField 16 4 (p.arg 1)).withField 27 1 (p.arg 2) ||| 0x80000000
    let src := wordOf (p.arg 3)
    let win := wordOf (p.arg 4)
    .next (s.hlCommand p g ctl src win 0 [(HL.SRC.reg g, src), (HL.WIN.reg g, win), (HL.TIMEOUT.reg g, wordOf (p.arg 6))]
      (decide (15 < p.arg 1) || decide (1 < p.arg 2)))

/-- HL_FREQ (R877). -/
def execHlFreq (s : State) : Host.Outcome State Fault Refusal :=
  match s.start 0x302 with
  | none => .next s
  | some (p, s) =>
    let g := p.arg 0
    let ctl : Word := (s.rd (HL.CTL.reg g)).withField 28 2 1 ||| 0x80000000
    let src := ((s.rd (HL.SRC.reg g)).withField 28 4 (p.arg 1)).withField 24 3 (p.arg 2)
    let freq := (wordOf (p.arg 4)).withField 16 16 (p.arg 3)
    .next (s.hlCommand p g ctl src (s.rd (HL.WIN.reg g)) freq [(HL.SRC.reg g, src), (HL.FREQ_CFG.reg g, freq)]
      (decide (15 < p.arg 1) || decide (7 < p.arg 2)))

/-- TDR_RUN (R877). -/
def execTdrRun (s : State) : Host.Outcome State Fault Refusal :=
  match s.start 0x303 with
  | none => .next s
  | some (p, s) =>
    let octs := bitsOf 64 (p.arg 0)
    let lanes := p.arg 1
    if octs.any fun g => s.modeOf (g / 8) ≠ mMeasure then .next (s.reply p stBusy [])
    else if decide (1 < p.arg 2) || octs.any fun g => s.tdrBad g lanes then .next (s.reply p stBadParam [])
    else if octs.isEmpty then .next (s.reply p stDone [])
    else
      let ctl : Word := ((wordOf lanes).withField 8 1 (p.arg 2)).withField 16 16 (p.arg 3) ||| 0x8000
      .next ((s.addJob p (p.arg 0) 0).each octs fun s g => s.tdrCtlWrite g ctl)

/-- DC_CONNECT (R877). -/
def execDcConnect (s : State) : Host.Outcome State Fault Refusal :=
  match s.start 0x304 with
  | none => .next s
  | some (p, s) =>
    let g := p.arg 0
    let d := s.dcUnit g
    let v : Word := (((wordOf 0).withField 24 3 (p.arg 1)).withField 16 2 (p.arg 2)).withField 8 3 (p.arg 3) ||| 0x80000000
    let m := s.modeOf (g / 8)
    let busy := d.link = 1 || d.link = 3 || (d.link = 2 && d.ball ≠ p.arg 1) || d.queued.isSome
      || (d.link = 0 && (s.inSafe (g / 8) || !(m = mSetup || m = mRun || m = mMeasure)))
    if 64 ≤ g then .next (s.reply p stBadParam [])
    else if busy then .next (s.reply p stBusy [])
    else if decide (7 < p.arg 1) || decide (2 < p.arg 2) || decide (4 < p.arg 3) || forceBad (p.arg 2) (p.arg 4) then .next (s.reply p stBadParam [])
    else
      let s := (s.set (DC.FORCE.VALUE g) (p.arg 4)).wr (DC.CLAMP.reg g) ((wordOf (p.arg 6)).withField 16 16 (p.arg 5))
      if d.link = 2 then .next ((s.dcCtlWrite g v).reply p stDone [])
      else .next ((s.addJob p 0 0).dcCtlWrite g v)

/-- DC_MEASURE (R877). -/
def execDcMeasure (s : State) : Host.Outcome State Fault Refusal :=
  match s.start 0x305 with
  | none => .next s
  | some (p, s) =>
    let g := p.arg 0
    if 64 ≤ g then .next (s.reply p stBadParam [])
    else if s.modeOf (g / 8) = mOff then .next (s.reply p stBusy [])
    else if s.flag (DC.STAT.BUSY g) || (s.dcUnit g).queued.isSome || decide (14 < p.arg 2) then .next (s.reply p stBadParam [])
    else
      let v : Word := ((wordOf (p.arg 2)).withField 16 8 (p.arg 1)) ||| 0x80000000
      .next ((s.addJob p 0 0).dcMcfgWrite g v)

/-- DC_DISCONNECT (R877). -/
def execDcDisconnect (s : State) : Host.Outcome State Fault Refusal :=
  match s.start 0x306 with
  | none => .next s
  | some (p, s) =>
    let g := p.arg 0
    if 64 ≤ g then .next (s.reply p stBadParam [])
    else if s.modeOf (g / 8) = mOff then .next (s.reply p stBusy [])
    else
      let v : Word := (s.rd (DC.CTL.reg g)) &&& 0x7FFFFFFF
      if (s.dcUnit g).link = 0 then .next ((s.dcCtlWrite g v).reply p stDone [])
      else .next ((s.addJob p 0 0).dcCtlWrite g v)

/-- MEAS_STIM (R877). -/
def execMeasStim (s : State) : Host.Outcome State Fault Refusal :=
  match s.start 0x307 with
  | none => .next s
  | some (p, s) =>
    let g := p.arg 0
    if 64 ≤ g then .next (s.reply p stBadParam [])
    else if s.modeOf (g / 8) = mOff then .next (s.reply p stBusy [])
    else if decide (7 < p.arg 1) || decide (63 < p.arg 2) then .next (s.reply p stBadParam [])
    else
      let ctl : Word := ((wordOf (p.arg 3)).withField 8 6 (p.arg 2)).withField 16 3 (p.arg 1)
      let s := s.wr (MSR.CTL.reg g) ctl
      .next ((s.each (List.range 8) fun s k => s.wr (MSR.STIM.reg g k) (wordOf (p.arg (4 + k)))).reply p stDone [])

end Sys2Proof.Machine
end

