-- ==== Sys2Proof/Machine/ModeOps.lean ====
section
/-! DEFINITION. What the transitions of a sector do (R64, R71, R72, R112, R274, R347, R443, R563, R595, R654, R700, R741,
R788, R794 to R796, R803, R920), and the end of a calibration procedure (R800, R802 to R804). -/

namespace Sys2Proof.Machine
open Reg

/-! ### The end of a procedure -/

/-- The cores of an octet, with the causes that a procedure found, 4 bits each (R878). -/
def Proc.octetCauses (p : Proc) (g : Nat) : Nat :=
  (p.causes.filter fun e => e.1 / 9 = g).foldl (fun n e => n ||| (e.2 % 16 * 16 ^ (e.1 % 9))) 0

/-- The octets of a sector's procedure, as global octets. -/
def procOctets (k : Nat) (p : Proc) : List Nat := (bitsOf 8 p.octets).map (8 * k + ·)

/-- The CAL_RUN entry of a procedure (R803). Its packing is open. -/
def State.calRunEntry (s : State) (kind octets : Nat) (causes : List Nat) : State :=
  let temps := (List.range 8).map fun k => s.get (CAL.TEMP.TEMP k)
  let classes := (bitsOf 64 octets).map fun g => (s.rd (ROT.CLASS.reg g)).toNat
  s.append colCalRun 0 (Config.calRun (kind :: octets :: causes ++ temps ++ classes))

/-- The sealed set with a temperature point as CAL_POINT measured it (R758, R878). -/
def SealedSet.withPoint (t : SealedSet) (i temp : Nat) (ms : List (Nat × List Measured)) : SealedSet :=
  { t with temps := Tab.put (fun _ => 0) t.temps i temp
           points := ms.foldl (fun ps e => Tab.put (fun _ => []) ps (8 * e.1 + i) e.2) t.points }

/-- The values of a temperature point. -/
def SealedSet.pointValues (t : SealedSet) (i : Nat) : List Nat :=
  Tab.get (fun _ => 0) t.temps i :: (t.points.filter fun e => e.1 % 8 = i).flatMap fun e => e.1 :: e.2.map fun m => trunc 64 m.value

/-- `CAL.TPOINT[i]` show the temperature points (R811). -/
def State.showPoints (s : State) : State :=
  s.each (List.range 8) fun s i =>
    (s.setB (CAL.TPOINT.VALID i) (s.vault.set.temps.any (·.1 = i))).set (CAL.TPOINT.TEMP i) (Tab.get (fun _ => 0) s.vault.set.temps i)

/-- CAL_POINT has measured every core: the point is stored, or none is (R878). -/
def State.calPointEnds (s : State) (j : Job) (failed : Bool) : State :=
  let i := j.packet.arg 0
  let ms := (bitsOf 8 (j.packet.target % 256)).flatMap fun k => (s.proc k).points
  if failed then s.endJob j stFailedCal []
  else
    let before := itemDigest (s.vault.set.pointValues i)
    let s := State.showPoints { s with vault := { s.vault with set := s.vault.set.withPoint i (j.packet.arg 1) ms } }
    let s := s.sealedChange 1 i before 0x404
    if s.vault.txs.any (·.opcode = 0x404) then s else s.endJob j stDone []

/-- A calibration command replies after its last sector (R802 to R804, R878). -/
def State.calReply (s : State) (j : Job) : State :=
  let op := j.packet.opcode
  let octets := if op = 0x404 then maskOf ((bitsOf 8 (j.packet.target % 256)).flatMap octetsOf) else j.packet.arg 0
  let gs := bitsOf 64 octets
  let causes := gs.map fun g => (s.proc (g / 8)).octetCauses g
  let failed := causes.any (· ≠ 0)
  if op = 0x404 then s.calPointEnds j failed
  else
    let s := s.calRunEntry op octets causes
    let st := if op ≠ 0x403 && !s.vault.room 1 then stLogFull else if failed then stFailedCal else stDone
    s.endJob j st (if op = 0x401 then causes.map fun c => (64, c)
      else if op = 0x402 then s.tdrFields octets
      else gs.map fun g => (32, (s.rd (ROT.CLASS.reg g)).toNat))

/-- The cause that a lane's signature gives (R766, R800). -/
def sigCause (sig : Nat) : Nat :=
  match sig with
  | 1 => 0
  | 2 => 8
  | 3 => 9
  | 4 => 0xA
  | 5 => 0xB
  | 8 => 0xD
  | _ => 0xC

/-- What a procedure leaves: the causes of the lanes of a DESKEW, whose periods return, or ABANDONED for cores not run (R766,
R800). -/
def State.procSettle (s : State) (k : Nat) : State :=
  let p := s.proc k
  if p.kind = 2 then
    let s := s.each (procOctets k p) fun s g => (s.tdrAbandon g).stopStimulus g
    let s := s.each p.periods fun s e =>
      let i := s.get (PER.CTL.MEAS_PT e.1)
      (s.wr (PER.PT.LO.reg e.1 i) (wordOf e.2.1)).wr (PER.PT.HI.reg e.1 i) (wordOf e.2.2)
    let causes := (procOctets k p).flatMap fun g => (bitsOf 8 p.lanes).map fun l => (9 * g + l, sigCause (s.get (TDR.RES.SIG g l)))
    s.setProc k { p with causes := causes, periods := [] }
  else
    let left := (procOctets k p).flatMap fun g => ((List.range 9).map (9 * g + ·)).filter fun c => !(p.causes.any (·.1 = c))
    s.setProc k { p with causes := p.causes ++ left.map fun c => (c, rcAbandoned) }

/-- The procedure of a sector has ended, or was broken (R802). -/
def State.procFinish (s : State) (k : Nat) : State :=
  if (s.proc k).kind = 0 then s
  else
    let s := s.procSettle k
    let s := s.setProc k { s.proc k with kind := 0 }
    match s.findJob fun j => decide (0x401 ≤ j.packet.opcode ∧ j.packet.opcode ≤ 0x404) && j.mask.testBit k with
    | none => s
    | some j =>
      let left := maskOf ((bitsOf 8 j.mask).filter (· ≠ k))
      if left ≠ 0 then s.updateJob j { j with mask := left } else s.calReply j

/-! ### Transitions -/

/-- The retired cores of an octet, in order of retirement. -/
def State.ledgerCores (s : State) (g : Nat) : List Nat := (s.vault.ledger.cores.filter fun c => c / 9 = g).map (· % 9)

/-- The lanes of an octet that its retired cores leave without a core: every one after the first, or every one where the
spare itself is retired (R796). -/
def deadLanes (cs : List Nat) : List Nat :=
  let lanes := cs.filter (· ≠ 8)
  if cs.contains 8 then lanes else lanes.drop 1

/-- Retired cores return from the wear ledger, replaced taps are counted, and every age is saturated (R483, R788, R794 to
R796). -/
def State.restoreCores (s : State) (k : Nat) : State :=
  let s := s.each (octetsOf k) fun s g =>
    let cs := s.ledgerCores g
    let s := ((s.set (ROT.CORES.RETIRED g) (maskOf cs)).setB (ROT.STAT.DEGRADED g) !cs.isEmpty).set (ROT.CORES.DEAD g) (maskOf (deadLanes cs))
    let s := s.each (List.range 9) fun s c =>
      let taps := ((List.range 6).map fun i => min 4 (Tab.get (fun _ => []) s.vault.ledger.taps (8 * (9 * g + c) + i)).length).sum
      let s := s.set (NIB.STAT.TAPS_REP g c) taps
      let s := s.onCore g c fun x => { x with commitAt := none, prov := none, next := none, cls := 2 }
      s.onCore g c fun x => { x with set := s.corrections g c }
    (s.showAges g).showClasses g
  if (octetsOf k).any fun g => s.get (ROT.CORES.DEAD g) ≠ 0 then s.raise (srcCalDead k) else s

/-- The banks of a sector after its self-test (R920, R931, R950). -/
def State.restoreBanks (s : State) (k : Nat) : State :=
  s.each (List.range 16) fun s b =>
    let s := s.showRepair k b
    if s.vault.ledger.bankFailed.contains (16 * k + b) then (s.set (SS.BANK.OWNER k b) owNone).set (SS.BANK.FAILED k b) 1
    else s.set (SS.BANK.OWNER k b) (bankOwnerReset b)

/-- What holds every sector in SAFE holds one that leaves OFF too (R967, R1007, R1034); in start-up the interlock is judged at
step 10 (R1011). -/
def State.holdSafe (s : State) (k : Nat) : State :=
  let s := if s.get QL.ILK.STAT.STATE ≠ 0 && s.quill.step = 11 then s.sectorSafe k 2 else s
  let s := if s.flag DEV.MODE.SAFE_DEV then s.sectorSafe k 3 else s
  if 3 ≤ s.dbg.tapInstr && s.dbg.tapInstr ≤ 5 then s.sectorSafe k 4 else s

/-- A sector comes from OFF to STANDBY (R64, R72, R111, R167). -/
def State.leaveOff (s : State) (k : Nat) : State :=
  let s := (((s.setMode k mStandby).set (SREG.STAT.PGOOD k) 1).restoreBanks k).restoreCores k
  let s := s.endReset (domSector k)
  let s := if s.flag (TLL.STAT.LOCKED k) then s else s.noticeHeld (srcTllUnlock k)
  (s.refreshBalls k).holdSafe k

/-- Keys outside a range. -/
def outside {α : Type} (t : Tab α) (lo n : Nat) : Tab α := t.filter fun e => !(decide (lo ≤ e.1) && decide (e.1 < lo + n))

/-- A sector enters OFF (R64, R71, R72): its registers return to reset and its contents are lost. -/
def State.enterOff (s : State) (k : Nat) : State :=
  let s := if (s.secCal k).visits ≠ 0 then s.rotSummary k else s
  let s := s.resetJobs fun j => j.packet.opcode ≠ 0x003 && j.packet.scope.testBit k
  let s := s.releaseResv k
  let s := s.resetRegs fun a => (whereIs a).1.sector = some k
  let s := (((s.setMode k mOff).set (SREG.STAT.PGOOD k) 0).set (SREG.STAT.VOUT k) 0).unlockTll k
  let s := s.each ((List.range 32).map (srcSector k)) State.quiet
  let s := { s with
    scribes := s.scribes.erase k, margs := s.margs.erase k, blots := s.blots.erase k, procs := s.procs.erase k
    octs := outside s.octs (8 * k) 8, balls := outside s.balls (64 * k) 64, dacs := outside s.dacs (576 * k) 576
    parks := outside s.parks (72 * k) 72, sines := outside s.sines (8 * k) 8, hairs := outside s.hairs (8 * k) 8
    tdrs := outside s.tdrs (8 * k) 8, dcs := outside s.dcs (8 * k) 8, rots := outside s.rots (8 * k) 8
    settled := s.settled.filter (· ≠ k)
    mem := { s.mem with mem := outside s.mem.mem (storesBase + k * 0x800000) 0x800000, caches := s.mem.caches.erase k
                        bist := s.mem.bist.erase k, next := outside s.mem.next (16 * k) 16 } }
  let s := s.each (octetsOf k) fun s g => s.each (List.range 9) fun s c => s.onCore g c fun x => { x with prov := none, next := none }
  (s.endReset (domSector k)).showCal

/-- A sector enters SETUP from STANDBY (R64, R72, R563, R595, R745, R794): the spare serves the ball of the first retired
core. -/
def State.enterSetup (s : State) (k : Nat) : State :=
  let s := s.setMode k mSetup
  let s := State.refreshDacs { s with settled := insertNew k s.settled } k
  let s := s.each (octetsOf k) fun s g =>
    let cs := s.ledgerCores g
    let s := match cs.head? with
      | some l => if cs.contains 8 || s.get (STEER.STAT.SPARE g) ≠ 0 then s
                  else ((s.set (STEER.STAT.SPARE g) (2 ^ l)).showAges g).showClasses g
      | none => s
    s.dcTest g
  s.refreshBalls k

/-- A sector enters STANDBY from SETUP (R64, R72, R741, R803). -/
def State.enterStandby (s : State) (k : Nat) : State :=
  let s := (s.setMode k mStandby).each (octetsOf k) fun s g => (s.rotJudge g).dcBreak g
  let s := if (s.secCal k).visits ≠ 0 then s.rotSummary k else s
  s.refreshBalls k

/-- A sector enters MEASURE (R64, R72, R443, R701). -/
def State.enterMeasure (s : State) (k : Nat) : State :=
  let s := (s.setMode k mMeasure).each (octetsOf k) fun s g => (s.rotJudge g).startStimulus g
  let s := if s.flag (BLOT.CFG.MEAS_EN k) then s.blotStart k true else s
  s.refreshBalls k

/-- A sector leaves MEASURE (R64, R72, R443, R606, R725, R736). -/
def State.leaveMeasure (s : State) (k : Nat) : State :=
  let s := s.each (octetsOf k) fun s g => ((s.hlAbandon g).tdrAbandon g).stopStimulus g
  ((s.blotOver k (1024 * s.tick)).stopSines k).setMode k mSetup |>.refreshBalls k

/-- A DESKEW begins in an octet (R800): its period becomes 256.0 ticks and TDR runs with APPLY. -/
def State.deskewOctet (s : State) (g : Nat) : State :=
  let k := g / 8
  let i := s.get (PER.CTL.MEAS_PT g)
  let p := s.proc k
  let s := s.setProc k { p with periods := p.periods ++ [(g, (s.rd (PER.PT.LO.reg g i)).toNat, (s.rd (PER.PT.HI.reg g i)).toNat)] }
  let s := ((s.wr (PER.PT.LO.reg g i) 0).set (PER.PT.HI.INT g i) 256).startStimulus g
  s.tdrStart g p.lanes true p.ref

/-- A sector enters CALIBRATE, and its procedure begins (R64, R72, R741, R798). -/
def State.enterCalibrate (s : State) (k : Nat) : State :=
  let s := (s.setMode k mCalibrate).each (octetsOf k) fun s g => (s.rotJudge g).dcBreak g
  let p := s.proc k
  let s := if p.kind = 2 then s.each (procOctets k p) State.deskewOctet else s
  s.refreshBalls k

/-- A sector leaves CALIBRATE for SETUP (R64, R72, R802): levels that a procedure moved return. -/
def State.leaveCalibrate (s : State) (k : Nat) : State := ((s.procFinish k).setMode k mSetup).refreshBalls k

/-- A transition of a sector ends in its target (R64, R72). -/
def State.arrive (s : State) (k : Nat) : State :=
  let cur := s.modeOf k
  match s.get (SMODE.CTL.MODE_TGT k) with
  | 0 => s.enterOff k
  | 1 => if cur = mOff then s.leaveOff k else s.enterStandby k
  | 2 => if cur = mMeasure then s.leaveMeasure k else if cur = mCalibrate then s.leaveCalibrate k else s.enterSetup k
  | 4 => s.enterMeasure k
  | 5 => s.enterCalibrate k
  | _ => s

end Sys2Proof.Machine
end

