-- ==== Sys2Proof/Machine/Rotation.lean ====
section
/-! DEFINITION. Rotation (R763 to R779, R793, R803, R806) and the temperature and age of cores (R759 to R761, R789). -/

namespace Sys2Proof.Machine
open Reg

/-- The lanes that a cycle visits, in order (R764). -/
def State.cycleLanes (s : State) (g : Nat) : List Nat :=
  let skip := s.get (ROT.STAT.SKIPMASK g)
  let first := bitsOf 8 skip
  (first ++ (bitsOf 8 (s.get (ROT.CTL.LANES g))).filter fun l => !skip.testBit l).filter fun l => !s.retired g l

/-- The next lane of the cycle is visited, or the octet waits for the next cycle (R764, R765). -/
def State.rotNext (s : State) (g : Nat) : State :=
  match (s.rot g).todo with
  | [] => (s.rotTo g roWait 0xF).onRot g fun r => { r with visit := none }
  | l :: t =>
    (s.rotTo g roMirror l).onRot g fun r => { r with visit := some l, todo := t, matchFails := 0, checkFails := 0, faulted := false }

/-- The lane visited is skipped (R765, R779). -/
def State.rotSkip (s : State) (g l : Nat) : State :=
  let k := g / 8
  let s := (s.set (ROT.STAT.SKIPMASK g) (s.get (ROT.STAT.SKIPMASK g) ||| 2 ^ l)).set (ROT.STAT.SKIPPED g) 1
  let s := (s.bump (ROT.COUNT.SKIPS g) 1).onSecCal k fun c => { c with skips := c.skips + 1 }
  (s.raise (srcCalSkip k)).rotNext g

/-- A failed run is counted for a core; rotation goes on by `f` unless the core was retired (R765, R766). -/
def State.rotFailed (s : State) (g c cause : Nat) (f : State → State) : State :=
  let s := s.failRun g c cause
  if s.rotState g = roIdle then s else f s

/-- A run of a core begins anew (R765). -/
def State.rotRun (s : State) (g st lane : Nat) : State := (s.rotTo g st lane).onRot g fun r => { r with faulted := false }

/-- ROT_CYCLE_START (R763 to R765): rotation may run, or PERIOD has passed since the present cycle began. -/
def execRotCycleStart (g : Octet) (s : State) : Host.Outcome State Fault Refusal :=
  let r := s.rot g
  let st := s.rotState g
  let period := usTicks (10000 * max 1 (s.get (ROT.CTL.PERIOD g)))
  let passed := match r.cycleAt with | some t => decide (t + period ≤ s.tick) | none => true
  if st = roWait && passed && !s.rotMay g then .next (s.rotStop g)
  else if !s.rotMay g || !(st = roIdle || (st = roWait && passed)) then .next s
  else
    match r.visit with
    | some l =>
      if st = roIdle then .next (s.rotRun g roCal l) else .next s
    | none =>
      .next ((s.rotRun g roSpareCal 8).onRot g fun r => { r with cycleAt := some s.tick, todo := s.cycleLanes g, matchFails := 0, checkFails := 0 })

/-- ROT_MIRROR_DONE (R767, R770): the spare holds the content of the lane. -/
def execRotMirrorDone (g : Octet) (s : State) : Host.Outcome State Fault Refusal :=
  match (s.rot g).visit with
  | some l => if s.rotState g = roMirror then .next ((s.mirror g l).rotTo g roMatch l) else .next s
  | none => .next s

/-- The result of a passed run is committed, where the log has room (R765, R804); a provisional result is withdrawn otherwise,
and the core is run again. -/
def State.rotCommit (s : State) (g l : Nat) : State :=
  match (s.core g l).prov with
  | none => s.rotTo g roSeamBack l
  | some p =>
    if s.vault.room 1 then (s.commitRun g l p).rotTo g roSeamBack l else (s.failRun g l rcLogFull).rotRun g roCal l

/-- A match try fails (R765, R772). -/
def State.matchFails (s : State) (g l : Nat) : State :=
  let r := s.rot g
  let st := s.rotState g
  if st = roSeamOut then s.rotTo g roMatch l
  else if st = roSeamBack then s.rotTo g roMatchBack l
  else if r.tries < 2 then s.onRot g fun r => { r with tries := r.tries + 1 }
  else
    let s := s.set (ROT.STAT.MATCH_FAIL g) 1
    if st = roMatchBack then s.rotFailed g l rcMatch fun s => s.rotRun g roCal l
    else if r.matchFails = 0 then (s.rotRun g roSpareCal 8).onRot g fun r => { r with matchFails := 1 }
    else s.rotFailed g l rcMatch fun s => s.rotSkip g l

/-- ROT_MATCH_TRY_END (R765, R771, R772): a try ends within ±2 dots or not; in SEAM_OUT and SEAM_BACK a pair of probes. -/
def execRotMatchTryEnd (g : Octet) (pass : Bool) (s : State) : Host.Outcome State Fault Refusal :=
  let st := s.rotState g
  match (s.rot g).visit with
  | some l =>
    if !(st = roMatch || st = roMatchBack || st = roSeamOut || st = roSeamBack) then .next s
    else if !pass then .next (s.matchFails g l)
    else if st = roMatch then .next (s.rotTo g roSeamOut l)
    else if st = roMatchBack then .next (s.rotCommit g l)
    else .next s
  | none => .next s

/-- ROT_SEAM_TIMEOUT (R765, R779): 50 ms without a seam. -/
def execRotSeamTimeout (g : Octet) (s : State) : Host.Outcome State Fault Refusal :=
  match (s.rot g).visit with
  | some l => if s.rotState g = roSeamOut && (s.rot g).at_ + usTicks 50000 ≤ s.tick then .next (s.rotSkip g l) else .next s
  | none => .next s

/-- Does R553 or SAFE hold a handover of a ball off? -/
def State.handoverShut (s : State) (g l : Nat) : Bool :=
  s.flag (FE.STAT.OC g l) || s.ballState g l = fsShutdown || (s.get (STEER.STAT.OV g)).testBit l || (s.get (STEER.CTL.FORCE_ISO g)).testBit l
    || (s.dcUnit g).link ≠ 0 || s.inSafe (g / 8) || s.modeOf (g / 8) = mOff

/-- A visit ends with its lane served by its own core again (R765). -/
def State.visitEnds (s : State) (g l : Nat) : State :=
  let s := s.handOver g l false
  let s := s.set (ROT.STAT.SKIPMASK g) (s.get (ROT.STAT.SKIPMASK g) - (s.get (ROT.STAT.SKIPMASK g) &&& 2 ^ l))
  let s := (s.bump (ROT.COUNT.VISITS g) 1).onSecCal (g / 8) fun c => { c with visits := c.visits + 1 }
  s.rotNext g

/-- The check of a handover in a visit fails (R765, R778). -/
def State.checkFails (s : State) (g l : Nat) : State :=
  let n := (s.rot g).checkFails + 1
  let s := (s.set (ROT.STAT.CHECK_FAIL g) 1).onRot g fun r => { r with checkFails := n }
  if n < 3 then s
  else if s.rotState g = roSeamOut then s.rotFailed g l rcCheck fun s => s.rotSkip g l
  else s.rotFailed g l rcCheck fun s => s.rotRun g roCal l

/-- HANDOVER_SWITCH (R551, R553, R765, R777, R778, R793): a seam has come, and the check passes or `fail`s. The transfer of
the ball of a retired core comes before a visit. -/
def execHandoverSwitch (g : Octet) (fail : Bool) (s : State) : Host.Outcome State Fault Refusal :=
  match (s.rot g).owed with
  | some l =>
    if s.handoverShut g l then .next s
    else
      let s := if fail then s.set (ROT.STAT.CHECK_FAIL g) 1 else s
      .next (((s.mirror g l).handOver g l true).onRot g fun r => { r with owed := none })
  | none =>
    match (s.rot g).visit with
    | none => .next s
    | some l =>
      let st := s.rotState g
      if !(st = roSeamOut || st = roSeamBack) || s.handoverShut g l then .next s
      else if fail then .next (s.checkFails g l)
      else if st = roSeamOut then .next ((s.handOver g l true).rotRun g roCal l)
      else .next (s.visitEnds g l)

/-- The cause with which a run of a core ends, 0 where it passes (R766, R781, R784 to R787). -/
def State.runCause (s : State) (g c : Nat) (e : RunEnd) : Nat :=
  let taps (i : Nat) : Nat := (Tab.get (fun _ => []) s.vault.ledger.taps (8 * (9 * g + c) + i)).length
  if (s.rot g).faulted then rcDacFault
  else match e.fault with
    | .refload => rcRefload
    | .disagree => 1
    | .none => if (List.range 6).any fun i => 4 < taps i then 2 else if driftFails e.measured (s.runDrift g c e.measured) then rcDrift else 0

/-- What a passed run would commit (R762, R790). -/
def State.runResult (s : State) (g c : Nat) (e : RunEnd) : Provision :=
  { drift := s.runDrift g c e.measured, verr := e.verr, tcal := s.temp (g / 8) }

/-- The loopback reference has failed (R784). -/
def State.refload (s : State) (g : Nat) : State :=
  let s := (s.rotIdle g).onRot g fun r => { r with halted := true, faulted := false }
  (s.set (ROT.STAT.HW_FAULT g) 1).raise (srcCalFail (g / 8))

/-- A new correction set is issued for a core where an entry differs enough (R761). -/
def State.issueSet (s : State) (g c : Nat) : State :=
  let now := (s.core g c).next.getD (s.core g c).set
  let new := s.corrections g c
  let kinds := s.entryKinds g c
  if new.length ≠ now.length || (List.zip kinds (List.zip new now)).any fun e => entryDiffers e.1 e.2.1 e.2.2 then
    s.onCore g c fun x => { x with next := some new }
  else s

/-- The end of a run of rotation (R765, R784, R804). -/
def State.rotRunEnds (s : State) (g c : Nat) (e : RunEnd) (cause : Nat) : State :=
  let st := s.rotState g
  if cause = rcRefload then (s.failRun g c cause).refload g
  else if cause ≠ 0 then s.rotFailed g c cause fun s => s.rotRun g st (if c = 8 then 8 else c)
  else if st = roCal then
    ((s.onCore g c fun x => { x with prov := some (s.runResult g c e) }).issueSet g c).rotTo g roMatchBack c
  else if s.vault.room 1 then
    let s := s.commitRun g 8 (s.runResult g 8 e)
    match (s.rot g).visit with
    | some l => s.rotTo g roMirror l
    | none => s.rotNext g
  else (s.failRun g c rcLogFull).rotRun g st 8

/-- The end of a run in a foreground procedure: 1 CORE, 3 VERIFY, 4 a temperature point (R784, R798 to R801, R804, R878). -/
def State.procRunEnds (s : State) (g c : Nat) (e : RunEnd) (cause : Nat) : State :=
  let k := g / 8
  let kind := (s.proc k).kind
  let full := kind = 1 && cause = 0 && !s.vault.room 1
  let cause := if full then rcLogFull else cause
  let s := if cause = rcRefload then s.refload g
    else if kind = 1 then s.onRot g fun r => { r with halted := false } else s
  let s := if kind = 1 then (if cause = 0 then s.commitRun g c (s.runResult g c e) else s.failRun g c cause)
    else if kind = 3 && cause = 0 then
      (s.onCore g c fun x => { x with verr := e.verr, tcal := s.temp k }).showClasses g
    else if kind = 3 then s.setCause g c cause else s
  let p := s.proc k
  let p := { p with causes := p.causes ++ [(9 * g + c, cause)] }
  let s := s.setProc k (if kind = 4 && cause = 0 then { p with points := p.points ++ [(9 * g + c, e.measured)] } else p)
  (s.onRot g fun r => { r with faulted := false }).refreshOctet g

/-- ROT_RUN_END (R780 to R787): the run of the core on the loopback node ends. -/
def execRotRunEnd (g : Octet) (e : RunEnd) (s : State) : Host.Outcome State Fault Refusal :=
  match s.underRun g with
  | none => .next s
  | some c =>
    let s := match e.fault with | .none => s.tapCandidates g c e.taps | _ => s
    let cause := s.runCause g c e
    if s.modeOf (g / 8) = mCalibrate then .next (s.procRunEnds g c e cause) else .next (s.rotRunEnds g c e cause)

/-- ROT_SUMMARY (R803): rotation has run in the sector for 3,600 Quill seconds since the last one. -/
def execRotSummary (k : Sector) (s : State) : Host.Outcome State Fault Refusal :=
  let c := s.secCal k
  let ran := c.ran + (if s.rotating k then s.quill.qsec - c.ranAt else 0)
  if 3600 ≤ ran then .next (s.rotSummary k) else .next s

/-- A write of `ROT[g].CTL` (R806): PAUSE takes effect at once. -/
def State.rotCtlWrite (s : State) (g v : Nat) : State := (s.plainWrite (ROT.CTL.reg g) v).rotJudge g

/-- ROT_CTL_WRITE (R806). -/
def execRotCtlWrite (g : Octet) (v : Word) (s : State) : Host.Outcome State Fault Refusal :=
  .next (s.whileOn (g / 8) (ROT.CTL.reg g) fun s => s.rotCtlWrite g v.toNat)

/-- The filtered temperature after a reading (R759): between the value before and the reading. -/
def filtered (primed : Bool) (old reading : Int) : Int :=
  let r := reading * 1024
  if primed then max (min old r) (min (max old r) (Config.tempFilter old reading)) else r

/-- CAL_TEMP_SAMPLE (R759, R760, R790): the sensor of a sector is read every 1 ms, in 1/64 °C. -/
def execCalTempSample (k : Sector) (reading : BitVec 16) (s : State) : Host.Outcome State Fault Refusal :=
  if !s.mainOn then .next s
  else
    let f := filtered (s.secCal k).primed (s.secCal k).filt reading.toInt
    let s := s.onSecCal k fun c => { c with filt := f, primed := true }
    let s := s.set (CAL.TEMP.TEMP k) (trunc 16 (f / 1024))
    let s := if s.tempOutside k then s.set CAL.STAT.TEMP_RANGE 1 else s
    if s.modeOf k = mOff then .next s else .next (s.each (octetsOf k) State.showClasses)

/-- CAL_RECOMPUTE (R761): every 10 ms. -/
def execCalRecompute (k : Sector) (s : State) : Host.Outcome State Fault Refusal :=
  if s.modeOf k = mOff || !s.mainOn then .next s
  else .next (s.each (octetsOf k) fun s g => s.each (List.range 9) fun s c => s.issueSet g c)

/-- CAL_AGE_CLASS_CHANGE (R789, R790): the ages of an octet's balls are judged. -/
def execCalAgeClassChange (g : Octet) (s : State) : Host.Outcome State Fault Refusal :=
  if s.modeOf (g / 8) = mOff || !s.mainOn then .next s else .next ((s.showAges g).showClasses g)

/-! ### Foreground calibration (R798 to R802, R878) -/

/-- May a calibration command act on sectors? (R878) Each must be in SETUP, with no transition and no SAFE. -/
def State.calMay (s : State) (mask : Nat) : Bool :=
  (bitsOf 8 mask).all fun k => s.modeOf k = mSetup && !s.flag (SMODE.CTL.BUSY k) && !s.inSafe k

/-- A procedure begins in each of its sectors (R64, R798). -/
def State.calBegin (s : State) (p : Packet) (mask : Nat) (proc : Nat → Proc) : State :=
  let s := s.addJob p mask 0
  let s := s.each (bitsOf 8 mask) fun s k => (s.setProc k (proc k)).beginMode k mCalibrate
  if mask = 0 then
    match s.findJob fun j => decide (j.packet = p) with
    | some j => s.calReply j
    | none => s
  else s

/-- The octets of a mask that lie in a sector. -/
def sectorOctets (mask k : Nat) : Nat := mask / 2 ^ (8 * k) % 256

/-- CAL_CORE, command 0x401 (R798, R799, R878). -/
def execCalCore (s : State) : Host.Outcome State Fault Refusal :=
  match s.start 0x401 with
  | none => .next s
  | some (p, s) =>
    if !s.calMay p.scope then .next (s.reply p stBusy [])
    else .next (s.calBegin p p.scope fun k => { kind := 1, octets := sectorOctets (p.arg 0) k })

/-- CAL_DESKEW, command 0x402 (R731, R800, R878). -/
def execCalDeskew (s : State) : Host.Outcome State Fault Refusal :=
  match s.start 0x402 with
  | none => .next s
  | some (p, s) =>
    let small (g : Nat) : Bool := (bitsOf 8 (p.arg 1)).any fun l =>
      decide ((s.levelUv g l dkVih - s.levelUv g l dkVil).natAbs < 400000 * 65535)
    if !s.calMay p.scope then .next (s.reply p stBusy [])
    else if (bitsOf 64 (p.arg 0)).any small then .next (s.reply p stBadParam [])
    else .next (s.calBegin p p.scope fun k => { kind := 2, octets := sectorOctets (p.arg 0) k, lanes := p.arg 1, ref := p.arg 2 })

/-- CAL_VERIFY, command 0x403 (R798, R801, R878). -/
def execCalVerify (s : State) : Host.Outcome State Fault Refusal :=
  match s.start 0x403 with
  | none => .next s
  | some (p, s) =>
    if !s.calMay p.scope then .next (s.reply p stBusy [])
    else .next (s.calBegin p p.scope fun k => { kind := 3, octets := sectorOctets (p.arg 0) k })

/-- May the sealed set be changed? (R815) -/
def State.setOpen (s : State) : Bool := s.rwlOpen

/-- Has a change of the sealed set room in the log and the counter? (R820, R821, R829) -/
def State.changeRoom (s : State) (n : Nat) : Bool := s.lifecycle = 0 || (s.vault.room (n + 2 * s.vault.txs.length) && s.vault.mayCount)

/-- CAL_POINT, command 0x404 (R758, R820, R878). -/
def execCalPoint (s : State) : Host.Outcome State Fault Refusal :=
  match s.start 0x404 with
  | none => .next s
  | some (p, s) =>
    if !s.setOpen then .next (s.reply p stSealed [])
    else if !s.calMay 0xFF then .next (s.reply p stBusy [])
    else if 8 ≤ p.arg 0 then .next (s.reply p stBadParam [])
    else if !s.changeRoom 1 then .next (s.reply p stLogFull [])
    else .next (s.calBegin p p.scope fun _ => { kind := 4, octets := 0xFF, point := p.arg 0 })

/-- The retirement of cores is undone (R797): each core serves its own ball again. -/
def State.unretire (s : State) (g mask : Nat) : State :=
  let back := (bitsOf 9 mask).map (9 * g + ·)
  let s := s.wear fun w => { w with cores := w.cores.filter fun c => !back.contains c }
  let s := s.each (bitsOf 9 mask) fun s c => s.onCore g c fun x => { x with fails := 0 }
  if s.modeOf (g / 8) = mOff then s
  else
    let s := s.each (bitsOf 8 (s.get (STEER.STAT.SPARE g))) fun s l => s.handOver g l false
    let cs := s.ledgerCores g
    let s := ((s.set (ROT.CORES.RETIRED g) (maskOf cs)).setB (ROT.STAT.DEGRADED g) !cs.isEmpty).set (ROT.CORES.DEAD g) (maskOf (deadLanes cs))
    let s := s.onRot g fun r => { r with owed := if cs.contains 8 then none else (cs.find? (· < 8)) }
    (s.refreshOctet g).showClasses g

/-- CAL_UNRETIRE, command 0x405 (R797, R820, R878). -/
def execCalUnretire (s : State) : Host.Outcome State Fault Refusal :=
  match s.start 0x405 with
  | none => .next s
  | some (p, s) =>
    let g := p.arg 0
    let m := s.modeOf (g / 8)
    if s.lifecycle ≠ 3 then .next (s.reply p stSealed [])
    else if g < 64 && !(m = mStandby || m = mOff) then .next (s.reply p stBusy [])
    else if 64 ≤ g || 512 ≤ p.arg 1 then .next (s.reply p stBadParam [])
    else if !s.changeRoom 1 then .next (s.reply p stLogFull [])
    else
      let before := itemDigest (s.ledgerCores g)
      .next (((s.addJob p 0 0).unretire g (p.arg 1)).sealedChange 8 g before 0x405)

/-- A new word of `TLL[s].REPAIR` (R167): it is entered in the wear ledger. -/
def State.tllRepair (s : State) (k v opcode : Nat) : State :=
  let before := itemDigest [(s.rd (TLL.REPAIR.reg k)).toNat]
  let s := (s.wr (TLL.REPAIR.reg k) (wordOf v)).wear fun w => { w with masters := Tab.put (fun _ => 0) w.masters k v }
  s.sealedChange 5 k before opcode

/-- May `TLL[s].REPAIR` be changed in the sector's mode? (R167) -/
def State.tllOpen (s : State) (k : Nat) : Bool := s.modeOf k = mStandby || s.modeOf k = mOff

/-- TLL_REPAIR, command 0x406 (R167, R820, R878). -/
def execTllRepair (s : State) : Host.Outcome State Fault Refusal :=
  match s.start 0x406 with
  | none => .next s
  | some (p, s) =>
    let k := p.arg 0
    let v := p.arg 1 + p.arg 2 * 2 ^ 8 + p.arg 3 * 2 ^ 16 + p.arg 4 * 2 ^ 24
    if !s.setOpen then .next (s.reply p stSealed [])
    else if k < 8 && !s.tllOpen k then .next (s.reply p stBusy [])
    else if 8 ≤ k then .next (s.reply p stBadParam [])
    else if !s.changeRoom 2 then .next (s.reply p stLogFull [])
    else
      let s := (s.addJob p 0 0).tllRepair k v 0x406
      if s.vault.txs.any (·.opcode = 0x406) then .next s
      else match s.findJob fun j => decide (j.packet = p) with
        | some j => .next (s.endJob j stDone [])
        | none => .next s

/-- Has the procedure of a sector done all its steps, or been broken? (R799, R800, R802) -/
def State.procDone (s : State) (k : Nat) : Bool :=
  let p := s.proc k
  p.kind ≠ 0 && s.modeOf k = mCalibrate && !s.flag (SMODE.CTL.BUSY k)
    && (p.broken || (procOctets k p).all fun g => if p.kind = 2 then (s.tdr g).lanes.isEmpty else s.procCore g = none)

/-- CAL_PROCEDURE_END (R802): the sector returns to SETUP, or stays under SAFE until SAFE_EXIT. -/
def execCalProcedureEnd (k : Sector) (s : State) : Host.Outcome State Fault Refusal :=
  if s.procDone k then
    if s.inSafe k then .next (s.procFinish k) else .next (s.leaveCalibrate k |>.modeHeld k)
  else .next s

end Sys2Proof.Machine
end

