-- ==== Sys2Proof/Machine/Timing.lean ====
section
/-! DEFINITION. The timing commands of Lectern: TS_WRITE and PT_WRITE (R876). -/

namespace Sys2Proof.Machine
open Reg

/-- TS_WRITE, command 0x201 (R461, R462, R769, R872, R876). -/
def execTsWrite (s : State) : Host.Outcome State Fault Refusal :=
  match s.start 0x201 with
  | none => .next s
  | some (p, s) =>
    let g := p.arg 0
    let lanes := bitsOf 9 (p.arg 1)
    let ws := (List.range 6).map fun i => (BitVec.ofNat 32 (p.arg (3 + i)) : Word)
    if 64 ≤ g || 512 ≤ p.arg 1 then .next (s.reply p stBadParam [])
    else if s.modeOf (g / 8) = mOff || s.nibLocked g || lanes.any (s.slotShut g) then .next (s.reply p stBusy [])
    else if 64 ≤ p.arg 2 || 2 ^ 28 ≤ p.arg 8 || tsBad (wordsNat ws) then .next (s.reply p stBadParam [])
    else .next ((s.each lanes fun s l => s.slotWrite g l fun s i => (s.tsPut g i (p.arg 2) ws).2).reply p stDone [])

/-- PT_WRITE, command 0x202 (R277, R443, R447, R872, R876). -/
def execPtWrite (s : State) : Host.Outcome State Fault Refusal :=
  match s.start 0x202 with
  | none => .next s
  | some (p, s) =>
    let gs := bitsOf 64 (p.arg 0)
    let e := p.arg 1
    let period := p.arg 2
    let low (g : Nat) : Bool :=
      s.flag (PS.RESV.HELD (g / 8)) && decide (period < (Tab.get (fun _ => {}) s.mem.resv (g / 8)).floor)
    if gs.any fun g => s.modeOf (g / 8) = mOff || s.ptIgnored g e then .next (s.reply p stBusy [])
    else if 16 ≤ e || period < 2 ^ 32 || 2 ^ 48 ≤ period || gs.any low then .next (s.reply p stBadParam [])
    else .next ((s.each gs fun s g => (s.ptCommit g e period).2).reply p stDone [])

end Sys2Proof.Machine
end

