-- ==== Sys2Proof/Machine/CopyOps.lean ====
section
/-! DEFINITION. Control of the Copyist's channels, the checks of a MOVE, the reservation of banks, the write-back of
descriptors and the reset of a channel (R884 to R912). -/

namespace Sys2Proof.Machine
open Reg

/-- Spaces (R885). -/
def spHost : Nat := 0
def spDevice : Nat := 1
def spRegister : Nat := 2
def spVault : Nat := 3

def isBulk (c : Nat) : Bool := decide (24 ≤ c)

/-! ### Banks of a segment (R900 to R902) -/

/-- The sector-store bank that an address of a space lies in, as 16 × sector + bank. -/
def bankOf (space addr : Nat) : Option Nat :=
  if space = spDevice then
    match regionOf addr with
    | .store k b _ => some (16 * k + b)
    | _ => none
  else none

/-- The bank that a segment reserves there; a segment takes a port of bank 0, not the whole bank (R900). -/
def reserved (space addr : Nat) : Option Nat := (bankOf space addr).filter fun b => b % 16 ≠ 0

/-- Source and destination spaces, units and addresses of the MOVE in progress (R889, R893). -/
def Chan.dspace (x : Chan) : Nat := x.fld 1 26 2
def Chan.sspace (x : Chan) : Nat := x.fld 1 22 2
def Chan.dfix (x : Chan) : Bool := x.fld 1 17 1 = 1
def Chan.sfix (x : Chan) : Bool := x.fld 1 16 1 = 1
def Chan.len (x : Chan) : Nat := x.w 6
def dunit (c : Nat) (x : Chan) : Nat := if isBulk c then 64 else 2 ^ x.fld 1 24 2
def sunit (c : Nat) (x : Chan) : Nat := if isBulk c then 64 else 2 ^ x.fld 1 20 2
/-- Times that the descriptor has been carried out since the outermost loop was entered (R893). -/
def Chan.pass (x : Chan) (pc : Nat) : Nat := Tab.get (fun _ => 0) x.passes pc
def Chan.src (x : Chan) (pc : Nat) : Nat := (x.wide 2 + (if x.fld 1 18 1 = 1 then x.pass pc * x.len else 0)) % 2 ^ 64
def Chan.dst (x : Chan) (pc : Nat) : Nat := (x.wide 4 + (if x.fld 1 19 1 = 1 then x.pass pc * x.len else 0)) % 2 ^ 64

def State.chPc (s : State) (c : Nat) : Nat := s.get64 (CH.PC_LO.reg c) (CH.PC_HI.reg c)
def State.setPc (s : State) (c pc : Nat) : State := s.set64 (CH.PC_LO.reg c) (CH.PC_HI.reg c) pc

def State.chDone (s : State) (c : Nat) : Nat := s.get (CH.DONE_BYTES.BYTES c)

/-- The present source and destination address of a channel. -/
def State.srcAt (s : State) (c : Nat) : Nat :=
  let x := s.chan c
  x.src (s.chPc c) + if x.sfix then 0 else x.read
def State.dstAt (s : State) (c : Nat) : Nat :=
  let x := s.chan c
  x.dst (s.chPc c) + if x.dfix then 0 else s.chDone c

/-- The bank of the present segment's destination or source. -/
def State.dstBank (s : State) (c : Nat) : Option Nat := reserved (s.chan c).dspace (s.dstAt c)
def State.srcBank (s : State) (c : Nat) : Option Nat := reserved (s.chan c).sspace (s.srcAt c)

/-- Does a channel's segment hold a bank? -/
def State.holdsBank (s : State) (c b : Nat) : Bool :=
  let x := s.chan c
  (x.dstHeld && s.dstBank c = some b) || (x.srcHeld && s.srcBank c = some b)

/-- The other channel whose segment holds a bank. -/
def State.holderOf (s : State) (c b : Nat) : Option Nat :=
  (List.range 32).find? fun d => d ≠ c && (s.chan d).moving && s.holdsBank d b

/-- May a channel reserve a bank now? It waits for another channel's segment, and while a handover is in progress (R900,
R923). -/
def State.bankFree (s : State) (c : Nat) (b : Option Nat) : Bool :=
  match b with
  | none => true
  | some b => (s.holderOf c b).isNone && !s.flag (SS.BANK.PENDING (b / 16) (b % 16))

/-- Why a channel may not use a bank (R902, R919, R925, R1086): a status, or nothing. -/
def State.bankRefuses (s : State) (c : Nat) (b : Option Nat) : Option Nat :=
  match b with
  | none => none
  | some b =>
    let k := b / 16
    let o := s.owner k (b % 16)
    if s.modeOf k = mOff then some stBusy
    else if o = owTest || s.flag (SS.BANK.BIST k (b % 16)) then some stSelftest
    else if o = owHost || o = owLectern || o = owChannel c || (b % 16 = 0 && s.get (SS.GUEST.CODE k) = owChannel c) then none
    else some stBusy

/-- The reservations of a channel are released. -/
def State.freeBanks (s : State) (c : Nat) : State :=
  let s := s.onChan c fun x => { x with dstHeld := false, srcHeld := false, waitsDst := false, waitsSrc := false }
  { s with cpyWait := s.cpyWait.filter (· ≠ c) }

/-- A delay event of a channel (R899, R900). -/
def State.delayEvent (s : State) (c : Nat) : State := s.bump (CH.COUNTS.DELAY c) 1

/-- A MOVE ends with a status; EST holds the time to the end of a self-test (R902). -/
def State.endMove (s : State) (c status : Nat) : State :=
  let est (b : Option Nat) : Nat := match b with
    | some b => if s.flag (SS.BANK.BIST (b / 16) (b % 16)) then s.bistLeft (b / 16) else 0
    | none => 0
  let x := s.chan c
  let us := max (est (bankOf x.dspace (s.dstAt c))) (est (bankOf x.sspace (s.srcAt c)))
  let s := if status = stSelftest then s.set (CH.EST.US c) (min 0xFFFF us) else s
  (s.freeBanks c).endDesc c status

/-- A channel asks for the destination bank of its segment (R900, R902). -/
def State.askDst (s : State) (c : Nat) : State :=
  let x := s.chan c
  match s.bankRefuses c (bankOf x.dspace (s.dstAt c)), s.bankRefuses c (bankOf x.sspace (s.srcAt c)) with
  | some st, _ => s.endMove c st
  | none, some st => s.endMove c st
  | none, none =>
    if s.bankFree c (s.dstBank c) then
      let s := s.onChan c fun x => { x with dstHeld := true, waitsDst := false }
      { s with cpyWait := s.cpyWait.filter (· ≠ c) }
    else
      let s := if x.waitsDst then s else s.delayEvent c
      let s := s.onChan c fun x => { x with waitsDst := true }
      if s.cpyWait.contains c then s else { s with cpyWait := s.cpyWait ++ [c] }

/-- A channel that holds its destination asks for its source bank (R900). -/
def State.askSrc (s : State) (c : Nat) : State :=
  let x := s.chan c
  if s.bankFree c (s.srcBank c) then
    let s := s.onChan c fun x => { x with srcHeld := true, waitsSrc := false, first := false }
    { s with cpyWait := s.cpyWait.filter (· ≠ c) }
  else
    let s := if x.waitsSrc then s else s.delayEvent c
    let s := s.onChan c fun x => { x with waitsSrc := true }
    if s.cpyWait.contains c then s else { s with cpyWait := s.cpyWait ++ [c] }

/-- May a channel's MOVE go on? -/
def State.movingNow (s : State) (c : Nat) : Bool :=
  let x := s.chan c
  x.moving && x.ended.isNone && s.chState c = cpExec && x.yieldTo.isNone

/-- A waiting channel asks again. -/
def State.askAgain (s : State) (c : Nat) : State :=
  if s.movingNow c then
    let s := if (s.chan c).dstHeld then s else s.askDst c
    if (s.chan c).dstHeld && !(s.chan c).srcHeld && s.movingNow c then s.askSrc c else s
  else s

/-- Waiting channels are granted what is free: those that yielded first, then in order of request (R901, R912). -/
def State.grantWaiting (s : State) : State :=
  let firsts := s.cpyWait.filter fun c => (s.chan c).first
  let rest := s.cpyWait.filter fun c => !(s.chan c).first
  s.each (firsts ++ rest) State.askAgain

/-- Channels that yielded to a segment that has ended retry theirs, ahead of later requests (R901). -/
def State.freeYields (s : State) : State :=
  s.each (List.range 32) fun s d =>
    match (s.chan d).yieldTo with
    | some t =>
      if (s.chan t).moving && (s.chan t).dstHeld then s
      else
        let s := s.onChan d fun x => { x with yieldTo := none, first := true }
        if s.cpyWait.contains d then s else { s with cpyWait := s.cpyWait ++ [d] }
    | none => s

/-- Every reservation that time has brought on: waiting channels, then sources not yet asked for, lower channels
first (R912). -/
def State.cpyAdvance (s : State) : State := s.freeYields.grantWaiting.each (List.range 32) State.askAgain

/-! ### Checks of a MOVE (R894, R898) -/

/-- Do `n` bytes from an address of a space lie outside its map, or in the reserved range of BAR2? -/
def outOfSpace (space addr n : Nat) : Bool :=
  if space = spDevice then decide (storesBase + 8 * 0x800000 < addr + n)
  else if space = spRegister then decide (0x4000000 < addr + n)
  else space = spHost && decide (2 ^ 64 < addr + n)

/-- Do `n` bytes of register space touch the Copyist, vault or debug blocks? (R885) -/
def shutRegs (space addr n : Nat) : Bool := space = spRegister && decide (addr < 0x900000) && decide (0x600000 < addr + n)

/-- Does a range lie wholly in a sector's windows or in its store? (R884) -/
def State.inSector (s : State) (k space addr n : Nat) : Bool :=
  space = spDevice &&
    match regionOf addr with
    | .stack w a => w = wingOf k && [0, 1, 2].any fun i =>
        let win := s.window k i
        decide (win.1 * unitSize ≤ a) && decide (a + n ≤ (win.1 + win.2) * unitSize)
    | .store j _ _ => j = k && decide (addr + n ≤ storesBase + (k + 1) * 0x800000)
    | .reserved => false

/-- The first check that a MOVE fails, as its status (R894, R898). -/
def State.moveCheck (s : State) (c : Nat) : Option Nat :=
  let x := s.chan c
  let pc := s.chPc c
  let n := x.len
  let src := x.src pc
  let dst := x.dst pc
  let srcN := if x.sfix then sunit c x else n
  let dstN := if x.dfix then dunit c x else n
  let top := if isBulk c then spDevice else spRegister
  if (x.loops.any (·.ring) && (x.fld 1 18 2 ≠ 0)) then some stBadParam
  else if top < x.sspace || top < x.dspace || shutRegs x.sspace src srcN || shutRegs x.dspace dst dstN
      || (isBulk c && (x.sfix || x.dfix || x.fld 1 24 2 ≠ 0 || x.fld 1 20 2 ≠ 0)) then some stBadParam
  else if (x.sspace = spRegister && sunit c x ≠ 4) || (x.dspace = spRegister && dunit c x ≠ 4) then some stBadParam
  else if n = 0 then some stBadParam
  else if src % sunit c x ≠ 0 || dst % dunit c x ≠ 0 || n % max (sunit c x) (dunit c x) ≠ 0 then some stMisaligned
  else if isBulk c && !s.inSector (c - 24) x.sspace src n && !s.inSector (c - 24) x.dspace dst n then some stBadParam
  else if outOfSpace x.sspace src srcN || outOfSpace x.dspace dst dstN then some stAddress
  else if x.sspace = x.dspace && decide (src < dst) && decide (dst < src + srcN) then some stBadParam
  else none

/-- Sectors whose store a range names. -/
def storeSectors (space addr n : Nat) : List Nat :=
  if space = spDevice then
    (List.range 8).filter fun k => decide (addr < storesBase + (k + 1) * 0x800000) && decide (storesBase + k * 0x800000 < addr + n)
  else []

/-- Does the MOVE in progress of a channel use the store of a sector? (R911) -/
def State.usesStore (s : State) (c k : Nat) : Bool :=
  let x := s.chan c
  (x.op = cpMove && (s.chState c = cpExec || s.chState c = cpPaused) && !x.desc.isEmpty)
    && ((storeSectors x.sspace (x.src (s.chPc c)) x.len).contains k || (storeSectors x.dspace (x.dst (s.chPc c)) x.len).contains k)

/-- Does the MOVE in progress of a channel use the stack of a wing? (R289, R911) -/
def State.usesStack (s : State) (c w : Nat) : Bool :=
  let x := s.chan c
  let on (space addr : Nat) : Bool := space = spDevice && decide (addr < (w + 1) * stackSize) && decide (w * stackSize < addr + x.len)
  (x.op = cpMove && (s.chState c = cpExec || s.chState c = cpPaused) && !x.desc.isEmpty)
    && (on x.sspace (x.src (s.chPc c)) || on x.dspace (x.dst (s.chPc c)))

/-- A MOVE begins (R898, R900). -/
def State.beginMove (s : State) (c : Nat) : State :=
  let s := ((s.set (CH.DONE_BYTES.BYTES c) 0).wr (CH.COUNTS.reg c) 0).onChan c fun x => { x with read := 0, hold := [] }
  match s.moveCheck c with
  | some st => s.endDesc c st
  | none =>
    let x := s.chan c
    let off := (storeSectors x.sspace (x.src (s.chPc c)) x.len ++ storeSectors x.dspace (x.dst (s.chPc c)) x.len).any fun k => s.modeOf k = mOff
    if off then s.endDesc c stBusy
    else (s.onChan c fun x => { x with moving := true }).askDst c

/-! ### Channels that Lectern holds (R875, R886) -/

/-- The command that holds, or waits for, a sector's bulk channel. -/
def State.loadJob (s : State) (k : Nat) : Option Job := s.findJob fun j => decide (j.packet.opcode = 0x105 ∧ j.packet.arg 0 = k)

/-- Lines of one MOVE of PAT_LOAD, at most: whole granules and lines within LEN (R875, R889). -/
def loadLines : Nat := 107374176

/-- Lectern carries out the next MOVE of PAT_LOAD on the channel that it holds (R875). -/
def State.loadMove (s : State) (k : Nat) (j : Job) : State :=
  let c := 24 + k
  let first := j.packet.arg 1 + j.mask
  let n := min loadLines (j.packet.arg 2 - j.mask)
  let src := j.packet.arg 3 + 40 * j.mask
  let dst := s.lineOff k first
  let ws : List Nat := [2 ^ 31, 0x14000000, src, src / 2 ^ 32, dst, dst / 2 ^ 32, 40 * n, 0]
  ((s.setChan c { desc := ws.map (BitVec.ofNat 32), late := (s.chan c).late }).setChState c cpExec).beginMove c

/-- Lectern takes a channel that is IDLE and that a command waits for (R886). -/
def State.lecTake (s : State) (c : Nat) : State :=
  if isBulk c && s.chState c = cpIdle && !s.lecHolds c then
    match s.loadJob (c - 24) with
    | some j =>
      let j' := { j with aux := 1 }
      ((s.updateJob j j').set CPY.LECT.HELD (s.get CPY.LECT.HELD ||| 2 ^ c)).loadMove (c - 24) j'
    | none => s
  else s

/-- A channel that Lectern held is IDLE: it is released, and the command replies (R871, R875, R886). A MOVE that stopped
short gives DONE_REDUCED with the lines written. -/
def State.lecRelease (s : State) (c : Nat) : State :=
  if s.lecHolds c then
    let s := s.set CPY.LECT.HELD (s.get CPY.LECT.HELD - 2 ^ c)
    match s.loadJob (c - 24) with
    | some j =>
      let lines := j.mask + s.chDone c / 40
      let last := s.get (CH.STAT.LAST c)
      let st := if last = stTargetReset then stTargetReset else if lines = j.packet.arg 2 then stDone else stDoneReduced
      (s.updateJob j { j with delay := j.delay + s.get (CH.COUNTS.DELAY c) }).endJob { j with delay := j.delay + s.get (CH.COUNTS.DELAY c) } st (if st = stTargetReset then [] else [(32, lines)])
    | none => s
  else s

/-! ### Control (R886, R890, R907, R908) -/

/-- The lower half of a program address as written, and where the program begins. -/
def State.progOf (s : State) (c : Nat) : Nat := s.get64 (CH.PROG_LO.reg c) (CH.PROG_HI.reg c)

/-- GO (R886, R907). -/
def State.cpyGo (s : State) (c : Nat) : State :=
  if s.chState c = cpIdle && !s.lecHolds c && s.progOf c % 32 = 0 && s.get (CH.CTL.PSPACE c) ≤ 1 then
    let s := s.setChan c { late := (s.chan c).late }
    (((s.setPc c (s.progOf c)).set (CH.DONE_BYTES.BYTES c) 0).wr (CH.COUNTS.reg c) 0).setChState c cpFetch
  else s.set (CH.STAT.REFUSED c) 1

/-- KICK (R890, R912). -/
def State.cpyKick (s : State) (c : Nat) : State :=
  if s.chState c = cpEmpty then s.setChState c cpFetch
  else if s.chState c = cpFetch then s.onChan c fun x => { x with kicked := true } else s

/-- PAUSE written 1 (R907): at once, or at the end of a segment in progress. -/
def State.cpyPause (s : State) (c : Nat) : State :=
  let st := s.chState c
  let x := s.chan c
  if st = cpIdle || st = cpPaused then s
  else if st = cpExec && x.moving && x.dstHeld && x.srcHeld then s.setChan c { x with pausing := true }
  else
    let s := if x.moving then (s.freeBanks c).onChan c fun x => { x with yieldTo := none, first := false } else s
    (s.onChan c fun x => { x with left := st }).setChState c cpPaused

/-- PAUSE written 0 (R907): the state it left. -/
def State.cpyResume (s : State) (c : Nat) : State :=
  let x := s.chan c
  if s.chState c = cpPaused then
    let s := (s.setChan c { x with pausing := false }).setChState c x.left
    if x.left = cpWait then s.endWaits (x.fld 1 0 8) else s
  else s.setChan c { x with pausing := false }

/-- A channel becomes IDLE: held writes of BAR2 may be served (R919), and Lectern releases it or takes it (R886). -/
def State.setIdle (s : State) (c : Nat) : State :=
  let s := (s.freeBanks c).onChan c fun x => { late := x.late }
  (((s.setChState c cpIdle).flushHeld).lecRelease c).lecTake c

/-- A channel stops on an error (R906). -/
def State.cpyStopErr (s : State) (c status : Nat) : State :=
  s.cpyNotify fun s => ((s.set (CH.STAT.LAST c) status).set CPY.ERR.ERR (s.get CPY.ERR.ERR ||| 2 ^ c)).setIdle c

/-! ### Write-back (R887, R891, R892) -/

/-- Words written at an address of the program's space; host memory is reached only while the link is up. -/
def State.progWrite (s : State) (c addr : Nat) (ws : List Word) : State :=
  if s.get (CH.CTL.PSPACE c) = spHost then if s.host.linkUp then s.toHost addr (wordBytes ws) else s
  else
    match regionOf addr with
    | .reserved => s
    | _ => s.bar2Puts addr ((wordBytes ws).map some)

/-- A descriptor is written back: W7 of a MOVE or W6 of a WAIT, then W0 with STATUS and with OWN clear; its IRQ bit sets
its DIRQ bit (R891). -/
def State.writeBack (s : State) (c : Nat) (e : CpyRec) : State :=
  let op := (e.words.getD 1 0).toNat / 2 ^ 28
  let w0 := (e.words.getD 0 0).toNat
  let s := if op = cpMove then s.progWrite c (e.pc + 28) [BitVec.ofNat 32 (min 0xFFFF e.delay * 2 ^ 16 + min 0xFFFF e.yielded)] else s
  let s := if op = cpWaitOp then s.progWrite c (e.pc + 24) [BitVec.ofNat 32 e.waited] else s
  let s := s.progWrite c e.pc [BitVec.ofNat 32 (w0 % 2 ^ 31 / 2 ^ 16 * 2 ^ 16 + e.status)]
  if w0.testBit 30 then s.cpyNotify fun s => s.set CPY.DIRQ.DIRQ (s.get CPY.DIRQ.DIRQ ||| 2 ^ c) else s

/-- The record of the descriptor in progress, ended with a status. -/
def State.recOf (s : State) (c status : Nat) : CpyRec :=
  let x := s.chan c
  { pc := s.chPc c, words := x.desc, status := status, delay := s.get (CH.COUNTS.DELAY c), yielded := s.get (CH.COUNTS.YIELDED c)
    waited := x.waited, due := true }

/-- A record entered in program order; the counts of a descriptor carried out before are summed (R892). -/
def enterRec (e : CpyRec) : List CpyRec → List CpyRec
  | [] => [e]
  | r :: t =>
    if e.pc < r.pc then e :: r :: t
    else if e.pc = r.pc then
      let d := if r.due then r.delay + e.delay else e.delay
      let y := if r.due then r.yielded + e.yielded else e.yielded
      { e with delay := d, yielded := y
               status := if e.status = stDone && decide (d + y ≠ 0) then stDoneDelayed else e.status } :: t
    else r :: enterRec e t

/-- The descriptor in progress ends with an error: it alone is written back, and the channel stops (R895, R906). -/
def State.stopDesc (s : State) (c status : Nat) (back : Bool) : State :=
  let s := if back && !s.lecHolds c && !(s.chan c).desc.isEmpty then s.writeBack c (s.recOf c status) else s
  s.cpyStopErr c status

/-- ABORT (R907, R912). -/
def State.cpyAbort (s : State) (c : Nat) : State :=
  if s.chState c = cpIdle then s
  else if (s.chan c).ended.isSome then s.onChan c fun x => { x with aborted := true }
  else s.stopDesc c stAborted (s.chState c ≠ cpEmpty && s.chState c ≠ cpFetch)

/-- A write of `CH[c].CTL` (R907, R908, R914). -/
def State.cpyCtlWrite (s : State) (c v : Nat) : State :=
  let s := s.cpyNotify fun s => s.setB (CH.CTL.IRQ_EN c) (v.testBit 27)
  let s := if v % 4 = s.get (CH.CTL.PSPACE c) then s
    else if s.chState c = cpIdle then s.set (CH.CTL.PSPACE c) v else s.set (CH.STAT.WR_IGNORED c) 1
  let s := s.setB (CH.CTL.PAUSE c) (v.testBit 28)
  let s := if v.testBit 31 then s.cpyGo c else s
  let s := if v.testBit 29 then s.cpyKick c else s
  let s := if v.testBit 28 then s.cpyPause c else s.cpyResume c
  if v.testBit 30 then s.cpyAbort c else s

/-- A write of a half of `CH[c].PROG` (R908). -/
def State.progRegWrite (s : State) (c a v : Nat) : State :=
  if s.chState c = cpIdle then s.wr a (BitVec.ofNat 32 v) else s.set (CH.STAT.WR_IGNORED c) 1

/-! ### Resets (R910, R911) -/

/-- The bytes of a segment's destination that may or may not have been written when a reset ends it (R910); register space
keeps its values. -/
def State.tornSegment (s : State) (c : Nat) : State :=
  let x := s.chan c
  if x.moving && x.dstHeld && x.srcHeld && !x.dfix then
    let dst := s.dstAt c
    let n := min (4096 - dst % 4096) (x.len - s.chDone c)
    let m := s.fresh
    let d := m.2.fresh
    let s := d.2
    let byte (i : Nat) : Byte := if x.sspace = spDevice && !x.sfix then memRd s.mem.mem (s.srcAt c + i) else BitVec.ofNat 8 (d.1 / 256 ^ i)
    let bs := (List.range n).map fun i => if m.1.testBit i then some (byte i) else none
    if x.dspace = spDevice then s.bar2Puts dst bs
    else if x.dspace = spHost then s.each (bs.zipIdx) fun s e => match e.1 with
      | some b => s.toHost (dst + e.2) [b]
      | none => s
    else s
  else s

/-- A channel is ended by a reset (R910): the descriptor in progress ends with TARGET_RESET, and is written back where
`back` says that its program can be reached. -/
def State.resetChannel (s : State) (c : Nat) (back : Bool) : State :=
  if s.chState c = cpIdle then s
  else
    let x := s.chan c
    let owed := (if x.moving && x.dstHeld && x.srcHeld then 1 else 0) + (if x.fencing then 1 else 0)
      + (if s.chState c = cpFetch then 1 else 0)
    let s := s.tornSegment c
    let s := if back && !s.lecHolds c && !x.desc.isEmpty && s.chState c ≠ cpEmpty && s.chState c ≠ cpFetch then s.writeBack c (s.recOf c stTargetReset) else s
    ((s.onChan c fun x => { x with late := x.late + owed }).set (CH.STAT.LAST c) stTargetReset).setIdle c

/-- A reset of a channel's block (R910, R924): every bank that the channel owns passes to LECTERN, and its generation
increments. -/
def State.resetChannelBlock (s : State) (c : Nat) (back : Bool) : State :=
  let s := s.resetChannel c back
  let s := s.each (List.range 8) fun s k => s.banksToLectern k (owChannel c)
  s.set (CH.STAT.GEN c) (s.get (CH.STAT.GEN c) + 1)

/-- A fabric reply that a reset left outstanding is discarded and counted (R910). -/
def State.lateReply (s : State) (c : Nat) : State :=
  if 0 < (s.chan c).late then (s.onChan c fun x => { x with late := x.late - 1 }).bump CPY.STALE.COUNT 1 else s

/-- The MOVEs that use a sector's store end as the sector enters OFF (R911). -/
def State.resetStoreMoves (s : State) (k : Nat) : State :=
  s.each ((List.range 32).filter (s.usesStore · k)) fun s c => s.resetChannel c true

/-- The MOVEs that use a stack end as its controller resets (R911). -/
def State.resetStackMoves (s : State) (w : Nat) : State :=
  s.each ((List.range 32).filter (s.usesStack · w)) fun s c => s.resetChannel c true

end Sys2Proof.Machine
end

