-- ==== Sys2Proof/Machine/Lifecycle.lean ====
section
/-! DEFINITION. The lifecycle commands, the Colophon's commands and verdicts (R812 to R840, R879). -/

namespace Sys2Proof.Machine
open Reg

/-- The bytes of an ECDSA P-384 public key: X, then Y. -/
def keyBytes (x y : Nat) : List Byte := leBytes 48 x ++ leBytes 48 y

/-- The serial number (R858). -/
def State.serial (s : State) : Nat := s.get64 DEV.SERIAL_LO.reg DEV.SERIAL_HI.reg

/-- Is a sector in RUN, MEASURE or CALIBRATE? (R818, R819) -/
def State.anyActive (s : State) : Bool := (List.range 8).any s.active3

/-- The working secrets are wiped (R816, R817). -/
def Vault.wipeSram (v : Vault) : Vault := { v with nonce := none, sram := [] }

/-- The key region is wiped (R817, R941). -/
def Vault.wipeKeys (v : Vault) : Vault := { v with keys := false, deviceKey := 0, attKey := 0, owner := 0 }

/-- A command that waits for its locked section gets its reply. -/
def State.replyTx (s : State) (opcode status : Nat) (fields : List (Nat × Nat)) : State :=
  match s.findJob (·.packet.opcode = opcode) with
  | some j => s.endJob j status fields
  | none => s

/-- The lifecycle section is over. -/
def State.unlock (s : State) : State :=
  if s.lec.locked = some .lifecycle then { s with lec := { s.lec with locked := none } } else s

/-! ### Commits (R817 to R820, R833, R836) -/

/-- LC_PROVISION commits (R817, R818). -/
def State.commitProvision (s : State) (owner : Nat) : State :=
  let a := s.fresh
  let b := a.2.fresh
  let s := b.2
  let v := s.vault
  let q := s.quill.qsec
  let v := if v.nextSeq = 0 then v.push colGenesis 0 0 q (s.serial + Config.romVersion % 2 ^ 32 * 2 ^ 64) else v
  let pub := Config.publicKey b.1
  let v := { v.wipeSram with lc := 1, counter := v.counter + 1, keys := true, deviceKey := a.1 % 2 ^ 256, attKey := b.1, owner := owner, everProvisioned := true }
  let v := v.push colProvision 0 0 q (digestNat 14 (Config.sha384 (keyBytes pub.1 pub.2)) + owner % 2 ^ 112 * 2 ^ 112)
  let v := v.writeBackup v.counter s.sealedNow
  (s.setVault v).replyTx 0x501 stDone [(384, pub.1), (384, pub.2)]

/-- LC_SEAL commits (R813, R817, R819). -/
def State.commitSeal (s : State) : State :=
  let v := s.vault
  let q := s.quill.qsec
  let digest := digestNat 16 (v.sealDigest s.sealedNow)
  let measure := digestNat 16 v.measure
  let v := { v.wipeSram with lc := 2, counter := v.counter + 1, set := s.sealedNow }
  let v := v.push colSeal 0 0 q (digest + s.get CAL.CTL.CLASS * 2 ^ 128)
  let v := v.push colSealMeasure 0 0 q measure
  (s.setVault (v.writeBackup v.counter v.set)).replyTx 0x502 stDone [(128, digest), (128, measure), (32, v.counter)]

/-- The values of an item of the sealed set after a change (R820). -/
def State.itemValues (s : State) (set : SealedSet) (item index : Nat) : List Nat :=
  match item with
  | 1 => set.pointValues index
  | 5 => [set.repairs.getD index 0]
  | 6 => [set.trims.getD index 0]
  | _ => s.ledgerCores index

/-- One change of the sealed set commits (R820, R833); TLL_REPAIR comes before its PARAM_CHANGE (R827). -/
def State.commitParam (s : State) (t : Tx) (item index : Nat) (before : List Byte) (set : SealedSet) : State :=
  let v := s.vault
  let q := s.quill.qsec
  let v := if item = 5 then v.push colTllRepair 0 0 q (index + set.repairs.getD index 0 * 2 ^ 32) else v
  let v := { v with counter := v.counter + 1 }
  let v := v.push colParam t.origin 0 q (paramPayload item index before (itemDigest (s.itemValues set item index)))
  let s := s.setVault (v.writeBackup v.counter set)
  if t.opcode = 0 then s else s.replyTx t.opcode stDone []

/-- The oldest open locked section commits, its backup written and read back; or the read-back fails, and it is discarded
(R819, R833, R836). -/
def State.commitTx (s : State) (ok : Bool) : State :=
  match s.vault.txs with
  | [] => s
  | t :: rest =>
    let s := State.unlock { s with vault := { s.vault with txs := rest } }
    if ok then
      match t.act with
      | .provision owner => s.commitProvision owner
      | .sealing => s.commitSeal
      | .param item index before set => s.commitParam t item index before set
    else if t.opcode = 0 then s
    else s.replyTx t.opcode (if t.act = .sealing then stBadParam else stTargetReset) []

/-! ### Lifecycle commands -/

/-- LC_PROVISION, command 0x501 (R817, R818, R824). -/
def execLcProvision (s : State) : Host.Outcome State Fault Refusal :=
  match s.start 0x501 with
  | none => .next s
  | some (p, s) =>
    if s.lifecycle ≠ 0 then .next (s.reply p stSealed [])
    else if s.anyActive then .next (s.reply p stBusy [])
    else if !s.vault.room (if s.vault.nextSeq = 0 then 2 else 1) || !s.vault.mayCount then .next (s.reply p stLogFull [])
    else .next ((s.addJob p 0 0).openTx (.provision (p.arg 0)) 0x501 0)

/-- Every injection slot is disarmed (R1054). -/
def State.disarmSlots (s : State) : State := (s.each (List.range 4) fun s i => s.set (DEBUG.INJ.CTL.EN i) 0).set DEBUG.STATUS.ARMED 0

/-- LC_SEAL, command 0x502 (R817, R819, R824, R1054). -/
def execLcSeal (s : State) : Host.Outcome State Fault Refusal :=
  match s.start 0x502 with
  | none => .next s
  | some (p, s) =>
    if !(s.lifecycle = 1 || s.lifecycle = 3) then .next (s.reply p stSealed [])
    else if s.anyActive then .next (s.reply p stBusy [])
    else if !s.flag (CAL.TPOINT.VALID 0) || !s.flag (CAL.TPOINT.VALID 1) then .next (s.reply p stBadParam [])
    else if !s.vault.room 2 || !s.vault.mayCount then .next (s.reply p stLogFull [])
    else .next ((s.disarmSlots.addJob p 0 0).openTx .sealing 0x502 0)

/-- What the owner signs (R822): nonce, serial number, counter, requested state. -/
def State.challenge (s : State) (nonce state : Nat) : List Byte :=
  leBytes 32 nonce ++ leBytes 8 s.serial ++ leBytes 4 s.vault.counter ++ leBytes 1 state

/-- Is a signed request accepted, and is it a signature that fails? The nonce is spent (R822, R823). -/
def State.judgeSigned (s : State) (p : Packet) (state : Nat) : Bool × State :=
  let key := keyBytes (p.arg 0) (p.arg 1)
  let spent := { s with vault := { s.vault with nonce := none } }
  let nonce := (s.vault.nonce.map (·.1)).getD 0
  let fresh := match s.vault.nonce with
    | some (_, at_) => decide (s.quill.qsec < at_ + 60)
    | none => false
  let signed := decide (leNat (Config.sha384 key) = s.vault.owner)
    && Config.ecdsaVerify (p.arg 0) (p.arg 1) (s.challenge nonce state) (p.arg 2) (p.arg 3)
  if !signed then (false, spent.setVault { spent.vault with authFails := min 3 (spent.vault.authFails + 1) })
  else (fresh, spent)

/-- The first 64 bits of the digest of the service public key (R827). -/
def serviceDigest (p : Packet) : Nat := digestNat 8 (Config.sha384 (keyBytes (p.arg 0) (p.arg 1)))

/-- LC_SERVICE, command 0x503 (R817, R822 to R824). -/
def execLcService (s : State) : Host.Outcome State Fault Refusal :=
  match s.start 0x503 with
  | none => .next s
  | some (p, s) =>
    if s.lifecycle ≠ 2 || s.vault.authFails = 3 then .next (s.reply p stSealed [])
    else
      let r := s.judgeSigned p 3
      let s := r.2
      if !r.1 then .next (s.reply p stBadParam [])
      else if !s.vault.room 1 || !s.vault.mayCount then .next (s.reply p stLogFull [])
      else
        let v := { s.vault.wipeSram with lc := 3, counter := s.vault.counter + 1 }
        .next ((s.setVault (v.push colService 0 0 s.quill.qsec (serviceDigest p))).reply p stDone [(32, v.counter)])

/-- LC_RETIRE, command 0x505 (R817, R822 to R824, R829): its entry may use the reserve. -/
def execLcRetire (s : State) : Host.Outcome State Fault Refusal :=
  match s.start 0x505 with
  | none => .next s
  | some (p, s) =>
    if s.lifecycle = 0 || s.lifecycle = 4 || s.vault.authFails = 3 then .next (s.reply p stSealed [])
    else
      let r := s.judgeSigned p 4
      let s := r.2
      if !r.1 then .next (s.reply p stBadParam [])
      else if !s.vault.reserveRoom || !s.vault.mayCount then .next (s.reply p stLogFull [])
      else
        let v := { s.vault.wipeSram.wipeKeys with lc := 4, counter := s.vault.counter + 1 }
        .next ((s.setVault (v.push colRetireLc 0 1 s.quill.qsec (serviceDigest p))).reply p stDone [(32, v.counter)])

/-- LC_CHALLENGE, command 0x504 (R822, R824). -/
def execLcChallenge (s : State) : Host.Outcome State Fault Refusal :=
  match s.start 0x504 with
  | none => .next s
  | some (p, s) =>
    if s.lifecycle = 0 || s.lifecycle = 4 then .next (s.reply p stSealed [])
    else
      let n := s.fresh
      let nonce := n.1 % 2 ^ 256
      let s := { n.2 with vault := { n.2.vault with nonce := some (nonce, n.2.quill.qsec) } }
      .next (s.reply p stDone [(256, nonce), (64, s.quill.qsec)])

/-! ### The Colophon's commands -/

/-- COL_READ, command 0x506 (R824, R879). -/
def execColRead (s : State) : Host.Outcome State Fault Refusal :=
  match s.start 0x506 with
  | none => .next s
  | some (p, s) =>
    let es := (s.vault.entries.filter fun e => decide (p.arg 0 ≤ e.seq)).take (p.arg 1)
    if p.arg 1 = 0 || 63 < p.arg 1 || p.arg 0 < s.vault.first || es.isEmpty then .next (s.reply p stBadParam [])
    else .next (s.reply p (if es.length < p.arg 1 then stDoneReduced else stDone)
      ((32, es.length) :: es.map fun e => (512, leNat e.bytes)))

/-- The entry of a tamper that was held (R817, R840): DEFERRED, from the reserve, with the event's Quill second. -/
def Vault.pushHeld (v : Vault) (h : HeldTamper) : Vault :=
  let v := if h.before = 4 then v else { v with counter := min (2 ^ 32 - 1) (v.counter + 1) }
  v.push colTamper 1 3 h.qsec (h.cause + h.before * 2 ^ 8)

/-- Held tampers are appended while the log has room (R829, R840). -/
def Vault.flushHeld (v : Vault) : Vault :=
  v.held.foldl (fun v h => if v.reserveRoom then { v.pushHeld h with held := v.held.drop 1 } else v) v

/-- COL_RELEASE, command 0x508 (R829, R830, R840, R879): held tampers are then appended. -/
def execColRelease (s : State) : Host.Outcome State Fault Refusal :=
  match s.start 0x508 with
  | none => .next s
  | some (p, s) =>
    let v := s.vault
    let n := p.arg 0
    match v.entries.find? (·.seq = n) with
    | none => .next (s.reply p stBadParam [])
    | some e =>
      if v.nextSeq ≤ n + 1 then .next (s.reply p stBadParam [])
      else if 2 ^ 32 ≤ v.nextSeq then .next (s.reply p stLogFull [])
      else
        let v := { v with entries := v.entries.filter (fun x => decide (n < x.seq)), first := n + 1 }
        let v := v.push colRelease 0 (b2n (decide (v.free < 17))) s.quill.qsec (n + leNat e.chain * 2 ^ 32)
        let s := s.setVault v.flushHeld
        .next (s.reply p stDone [(32, s.vault.first)])

/-- The map of the MET bits of every ball (R791, R838). -/
def State.metMap (s : State) : Nat := ((List.range 64).map fun g => s.get (ROT.CLASS.MET g) * 2 ^ (8 * g)).sum

/-- VERDICT, command 0x507 (R824, R838, R879): signed with the attestation key over the fields before the signature. -/
def execVerdict (s : State) : Host.Outcome State Fault Refusal :=
  match s.start 0x507 with
  | none => .next s
  | some (p, s) =>
    let v := s.vault
    if v.lc = 0 || v.lc = 4 then .next (s.reply p stSealed [])
    else
      let fields : List (Nat × Nat) := [(256, p.arg 0), (64, s.serial), (8, v.lc), (32, v.counter), (32, v.nextSeq - 1), (128, leNat v.chain),
        (64, s.quill.qsec), (8, s.get CAL.CTL.CLASS), (16, s.get CAL.STAT.BELOW), (512, s.metMap)]
      let sig := Config.ecdsaSign v.attKey (wordBytes (packFields fields))
      .next (s.reply p stDone (fields ++ [(384, sig.1), (384, sig.2)]))

end Sys2Proof.Machine
end

