-- ==== Sys2Proof/Machine/Lectern.lean ====
section
/-! DEFINITION. The rings and the device commands of Lectern (R851, R861 to R875, R883, R999 to R1001). -/

namespace Sys2Proof.Machine
open Reg

/-! ### Rings -/

/-- A host write of BAR4 or BAR0, served while the link is up; it is a HOST wake (R1003). -/
def State.hostIn (s : State) (f : State → State) : State := if s.host.linkUp then f (s.wake 4) else s

/-- The class of a ring pair (R863). -/
def ringClass (r : Nat) : Nat := r / 2

/-- A write of `RING[r].SQ_TAIL` (R865). -/
def State.sqTail (s : State) (r v : Nat) : State :=
  if v % 2 ^ 16 < 2 ^ s.get (RING.SIZE.SQ_LOG r) then s.set (RING.SQ_TAIL.TAIL r) v else s.set (RING.STAT.TAIL_ERR r) 1

/-- SQ_DOORBELL (R865, R866). -/
def execSqDoorbell (r : Ring) (v : Word) (s : State) : Host.Outcome State Fault Refusal :=
  .next (s.hostIn fun s => s.sqTail r v.toNat)

/-- Slots of a submission ring written and not yet read. -/
def State.sqReady (s : State) (r : Nat) : Nat :=
  let n := 2 ^ s.get (RING.SIZE.SQ_LOG r)
  (s.get (RING.SQ_TAIL.TAIL r) + n - s.get (RING.SQ_HEAD.HEAD r)) % n

/-- Bits of a command header (R866). -/
def hdr (h lo n : Nat) : Nat := h / 2 ^ lo % 2 ^ n

/-- The parameters that use fewer bits than their width: position and bits used, the rest being reserved (R866, R872): flags,
lane, core and output masks. -/
def cmdNarrow (op : Nat) : List (Nat × Nat) :=
  match op with
  | 0x004 | 0x605 => [(1, 1)]
  | 0x006 => [(0, 1)]
  | 0x201 | 0x405 => [(1, 9)]
  | 0x203 => [(1, 9), (3, 2), (4, 1)]
  | 0x204 => [(0, 4), (1, 1), (4, 1), (5, 1), (8, 1), (9, 1), (12, 1), (13, 1), (16, 1), (17, 1)]
  | 0x803 => [(1, 1)]
  | 0x804 => [(0, 1)]
  | _ => []

/-- Do fields of given widths fit the parameter words, every bit outside them 0? -/
def fieldsFit (ws : List Nat) (params : List Word) : Bool :=
  decide (wordsFor ws ≤ params.length) && wordsNat (packFields (ws.zip (unpackFields ws params))) = wordsNat params

/-- Do the parameter words hold the fields of the command, every reserved bit 0? The data of FLASH_PROGRAM follow its fields,
and ERR_ACK names as many sources as it counts (R866, R872, R880, R881). -/
def paramsFit (op : Nat) (params : List Word) : Bool :=
  match cmdParams op with
  | none => false
  | some (ws, _) =>
    let xs := unpackFields ws params
    let n := xs.getD 0 0
    (cmdNarrow op).all (fun e => decide (xs.getD e.1 0 < 2 ^ e.2))
      && if op = 0x605 then decide (wordsFor ws ≤ params.length)
        else if op = 0x701 then decide (n < 2 * params.length) && fieldsFit (List.replicate (n + 1) 16) params
        else fieldsFit ws params

/-- Is a command header valid? (R866, R872) -/
def headerOk (r h : Nat) (params : List Word) : Bool :=
  let op := hdr h 0 12
  let cls := hdr h 12 2
  let target := hdr h 64 32
  match cmdParams op with
  | none => false
  | some (_, targeted) =>
    cls = ringClass r && !(cls = 1 && hdr h 96 32 = 0) && hdr h 14 2 = 0 && hdr h 42 6 = 0 && hdr h 48 16 = 0
      && (if targeted then decide (target < 256) else target = 0) && paramsFit op params

/-- Does Lectern read submission rings? Not before start-up has ended, while halted, nor at rest (R998, R1044, R1084). -/
def State.lecReads (s : State) : Bool :=
  s.flag LEC.STAT.RUNNING && !s.flag LEC.STAT.HALTED && s.restDepth = 0

/-- COMMAND_READ (R866, R867, R870, R872): Lectern reads the command at HEAD, whose header and parameter slots are given; a
bad header is refused at once. -/
def execCommandRead (r : Ring) (header : BitVec 128) (params : List Word) (s : State) : Host.Outcome State Fault Refusal :=
  let h := header.toNat
  let n := 1 + hdr h 32 8
  if !s.lecReads || !s.flag (RING.CTL.EN r) || !s.host.linkUp || s.sqReady r < n || s.sqReady r = 0 then .next s
  else
    let size := 2 ^ s.get (RING.SIZE.SQ_LOG r)
    let head := s.get (RING.SQ_HEAD.HEAD r)
    let gen := s.get (RING.SQ_HEAD.GEN r)
    let ps := (List.range (4 * (n - 1))).map fun i => params.getD i 0
    let p : Packet := { ring := r, opcode := hdr h 0 12, cls := ringClass r, tag := hdr h 16 16, fence := h.testBit 40, noirq := h.testBit 41
                        target := hdr h 64 32, deadline := hdr h 96 32, gen := gen, readAt := s.tick, params := ps }
    let s := (s.set (RING.SQ_HEAD.HEAD r) ((head + n) % size)).set (RING.SQ_HEAD.GEN r) (gen + b2n (decide (size ≤ head + n)))
    let s := s.set (RING.STAT.OUTSTANDING r) (s.get (RING.STAT.OUTSTANDING r) + 1)
    if headerOk r h ps then .next { s with lec := { s.lec with waiting := s.lec.waiting ++ [p] } }
    else .next (s.reply p stBadParam [])

/-- COMMAND_STALE (R872): the oldest waiting command whose DEADLINE has passed is refused. -/
def execCommandStale (s : State) : Host.Outcome State Fault Refusal :=
  match s.lec.waiting.find? s.overdue with
  | some p => .next (State.reply { s with lec := { s.lec with waiting := dropFirst (fun q => decide (q = p)) s.lec.waiting } } p stStale [])
  | none => .next s

/-! ### Replies (R867, R868, R883) -/

/-- The slots of a reply's results. -/
def Reply.slots (x : Reply) : Nat := (x.result.length + 3) / 4

/-- The header of a reply (R867). -/
def State.replyHeader (s : State) (x : Reply) : Nat :=
  x.status + x.tag * 2 ^ 16 + x.gen * 2 ^ 32 + x.slots * 2 ^ 40 + s.get (RING.CQ_TAIL.PHASE x.ring) * 2 ^ 48 + x.ring * 2 ^ 49
    + x.opcode * 2 ^ 52 + x.wait * 2 ^ 64 + x.delay * 2 ^ 96 + s.get (RING.SQ_HEAD.HEAD x.ring) * 2 ^ 112

/-- The host address of a slot of a completion ring. -/
def State.cqSlot (s : State) (r i : Nat) : Nat :=
  s.get64 (RING.CQ_BASE_LO.reg r) (RING.CQ_BASE_HI.reg r) + 16 * (i % s.cqSize r)

/-- The vector of a ring is signalled (R862, R883). -/
def State.ringSignal (s : State) (r : Nat) : State :=
  State.signal { s with lec := { s.lec with coal := s.lec.coal.erase r, coalAt := s.lec.coalAt.erase r } } (2 + r)

/-- A reply counts for the interrupt of its ring (R862, R883). -/
def State.coalesce (s : State) (x : Reply) : State :=
  if x.noirq then s
  else
    let n := Tab.get (fun _ => 0) s.lec.coal x.ring + 1
    let at_ := if n = 1 then s.tick else Tab.get (fun _ => 0) s.lec.coalAt x.ring
    let s := { s with lec := { s.lec with coal := Tab.put (fun _ => 0) s.lec.coal x.ring n, coalAt := Tab.put (fun _ => 0) s.lec.coalAt x.ring at_ } }
    if max 1 (s.get (RING.CTL.COAL_CNT x.ring)) ≤ n then s.ringSignal x.ring else s

/-- A command of a ring has been replied to (R862). -/
def State.replied (s : State) (r : Nat) : State := s.set (RING.STAT.OUTSTANDING r) (s.get (RING.STAT.OUTSTANDING r) - 1)

/-- Depths of REST and their latencies in µs (R998). -/
def restLatency (d : Nat) : Nat :=
  match d with
  | 1 => 40
  | 2 => 3000
  | 3 => 450000
  | _ => 0

/-- Entry to the depth that a REST reply names begins once it is written (R1001). -/
def State.beginRest (s : State) (x : Reply) : State :=
  let d := (x.result.headD 0).toNat % 256
  if x.opcode ≠ 0x004 || x.status ≠ stDone || d = 0 || s.downOrDormant then s
  else if d = 3 then s.orderDown .rest false
  else { s with quill := { s.quill with entering := some d } }

/-- A reply is written, its header XORed with a pattern (R867, R868, R1050): results first, then the header. -/
def State.putReply (s : State) (x : Reply) (flip : Nat) : State :=
  let r := x.ring
  let t := s.get (RING.CQ_TAIL.TAIL r)
  let header := s.replyHeader x ^^^ flip
  let words := x.result ++ List.replicate (4 * x.slots - x.result.length) 0
  let s := s.each (List.range x.slots) fun s i => s.toHost (s.cqSlot r (t + 1 + i)) (wordBytes ((words.drop (4 * i)).take 4))
  let s := s.toHost (s.cqSlot r t) (leBytes 16 header)
  let t' := t + 1 + x.slots
  let s := if s.cqSize r ≤ t' then s.set (RING.CQ_TAIL.PHASE r) (1 - s.get (RING.CQ_TAIL.PHASE r)) else s
  (((s.set (RING.CQ_TAIL.TAIL r) (t' % s.cqSize r)).replied r).coalesce x).beginRest x

/-- Has the completion ring of a reply room for it, with the link up? (R868) -/
def State.cqRoom (s : State) (x : Reply) : Bool := s.host.linkUp && decide (1 + x.slots ≤ s.cqFree x.ring)

/-- The replies of a ring that REORDER holds are written after the next one, while there is room (R1050). -/
def State.putHeld (s : State) (r : Nat) : State :=
  s.each (s.dbg.heldReplies.filter (·.ring = r)) fun s x =>
    if s.cqRoom x then State.putReply { s with dbg := { s.dbg with heldReplies := dropFirst (fun y => decide (y = x)) s.dbg.heldReplies } } x 0 else s

/-- The bit of a header that CORRUPT inverts: any but PHASE (R1050). -/
def corruptBit (n : Nat) : Nat := let b := n % 127; 2 ^ (if b < 48 then b else b + 1)

/-- REPLY_WRITE (R868, R1050, R1052): the oldest reply in line for a ring, unless its instance is no longer current. -/
def execReplyWrite (r : Ring) (s : State) : Host.Outcome State Fault Refusal :=
  match s.lec.replies.find? (·.ring = r.val) with
  | none => .next s
  | some x =>
    let gone := { s with lec := { s.lec with replies := dropFirst (fun y => decide (y = x)) s.lec.replies } }
    if x.lecGen ≠ s.get LEC.STAT.GEN then .next ((gone.replied r).bump LEC.STALE.COUNT 1)
    else if !s.cqRoom x then .next s
    else
      let k := gone.strike 0x90
      let s := k.2
      match k.1 with
      | 1 => .next (s.replied r)
      | 2 =>
        let f := s.fresh
        .next ((f.2.putReply x (corruptBit f.1)).putHeld r)
      | 3 => .next { s with dbg := { s.dbg with heldReplies := s.dbg.heldReplies ++ [{ x with heldAt := s.tick }] } }
      | _ => .next ((s.putReply x 0).putHeld r)

/-- REPLY_COALESCE_TIMER (R862): COAL_US have passed since the first reply not signalled. -/
def execReplyCoalesceTimer (r : Ring) (s : State) : Host.Outcome State Fault Refusal :=
  let us := s.get (RING.CTL.COAL_US r)
  if us ≠ 0 && Tab.get (fun _ => 0) s.lec.coal r ≠ 0 && Tab.get (fun _ => 0) s.lec.coalAt r + usTicks us ≤ s.tick then .next (s.ringSignal r)
  else .next s

/-- A write of `RING[r].CQ_HEAD` (R865): a ring that holds no reply awaits no interrupt (R883). -/
def State.cqHead (s : State) (r v : Nat) : State :=
  if v % 2 ^ 16 < s.cqSize r then
    let s := s.set (RING.CQ_HEAD.HEAD r) v
    if s.get (RING.CQ_HEAD.HEAD r) = s.get (RING.CQ_TAIL.TAIL r) then
      { s with lec := { s.lec with coal := s.lec.coal.erase r, coalAt := s.lec.coalAt.erase r } }
    else s
  else s.set (RING.STAT.HEAD_ERR r) 1

/-- CQ_HEAD_WRITE (R865). -/
def execCqHeadWrite (r : Ring) (v : Word) (s : State) : Host.Outcome State Fault Refusal := .next (s.hostIn fun s => s.cqHead r v.toNat)

/-- A write of `RING[r].CTL` (R864). -/
def State.ringCtl (s : State) (r v : Nat) : State :=
  let s := if v.testBit 31 && !s.flag (RING.CTL.EN r) then
      let s := ((s.wr (RING.SQ_TAIL.reg r) 0).wr (RING.SQ_HEAD.reg r) 0).wr (RING.CQ_HEAD.reg r) 0
      (s.set (RING.CQ_TAIL.TAIL r) 0).set (RING.CQ_TAIL.PHASE r) 1
    else s
  ((s.setB (RING.CTL.EN r) (v.testBit 31)).set (RING.CTL.COAL_CNT r) (v / 2 ^ 16)).set (RING.CTL.COAL_US r) v

/-- RING_CTL_WRITE (R864). -/
def execRingCtlWrite (r : Ring) (v : Word) (s : State) : Host.Outcome State Fault Refusal := .next (s.hostIn fun s => s.ringCtl r v.toNat)

/-- A write of a base or size register of a ring (R862, R864). -/
def State.ringConfig (s : State) (r a v : Nat) : State :=
  let sizeBad := a = RING.SIZE.reg r && (v / 2 ^ 16 % 32 < 8 || 16 < v / 2 ^ 16 % 32 || v % 32 < 4 || 16 < v % 32)
  if s.flag (RING.CTL.EN r) || s.get (RING.STAT.OUTSTANDING r) ≠ 0 || sizeBad then s.set (RING.STAT.CFG_ERR r) 1
  else if a = RING.SIZE.reg r then (s.set (RING.SIZE.CQ_LOG r) (v / 2 ^ 16)).set (RING.SIZE.SQ_LOG r) v
  else s.wr a (BitVec.ofNat 32 v)

/-! ### Resets of Lectern and of the host link -/

/-- Lectern restarts (R868, R872, R874, R886): its channels are reset, and every command in progress but one completes with
TARGET_RESET. -/
def State.lecRestart (s : State) (keep : Packet → Bool) : State :=
  let s := s.acceptReset 0xC9
  let s := s.set LEC.STAT.GEN (s.get LEC.STAT.GEN + 1)
  let s := s.each ((List.range 32).filter s.lecHolds) fun s c => s.resetChannelBlock c false
  (s.resetJobs fun j => !keep j.packet).endReset 0xC9

/-- LEC_RESTART, command 0x006 (R874): the reply comes from the new instance. -/
def execLecRestart (s : State) : Host.Outcome State Fault Refusal :=
  match s.start 0x006 with
  | none => .next s
  | some (p, s) =>
    if s.lecLocked then .next (s.reply p stBusy [])
    else if 2 ≤ p.arg 0 then .next (s.reply p stBadParam [])
    else
      let s := s.lecRestart fun _ => false
      .next (s.reply p stDone [(8, s.get LEC.STAT.GEN)])

/-- Does a channel's program or MOVE use host memory? (R911) -/
def State.usesHost (s : State) (c : Nat) : Bool :=
  let x := s.chan c
  s.chState c ≠ cpIdle && ((s.get (CH.CTL.PSPACE c) = spHost && !s.lecHolds c) || (x.op = cpMove && !x.desc.isEmpty && (x.sspace = spHost || x.dspace = spHost)))

/-- The rings, their replies, and replies held for a debugger are forgotten. -/
def State.clearRings (s : State) : State :=
  { s with lec := { s.lec with waiting := [], replies := [], coal := [], coalAt := [] }, dbg := { s.dbg with heldReplies := [] } }

/-- MSI-X and the image window are forgotten. -/
def State.clearPort (s : State) : State :=
  { s with host := { s.host with msixSent := [], msixPba := [], msixUnmask := [], held := [], image := [], window := [] } }

/-- FUNCTION_LEVEL_RESET (R851, R911, R971). -/
def execFunctionLevelReset (s : State) : Host.Outcome State Fault Refusal :=
  if !s.mainOn then .next s
  else
    let s := s.acceptReset 0xCA
    let s := (s.setJobs []).clearRings
    let s := s.each ((List.range 32).filter s.usesHost) fun s c => s.resetChannel c false
    let s := (s.resetRegs fun a => decide (bar4Base ≤ a)).clearPort
    let s := (s.setB IMG.STAT.WAITING s.host.awaitImage).set LEC.STAT.GEN (s.get LEC.STAT.GEN + 1)
    .next (s.endReset 0xCA)

/-- PCIE_POWER_STATE (R850): messages held in D3hot are sent on the return to D0. -/
def execPciePowerState (d3hot : Bool) (s : State) : Host.Outcome State Fault Refusal :=
  let held := s.host.held
  if d3hot then .next { s with host := { s.host with d3hot := true } }
  else .next (State.each { s with host := { s.host with d3hot := false, held := [] } } held State.signal)

/-! ### Device commands (R874) -/

/-- DEV_IDENT, command 0x001. -/
def execDevIdent (s : State) : Host.Outcome State Fault Refusal :=
  match s.start 0x001 with
  | none => .next s
  | some (p, s) =>
    .next (s.reply p stDone [(64, s.serial), (16, s.get DEV.ID.PART), (8, s.get DEV.ID.REV), (8, s.lifecycle), (32, s.vault.fwVersion),
      (8, s.get VAULT.FW.SVN), (8, s.get DEV.LINK.SPEED), (8, s.get DEV.LINK.WIDTH)])

/-- The request of a SECTOR_MODE command to one sector (R62, R874). -/
def State.modeCommand (s : State) (k req : Nat) : State :=
  let busy := s.flag (SMODE.CTL.BUSY k)
  let s := s.modeRequest k req
  if busy && s.flag (SMODE.CTL.PENDING k) then
    match s.findJob fun j => j.packet.opcode = 0x003 && j.mask.testBit k with
    | some j => s.updateJob j { j with aux := j.aux ||| 2 ^ k }
    | none => s
  else s

/-- SECTOR_MODE, command 0x003 (R874): it replies when every named sector's transition has ended. -/
def execSectorMode (s : State) : Host.Outcome State Fault Refusal :=
  match s.start 0x003 with
  | none => .next s
  | some (p, s) =>
    let mask := p.target % 256
    if 8 ≤ p.arg 0 then .next (s.reply p stBadParam [])
    else if mask = 0 then
      .next (s.reply p stDone (((List.range 8).map fun i => (8, s.modeOf i)) ++ (List.range 8).map fun i => (8, s.get (SMODE.CTL.REFUSE_CAUSE i))))
    else .next ((s.addJob p mask 0).each (bitsOf 8 mask) fun s k => s.modeCommand k (p.arg 0))

/-- The deepest depth that a REST may choose (R54, R999). -/
def State.restChoice (s : State) (t : Nat) (lose : Bool) : Nat :=
  let unknown := decide (t = 2 ^ 64 - 1)
  let working := (List.range 8).any fun k => mSetup ≤ s.modeOf k || mSetup ≤ s.get (SMODE.CTL.MODE_TGT k)
  let most := min (s.get QL.REST.MAX_DEPTH) (if working then 1 else 3)
  if lose && 3 ≤ most && (unknown || 10450000 ≤ t) then 3
  else if 2 ≤ most && 23000 ≤ t then 2
  else if 1 ≤ most && 240 ≤ t then 1
  else 0

/-- REST, command 0x004 (R874, R999 to R1001): the timer is armed at the acceptance, and entry begins once the reply is
written. -/
def execRest (s : State) : Host.Outcome State Fault Refusal :=
  match s.start 0x004 with
  | none => .next s
  | some (p, s) =>
    let t := p.arg 0
    if 2 ≤ p.arg 1 then .next (s.reply p stBadParam [])
    else
      let d := s.restChoice t (p.arg 1 = 1)
      if d = 0 then .next (s.reply p stDone [(8, 0), (32, 0)])
      else
        let s := (s.set QL.REST.LAST d).event 0x05 0 d (min (2 ^ 32 - 1) (t / 1000)) false
        let s := if t = 2 ^ 64 - 1 then s
          else State.set { s with quill := { s.quill with wakeAt := some (s.quill.qtick + (t - restLatency d) / 100) } } QL.WAKE.ARMED 1
        .next (s.reply p stDone [(8, d), (32, restLatency d)])

/-- The reset domain that a BLOCK_RESET names (R874, R971). -/
def blockDomain (kind index : Nat) : Option Nat :=
  match kind with
  | 0 => if index < 32 then some (0x20 + index) else if index = 0xFF then some 0xC8 else none
  | 1 => if index < 8 then some (0x10 + index) else none
  | 2 => if index < 8 then some (0x18 + index) else none
  | 3 => if index < 64 then some (0x40 + index) else none
  | 4 => if index < 64 then some (0x80 + index) else none
  | 5 => if index < 8 then some (0xC0 + index) else none
  | _ => none

/-- The sector of the block that a BLOCK_RESET names, if it lies in one. -/
def blockSector (kind index : Nat) : Option Nat :=
  match kind with
  | 1 | 2 | 5 => some index
  | 3 | 4 => some (index / 8)
  | _ => none

/-- BLOCK_RESET, command 0x005 (R874, R972): the reset is announced, and waits for Errata. -/
def execBlockReset (s : State) : Host.Outcome State Fault Refusal :=
  match s.start 0x005 with
  | none => .next s
  | some (p, s) =>
    match blockDomain (p.arg 0) (p.arg 1) with
    | none => .next (s.reply p stBadParam [])
    | some d =>
      if (blockSector (p.arg 0) (p.arg 1)).any fun k => s.modeOf k = mRun then .next (s.reply p stBusy [])
      else .next ((s.addJob p 0 d).announce d)

/-- TEMP_READ, command 0x007 (R874). -/
def execTempRead (s : State) : Host.Outcome State Fault Refusal :=
  match s.start 0x007 with
  | none => .next s
  | some (p, s) =>
    .next (s.reply p stDone (((List.range 8).map fun k => (16, s.get (CAL.TEMP.TEMP k))) ++ (List.range 2).map fun w => (8, s.get (PSC.LINK.TEMP w))))

/-- PAT_LOAD, command 0x105 (R252, R875): it waits for the sector's bulk channel, and counts the wait. -/
def execPatLoad (s : State) : Host.Outcome State Fault Refusal :=
  match s.start 0x105 with
  | none => .next s
  | some (p, s) =>
    let k := p.arg 0
    let first := p.arg 1
    let n := p.arg 2
    if k < 8 && s.modeOf k = mRun then .next (s.reply p stBusy [])
    else if 8 ≤ k || s.lineLimit k < first + n then .next (s.reply p stBadParam [])
    else if p.arg 3 % 64 ≠ 0 || first % 8 ≠ 0 || n % 8 ≠ 0 then .next (s.reply p stMisaligned [])
    else if n = 0 then .next (s.reply p stDone [(32, 0)])
    else
      let s := s.addJob p 0 0
      let s := if s.chState (24 + k) = cpIdle then s
        else match s.loadJob k with
          | some j => s.updateJob j { j with delay := 1 }
          | none => s
      .next (s.lecTake (24 + k))

end Sys2Proof.Machine
end

