-- ==== Sys2Proof/Machine/Flash.lean ====
section
/-! DEFINITION. The flash, the fuses and the repair of HBM3 rows (R286 to R289, R833, R880). -/

namespace Sys2Proof.Machine
open Reg

/-- An erased byte of the flash. -/
def flashDefault : Nat → Byte := fun _ => 0xFF

/-- A byte of the flash. -/
def State.flashRd (s : State) (a : Nat) : Byte := Tab.get flashDefault s.nvm.flash a

/-- Bytes written to the flash from an offset upward. -/
def State.flashPuts (s : State) (off : Nat) (bs : List Byte) : State :=
  { s with nvm := { s.nvm with flash := (bs.zipIdx).foldl (fun t e => Tab.put flashDefault t (off + e.2) e.1) s.nvm.flash } }

/-- Do two ranges meet? -/
def meet (a n lo hi : Nat) : Bool := decide (a < hi) && decide (lo < a + n)

/-- Does a range touch a calibration backup? (R880) -/
def inBackup (off n : Nat) : Bool := meet off n 0x10000 0x210000

/-- Does a range touch the image slot booted? (R880) -/
def State.inBooted (s : State) (off n : Nat) : Bool :=
  match s.nvm.slotBooted with
  | some 0 => meet off n 0x1000000 0x2000000
  | some _ => meet off n 0x2000000 0x3000000
  | none => false

/-- FLASH_INFO, command 0x601. -/
def execFlashInfo (s : State) : Host.Outcome State Fault Refusal :=
  match s.start 0x601 with
  | none => .next s
  | some (p, s) =>
    .next (s.reply p stDone ((32, Config.flashJedec) :: (32, s.nvm.flashSize) :: (List.range 4).map fun i => (32, Config.flashErase i)))

/-- FLASH_READ, command 0x602; the bytes of the encrypted backups are free. -/
def execFlashRead (s : State) : Host.Outcome State Fault Refusal :=
  match s.start 0x602 with
  | none => .next s
  | some (p, s) =>
    let off := p.arg 0
    let n := p.arg 1
    if n = 0 || 4064 < n || s.nvm.flashSize < off + n then .next (s.reply p stBadParam [])
    else
      let f := s.fresh
      let byte (i : Nat) : Byte := if inBackup (off + i) 1 then BitVec.ofNat 8 (f.1 / 256 ^ i) else f.2.flashRd (off + i)
      .next (f.2.reply p stDone ((List.range n).map fun i => (8, (byte i).toNat)))

/-- A flash operation begins; its command waits (R870). -/
def State.flashBegin (s : State) (p : Packet) (op : FlashOp) : State :=
  let s := s.addJob p 0 0
  { s with nvm := { s.nvm with op := s.nvm.op ++ [op] } }

/-- FLASH_ERASE, command 0x603. -/
def execFlashErase (s : State) : Host.Outcome State Fault Refusal :=
  match s.start 0x603 with
  | none => .next s
  | some (p, s) =>
    let off := p.arg 0
    let n := p.arg 1
    if inBackup off n then .next (s.reply p stSealed [])
    else if s.inBooted off n then .next (s.reply p stBusy [])
    else if s.nvm.flashSize < off + n then .next (s.reply p stBadParam [])
    else if off % 4096 ≠ 0 || n % 4096 ≠ 0 then .next (s.reply p stMisaligned [])
    else .next (s.flashBegin p (.erase off n))

/-- FLASH_PROGRAM, command 0x605: the target is read back first. Its data are the parameter words after the first two. -/
def execFlashProgram (s : State) : Host.Outcome State Fault Refusal :=
  match s.start 0x605 with
  | none => .next s
  | some (p, s) =>
    let off := p.arg 0
    let data := wordBytes (p.params.drop 2)
    let n := data.length
    let bad (e : Byte × Nat) : Bool :=
      let old := s.flashRd (off + e.2)
      if p.arg 1 = 1 then decide (e.1 &&& ~~~old ≠ 0) else decide (old ≠ 0xFF)
    if inBackup off n then .next (s.reply p stSealed [])
    else if s.inBooted off n then .next (s.reply p stBusy [])
    else if s.nvm.flashSize < off + n || 2 ≤ p.arg 1 then .next (s.reply p stBadParam [])
    else if data.zipIdx.any bad then .next (s.reply p stNotErased [])
    else .next (s.flashBegin p (.program off data))

/-- The oldest command of an opcode gets its reply. -/
def State.flashReply (s : State) (opcode status : Nat) (fields : List (Nat × Nat)) : State :=
  match s.findJob (·.packet.opcode = opcode) with
  | some j => s.endJob j status fields
  | none => s

/-- FLASH_OPERATION_DONE (R833, R836, R880): the oldest operation finishes; `bad` are the bytes of it whose read-back does not
verify, counted from its first. What such a byte holds is free. -/
def execFlashOperationDone (bad : List Nat) (s : State) : Host.Outcome State Fault Refusal :=
  match s.nvm.op with
  | [] => .next s
  | o :: rest =>
    let s := { s with nvm := { s.nvm with op := rest } }
    match o with
    | .backup => .next (s.commitTx bad.isEmpty).haltDue
    | .erase off n =>
      let s := { s with nvm := { s.nvm with flash := s.nvm.flash.filter fun e => !(decide (off ≤ e.1) && decide (e.1 < off + n)) } }
      .next (s.flashReply 0x603 stDone [])
    | .program off data =>
      let f := s.fresh
      let bs := data.zipIdx.map fun e => if bad.contains e.2 then BitVec.ofNat 8 (f.1 / 256 ^ e.2) else e.1 &&& f.2.flashRd (off + e.2)
      let lost := ((List.range data.length).filter bad.contains).length
      .next ((f.2.flashPuts off bs).flashReply 0x605 (if lost = 0 then stDone else stDoneReduced) [(32, data.length - lost)])

/-- FUSE_PROGRAM, command 0x606. -/
def execFuseProgram (s : State) : Host.Outcome State Fault Refusal :=
  match s.start 0x606 with
  | none => .next s
  | some (p, s) =>
    let w := p.arg 0
    let old := Tab.get (fun _ => 0) s.nvm.fuses w
    if !(s.lifecycle = 0 || s.lifecycle = 3) then .next (s.reply p stSealed [])
    else if old &&& p.arg 1 ≠ old then .next (s.reply p stBadParam [])
    else .next (State.reply { s with nvm := { s.nvm with fuses := Tab.put (fun _ => 0) s.nvm.fuses w (p.arg 1) } } p stDone [(32, p.arg 1)])

/-- HBM_PPR, command 0x604 (R289, R827): a hard repair of a row. Whether its bank was the one with the fewest rows left is
free. -/
def execHbmPpr (s : State) : Host.Outcome State Fault Refusal :=
  match s.start 0x604 with
  | none => .next s
  | some (p, s) =>
    let w := p.arg 0
    let row := Config.hbmRowAt (p.arg 1) (p.arg 2) (p.arg 3)
    if s.lifecycle ≠ 3 then .next (s.reply p stSealed [])
    else if w < 2 && (sectorsOf w).any (fun k => !(s.modeOf k = mStandby || s.modeOf k = mOff)) then .next (s.reply p stBusy [])
    else if 2 ≤ w || 32 ≤ p.arg 1 then .next (s.reply p stBadParam [])
    else if !s.vault.room 1 then .next (s.reply p stLogFull [])
    else
      let without (t : Tab (List Nat)) : Tab (List Nat) := Tab.put (fun _ => []) t w ((Tab.get (fun _ => []) t w).filter (· ≠ row))
      let s := s.wear fun g => { g with
        rowCand := without g.rowCand, rowSoft := without g.rowSoft
        rowHard := Tab.put (fun _ => []) g.rowHard w (Tab.get (fun _ => []) g.rowHard w ++ [row]) }
      let f := s.fresh
      let s := f.2
      let s := (s.set (PSC.STAT.PPR_DONE w) 1).set (PSC.STAT.HPPR_LEFT w) (s.get (PSC.STAT.HPPR_LEFT w) - f.1 % 2)
      let s := (s.set (PSC.STAT.CAND w) (Tab.get (fun _ => []) s.vault.ledger.rowCand w).length).set (PSC.STAT.SPPR w)
        (min 255 (Tab.get (fun _ => []) s.vault.ledger.rowSoft w).length)
      .next ((s.append colHbmPpr 0 (w + row * 2 ^ 32)).reply p stDone [])

/-- PPR_SOFT_REPAIR (R287): the first candidate row of a wing that is idle is repaired; its uncorrectable words are written
back poisoned. -/
def execPprSoftRepair (w : Wing) (s : State) : Host.Outcome State Fault Refusal :=
  match Tab.get (fun _ => []) s.vault.ledger.rowCand w with
  | [] => .next s
  | row :: rest =>
    if (sectorsOf w).any s.active3 || (List.range 32).any (s.usesStack · w) || !s.flag (PSC.LINK.TRAINED w) then .next s
    else
      let inRow (word : Nat) : Bool :=
        match regionOf (word * 32) with
        | .stack v a => v = w.val && Config.hbmRow a = row
        | _ => false
      let s := { s with mem := { s.mem with
        poison := (s.mem.bad.filter inRow).foldl (fun l x => insertNew x l) s.mem.poison, bad := s.mem.bad.filter fun x => !inRow x } }
      let soft := Tab.get (fun _ => []) s.vault.ledger.rowSoft w
      let soft := if soft.contains row then soft else soft ++ [row]
      let s := s.wear fun g => { g with rowCand := Tab.put (fun _ => []) g.rowCand w rest, rowSoft := Tab.put (fun _ => []) g.rowSoft w soft }
      .next (((s.set (PSC.STAT.PPR_DONE w) 1).set (PSC.STAT.SPPR w) (min 255 soft.length)).set (PSC.STAT.CAND w) rest.length)

end Sys2Proof.Machine
end

