-- ==== Sys2Proof/Machine/Debug.lean ====
section
/-! DEFINITION. The test access port, the halting of Lectern and the injection slots (R1029 to R1057). -/

namespace Sys2Proof.Machine
open Reg

/-! ### Test access port (R1029 to R1035) -/

/-- TAP instructions (R1030). -/
def tiIdcode : Nat := 0x01
def tiPreload : Nat := 0x02
def tiExtest : Nat := 0x03
def tiClamp : Nat := 0x04
def tiHighz : Nat := 0x05
def tiDap : Nat := 0x10
def tiBypass : Nat := 0xFF

/-- Is `VIO` good, so that the TAP works? (R1029) -/
def State.tapOn (s : State) : Bool := s.quill.en.testBit 0 && s.quill.pg.testBit 0

/-- TAP_RESET (R1029, R1034): IDCODE is selected, and every update cell is 0. -/
def execTapReset (s : State) : Host.Outcome State Fault Refusal :=
  .next { s with dbg := { s.dbg with tapInstr := tiIdcode, cells := [] } }

/-- TAP_INSTRUCTION_UPDATE (R1030, R1034): EXTEST, CLAMP and HIGHZ place every sector not in OFF in SAFE with cause 4. -/
def execTapInstructionUpdate (code : BitVec 8) (s : State) : Host.Outcome State Fault Refusal :=
  if !s.tapOn then .next s
  else
    let c := code.toNat
    let i := if c = tiIdcode || c = tiPreload || c = tiExtest || c = tiClamp || c = tiHighz || c = tiDap then c else tiBypass
    let s := { s with dbg := { s.dbg with tapInstr := i } }
    .next (if 3 ≤ i && i ≤ 5 then s.safeMask 0xFF 4 else s)

/-- BOUNDARY_SCAN_UPDATE (R1030, R1032): the update cells take the values shifted in, under EXTEST or SAMPLE/PRELOAD. -/
def execBoundaryScanUpdate (cells : BitVec 77) (s : State) : Host.Outcome State Fault Refusal :=
  if s.tapOn && (s.dbg.tapInstr = tiExtest || s.dbg.tapInstr = tiPreload) then
    let put (t : Tab Nat) (i : Nat) : Tab Nat := Tab.put (fun _ => 0) t i (b2n (cells.toNat.testBit i))
    .next { s with dbg := { s.dbg with cells := (List.range 77).foldl put [] } }
  else .next s

/-- What the boundary register drives onto the ball of an output cell and its enable cell: nothing unless EXTEST or CLAMP is
current and the enable cell is 1 (R1032, R1034). -/
def State.scanDrives (s : State) (out en : Nat) : Option Bool :=
  let cell (i : Nat) : Bool := decide (Tab.get (fun _ => 0) s.dbg.cells i = 1)
  if (s.dbg.tapInstr = tiExtest || s.dbg.tapInstr = tiClamp) && cell en then some (cell out) else none

/-- Does boundary scan hold the covered balls? (R1034) -/
def State.scanHolds (s : State) : Bool := 3 ≤ s.dbg.tapInstr && s.dbg.tapInstr ≤ 5

/-- The level that the device drives onto `EVT_IO_n` (R338, R1032). -/
def State.evtIoBall (s : State) (n : Nat) : Option Bool :=
  if s.scanHolds then s.scanDrives (3 * n + 1) (3 * n + 2)
  else if s.flag (EVTIO.CTL.DIR n) && s.mainOn then some (s.ev.driven.testBit n) else none

/-- The identification register (R1031). -/
def State.idcode (s : State) : Nat := s.get DEV.ID.REV % 16 * 2 ^ 28 + 0x5128 * 2 ^ 12 + 0x4D7 * 2 + 1

/-! ### Halting Lectern (R1041 to R1047) -/

/-- Does the lifecycle gate debug writes and Lectern control? (R1041) -/
def State.dbgGated (s : State) : Bool := s.lifecycle = 2 || s.lifecycle = 4

/-- The outcome of a DAP request: STATUS 0 done, 2 refused (R1036). -/
def State.dapOutcome (s : State) (dap : Bool) (status : Nat) : State :=
  if dap then { s with dbg := { s.dbg with dapStatus := status } } else s

/-- A Lectern control request: gated by the lifecycle, ignored while a halt is deferred (R1041, R1047). -/
def State.lecControl (s : State) (dap : Bool) (f : State → State) : State :=
  if s.dbgGated then (s.set DEBUG.STATUS.DAP_REFUSED 1).dapOutcome dap 2
  else if s.flag DEBUG.STATUS.DEFERRED then s.dapOutcome dap 0
  else f s

/-- HALT (R1043). -/
def State.halt (s : State) (dap : Bool) : State :=
  s.lecControl dap fun s =>
    let s := s.dapOutcome dap 0
    if s.flag LEC.STAT.HALTED then s
    else if s.lecLocked then (State.set { s with dbg := { s.dbg with haltAt := s.tick } } DEBUG.STATUS.DEFERRED 1)
    else s.haltNow

/-- RESUME (R1045): a command whose section was discarded completes with TARGET_RESET. -/
def State.resume (s : State) (dap : Bool) : State :=
  s.lecControl dap fun s =>
    let s := ((s.dapOutcome dap 0).set LEC.STAT.HALTED 0).set DEBUG.STATUS.HALTED 0
    let ops := s.lec.broken
    State.each { s with lec := { s.lec with broken := [] } } ops fun s op =>
      match s.findJob (·.packet.opcode = op) with
      | some j => s.endJob j stTargetReset []
      | none => s

/-- RESTART (R1046): refused while a locked section is in progress. -/
def State.debugRestart (s : State) (dap : Bool) : State :=
  s.lecControl dap fun s =>
    if s.lecLocked then s.dapOutcome dap 2
    else
      let s := ((s.lecRestart fun _ => false).set LEC.STAT.HALTED 0).set DEBUG.STATUS.HALTED 0
      { s with lec := { s.lec with broken := [] } }.dapOutcome dap 0

/-- LEC_HALT (R1041 to R1043): by the DAP or by a write of `DEBUG.LEC_CTL`. -/
def execLecHalt (dap : Bool) (s : State) : Host.Outcome State Fault Refusal := if s.mainOn then .next (s.halt dap) else .next s

/-- LEC_RESUME (R1045). -/
def execLecResume (dap : Bool) (s : State) : Host.Outcome State Fault Refusal := if s.mainOn then .next (s.resume dap) else .next s

/-- LEC_DEBUG_RESTART (R1046). -/
def execLecDebugRestart (dap : Bool) (s : State) : Host.Outcome State Fault Refusal :=
  if s.mainOn then .next (s.debugRestart dap) else .next s

/-- Three request bits: HALT, RESUME and RESTART; more than one is refused (R1042). -/
def State.lecRequest (s : State) (v : Nat) (dap : Bool) : State :=
  match v % 8 with
  | 0 => s.dapOutcome dap 0
  | 1 => s.halt dap
  | 2 => s.resume dap
  | 4 => s.debugRestart dap
  | _ => if s.dbgGated then (s.set DEBUG.STATUS.DAP_REFUSED 1).dapOutcome dap 2 else s.dapOutcome dap 2

/-- The handovers that a broken section withdraws (R1043). -/
def State.withdrawHandovers (s : State) : State :=
  s.each (List.range 8) fun s k => s.each ((List.range 16).filter (s.lecHandover k)) fun s b =>
    let s := { s with mem := { s.mem with next := s.mem.next.erase (16 * k + b) } }
    (s.set (SS.BANK.PENDING k b) 0).set (SS.STAT.OWN_ERR k) 1

/-- HALT_DEFER_TIMEOUT (R1043): 4 µs after the request the section is broken, and Lectern halts. -/
def execHaltDeferTimeout (s : State) : Host.Outcome State Fault Refusal :=
  if !s.flag DEBUG.STATUS.DEFERRED || s.tick < s.dbg.haltAt + usTicks 4 then .next s
  else if !s.lecLocked then .next s.haltNow
  else
    let ops := (s.vault.txs.map (·.opcode)).filter (· ≠ 0)
    let s := s.discardTxs
    let s := { s with lec := { s.lec with locked := none, broken := s.lec.broken ++ ops } }
    .next (((s.withdrawHandovers.haltNow).set DEBUG.STATUS.LOCK_BROKEN 1).notice srcDbgLockBroken)

/-! ### Injection (R1048 to R1055) -/

/-- Is a link code one of R1048? -/
def linkKnown (l : Nat) : Bool := (decide (0x20 ≤ l) && decide (l < 0x60) && decide (l % 8 < 6)) || l = 0x60 || l = 0x61 || l = 0x80 || l = 0x90

/-- A slot is armed or disarmed; arming loads the LFSR (R1049, R1053). -/
def State.armSlot (s : State) (i : Nat) (on : Bool) : State :=
  let was := s.flag (DEBUG.INJ.CTL.EN i)
  let s := (s.setB (DEBUG.INJ.CTL.EN i) on).setB ⟨DEBUG.STATUS.reg, i, 1⟩ on
  if on && !was then
    State.notice { s with dbg := { s.dbg with lfsrs := Tab.put (fun _ => 1) s.dbg.lfsrs i (s.rd (DEBUG.INJ.SEED.reg i)).toNat } } srcInjectArmed
  else s

/-- A write of `DEBUG.INJ[i].CTL` (R1041, R1053, R1054). -/
def State.injCtlWrite (s : State) (i v : Nat) : State :=
  if s.dbgGated || (v.testBit 31 && !s.rwlOpen) then s.set DEBUG.STATUS.DAP_REFUSED 1
  else ((s.set (DEBUG.INJ.CTL.KIND i) (v / 2 ^ 8)).set (DEBUG.INJ.CTL.LINK i) v).armSlot i (v.testBit 31)

/-- INJ_CTL_WRITE (R1053, R1054). -/
def execInjCtlWrite (i : Fin 4) (v : Word) (s : State) : Host.Outcome State Fault Refusal := .next (s.hostIn fun s => s.injCtlWrite i v.toNat)

/-- INJECT, command 0x704 (R881, R1053, R1054): the slot already on the link, or the lowest free one; a RATE of 0 disarms. -/
def execInject (s : State) : Host.Outcome State Fault Refusal :=
  match s.start 0x704 with
  | none => .next s
  | some (p, s) =>
    let link := p.arg 0
    let on := (s.slotsOn link).head?
    let free := (List.range 4).find? fun i => !s.flag (DEBUG.INJ.CTL.EN i)
    if !s.rwlOpen then .next (s.reply p stSealed [])
    else
      match on, free with
      | none, none => .next (s.reply p stBusy [])
      | _, _ =>
        if !linkKnown link || p.arg 1 = 0 || 4 ≤ p.arg 1 || p.arg 3 = 0 then .next (s.reply p stBadParam [])
        else if p.arg 2 = 0 then .next ((match on with | some i => s.armSlot i false | none => s).reply p stDone [])
        else
          let i := on.getD (free.getD 0)
          let s := (s.wr (DEBUG.INJ.SEED.reg i) (BitVec.ofNat 32 (p.arg 3))).wr (DEBUG.INJ.RATE.reg i) (BitVec.ofNat 32 (p.arg 2))
          let s := (s.set (DEBUG.INJ.CTL.KIND i) (p.arg 1)).set (DEBUG.INJ.CTL.LINK i) link
          let s := { s with dbg := { s.dbg with lfsrs := Tab.put (fun _ => 1) s.dbg.lfsrs i (p.arg 3) } }
          .next ((s.armSlot i true).reply p stDone [])

/-- INJECT_HOLD_RELEASE (R1050): units held for 10 µs are released. -/
def execInjectHoldRelease (s : State) : Host.Outcome State Fault Refusal :=
  let s := if !s.dbg.heldFrames.isEmpty && s.dbg.frameAt + usTicks 10 ≤ s.tick then s.releaseFrames (1024 * s.tick) else s
  .next (s.each (s.dbg.heldReplies.filter fun x => decide (x.heldAt + usTicks 10 ≤ s.tick)) fun s x =>
    if s.cqRoom x then State.putReply { s with dbg := { s.dbg with heldReplies := dropFirst (fun y => decide (y = x)) s.dbg.heldReplies } } x 0 else s)

/-- The request of an abandoned transfer ends (R1051): `item` is the line group of a fetch, or the channel of a segment. -/
def State.abandonTransfer (s : State) (link item : Nat) : State :=
  let k := (link - 0x20) / 8
  if 0x60 ≤ link || (link - 0x20) % 8 = 3 then
    (if (s.chan item).moving then s.endMove item stTargetReset else s)
  else
    match (link - 0x20) % 8 with
    | 0 =>
      let c := s.cache k
      s.setCache k { c with groups := c.groups.filter fun e => !(decide (e.1 = item) && !e.2.arrived) }
    | 1 =>
      (match (s.marg k).owed with
        | [] => s
        | r :: t =>
          let s := s.onMarg k fun m => { m with owed := t }
          if r.kind = mtClose then s.margClosed k else s)
    | 2 => s.setStaging k (s.blot k).staging.tail
    | _ => s

/-- FABRIC_RETRY (R1051): 1 µs after a transfer was struck it is sent again, as a delay of its channel; after four tries it is
abandoned. -/
def execFabricRetry (link : BitVec 8) (item : Nat) (s : State) : Host.Outcome State Fault Refusal :=
  let l := link.toNat
  let n := Tab.get (fun _ => 0) s.dbg.tries l
  if n = 0 then .next s
  else if n < 4 then .next (if l = 0x60 || (l < 0x60 && (l - 0x20) % 8 = 3) then s.delayEvent (item % 32) else s)
  else
    let s := { s with dbg := { s.dbg with tries := s.dbg.tries.erase l } }
    let s := s.raise (if 0x60 ≤ l then srcFabricCtr else srcFabricSec ((l - 0x20) / 8))
    .next (s.abandonTransfer l item)

end Sys2Proof.Machine
end

