-- ==== Sys2Proof/Machine/Modes.lean ====
section
/-! DEFINITION. The commands of sector modes and SAFE (R56 to R76), and the resets of domains (R970 to R974). -/

namespace Sys2Proof.Machine
open Reg

/-- MODE_REQ (R60 to R64, R76). -/
def execModeReq (k : Sector) (req : BitVec 3) (s : State) : Host.Outcome State Fault Refusal :=
  if s.mainOn then .next (s.modeRequest k req.toNat) else .next s

/-- May the transition in progress of a sector end? Not while the device wakes for it (R76), nor before its domain's reset has
been accepted (R972) and its banks tested (R928). A stop of RUN ends with the run. -/
def State.mayArrive (s : State) (k : Nat) : Bool :=
  let off := decide (s.modeOf k = mOff) || decide (s.get (SMODE.CTL.MODE_TGT k) = mOff)
  s.mainOn && s.flag (SMODE.CTL.BUSY k) && s.modeOf k ≠ mRun && !s.inDoze && s.quill.entering ≠ some 2
    && (!off || s.flag (ERR.RESET.BUSY (domSector k))) && (s.bistOf k).banks = 0

/-- MODE_TRANSITION_DONE (R62, R64, R72, R911). -/
def execModeTransitionDone (k : Sector) (s : State) : Host.Outcome State Fault Refusal :=
  if s.mayArrive k then
    let s := if s.get (SMODE.CTL.MODE_TGT k) = mOff then s.resetStoreMoves k else s
    .next ((s.arrive k).modeEnds k)
  else .next s

/-- SAFE_ENTER (R56, R64, R66, R70). -/
def execSafeEnter (k : Sector) (s : State) : Host.Outcome State Fault Refusal := .next (s.sectorSafe k 4)

/-- The mode after SAFE (R67). -/
def State.modeAfterSafe (s : State) (k : Nat) : State :=
  let m := s.modeOf k
  if m = mRun then s.setMode k mSetup
  else if m = mMeasure then s.leaveMeasure k
  else if m = mCalibrate then s.leaveCalibrate k
  else s

/-- A write of SAFE_EXIT (R67, R68, R72): refused while a cause is present. -/
def State.safeExit (s : State) (k : Nat) : State :=
  if !s.flag (SMODE.CTL.SAFE k) then s
  else if !(s.safeCauses k).isEmpty || s.scanHolds then (s.set (SMODE.CTL.REFUSED k) 1).set (SMODE.CTL.REFUSE_CAUSE k) mcInSafe
  else
    let s := ((s.set (SMODE.CTL.SAFE k) 0).set (SMODE.CTL.SAFE_CAUSE k) 0).modeAfterSafe k
    ((s.unparkDacs k).each (octetsOf k) State.rotJudge).refreshBalls k

/-- SAFE_EXIT (R67, R68). -/
def execSafeExit (k : Sector) (s : State) : Host.Outcome State Fault Refusal :=
  if s.mainOn then .next (s.safeExit k) else .next s

/-- A host write of `SMODE[s].CTL` (R58, R60 to R68): with SAFE_ENTER, SAFE_EXIT or the clear of REFUSED it asks for no
mode. -/
def State.smodeWrite (s : State) (k v : Nat) : State :=
  let s := if v.testBit 19 then s.set (SMODE.CTL.REFUSED k) 0 else s
  if v.testBit 15 then s.sectorSafe k 4
  else if v.testBit 16 then s.safeExit k
  else if v.testBit 19 then s
  else s.modeRequest k (v % 8)

/-! ### Resets of domains -/

/-- The registers of a block of a sector or of an octet return to reset. -/
def State.resetPlace (s : State) (p : Place) : State := s.resetRegs fun a => decide ((whereIs a).1 = p)

/-- The registers of a measurement unit of an octet return to reset; they lie at its octet block (R856). -/
def State.resetUnit (s : State) (g lo hi : Nat) : State :=
  s.resetRegs fun a => decide ((whereIs a).1 = .octet g) && decide (lo ≤ (whereIs a).2 ∧ (whereIs a).2 ≤ hi)

/-- A command of an opcode list that acts on an octet completes with TARGET_RESET (R52, R974). -/
def State.resetOctetJobs (s : State) (ops : List Nat) (g : Nat) : State :=
  s.resetJobs fun j => ops.contains j.packet.opcode && (if j.packet.opcode = 0x303 then (j.packet.arg 0).testBit g else decide (j.packet.arg 0 = g))

/-- What the reset of a domain does to its block (R851, R910, R924, R974). -/
def State.resetBlock (s : State) (d : DomainKind) (i : Nat) : State :=
  match d with
  | .marginalia =>
    let s := State.resetPlace { s with margs := s.margs.erase i } (.marginalia i)
    s.banksToLectern i owMarginalia
  | .blotter =>
    let s := State.resetPlace { s with blots := s.blots.erase i } (.blotter i)
    s.banksToLectern i owBlotter
  | .channel => s.resetChannelBlock i true
  | .hairline =>
    let s := s.resetOctetJobs [0x301, 0x302, 0x303] i
    let s := State.resetUnit { s with hairs := s.hairs.erase i, tdrs := s.tdrs.erase i } i 0x1000 0x112F
    s.refreshOctet i
  | .dcUnit =>
    let s := s.resetOctetJobs [0x304, 0x305, 0x306] i
    let s := (State.resetUnit { s with dcs := s.dcs.erase i } i 0x2000 0x201B).set (STEER.STAT.DC_BALL i) 0xF
    s.refreshOctet i
  | .storeControl =>
    let busy (c : Nat) : Bool := s.usesStore c i && (s.chan c).moving && (s.chan c).dstHeld && (s.chan c).srcHeld
    s.each ((List.range 32).filter busy) fun s c => s.resetChannel c true
  | .copyist => s.each (List.range 32) fun s c => s.resetChannelBlock c true
  | .sector => s
  | .lectern | .hostLink | .controller => s

/-- RESET_ANNOUNCE (R971, R972): Errata accepts an announced reset, and the reset begins; a sector on its way from OFF tests its
banks (R928). -/
def execResetAnnounce (d : BitVec 8) (s : State) : Host.Outcome State Fault Refusal :=
  if s.mainOn && s.err.announced.contains d.toNat then
    let s := s.acceptReset d.toNat
    match domainOf d.toNat with
    | some (.sector, k) =>
      .next (if s.flag (SMODE.CTL.BUSY k) && s.get (SMODE.CTL.MODE_TGT k) = mStandby then
        s.startBist k 0xFFFF ((List.range 16).map fun b => (b, bankOwnerReset b)) false else s)
    | some (kind, i) => .next (s.resetBlock kind i)
    | none => .next s
  else .next s

/-- The generation that BLOCK_RESET reports (R874): of the channel for a Copyist channel (R914), of the domain otherwise. -/
def State.domainGen (s : State) (d : Nat) : Nat :=
  if 0x20 ≤ d && d < 0x40 then s.get (CH.STAT.GEN (d - 0x20)) else s.get (ERR.RESET.GEN d)

/-- RESET_DOMAIN_END (R972): a block's reset has ended; BLOCK_RESET replies. A sector's reset ends with its transition. -/
def execResetDomainEnd (d : BitVec 8) (s : State) : Host.Outcome State Fault Refusal :=
  if s.mainOn && s.flag (ERR.RESET.BUSY d.toNat) && !(0xD0 ≤ d.toNat && d.toNat < 0xD8) then
    let s := s.endReset d.toNat
    match s.findJob fun j => decide (j.packet.opcode = 0x005 ∧ j.aux = d.toNat) with
    | some j => .next (s.endJob j stDone [(8, s.domainGen d.toNat)])
    | none => .next s
  else .next s

end Sys2Proof.Machine
end

