-- ==== Sys2Proof/Machine/Quill.lean ====
section
/-! DEFINITION. Quill's commands: supplies (R92 to R112), its ticks and samples, wakes, interlock, tamper and SMBus (R985 to
R1028). -/

namespace Sys2Proof.Machine
open Reg

/-- VAUX_IN_RANGE (R95, R101, R102, R985, R1081): the straps are sampled; at the first rise the power-up delay begins. -/
def execVauxInRange (addr1 addr0 : Bool) (s : State) : Host.Outcome State Fault Refusal :=
  let s := { s with quill := { s.quill with smbAddr := 0x58 + 2 * b2n addr1 + b2n addr0 } }
  if s.quill.phase = .unpowered then
    .next (State.set { s with quill := { s.quill with phase := .delay, step := 2 } } QL.STAT.PSTATE psUp)
  else .next s

/-- Group `n` is raised (R102). -/
def State.raiseGroup (s : State) (n : Nat) : State :=
  { s with quill := { s.quill with en := s.quill.en ||| 2 ^ n, phase := .raising n } }

/-- POWER_UP_START (R102, R968, R996): the delay has passed and PWR_EN_0 rises; a power cycle that came before ends here. -/
def execPowerUpStart (s : State) : Host.Outcome State Fault Refusal :=
  if s.quill.phase = .delay then .next (s.powerCycled.raiseGroup 0) else .next s

/-- PG_RISE (R102): the filtered PG input of a group rises. -/
def execPgRise (n : Fin 8) (s : State) : Host.Outcome State Fault Refusal :=
  let s := { s with quill := { s.quill with pg := s.quill.pg ||| 2 ^ n.val } }
  if s.quill.phase = .raising n then .next { s with quill := { s.quill with phase := .settling n } } else .next s

/-- RAIL_GROUP_RAISE (R102): PG of the last group has been high for 1 ms without a break. -/
def execRailGroupRaise (s : State) : Host.Outcome State Fault Refusal :=
  match s.quill.phase with
  | .settling n => if n < 7 then .next (s.raiseGroup (n + 1)) else .next s
  | _ => .next s

/-- A power-up is aborted at group `n` (R103, R996). -/
def State.abortUp (s : State) (failed n : Nat) : State :=
  let s := (s.event 0x01 0 failed 0 false).disarm
  let s := State.set { s with quill := { s.quill with phase := .aborting n, waking := false } } QL.STAT.PSTATE psDown
  let s := s.lowerGroup n
  if n = 0 then s.reachDormant else s

/-- PG_TIMEOUT (R103): PG_n has not risen within 20 ms. -/
def execPgTimeout (s : State) : Host.Outcome State Fault Refusal :=
  match s.quill.phase with
  | .raising n => .next (s.abortUp n n)
  | _ => .next s

/-- PG_LOSS (R106 to R108, R836): PG inputs of a mask are low for `us` µs; a low from 20 µs to 50 µs counts as `counts`
says. A locked section is discarded. -/
def execPgLoss (lost : BitVec 8) (us : Nat) (counts : Bool) (s : State) : Host.Outcome State Fault Refusal :=
  let l := lost.toNat &&& s.quill.en
  if l = 0 || us < 20 || (us ≤ 50 && !counts) then .next s
  else
    let s := { s with quill := { s.quill with pg := s.quill.pg - (s.quill.pg &&& l) } }
    match s.quill.phase with
    | .raising n | .settling n => .next (s.abortUp ((bitsOf 8 l).headD n) n)
    | .up =>
      let s := s.discardTxs
      .next ((s.event 0x02 0 l 0 false).orderDown .pgLoss true)
    | _ => .next (s.event 0x02 0 l 0 false)

/-- POWER_DOWN_START (R105, R991, R997): the POWER_DOWN entry is written and the highest raised group is lowered. -/
def execPowerDownStart (s : State) : Host.Outcome State Fault Refusal :=
  match s.quill.phase, s.quill.down with
  | .safeWait, some c =>
    let k := match c with | .rule k => k | _ => 0
    let s := s.event 0x03 0 c.code k false
    let n := if s.quill.en = 0 then 0 else Nat.log2 s.quill.en
    .next (State.lowerGroup { s with quill := { s.quill with phase := .lowering n } } n)
  | _, _ => .next s

/-- POWER_DOWN_STEP (R103, R105, R997): 1 ms after the previous group. -/
def execPowerDownStep (s : State) : Host.Outcome State Fault Refusal :=
  match s.quill.phase with
  | .lowering (n + 1) => .next (State.lowerGroup { s with quill := { s.quill with phase := .lowering n } } n)
  | .lowering 0 =>
    if s.quill.down = some .cycle then .next { s with quill := { s.quill with phase := .cycleWait } } else .next s.reachDormant
  | .aborting (n + 1) =>
    let s := State.lowerGroup { s with quill := { s.quill with phase := .aborting n } } n
    .next (if n = 0 then s.reachDormant else s)
  | _ => .next s

/-- POWER_CYCLE_REQUEST (R997, R1023): a write of `QL.CTL` with PCYCLE 1 and a key. -/
def execPowerCycleRequest (key : BitVec 8) (s : State) : Host.Outcome State Fault Refusal :=
  if key = 0x5A && s.mainOn then .next s.pcycle else .next s

/-- POWER_CYCLE_RESTART (R997): every PWR_EN has been low for 100 ms; the wake entry carries source 6 (R1015). -/
def execPowerCycleRestart (s : State) : Host.Outcome State Fault Refusal :=
  if s.quill.phase = .cycleWait then
    let s := s.event 0x04 0 6 3 false
    .next (State.set (State.raiseGroup (State.powerCycled { s with quill := { s.quill with down := none, step := 2, heldWake := none } }) 0)
      QL.STAT.PSTATE psUp)
  else .next s

/-- Every ball and level DAC takes its state. -/
def State.pinsFollow (s : State) : State := s.each (List.range 8) fun s k => (s.refreshBalls k).refreshDacs k

/-- SUPPLY_SUPERVISOR_TRIP (R109, R968, R985): every pin front end turns off; `VAUX` below 1.62 V also returns Quill to
reset and ends the F3. -/
def execSupplySupervisorTrip (vaux : Bool) (s : State) : Host.Outcome State Fault Refusal :=
  if vaux then
    let v := s.vault
    .next { pending := s.pending, free := s.free, answer := s.answer, hostMem := s.hostMem, nvm := { s.nvm with op := [] },
            vault := { v with nonce := none, sram := [], txs := [], held := [], tamperSeen := false, integrityFail := false, backupBad := false, authFails := 0 },
            host := { perst := s.host.perst, lastWidth := s.host.lastWidth, marginFails := s.host.marginFails } }
  else .next (State.pinsFollow { s with quill := { s.quill with supervisor := true } })

/-- SUPPLY_SUPERVISOR_RELEASE (R109): `VAUX`, `VDD_PE` and `VEE_PE` are back within their limits. -/
def execSupplySupervisorRelease (s : State) : Host.Outcome State Fault Refusal :=
  .next (State.pinsFollow { s with quill := { s.quill with supervisor := false } })

/-- May a regulator's fault be noted? Not in OFF or in transition to or from it (R112). -/
def State.sregWatched (s : State) (k : Nat) : Bool :=
  s.mainOn && s.modeOf k ≠ mOff && !(s.flag (SMODE.CTL.BUSY k) && s.get (SMODE.CTL.MODE_TGT k) = mOff)

/-- SREG_UV (R112). -/
def execSregUv (k : Sector) (s : State) : Host.Outcome State Fault Refusal :=
  if s.sregWatched k then .next ((s.set (SREG.STAT.UV k) 1).raise (srcSregUv k)) else .next s

/-- SREG_OC (R112). -/
def execSregOc (k : Sector) (s : State) : Host.Outcome State Fault Refusal :=
  if s.sregWatched k then .next ((s.set (SREG.STAT.OC k) 1).raise (srcSregOc k)) else .next s

/-- Does Quill run? -/
def State.quillOn (s : State) : Bool := s.quill.phase ≠ .unpowered

/-- QUILL_TICK (R986, R989, R993 to R995, R1007, R1008): the filtered interlock channels and the AUX_IN codes. -/
def execQuillTick (aClosed bClosed : Bool) (aux : List (BitVec 12)) (s : State) : Host.Outcome State Fault Refusal :=
  if s.quillOn then
    let s := { s with quill := { s.quill with qtick := s.quill.qtick + 1 } }
    let s := (s.ilkTick aClosed bClosed).ilkHold
    let s := s.each (List.range 8) fun s n => s.set (QL.AUX.CODE n) ((aux.getD n 0).toNat)
    .next (s.runRules ((List.range 8).map fun n => (n, (s.get (QL.AUX.CODE n) : Int))))
  else .next s

/-- QSEC_TICK (R987): every 10,000 Quill ticks. -/
def execQsecTick (s : State) : Host.Outcome State Fault Refusal :=
  if s.quillOn then
    let q := (s.quill.qsec + 1) % 2 ^ 48
    .next (State.set64 { s with quill := { s.quill with qsec := q } } QL.QSEC_LO.reg QL.QSEC_HI.reg q)
  else .next s

/-- Is VDD_CORE up? -/
def State.coreUp (s : State) : Bool := s.quill.en.testBit 1 && s.quill.pg.testBit 1

/-- Temperature of a stack in 1/64 °C; none while it is not trained (R989). -/
def State.stackTemp (s : State) (w : Nat) : Option Int :=
  if s.flag (PSC.LINK.TRAINED w) then some (64 * (s.get (PSC.LINK.TEMP w) : Int)) else none

/-- QUILL_SENSOR_SAMPLE (R989, R990, R993): every 1 ms; temperatures in 1/64 °C, `VAUX` in mV. -/
def execQuillSensorSample (die quill : BitVec 16) (vaux : BitVec 16) (s : State) : Host.Outcome State Fault Refusal :=
  if s.quillOn then
    let dieV := if s.coreUp then die.toNat else 0x8000
    let s := (State.set { s with quill := { s.quill with vaux := vaux.toNat } } QL.TEMP.QUILL quill.toNat).set QL.TEMP.DIE dieV
    let t := sext 16 dieV
    let warn := sext 16 (s.get QL.THERM.WARN)
    let hot := s.coreUp && decide (warn ≤ t)
    let s := s.setB QL.STAT.THERM_WARN hot
    let s := if hot && s.quill.warnArmed then
        State.raise { (s.event 0x22 2 0 dieV false) with quill := { (s.event 0x22 2 0 dieV false).quill with warnArmed := false } } srcThermWarn
      else if s.coreUp && decide (t < warn - 5 * 64) then { s with quill := { s.quill with warnArmed := true } }
      else s
    let vals : List (Nat × Int) := (if s.coreUp then [(8, t)] else []) ++ [(9, sext 16 quill.toNat)]
      ++ (match s.stackTemp 0 with | some v => [(10, v)] | none => []) ++ (match s.stackTemp 1 with | some v => [(11, v)] | none => [])
      ++ [(12, (vaux.toNat : Int))]
    .next (s.runRules vals)
  else .next s

/-- OVERTEMP_TRIP (R991, R992, R1020): a main-die comparator, or Quill's own sensor (none). -/
def execOvertempTrip (sensor : Option (BitVec 8)) (s : State) : Host.Outcome State Fault Refusal :=
  if !s.quillOn then .next s
  else
    let temp := s.get QL.TEMP.QUILL
    match sensor with
    | some i =>
      if s.coreUp && !s.downOrDormant then
        let s := s.raise srcOvertemp
        let s := (s.event 0x21 2 i.toNat temp false).set QL.STAT.WAKE_INHIBIT 1
        .next (s.orderDown .overtemp false)
      else .next s
    | none =>
      if s.quill.phase = .dormant then .next (((s.event 0x21 2 0xFF temp false).set QL.STAT.WAKE_INHIBIT 1).disarm) else .next s

/-- WAKE_TIMER (R1000, R1003). -/
def execWakeTimer (s : State) : Host.Outcome State Fault Refusal :=
  match s.quill.wakeAt with
  | some t => if t ≤ s.quill.qtick then .next (s.disarm.wake 1) else .next s
  | none => .next s

/-- WAKE (R1003): a host access (4) or an EVT_IO edge (5) is a wake source; the other sources have commands of their own. -/
def execWake (io : Bool) (s : State) : Host.Outcome State Fault Refusal := .next (s.wake (if io then 5 else 4))

/-- ILK_CHANNEL_OPEN (R66, R1006): a channel shows open under its filter; the state machine judges it at the next tick. -/
def execIlkChannelOpen (b : Bool) (s : State) : Host.Outcome State Fault Refusal :=
  if s.quillOn then
    let s := s.set (if b then QL.ILK.STAT.B_CLOSED else QL.ILK.STAT.A_CLOSED) 0
    .next (if s.quill.step = 11 then s.safeMask 0xFF 2 else s)
  else .next s

/-- ILK_ARM (R1008, R1010). -/
def execIlkArm (s : State) : Host.Outcome State Fault Refusal := if s.quillOn then .next s.ilkArm else .next s

/-- TAMPER_N_ASSERT (R989, R1012, R1013): `TAMPER_N` is low for `us` µs; between 2 µs and 10 µs it may be taken or not. -/
def execTamperNAssert (us : Nat) (taken : Bool) (s : State) : Host.Outcome State Fault Refusal :=
  if !s.quillOn || us < 2 || (us ≤ 10 && !taken) then .next s
  else
    let ready := !s.quill.tamperOnce || (match s.quill.tamperFreeAt with | some t => decide (t + 10 ≤ s.quill.qtick) | none => false)
    let s := { s with quill := { s.quill with tamperLow := true } }
    if ready then
      let s := (s.event 0x20 2 1 0 false).tamperHit 1
      .next { s with quill := { s.quill with tamperOnce := true, tamperFreeAt := none } }
    else .next s

/-- TAMPER_N_RELEASE (R1013). -/
def execTamperNRelease (s : State) : Host.Outcome State Fault Refusal :=
  if s.quillOn then
    .next { s with quill := { s.quill with tamperLow := false, tamperFreeAt := if s.quill.tamperOnce then some s.quill.qtick else none } }
  else .next s

/-- A tamper's wipes, transition, counter and entry (R817, R836, R840, R1054). While the main rails are down, or the log
is spent, the entry is held. -/
def State.tamper (s : State) (cause : Nat) : State :=
  let s := s.discardTxs
  let v := s.vault
  let retired := decide (v.lc = 4)
  let broken := if s.lec.locked = some .lifecycle then s.resetJobs fun j => decide (0x404 ≤ j.packet.opcode ∧ j.packet.opcode < 0x600) else s
  let s := { broken with lec := { broken.lec with locked := none } }
  let v := if retired then { v with nonce := none, sram := [], txs := [], tamperSeen := true }
    else { v with nonce := none, sram := [], txs := [], tamperSeen := true, keys := false, deviceKey := 0, attKey := 0, owner := 0, lc := 0 }
  let s := s.each (List.range 4) fun s i => (s.set (DEBUG.INJ.CTL.EN i) 0)
  let s := s.set DEBUG.STATUS.ARMED 0
  let hold (s : State) : State :=
    { s with vault := { v with held := v.held ++ [{ cause := cause, before := s.vault.lc, qsec := s.quill.qsec }] } }
  let before := s.vault.lc
  let s := if s.mainOn && v.reserveRoom then
      let v := if retired then v else { v with counter := min (2 ^ 32 - 1) (v.counter + 1) }
      s.setVault (v.push colTamper 1 1 s.quill.qsec (cause + before * 2 ^ 8))
    else State.showVault (hold s)
  s.raise srcTamper

/-- TAMPER_DETECT (R817, R840): a tamper that has been detected takes effect. -/
def execTamperDetect (s : State) : Host.Outcome State Fault Refusal :=
  match s.quill.tamperWait with
  | [] => .next s
  | c :: t => .next (State.tamper { s with quill := { s.quill with tamperWait := t } } c)

/-- An SMBus code that is not acted on or not listed is not acknowledged (R1017). -/
def State.nak (s : State) : State := { s with answer := { acked := false } }

/-- An SMBus read of bytes while Quill is powered. -/
def State.smb (s : State) (bs : List Byte) : Host.Outcome State Fault Refusal := if s.quillOn then .next (s.answersBytes bs) else .next s.nak

/-- SMB_IDENT (R1018). -/
def execSmbIdent (s : State) : Host.Outcome State Fault Refusal :=
  s.smb (leBytes 2 0x5128 ++ leBytes 1 s.quill.rev ++ leBytes 1 s.quill.lcStart ++ leBytes 8 s.quill.serial)

/-- The STATUS word (R1018). -/
def State.smbStatus (s : State) : Nat :=
  s.pstate * 2 ^ 13 + s.get QL.ILK.STAT.STATE * 2 ^ 10 + b2n s.quill.f3 * 2 ^ 9 + b2n s.safeNLow * 2 ^ 8 + b2n s.vault.tamperSeen * 2 ^ 7
    + s.get QL.STAT.WAKE_INHIBIT * 2 ^ 6 + s.get QL.STAT.THERM_WARN * 2 ^ 5 + b2n (!s.quill.smbUnread.isEmpty) * 2 ^ 4

/-- SMB_STATUS (R1018). -/
def execSmbStatus (s : State) : Host.Outcome State Fault Refusal := s.smb (leBytes 2 s.smbStatus)

/-- SMB_TEMP_DIE (R1018). -/
def execSmbTempDie (s : State) : Host.Outcome State Fault Refusal := s.smb (leBytes 2 (s.get QL.TEMP.DIE))

/-- SMB_TEMP_QUILL (R1018). -/
def execSmbTempQuill (s : State) : Host.Outcome State Fault Refusal := s.smb (leBytes 2 (s.get QL.TEMP.QUILL))

/-- SMB_TEMP_HBM (R989, R1018). -/
def execSmbTempHbm (w : Wing) (s : State) : Host.Outcome State Fault Refusal :=
  s.smb (leBytes 2 (match s.stackTemp w with | some t => trunc 16 t | none => 0x8000))

/-- SMB_VAUX (R1018). -/
def execSmbVaux (s : State) : Host.Outcome State Fault Refusal := s.smb (leBytes 2 s.quill.vaux)

/-- SMB_AUX_IN (R1018). -/
def execSmbAuxIn (n : Fin 8) (s : State) : Host.Outcome State Fault Refusal := s.smb (leBytes 2 (s.get (QL.AUX.CODE n)))

/-- The 16 bytes of an entry of the event record (R1014). -/
def State.entryBytes (s : State) (i : Nat) : List Byte := (List.range 4).flatMap fun j => leBytes 4 (s.get (QL.EVT.ENTRY.W.V i j))

/-- SMB_EVENT (R1016, R1018): the oldest entry not yet read over SMBus. -/
def execSmbEvent (s : State) : Host.Outcome State Fault Refusal :=
  match s.quill.smbUnread with
  | [] => s.smb []
  | e :: t => State.smb { s with quill := { s.quill with smbUnread := t } } (s.entryBytes e.index)

/-- SMB_EVT_COUNT (R1018). -/
def execSmbEvtCount (s : State) : Host.Outcome State Fault Refusal := s.smb (leBytes 1 s.quill.smbUnread.length)

/-- SMB_ALERT_MASK (R1017, R1018): a read, or a write with its PEC right or wrong. -/
def execSmbAlertMask (write : Option (BitVec 16)) (pecOk : Bool) (s : State) : Host.Outcome State Fault Refusal :=
  match write with
  | none => s.smb (leBytes 2 s.quill.alertMask)
  | some m => if s.quillOn && pecOk then .next { s with quill := { s.quill with alertMask := m.toNat }, answer := {} } else .next s.nak

/-- SMB_WAKE (R992, R1003, R1018). -/
def execSmbWake (v : BitVec 8) (pecOk : Bool) (s : State) : Host.Outcome State Fault Refusal :=
  if s.quillOn && pecOk then
    let s := { s with answer := {} }
    if v = 0xA5 then .next (s.wake 2) else .next s
  else .next s.nak

/-- SMB_POWER_CYCLE (R997, R1018). -/
def execSmbPowerCycle (v : BitVec 8) (pecOk : Bool) (s : State) : Host.Outcome State Fault Refusal :=
  if s.quillOn && pecOk then
    let s := { s with answer := {} }
    if v = 0x5A then .next s.pcycle else .next s
  else .next s.nak

/-- SMB_QSEC (R1018). -/
def execSmbQsec (s : State) : Host.Outcome State Fault Refusal := s.smb (leBytes 6 s.quill.qsec)

/-- SMB_ALERT_RESPONSE (R1019): the address, in bits 7:1, and the release of `SMB_ALERT_N`. -/
def execSmbAlertResponse (s : State) : Host.Outcome State Fault Refusal :=
  if s.quillOn && s.alertLow then State.smb { s with quill := { s.quill with alertQuiet := true } } [BitVec.ofNat 8 (2 * s.quill.smbAddr)]
  else .next s.nak

/-- SMB_CLOCK_TIMEOUT (R1017): a clock held low for `ms`; between 25 ms and 35 ms the interface may reset or not. The
transaction under way is lost. -/
def execSmbClockTimeout (ms : Nat) (resets : Bool) (s : State) : Host.Outcome State Fault Refusal :=
  if 35 < ms || (25 ≤ ms && resets) then .next s.nak else .next s

end Sys2Proof.Machine
end

