-- ==== Sys2Proof/Machine/Start.lean ====
section
/-! DEFINITION. Start-up, `PERST_N`, the host link, the boot image and the ends of rest entries and wakes (R94, R104,
R129, R280, R832 to R835, R852 to R854, R860, R998 to R1005, R1081 to R1084). -/

namespace Sys2Proof.Machine
open Reg

/-- Start-up stands at a step. -/
def State.atStep (s : State) (n : Nat) : State := { s with quill := { s.quill with step := n } }

/-! ### The baseline (R129, R130, R1081) -/

/-- The band table is loaded: four words an entry (R129, R183). -/
def State.loadBands (s : State) (table : List Word) : State :=
  s.each (table.take 64).zipIdx fun s e => s.plainWrite (CLK.BAND.RANGE.reg (e.2 / 4) + 4 * (e.2 % 4)) e.1.toNat

/-- PDIV, NINT, NUM, DEN and BAND of an entry. -/
def State.bandValues (s : State) (k : Nat) : List Nat :=
  [s.get (CLK.BAND.DIV.PDIV k), s.get (CLK.BAND.DIV.NINT k), s.get (CLK.BAND.FRAC.NUM k), s.get (CLK.BAND.FRAC.DEN k), s.get (CLK.BAND.DCO.BAND k)]

/-- The firmware loads its table and locks; a PLL locked from equal values keeps its lock (R129, R130). -/
def State.lockFrom (s : State) (table : List Word) : State :=
  let was := s.bandValues (s.get CLK.PLL_STAT.BAND_CUR)
  let s := s.loadBands table
  match (s.bandTries (s.get CLK.REF_MEAS.FREQ)).head? with
  | some k => if s.pll = pllLocked && s.bandValues k = was then s.set CLK.PLL_STAT.BAND_CUR k else s.enterAcquire
  | none => s.enterAcquire

/-! ### The boot image (R832, R860) -/

/-- Why the boot ROM refuses an image (R832, R844); 0: it accepts it. -/
def State.refuses (s : State) (i : Image) : Nat :=
  let wrong := decide (s.vault.lc = 2)
    && (match s.vault.latest colSealMeasure with
        | some e => decide (e.payload % 2 ^ 128 ≠ digestNat 16 i.measure)
        | none => true)
  if !i.key then 1 else if !i.signature then 2 else if !i.digests then 3
  else if i.svn < s.get VAULT.FW.FUSE_SVN then 4 else if wrong then 5 else 0

/-- An image is booted, and step 6 begins (R832, R844, R1081). -/
def State.bootWith (s : State) (slot : Option Nat) (i : Image) (table : List Word) : State :=
  let s := ((s.setB VAULT.FW.SLOT (slot = some 1)).setB VAULT.FW.PUSHED slot.isNone).set VAULT.FW.SVN i.svn
  let s := { s with
    vault := { s.vault with fwVersion := i.version, measure := i.measure }, nvm := { s.nvm with slotBooted := slot }
    host := { s.host with awaitImage := false, image := [] } }
  ((s.set IMG.STAT.WAITING 0).lockFrom table).atStep 6

/-- The boot ROM locks the PLL from its own table and waits for an image (R94, R130, R832). -/
def State.awaitImage (s : State) (table : List Word) : State :=
  let s := { s with host := { s.host with awaitImage := true, image := [] } }
  ((s.loadBands table).enterAcquire).setB IMG.STAT.WAITING s.host.linkUp

/-- Slots A and B are tried in order (R832); a refused slot raises BOOT_FALLBACK (R956). -/
def State.bootFlash (s : State) (a b : Image) (table : List Word) : State :=
  let ra := s.refuses a
  if ra = 0 then s.bootWith (some 0) a table
  else
    let s := (s.set VAULT.FW.REJECT_A ra).raise srcBootFallback
    let rb := s.refuses b
    if rb = 0 then s.bootWith (some 1) b table
    else ((s.set VAULT.FW.REJECT_B rb).raise srcBootFallback).awaitImage table

/-- The image assembled so far. -/
def State.keepImage (s : State) (image : List Byte) : State := { s with host := { s.host with image := image } }

/-- IMG_CHUNK (R860): a write of `IMG.CTL`; `image` is what the boot ROM finds in the image that LAST submits, and `table` the
band table that its firmware loads. -/
def execImgChunk (v : Word) (image : Image) (table : List Word) (s : State) : Host.Outcome State Fault Refusal :=
  let len := v.field 0 20
  if !(s.mainOn && s.host.linkUp && s.flag IMG.STAT.WAITING) || len = 0 || 524288 < len then .next s
  else
    let s := s.keepImage (s.host.image ++ memRds s.host.window 0 len)
    let total := s.host.image.length
    if 0x1000000 < total then
      .next (((s.set IMG.STAT.OVERSIZE 1).keepImage []).set IMG.STAT.TOTAL 0)
    else
      let s := s.set IMG.STAT.TOTAL total
      if !v.getLsbD 31 then .next s
      else
        let r := s.refuses image
        if r = 0 then .next (s.bootWith none image table)
        else .next ((((s.set VAULT.FW.REJECT_A r).set IMG.STAT.REJECTED 1).keepImage []).set IMG.STAT.TOTAL 0)

/-! ### Steps 3 to 10 (R1081) -/

/-- MAIN_POR_END (R94, R104, R1081, R1082): 1 ms after PG_7, or on the release of `PERST_N`; `table` is the boot ROM's band
table, used where `BOOT_SEL` is high. -/
def execMainPorEnd (bootSel : Bool) (table : List Word) (s : State) : Host.Outcome State Fault Refusal :=
  let go (s : State) : State :=
    if s.host.perst then s.atStep 3
    else
      let s := State.showVault { s.atStep 4 with quill := { (s.atStep 4).quill with bootSel := bootSel } }
      if bootSel then s.awaitImage table else s
  match s.quill.phase with
  | .settling n => if n = 7 then .next (go { s with quill := { s.quill with phase := .up } }) else .next s
  | .up => if s.quill.step = 3 && !s.host.perst then .next (go s) else .next s
  | _ => .next s

/-- The excluded lanes show (R853, R859). -/
def State.showLanes (s : State) : State := s.set DEV.LINK.LANE_FAIL s.vault.ledger.lanes

/-- Step 4: the fuses are read (R113, R167, R844, R858, R931). A master-line repair of the wear ledger replaces the fuses'. -/
def State.readFuses (s : State) (f : Fuses) : State :=
  let s := (s.set DEV.ID.REV f.rev).set64 DEV.SERIAL_LO.reg DEV.SERIAL_HI.reg f.serial
  let s := s.set VAULT.FW.FUSE_SVN f.svn
  let s := s.each (f.trims.take 8).zipIdx fun s e => s.set (SREG.CTL.TRIM e.2) e.1
  let s := s.each (f.masters.take 8).zipIdx fun s e => s.plainWrite (TLL.REPAIR.reg e.2) e.1.toNat
  let s := s.each s.vault.ledger.masters fun s e => s.plainWrite (TLL.REPAIR.reg e.1) e.2
  let cols := (f.columns.filter fun e => decide (e.1 < 128)).foldl (fun t e => Tab.put (fun _ => 0) t e.1 (min 4 e.2)) []
  State.showLanes { s with
    nvm := { s.nvm with colFuse := cols }
    quill := { s.quill with rev := f.rev, serial := f.serial, lcStart := s.vault.lc } }

/-- A stack has trained, or not (R270, R280, R281, R288, R971): at a wake its controller is reset, and soft repairs are applied
again. -/
def State.trainStack (s : State) (w : Nat) (t : Training) : State :=
  let s := if s.quill.waking then (s.acceptReset (domController w)).endReset (domController w) else s
  if t.rate.val = 0 then (s.set (PSC.STAT.TRAIN_FAIL w) 1).raise (srcPsTrain w)
  else
    let s := ((s.set (PSC.LINK.RATE w) t.rate.val).set (PSC.LINK.TRAINED w) 1).set (PSC.LEDGER.CEIL w) (ceilingOf t.rate.val)
    let s := (s.set (PSC.STAT.HPPR_LEFT w) t.hardLeft.toNat).set (PSC.STAT.SPPR w) (min 255 (Tab.get (fun _ => []) s.vault.ledger.rowSoft w).length)
    s.set (PSC.STAT.CAND w) (min 255 (Tab.get (fun _ => []) s.vault.ledger.rowCand w).length)

/-- Step 8 begins: every sector is in OFF, and passes to STANDBY (R1081). -/
def State.beginSectors (s : State) : State :=
  s.each (List.range 8) fun s k => ((s.wr (SMODE.CTL.reg k) 0).enterOff k).beginMode k mStandby

/-- Does a copy of the backup qualify? (R834) -/
def Vault.qualifies (v : Vault) (b : Backup) (tag : Bool) : Bool :=
  tag && v.keys && decide (b.key = v.deviceKey) && decide (b.counter = v.counter)
    && (v.lc ≠ 2 || (match v.latest colSeal with
        | some e => decide (e.payload % 2 ^ 128 = digestNat 16 b.digest)
        | none => false))

/-- The copy that step 9 loads: the newer that qualifies (R834). -/
def Vault.toLoad (v : Vault) (tag0 tag1 : Bool) : Option Backup :=
  let copy (i : Nat) : Option Backup :=
    match v.backups.find? (·.1 = i) with
    | some e => if v.qualifies e.2 (if i = 0 then tag0 else tag1) then some e.2 else none
    | none => none
  match copy v.newer with
  | some b => some b
  | none => copy (1 - v.newer)

/-- The production copy as a sealed set; its trims and repairs are those of the fuses (R1083). -/
def productionSet (p : Production) : SealedSet :=
  { temps := (p.temps.filter fun e => decide (e.1 < 8)).foldl (fun t e => Tab.put (fun _ => 0) t e.1 e.2) []
    points := (p.points.filter fun e => decide (e.1 < 4608)).foldl (fun t e => Tab.put (fun _ => []) t e.1 e.2) []
    production := p.token }

/-- The sealed set is loaded, and every core takes its corrections (R757, R834). -/
def State.loadSet (s : State) (t : SealedSet) (drift : Tab (List Frac)) : State :=
  let s := { s with vault := { s.vault with set := t } }
  let s := s.each t.trims.zipIdx fun s e => s.set (SREG.CTL.TRIM e.2) e.1
  let s := s.each t.repairs.zipIdx fun s e => s.wr (TLL.REPAIR.reg e.2) (wordOf e.1)
  let s := s.each drift fun s e => s.onCore (e.1 / 9) (e.1 % 9) fun x => { x with drift := e.2 }
  let s := s.showPoints
  s.each (List.range 64) fun s g =>
    let s := s.each (List.range 9) fun s c => s.onCore g c fun x => { x with set := s.corrections g c }
    (s.showAges g).showClasses g

/-- The calibration set of step 9 (R834, R1083): the production copy until the first LC_PROVISION, then the backup. -/
def State.loadCalibration (s : State) (tag0 tag1 : Bool) (p : Production) : State :=
  if !s.vault.everProvisioned then s.loadSet (productionSet p) []
  else
    match s.vault.toLoad tag0 tag1 with
    | some b => s.loadSet b.set b.drift
    | none => ((s.setVault { s.vault with backupBad := true }).loadSet {} []).raise srcBackupBad

/-- The vault's checks of R835 fail: F3, and a tamper of cause 2. -/
def State.integrityFails (s : State) : State :=
  let s := (s.setVault { s.vault with integrityFail := true }).raise srcVaultIntegrity
  (s.event 0x20 2 2 0 false).tamper 2

/-- Step 9 (R827, R834, R835, R840, R981): tampers held back, then the BOOT entry, end it. -/
def State.stepNine (s : State) (intact tag0 tag1 : Bool) (p : Production) : State :=
  let s := if intact then s else s.integrityFails
  let s := s.loadCalibration tag0 tag1 p
  let s := s.each (List.range 384) fun s n => s.set (ERR.SRC.ESC n) (srcEscalation n)
  let s := s.setVault s.vault.flushHeld
  s.append colBoot 2 (b2n (s.nvm.slotBooted = some 1) + s.vault.fwVersion % 2 ^ 32 * 2 ^ 32 + s.get VAULT.FW.SVN * 2 ^ 64
    + digestNat 8 s.vault.measure * 2 ^ 96)

/-- Step 10 (R57, R96, R1011, R1084): STANDBY is reported, Lectern serves the rings, and the interlock is judged. -/
def State.reportStandby (s : State) : State :=
  let s := { s.atStep 11 with quill := { (s.atStep 11).quill with waking := false, depth := 0 } }
  let s := ((s.set DEV.MODE.READY 1).set QL.STAT.PSTATE psLight).set LEC.STAT.RUNNING 1
  let s := if s.get QL.ILK.STAT.STATE = 5 then s.raise srcIlkDisc else s
  s.ilkHold

/-- STARTUP_STEP_END (R1081): the step in progress ends, and the next begins. -/
def execStartupStepEnd (w : StartWork) (s : State) : Host.Outcome State Fault Refusal :=
  if !s.mainOn then .next s
  else
    match s.quill.step, w with
    | 4, .fuses f => .next ((s.readFuses f).atStep 5)
    | 5, .boot a b table => if s.host.awaitImage then .next s else .next (s.bootFlash a b table)
    | 6, .lock => if s.pll = pllLocked then .next (s.atStep 7) else .next s
    | 7, .train a b =>
      let s := (s.trainStack 0 a).trainStack 1 b
      if a.rate.val = 0 || b.rate.val = 0 then .next s else .next (s.beginSectors.atStep 8)
    | 8, .sectors =>
      if (List.range 8).all fun k => s.modeOf k = mStandby && !s.flag (SMODE.CTL.BUSY k) then .next (s.atStep 9) else .next s
    | 9, .load intact tag0 tag1 p => .next ((s.stepNine intact tag0 tag1 p).atStep 10)
    | 10, .standby => .next s.reportStandby
    | _, _ => .next s

/-! ### PERST_N (R852, R1082) -/

/-- PERST_ASSERT: after step 2 every ball is ISOLATED, and the main domain is held in reset. -/
def execPerstAssert (s : State) : Host.Outcome State Fault Refusal :=
  if s.host.perst then .next s
  else
    let s := { s with host := { s.host with perst := true } }
    if s.quill.phase = .up && 3 ≤ s.quill.step then
      let s := s.discardTxs.mainReset
      .next (State.set { s.atStep 3 with quill := { (s.atStep 3).quill with depth := 0, entering := none, waking := false } } QL.STAT.PSTATE psUp)
    else .next s

/-- PERST_RELEASE: start-up resumes from main power-on reset, which MAIN_POR_END ends. -/
def execPerstRelease (s : State) : Host.Outcome State Fault Refusal := .next { s with host := { s.host with perst := false } }

/-! ### The host link (R845, R853, R854, R1016, R1081) -/

/-- Lanes that have failed margining in as many start-ups in a row (R853). -/
def State.laneFails (s : State) (u : LinkUp) : Tab Nat :=
  (List.range 16).foldl (fun t n => Tab.put (fun _ => 0) t n (if u.margin.toNat.testBit n then min 3 (Tab.get (fun _ => 0) s.host.marginFails n + 1) else 0)) []

/-- Lanes are excluded, in start-up: without receiver detection, or at the third failure in a row (R853). -/
def State.excludeLanes (s : State) (u : LinkUp) : State :=
  if s.quill.step = 11 then s
  else
    let fails := s.laneFails u
    let out := u.undetected.toNat ||| maskOf ((List.range 16).filter fun n => Tab.get (fun _ => 0) fails n = 3)
    State.showLanes (State.wear { s with host := { s.host with marginFails := fails } } fun g => { g with lanes := g.lanes ||| out })

/-- The width in force is recorded, and a change of it entered in the Colophon (R853, R854, R828). -/
def State.recordLink (s : State) (u : LinkUp) : State :=
  let w := u.width.toNat
  let s := ((s.set DEV.LINK.WIDTH w).set DEV.LINK.SPEED u.speed.toNat).setB DEV.LINK.REVERSED u.reversed
  let s := s.setB DEV.LINK.DEGRADED (decide (w < 16))
  let s := if w < 16 then s.raise srcLinkDegraded else s
  if w = s.host.lastWidth then s else State.append { s with host := { s.host with lastWidth := w } } colLinkWidth 4 w

/-- HOST_LINK_STATE_CHANGE (R853, R854, R860, R1084): the link has trained, or is down (none). -/
def execHostLinkStateChange (up : Option LinkUp) (s : State) : Host.Outcome State Fault Refusal :=
  match up with
  | none => .next (State.set { s with host := { s.host with linkUp := false } } DEV.LINK.SPEED 0)
  | some u =>
    if s.mainOn && s.clk.running then
      let s := ({ s with host := { s.host with linkUp := true } } : State)
      let s := (s.excludeLanes u).recordLink u
      .next (if s.host.awaitImage then s.set IMG.STAT.WAITING 1 else s)
    else .next s

/-! ### Rest and wake (R998, R1002, R1005, R166) -/

/-- The tap-lock loops and the stacks as doze leaves them, or as the wake finds them (R166, R998). -/
def State.dozeLoops (s : State) (on : Bool) : State :=
  let s := { s with clk := { s.clk with tllOff := on } }
  let s := s.each (List.range 2) fun s w => if s.flag (PSC.LINK.TRAINED w) then s.setB (PSC.LINK.SELF_REFRESH w) on else s
  s.each (List.range 8) fun s k =>
    let s := if s.modeOf k = mOff then s else if on then s.unlockTll k else (s.set (TLL.STAT.LOCKED k) 1).quiet (srcTllUnlock k)
    s.refreshDacs k

/-- REST_ENTRY_DONE (R998, R1002): LIGHT or DOZE is reached; a wake that came meanwhile begins at once. -/
def execRestEntryDone (s : State) : Host.Outcome State Fault Refusal :=
  match s.quill.entering with
  | none => .next s
  | some d =>
    let s := { s with quill := { s.quill with entering := none, depth := d } }
    let s := if d = 2 then ((s.set QL.STAT.PSTATE psDoze).set DEV.MODE.DEPTH 1).dozeLoops true else s.set QL.STAT.PSTATE psLightRest
    match s.quill.heldWake with
    | some c => .next (State.beginWake { s with quill := { s.quill with heldWake := none } } c d)
    | none => .next s

/-- A mode request made in doze is carried out (R76). -/
def State.modeAwake (s : State) (k : Nat) : State :=
  if s.flag (SMODE.CTL.BUSY k) then
    let req := s.get (SMODE.CTL.MODE_TGT k)
    let s := ((s.set (SMODE.CTL.BUSY k) 0).set (SMODE.CTL.MODE_TGT k) (s.modeOf k)).modeJudge k req
    if s.flag (SMODE.CTL.BUSY k) then s else s.modeEnds k
  else s

/-- WAKE_DONE (R76, R1003, R1005): the device is in light STANDBY. A wake from DORMANT ends with start-up step 10. -/
def execWakeDone (s : State) : Host.Outcome State Fault Refusal :=
  if s.quill.waking && (s.pstate = psLightRest || s.pstate = psDoze) then
    let doze := s.inDoze
    let s := { s with quill := { s.quill with waking := false, depth := 0 } }
    let s := s.set QL.STAT.PSTATE psLight
    if doze then .next (((s.set DEV.MODE.DEPTH 0).dozeLoops false).each (List.range 8) State.modeAwake) else .next s
  else .next s

end Sys2Proof.Machine
end

