-- ==== Sys2Proof/Machine/Access.lean ====
section
/-! DEFINITION. Host accesses of BAR0 and BAR4 by address: what a write does, what a read returns and changes (R21 to R30,
R71, R849, R855 to R862, R1087), the debug access port (R1036 to R1041), and DEV_STATUS (R874). -/

namespace Sys2Proof.Machine
open Reg

/-! ### Writes -/

/-- A write of `SREG[s].CTL` (R26, R113, R820). -/
def State.trimWrite (s : State) (k v : Nat) : State :=
  if s.rwlOpen && s.changeRoom 1 then
    let before := itemDigest [s.get (SREG.CTL.TRIM k)]
    (s.set (SREG.CTL.TRIM k) v).sealedChange 6 k before 0
  else s

/-- A write of `TLL[s].REPAIR` (R26, R167, R820). -/
def State.repairWrite (s : State) (k v : Nat) : State :=
  if s.rwlOpen && s.tllOpen k && s.changeRoom 2 then s.tllRepair k v 0 else s

/-- A write of `CAL.CTL`: a write of 0 is ignored, and every ball is judged against the new class (R791, R811). -/
def State.classWrite (s : State) (v : Nat) : State :=
  if v % 4 = 0 then s else (s.set CAL.CTL.CLASS v).each (List.range 64) State.showClasses

/-- A write in the device global block. -/
def State.deviceWrite (s : State) (off : Nat) (v : Nat) : State :=
  if 0x100 ≤ off && off < 0x120 then s.smodeWrite ((off - 0x100) / 4) v
  else if 0x200 ≤ off && off < 0x240 && off % 8 = 0 then s.trimWrite ((off - 0x200) / 8) v
  else if 0x300 ≤ off && off < 0x310 then s.ensWrite ((off - 0x300) / 4) v
  else if off = 0x380 then s.post (v % 256) evHost (1024 * s.tick) true
  else if 0x800 ≤ off && off < 0x820 then s.evtioWrite ((off - 0x800) / 4) v
  else if off = 0x900 then s.when (v.testBit 31) State.sineGo
  else if off = 0xA00 then s.classWrite v
  else s.plainWrite off v

/-- A write in the Errata block. -/
def State.errataWrite (s : State) (off : Nat) (v : Nat) : State :=
  if 0x10 ≤ off && off < 0x20 then s.reactWrite ((off - 0x10) / 4) v
  else if 0x1000 ≤ off && off < 0x1600 then s.errSrcWrite ((off - 0x1000) / 4) v
  else s.plainWrite (0x100000 + off) v

/-- A write in the clocking block: `CLK.PLL_CTL` with RELOCK and RESTART, a band entry, a repair word, `CLK.OUT_UPDATE`. -/
def State.clockingWrite (s : State) (off : Nat) (v : Nat) : State :=
  if off = 0 then
    let s := s.plainWrite CLK.PLL_CTL.reg v
    let s := s.when (v.testBit 30) State.relockWrite
    s.when (v.testBit 31) State.restartWrite
  else if 0x100 ≤ off && off < 0x200 then s.bandWrite ((off - 0x100) / 16) (off % 16 / 4) v
  else if 0x200 ≤ off && off < 0x280 && off % 16 = 8 then s.repairWrite ((off - 0x200) / 16) v
  else if off = 0x340 then (s.plainWrite CLK.OUT_UPDATE.reg v).when (v.testBit 31) State.outGo
  else s.plainWrite (0x200000 + off) v

/-- A write in the Ruling block: a write that leaves ROLE as it stands is no write of ROLE (R206). -/
def State.rulingWrite (s : State) (off : Nat) (v : Nat) : State :=
  if off = 0 then
    let s := s.set RUL.CTL.CLOSURE_LIM (v / 2 ^ 16)
    let s := if v % 4 = s.get RUL.CTL.ROLE then s else s.roleWrite (v % 4)
    s.when (v.testBit 31) State.deskewGo
  else if 0x40 ≤ off && off < 0x50 then s.rulEnsWrite ((off - 0x40) / 4) v
  else s.plainWrite (0x300000 + off) v

/-- A write in the Quill block; a write of a rule restarts its counting (R1027). -/
def State.quillWrite (s : State) (off : Nat) (v : Nat) : State :=
  if off = 0x10 then s.when (v.testBit 31 && decide (v % 256 = 0x5A)) State.pcycle
  else if off = 0x40 then s.ilkCtlWrite v
  else if off = 0x200 then s.hrdWrite (v % 64)
  else
    let s := s.plainWrite (0x400000 + off) v
    if 0x100 ≤ off && off < 0x180 then { s with quill := { s.quill with rules := s.quill.rules.erase ((off - 0x100) / 8) } } else s

/-- A write in the Copyist block. -/
def State.copyistWrite (s : State) (off : Nat) (v : Nat) : State :=
  if 0x1000 ≤ off then
    let c := (off - 0x1000) / 0x40
    match off % 0x40 with
    | 0 => s.cpyCtlWrite c v
    | 4 | 8 => s.progRegWrite c (0x600000 + off) v
    | _ => s.plainWrite (0x600000 + off) v
  else s.plainWrite (0x600000 + off) v

/-- A write in the debug block; injection settings are gated by the lifecycle, and a seed of 0 is ignored (R1041, R1054,
R1057). -/
def State.debugWrite (s : State) (off : Nat) (v : Nat) : State :=
  if off = 4 then s.lecRequest v false
  else if 0x100 ≤ off && off % 16 = 0 then s.injCtlWrite ((off - 0x100) / 16) v
  else if 0x100 ≤ off && (s.dbgGated || (off % 16 = 8 && v = 0)) then s.set DEBUG.STATUS.DAP_REFUSED 1
  else s.plainWrite (0x800000 + off) v

/-- A write in the Scribe block of a sector: STOP before START, and HFLAG in every state; the settings are shut while the
Scribe is not IDLE (R348, R410). -/
def State.scribeWrite (s : State) (k off : Nat) (v : Nat) : State :=
  if off = 0 then
    let s := s.plainWrite (SCRIBE.CTL.reg k) v
    let s := s.when (v.testBit 30) fun s => s.stopWrite k
    s.when (v.testBit 31) fun s => s.startWrite k
  else if off = 4 || off = 8 || (0x20 ≤ off && off < 0x38) then
    if s.scribeBusy k then s.set (SCRIBE.STAT.WR_IGNORED k) 1 else s.plainWrite (scribeBase k + off) v
  else if off = 0x80 && s.scribeBusy k then s.set (PEN.STAT.WR_IGNORED k) 1
  else s.plainWrite (scribeBase k + off) v

/-- A write in the Marginalia block of a sector. -/
def State.margBlockWrite (s : State) (k off : Nat) (v : Word) : State :=
  if off = 0x28 then s.margRptrWrite k v
  else if off = 0x58 then s.margClrWrite k v
  else if off = 4 || 0x24 ≤ off then s.plainWrite (margBase k + off) v.toNat
  else s.margConfigWrite k off v

/-- Is a Blotter register one whose write is a configuration write (R702, R704 to R706)? -/
def blotConfig (off : Nat) : Bool :=
  off = 0 || off = 8 || off = 0xC || off = 0x10 || (0x20 ≤ off && off ≤ 0x2C)
    || (0x100 ≤ off && off < 0x300 && off % 0x40 ≠ 4) || (0x400 ≤ off && 4 ≤ off % 0x40 && off % 0x40 ≤ 0x10)

/-- A write in the Blotter block of a sector. -/
def State.blotBlockWrite (s : State) (k off : Nat) (v : Word) : State :=
  if off = 0x18 then s.blotRptrWrite k v
  else if off = 0x3C then s.when (v.getLsbD 31) fun s => s.blotEnd k beDisarm (1024 * s.tick)
  else if 0x400 ≤ off && off % 0x40 = 0 then s.maskCommit k ((off - 0x400) / 0x40) v
  else if blotConfig off then s.blotConfigWrite k off v
  else s.plainWrite (blotBase k + off) v.toNat

/-- A write in the store control block of a sector. -/
def State.storeBlockWrite (s : State) (k off : Nat) (v : Nat) : State :=
  if off < 0x40 then s.bankWrite k (off / 4) (v / 2 ^ 8 % 256)
  else if off = 0x40 then s.guestWrite k (v % 256)
  else if 0x1000 ≤ off && off < 0x100C then s.windowWrite k ((off - 0x1000) / 4) v
  else if off = 0x1010 then s.raCfgWrite k v
  else s.plainWrite (storeBase k + off) v

/-- A write of `FE[g][l].STAT`: OC through R556, the other flags plainly. -/
def State.feStatWrite (s : State) (g l v : Nat) : State :=
  let s := s.plainWrite (FE.STAT.reg g l) (v % 2 ^ 31)
  s.when (v.testBit 31) fun s => s.ocClear g l

/-- A write of `STEER[g]`, `FE[g]` or `SINE[g]` (R569 to R576, R613). -/
def State.pinWrite (s : State) (g off : Nat) (v : Nat) : State :=
  if off = 0x400 then s.forceIso g v
  else if off = 0x404 then s.ovClear g (v / 2 ^ 24)
  else if off = 0xA00 then s.eachSlot g fun s l => s.feCfgSlot g l v
  else if off < 0x920 then
    s.slotWrite g ((off - 0x800) / 0x20) fun s l => if off % 0x20 = 0 then s.feCfgSlot g l v else s.feStatWrite g l v
  else if off = 0xC00 then s.sineCtlWrite g v
  else if off = 0xC04 then s.sineFtwWrite g v
  else s.plainWrite (octBase g + off) v

/-- Is `PER[g].CTL` locked? (R448) -/
def State.perLocked (s : State) (g : Nat) : Bool :=
  s.scState (g / 8) ≠ scIdle || s.modeOf (g / 8) = mCalibrate || (s.oct g).running

/-- A write in an octet block. -/
def State.octetWrite (s : State) (g off : Nat) (v : Word) : State :=
  let n := v.toNat
  if off < 0x80 then if off % 8 = 0 then s.ptLoWrite g (off / 8) n else s.ptHiWrite g (off / 8) n
  else if off = 0x80 && s.perLocked g then s.set (PER.STAT.WR_IGNORED g) 1
  else if 0x400 ≤ off && off < 0x1000 then s.pinWrite g off n
  else if off = 0x1000 then s.hlCtlWrite g v
  else if 0x1004 ≤ off && off ≤ 0x1010 then s.hlConfigWrite g (octBase g + off) v
  else if off = 0x1100 then s.tdrCtlWrite g v
  else if off = 0x2000 then s.dcCtlWrite g v
  else if off = 0x2004 then s.dcForceWrite g v
  else if off = 0x200C then s.dcMcfgWrite g v
  else if off = 0x2018 then s.dcStWrite g v
  else if off = 0x2400 then s.rotCtlWrite g n
  else s.plainWrite (octBase g + off) n

/-- A write of `DAC[g][l].STAT`: FAULT through R599, the other flags plainly. -/
def State.dacStatWrite (s : State) (g l v : Nat) : State :=
  (s.plainWrite (DAC.STAT.reg g l) (v / 2 ^ 16 * 2 ^ 16)).faultClear g l (v / 2 ^ 8 % 256)

/-- A write of `NIB[g][l].STAT` (R470, R493). -/
def State.nibStatWrite (s : State) (g l v : Nat) : State := (s.plainWrite (NIB.STAT.reg g l) v).judgeNibDrop g

/-- A write in a slot, as one of the cores that it reaches takes it. -/
def State.slotReg (s : State) (g off v l : Nat) : State :=
  if off < 0x600 then
    if off % 24 = 20 then s.tsCommit g l (off / 24) v else s.tsStage g l (off % 24 / 4) v
  else if off < 0x640 then s.strokeWrite g l ((off - 0x600) / 4) v
  else if off < 0x680 then s.altWrite g l ((off - 0x640) / 0x20) (off % 0x20 / 4) v
  else if 0x700 ≤ off && off < 0x780 then
    let k := (off - 0x700) / 16
    match off % 16 with
    | 0 => s.codeWrite g l k (v % 2 ^ 16)
    | 4 => s.stageWrite g l k v
    | 8 => s.spanWrite g l k (v % 2)
    | _ => s
  else if off = 0x780 then s.modWrite g l v
  else if off = 0x784 then s.dacStatWrite g l v
  else if off = 0x7C0 || off = 0x7C4 then s.nibCtlWrite g l (slotBase g l + off) v
  else if off = 0x7C8 then s.nibStatWrite g l v
  else s.plainWrite (slotBase g l + off) v

/-- Does a lane-area offset lie in a broadcast window? (R487, R526, R611) -/
def inBroadcast (off : Nat) : Bool := off % 4 = 0 && (off < 0x680 || (0x700 ≤ off && off < 0x7C0))

/-- A write of a mapped register of a place. -/
def State.placeWrite (s : State) (p : Place) (off : Nat) (v : Word) : State :=
  match p with
  | .device => s.deviceWrite off v.toNat
  | .errata => s.errataWrite off v.toNat
  | .clocking => s.clockingWrite off v.toNat
  | .ruling => s.rulingWrite off v.toNat
  | .quill => s.quillWrite off v.toNat
  | .lectern => s.plainWrite (0x500000 + off) v.toNat
  | .copyist => s.copyistWrite off v.toNat
  | .vault => s.hostAccess 0 2 (0x700000 + off)
  | .debug => s.debugWrite off v.toNat
  | .scribe k => s.scribeWrite k off v.toNat
  | .marginalia k => s.margBlockWrite k off v
  | .blotter k => s.blotBlockWrite k off v
  | .store k => s.storeBlockWrite k off v.toNat
  | .octet g => s.octetWrite g off v
  | .laneArea g => s.plainWrite (laneBase g + off) v.toNat
  | .slot g l => s.slotWrite g l fun s l => s.slotReg g off v.toNat l
  | .bar4 | .unmapped => s

/-- Is a sector in OFF whose range a place lies in? (R71) -/
def State.placeOff (s : State) (p : Place) : Bool := p.sector.any fun k => s.modeOf k = mOff

/-- A 32-bit write of BAR0 (R24 to R26, R71, R487, R526, R610, R611, R849). -/
def State.bar0Write (s : State) (a : Nat) (v : Word) : State :=
  let p := whereIs a
  if a % 4 ≠ 0 then s.hostAccess 0 0 a
  else
    match rowAt a, p.1 with
    | some _, pl => if s.placeOff pl then s.hostAccess 0 2 a else s.placeWrite pl p.2 v
    | none, .laneArea g =>
      if inBroadcast p.2 then
        if s.modeOf (g / 8) = mOff then s.hostAccess 0 2 a
        else if 0x788 ≤ p.2 then s.hostAccess 0 1 a
        else s.eachSlot g fun s l => s.slotReg g p.2 v.toNat l
      else s.hostAccess 0 1 a
    | none, _ => s.hostAccess 0 1 a

/-- A write of the MSI-X table: unmasking a vector that is pending signals it (R857, R883). -/
def State.msixWrite (s : State) (off : Nat) (v : Word) : State :=
  let n := (off - 0x40000) / 16
  if off % 16 = 12 then
    if v.getLsbD 0 then { s with host := { s.host with msixUnmask := s.host.msixUnmask.filter (· ≠ n) } }
    else
      let s := { s with host := { s.host with msixUnmask := insertNew n s.host.msixUnmask } }
      if s.host.msixPba.contains n then State.signal { s with host := { s.host with msixPba := s.host.msixPba.filter (· ≠ n) } } n else s
  else s.wr (bar4Base + off) v

/-- A 32-bit write of BAR4 (R849, R857, R860, R862). What a write of `IMG.CTL` does is IMG_CHUNK, which brings what the boot ROM finds. -/
def State.bar4Write (s : State) (off : Nat) (v : Word) : State :=
  let a := bar4Base + off
  let r := off / 0x40
  if off % 4 ≠ 0 then s.hostAccess 2 0 off
  else if 0x80000 ≤ off then { s with host := { s.host with window := memWrs s.host.window (off - 0x80000) (leBytes 4 v.toNat) } }
  else if 0x40000 ≤ off && off < 0x41000 then s.msixWrite off v
  else if 0x41000 ≤ off && off < 0x41020 then s
  else if (rowAt a).isNone then s.hostAccess 2 1 off
  else if 0x200 ≤ off then s.plainWrite a v.toNat
  else
    match off % 0x40 with
    | 0x14 => s.sqTail r v.toNat
    | 0x1C => s.cqHead r v.toNat
    | 0x24 => s.ringCtl r v.toNat
    | o => if o ≤ 0x10 then s.ringConfig r a v.toNat else s.plainWrite a v.toNat

/-! ### Reads -/

/-- The HI register that a read of a LO register latches (R185, R241, R299, R366, R450, R706, R748, R858, R914, R983, R1022). -/
def latchedHi (a : Nat) : Option Nat :=
  let lo := match whereIs a with
    | (.device, off) => off = 0x8 || off = 0x10014 || off = 0x11014
    | (.errata, off) => off = 0xC0
    | (.clocking, off) => off = 0x18
    | (.ruling, off) => off = 0x8
    | (.quill, off) => off = 0x8
    | (.copyist, off) => decide (0x1000 ≤ off) && (off % 0x40 = 0x10 || off % 0x40 = 0x20)
    | (.scribe _, off) => off = 0x18
    | (.marginalia _, off) => off = 0x30 || off = 0x38 || off = 0x40 || off = 0x50 || (decide (0x1000 ≤ off) && off % 16 = 4)
    | (.blotter _, off) => decide (0x400 ≤ off) && off % 0x40 = 0x1C
    | (.octet _, off) => off = 0x88 || off = 0x90 || off = 0x1018 || off = 0x1080
    | _ => false
  if lo then some (a + 4) else none

/-- A read of slot 8 returns the spare's own registers (R769): while the spare serves a ball they stand in that ball's slot. -/
def State.slotAlias (s : State) (a : Nat) : Nat :=
  let to_ (g base stride : Nat) : Nat :=
    match (List.range 8).find? fun l => s.spareServes g l with
    | some l => a - (base + 8 * stride) + (base + l * stride)
    | none => a
  match whereIs a with
  | (.slot g 8, _) => to_ g (slotBase g 0) 0x800
  | (.octet g, off) => if off = 0x900 || off = 0x904 then to_ g (FE.CFG.reg g 0) 0x20 else a
  | _ => a

/-- ms until the wake timer fires; how a part of a ms rounds is left open (R1024). -/
def State.wakeIn (s : State) : Nat :=
  match s.quill.wakeAt with
  | some t =>
    let q := t - s.quill.qtick
    if q % 10 = 0 then q / 10 else q / 10 + Config.freeNat s.free % 2
  | none => 0

/-- The owner of an octet's Hairline (R720, R750). -/
def State.hlOwner (s : State) (g : Nat) : Nat :=
  let m := s.modeOf (g / 8)
  if m = mSetup || m = mRun then 2 else if m = mMeasure then (if (s.tdr g).lanes.isEmpty then 1 else 3) else if m = mCalibrate then 3 else 0

/-- Does a register show a quantity that the spec leaves open at each read: a measured voltage, a sampled level, a rounding? -/
def openOnRead (a : Nat) : Bool :=
  match whereIs a with
  | (.device, off) => decide (0x200 ≤ off) && decide (off < 0x240) && off % 8 = 4
  | (.quill, off) => off = 0x28
  | (.octet _, off) => decide (0x800 ≤ off) && decide (off < 0x920) && off % 0x20 = 4
  | _ => false

/-- The present value of a register, with what it shows of other state. -/
def State.present (s : State) (a : Nat) : Word :=
  let w := s.rd a
  match whereIs a with
  | (.device, off) =>
    if off = 0x80 then Word.withField w 8 8 (maskOf ((List.range 8).filter s.working))
    else if off = 0x180 then Word.withField (Word.withField w 8 8 s.quill.en) 0 8 s.quill.pg
    else if openOnRead a then (if s.modeOf ((off - 0x204) / 8) = mOff then w else Word.withField w 0 12 (Config.freeNat s.free))
    else w
  | (.quill, off) => if off = 0x28 then BitVec.ofNat 32 s.wakeIn else w
  | (.vault, off) =>
    if off = 0x18 then
      let below := s.get CAL.STAT.BELOW
      BitVec.ofNat 32 (b2n s.sealedOk * 2 ^ 31 + b2n (s.sealedOk && decide (below = 0)) * 2 ^ 30 + s.get CAL.CTL.CLASS * 2 ^ 16 + below)
    else w
  | (.octet g, off) =>
    if off = 0x1014 then Word.withField w 0 2 (s.hlOwner g)
    else if off = 0x2440 then Word.withField w 0 27 (s.ageMs g 8)
    else if 0x2420 ≤ off && off < 0x2440 then Word.withField w 0 27 (s.ageMs g (s.coreAt g ((off - 0x2420) / 4)))
    else if openOnRead a then Word.withField w 6 2 (Config.freeNat s.free)
    else w
  | _ => w

/-- What a read without side effects returns (R27, R1039): the present value, without the fields of code WO. -/
def State.peek (s : State) (a : Nat) : Word :=
  if s.placeOff (whereIs a).1 then resetOf a
  else
    match rowAt a with
    | some r => BitVec.ofNat 32 ((s.present (s.slotAlias a)).toNat &&& r.readMask)
    | none => 0

/-- The state after a read whose value the spec leaves open. -/
def State.tookFree (s : State) (a : Nat) : State := if openOnRead a then { s with free := s.free + 1 } else s

/-- The side effects of a read: a LO register latches its HI register, RC fields clear, the event FIFO loses its head (R25,
R29, R185, R370). -/
def State.readEffect (s : State) (a : Nat) : State :=
  if a = EVT.FIFO.reg then State.showFifo { s with ev := { s.ev with fifo := s.ev.fifo.tail } }
  else
    let s := match latchedHi a with
      | some hi => { s with latch := Tab.put (fun _ => 0) s.latch hi ((s.peek hi).toNat + 1) }
      | none => s
    let a := s.slotAlias a
    match rowAt a with
    | some r => if r.has .rc then s.wr a (BitVec.ofNat 32 ((s.rd a).toNat - ((s.rd a).toNat &&& r.rcMask))) else s
    | none => s

/-- A 32-bit read of BAR0: what it returns, and the state after it (R24, R25, R71, R487, R526, R611, R849). -/
def State.bar0Read (s : State) (a : Nat) : Word × State :=
  let p := whereIs a
  if a % 4 ≠ 0 then (0, s.hostAccess 0 0 a)
  else
    match rowAt a, p.1 with
    | some _, pl =>
      if s.placeOff pl then (resetOf a, s)
      else
        let h := Tab.get (fun _ => 0) s.latch a
        (if h = 0 then s.peek a else BitVec.ofNat 32 (h - 1), (s.readEffect a).tookFree a)
    | none, .laneArea _ => if inBroadcast p.2 then (0, s) else (0, s.hostAccess 0 1 a)
    | none, _ => (0, s.hostAccess 0 1 a)

/-- A 32-bit read of BAR4 (R849, R857). -/
def State.bar4Read (s : State) (off : Nat) : Word × State :=
  let a := bar4Base + off
  let n := (off - 0x40000) / 16
  if off % 4 ≠ 0 then (0, s.hostAccess 2 0 off)
  else if 0x80000 ≤ off then (BitVec.ofNat 32 (leNat (memRds s.host.window (off - 0x80000) 4)), s)
  else if 0x40000 ≤ off && off < 0x41000 then
    (if off % 16 = 12 then BitVec.ofNat 32 (b2n (!s.host.msixUnmask.contains n)) else s.rd a, s)
  else if 0x41000 ≤ off && off < 0x41020 then
    (BitVec.ofNat 32 (maskOf ((List.range 32).filter fun i => s.host.msixPba.contains (8 * (off - 0x41000) + i))), s)
  else if (rowAt a).isNone then (0, s.hostAccess 2 1 off)
  else (s.peek a, s)

/-! ### The commands -/

/-- A host access answers words. -/
def State.hostReads (s : State) (f : State → Word × State) : State := s.hostIn fun s => (f s).2.answers [(f s).1]

/-- An access outside every BAR completes with Unsupported Request (R849). -/
def State.unsupported (s : State) : State := s.hostIn fun s => { s with answer := { acked := false } }

/-- REGISTER_WRITE (R21, R25, R26, R71, R487, R526, R611, R849, R1087): a 32-bit write of BAR0, or of BAR4. -/
def execRegisterWrite (bar4 : Bool) (off : BitVec 26) (v : Word) (s : State) : Host.Outcome State Fault Refusal :=
  if !bar4 then .next (s.hostIn fun s => s.bar0Write off.toNat v)
  else if off.toNat < 0x100000 then .next (s.hostIn fun s => s.bar4Write off.toNat v)
  else .next s.unsupported

/-- NARROW_ACCESS (R24): nothing is written, a read returns 0, and the notice is raised. -/
def execNarrowAccess (bar4 : Bool) (off : BitVec 26) (write : Bool) (s : State) : Host.Outcome State Fault Refusal :=
  if bar4 && decide (0x100000 ≤ off.toNat) then .next s.unsupported
  else
    .next (s.hostIn fun s =>
      let s := s.hostAccess (if bar4 then 2 else 0) 0 off.toNat
      if write then s else s.answers [0])

/-- RC_READ (R25, R29): a host read of any register of BAR0 or BAR4, whose RC fields it clears. -/
def execRcRead (bar4 : Bool) (off : BitVec 26) (s : State) : Host.Outcome State Fault Refusal :=
  if !bar4 then .next (s.hostReads fun s => s.bar0Read off.toNat)
  else if off.toNat < 0x100000 then .next (s.hostReads fun s => s.bar4Read off.toNat)
  else .next s.unsupported

/-- LATCHING_LO_READ (R185): a host read of a LO register of BAR0. -/
def execLatchingLoRead (off : BitVec 26) (s : State) : Host.Outcome State Fault Refusal :=
  if (latchedHi off.toNat).isSome then .next (s.hostReads fun s => s.bar0Read off.toNat) else .next s

/-- RWL_WRITE (R25, R26, R820): a host write of a register with RWL fields. -/
def execRwlWrite (off : BitVec 26) (v : Word) (s : State) : Host.Outcome State Fault Refusal :=
  if (rowAt off.toNat).any (·.has .rwl) then .next (s.hostIn fun s => s.bar0Write off.toNat v) else .next s

/-- BROADCAST_WRITE (R487, R526, R611): a host write in a broadcast window of an octet's lane area. -/
def execBroadcastWrite (g : Octet) (off : BitVec 11) (v : Word) (s : State) : Host.Outcome State Fault Refusal :=
  if inBroadcast off.toNat then .next (s.hostIn fun s => s.bar0Write (laneBase g + off.toNat) v) else .next s

/-! ### The debug access port (R1036 to R1041) -/

/-- May a DAP request be issued? The DAP instruction is current, and the main domain runs (R1030). -/
def State.dapOn (s : State) : Bool := s.tapOn && s.mainOn && s.dbg.tapInstr = tiDap

/-- The outcome of a request. -/
def State.dapDone (s : State) (wa status data : Nat) : State := { s with dbg := { s.dbg with dapStatus := status, dapAddr := wa, dapData := data } }

/-- DAP_READ (R27, R1036, R1039, R1041). -/
def execDapRead (wa : BitVec 24) (s : State) : Host.Outcome State Fault Refusal :=
  if !s.dapOn then .next s
  else
    let a := 4 * wa.toNat
    let v := if s.dbgGated && (whereIs a).1 = .vault then 0 else (s.peek a).toNat
    .next ((s.tookFree a).dapDone wa.toNat 0 v)

/-- DAP_WRITE (R1036, R1040, R1041). -/
def execDapWrite (wa : BitVec 24) (v : Word) (s : State) : Host.Outcome State Fault Refusal :=
  if !s.dapOn then .next s
  else if s.dbgGated then .next ((s.set DEBUG.STATUS.DAP_REFUSED 1).dapDone wa.toNat 2 v.toNat)
  else .next ((s.bar0Write (4 * wa.toNat) v).dapDone wa.toNat 0 v.toNat)

/-- DEV_STATUS, command 0x002 (R874). -/
def execDevStatus (s : State) : Host.Outcome State Fault Refusal :=
  match s.start 0x002 with
  | none => .next s
  | some (p, s) =>
    let regs := DEV.MODE.reg :: ((List.range 8).map SMODE.CTL.reg ++ [DEV.SUPPLY.reg, CAL.STAT.reg])
    .next (s.reply p stDone (regs.map fun a => (32, (s.peek a).toNat)))

end Sys2Proof.Machine
end

