-- ==== Sys2Proof/Machine/Copyist.lean ====
section
/-! DEFINITION. The commands of the Copyist: control of its channels, the reading and handing back of descriptors, and the
instructions (R884 to R914). -/

namespace Sys2Proof.Machine
open Reg

/-! ### Control (R890, R907) -/

/-- CPY_GO (R886, R907): a write of `CH[c].CTL` with GO. -/
def execCpyGo (c : Channel) (v : Word) (s : State) : Host.Outcome State Fault Refusal := .next (s.cpyCtlWrite c (v.toNat ||| 2 ^ 31))

/-- CPY_ABORT (R907, R912): a write of `CH[c].CTL` with ABORT. -/
def execCpyAbort (c : Channel) (v : Word) (s : State) : Host.Outcome State Fault Refusal := .next (s.cpyCtlWrite c (v.toNat ||| 2 ^ 30))

/-- CPY_KICK (R890, R912): a write of `CH[c].CTL` with KICK. -/
def execCpyKick (c : Channel) (v : Word) (s : State) : Host.Outcome State Fault Refusal := .next (s.cpyCtlWrite c (v.toNat ||| 2 ^ 29))

/-- CPY_PAUSE (R907): a write of `CH[c].CTL`, whose PAUSE bit pauses or resumes the channel. -/
def execCpyPause (c : Channel) (v : Word) (s : State) : Host.Outcome State Fault Refusal := .next (s.cpyCtlWrite c v.toNat)

/-- CPY_POLL (R890). -/
def execCpyPoll (c : Channel) (s : State) : Host.Outcome State Fault Refusal :=
  let us := s.get CPY.CTL.POLL_US
  if s.chState c = cpEmpty && us ≠ 0 && decide ((s.chan c).at_ + usTicks us ≤ s.tick) then .next (s.setChState c cpFetch) else .next s

/-! ### Reading a descriptor (R887 to R890, R894) -/

/-- The descriptor in progress, which has not ended yet, has this operation. -/
def State.atOp (s : State) (c op : Nat) : Bool :=
  let x := s.chan c
  !x.desc.isEmpty && x.ended.isNone && x.op = op

/-- Is a reserved bit of W1 to W6 set? (R889) -/
def Chan.reservedSet (x : Chan) : Bool :=
  let zero (is : List Nat) : Bool := is.all fun i => x.w i = 0
  !(if x.op = cpMove then x.fld 1 0 16 = 0
    else if x.op = cpLoop then x.fld 1 0 27 = 0 && zero [3, 4, 5, 6]
    else if x.op = cpWaitOp then x.fld 1 9 19 = 0 && zero [3, 4, 5]
    else if x.op = cpSignal then x.fld 1 12 16 = 0 && zero [5, 6]
    else x.fld 1 0 28 = 0 && zero [2, 3, 4, 5, 6])

/-- A descriptor read with OWN = 1 is judged (R888, R889, R893, R907). A STOP waits in FETCH for its completion. -/
def State.takeDesc (s : State) (c : Nat) (ws : List Word) : State :=
  let s := s.onChan c fun x => { x with desc := (List.range 8).map fun i => ws.getD i 0, kicked := false, waited := 0 }
  let x := s.chan c
  if x.op = 0 || 8 ≤ x.op || (x.op = cpStop && !x.loops.isEmpty) then (s.setChState c cpExec).endDesc c stIllegal
  else if x.reservedSet then (s.setChState c cpExec).endDesc c stBadParam
  else if x.op = cpStop then s
  else if x.op = cpWaitOp then (s.onChan c fun x => { x with at_ := s.tick }).setChState c cpWait
  else s.setChState c cpExec

/-- A descriptor read with OWN = 0 (R890, R912). -/
def State.notOwned (s : State) (c : Nat) : State :=
  if (s.chan c).kicked then s.onChan c fun x => { x with kicked := false }
  else (s.onChan c fun x => { x with at_ := s.tick }).setChState c cpEmpty

/-- The words of a descriptor, or the status with which its read fails (R284, R904, R907), and what the read itself does. -/
def State.descWords (s : State) (c : Nat) (words : Option (List Word)) (e : MemErr) : (Nat ⊕ List Word) × State :=
  let pc := s.chPc c
  if s.get (CH.CTL.PSPACE c) = spHost then
    match words with
    | some ws => if s.host.linkUp then (.inr ws, s) else (.inl stLinkError, s.raise srcCpyLink)
    | none => (.inl stLinkError, s.raise srcCpyLink)
  else
    let ws := (List.range 8).map fun i => BitVec.ofNat 32 (leNat (s.bar2Bytes (pc + 4 * i) 4))
    match regionOf pc with
    | .stack _ _ => (if s.readBad pc 32 e then .inl stDataError else .inr ws, s.poisonRead pc 32 e)
    | .store _ _ _ => (if s.readBad pc 32 e then .inl stDataError else .inr ws, s.memError e)
    | .reserved => (.inr (List.replicate 8 0), s.hostAccess 1 1 pc)

/-- The ENDLOOP of a ring loop, once read, is not read again (R894). -/
def State.closeAt (s : State) (c : Nat) : Option (List Word) :=
  match (s.chan c).loops.head? with
  | some l => match l.close with
    | some (pc, ws) => if l.ring && pc = s.chPc c then some ws else none
    | none => none
  | none => none

/-- CPY_DESCRIPTOR_READ (R890, R894, R907): the words that the read of a HOST program brings, or none where it fails; a DEVICE
program is read from BAR2 memory, with what error correction finds. -/
def execCpyDescriptorRead (c : Channel) (words : Option (List Word)) (e : MemErr) (s : State) : Host.Outcome State Fault Refusal :=
  let x := s.chan c
  if s.chState c ≠ cpFetch || !x.desc.isEmpty then .next (s.lateReply c)
  else
    match s.closeAt c with
    | some ws => .next (s.takeDesc c ws)
    | none =>
      let r := s.descWords c words e
      match r.1 with
      | .inl st => .next (r.2.cpyStopErr c st)
      | .inr ws => .next (if (ws.getD 0 0).getLsbD 31 then r.2.takeDesc c ws else r.2.notOwned c)

/-! ### Instructions other than MOVE (R893 to R897) -/

/-- CPY_MOVE (R898, R900). -/
def execCpyMove (c : Channel) (s : State) : Host.Outcome State Fault Refusal :=
  if s.chState c = cpExec && s.atOp c cpMove && !(s.chan c).moving then .next (s.beginMove c) else .next s

/-- CPY_LOOP (R893, R894). -/
def execCpyLoop (c : Channel) (s : State) : Host.Outcome State Fault Refusal :=
  if s.chState c = cpExec && s.atOp c cpLoop then
    let x := s.chan c
    let ring := x.fld 1 27 1 = 1
    if 4 ≤ x.loops.length || (ring && !x.loops.isEmpty) then .next (s.endDesc c stIllegal)
    else
      let l : CpyLoop := { start := s.chPc c + 32, ring := ring, left := if ring then 1 else max 1 (x.w 2) }
      .next ((s.onChan c fun x => { x with loops := l :: x.loops, passes := if x.loops.isEmpty then [] else x.passes }).endDesc c stDone)
  else .next s

/-- CPY_ENDLOOP (R893, R894): a loop with passes left continues at its first body descriptor. -/
def execCpyEndloop (c : Channel) (s : State) : Host.Outcome State Fault Refusal :=
  if s.chState c = cpExec && s.atOp c cpEndloop then
    match (s.chan c).loops with
    | [] => .next (s.endDesc c stIllegal)
    | l :: t =>
      if l.ring then
        .next ((s.onChan c fun x => { x with loops := { l with close := some (s.chPc c, x.desc) } :: t, next := l.start, flush := true }).endDesc c stDone)
      else if 1 < l.left then
        .next ((s.onChan c fun x => { x with loops := { l with left := l.left - 1 } :: t, next := l.start }).endDesc c stDone)
      else .next ((s.onChan c fun x => { x with loops := t, flush := t.isEmpty }).endDesc c stDone)
  else .next s

/-- CPY_WAIT (R897): a WAIT whose code is pending ends at once. -/
def execCpyWait (c : Channel) (s : State) : Host.Outcome State Fault Refusal :=
  if s.chState c = cpWait && s.atOp c cpWaitOp then .next (s.endWaits ((s.chan c).fld 1 0 8)) else .next s

/-- CPY_WAIT_TIMEOUT (R897): PAUSED does not stop the timeout; a code that is pending ends the WAIT instead. -/
def execCpyWaitTimeout (c : Channel) (s : State) : Host.Outcome State Fault Refusal :=
  let x := s.chan c
  let waits := s.chState c = cpWait || (s.chState c = cpPaused && x.left = cpWait)
  if waits && s.atOp c cpWaitOp && x.w 2 ≠ 0 && decide (x.at_ + usTicks (x.w 2) ≤ s.tick) && !s.cpyPending (x.fld 1 0 8) then
    .next ((s.onChan c fun x => { x with waited := s.chWaited c }).endDesc c stWaitTimeout)
  else .next s

/-- An access of register space by the Copyist: Errata records it as such (R885, R983). -/
def State.asCopyist {α : Type} (s : State) (f : State → α × State) : α × State :=
  let r := f { s with host := { s.host with via := 3 } }
  (r.1, { r.2 with host := { r.2.host with via := 0 } })

/-- Which port of bank 0 a channel uses: A as owner, B as guest (R925). -/
def State.chanIsGuest (s : State) (c k b : Nat) : Bool := b = 0 && s.owner k b ≠ owChannel c && s.get (SS.GUEST.CODE k) = owChannel c

/-- A channel's write of bytes that lie in one bank of a sector store (R926). -/
def State.chanStoreWrite (s : State) (c k b off : Nat) (bs : List Byte) (m : Meeting) : State :=
  let put (s : State) : State := s.bar2Puts off (bs.map some)
  if b ≠ 0 || m = .none then put s
  else if s.chanIsGuest c k b then
    if m = .write then s.set (SS.STAT.WRITE_LOST k) 1
    else (((put s).set (SS.STAT.BUSY_B k) 1).set (SS.STAT.DP_UNDEF k) 1).raise (srcSsDpUndef k)
  else if m = .write then (put s).set (SS.STAT.WRITE_LOST k) 1
  else (put s).set (SS.STAT.BUSY_B k) 1

/-- A channel writes bytes at an address of a space: the status with which the write fails, if it does (R252, R885, R903,
R904). -/
def State.chanWrite (s : State) (c space a : Nat) (bs : List Byte) (hostOk : Bool) (e : MemErr) (m : Meeting) : Option Nat × State :=
  if space = spHost then
    if s.host.linkUp && hostOk then (none, (s.toHost a bs).onChan c fun x => { x with toHost := true }) else (some stLinkError, s)
  else if space = spRegister then
    (none, (s.asCopyist fun s => ((), s.bar0Write a (BitVec.ofNat 32 (leNat bs)))).2)
  else
    match regionOf a with
    | .stack w addr =>
      if (s.lockedBy w addr).isSome then (some stBusy, s)
      else (none, s.each (wordPieces (bs.length + 1) a (bs.map some)) fun s p => s.stackWordWrite p.1 p.2 e)
    | .store k b _ => (none, s.chanStoreWrite c k b a bs m)
    | .reserved => (none, s)

/-- Why the write of a SIGNAL cannot be made (R885, R889, R898, R902, R905), in the order of R898. -/
def State.signalBad (s : State) (c : Nat) : Option Nat :=
  let x := s.chan c
  let space := x.fld 1 10 2
  let a := x.wide 2
  if space = spVault || (isBulk c && space = spRegister) || shutRegs space a 4 then some stBadParam
  else if a % 4 ≠ 0 then some stMisaligned
  else if outOfSpace space a 4 || (space = spDevice && decide (regionOf a = .reserved)) then some stAddress
  else s.bankRefuses c (bankOf space a)

/-- The failing address of R903 and R904. -/
def State.errAddr (s : State) (c a : Nat) : State := s.set64 (CH.ERR_ADDR_LO.reg c) (CH.ERR_ADDR_HI.reg c) a

/-- A descriptor's access has failed at an address (R903, R904). -/
def State.accessFails (s : State) (c st a : Nat) : State :=
  let s := s.errAddr c a
  if st = stLinkError then s.raise srcCpyLink else s

/-- CPY_SIGNAL (R897): the write, then the post. -/
def execCpySignal (c : Channel) (s : State) : Host.Outcome State Fault Refusal :=
  if s.chState c = cpExec && s.atOp c cpSignal then
    let x := s.chan c
    let post (s : State) : State := if x.fld 1 8 1 = 1 then s.post (x.fld 1 0 8) evHost (1024 * s.tick) true else s
    if x.fld 1 9 1 = 0 then .next ((post s).endDesc c stDone)
    else
      match s.signalBad c with
      | some st => .next (s.endDesc c st)
      | none =>
        let r := s.chanWrite c (x.fld 1 10 2) (x.wide 2) (leBytes 4 (x.w 4)) true .none .none
        match r.1 with
        | some st => .next ((r.2.accessFails c st (x.wide 2)).endDesc c st)
        | none => .next ((post r.2).endDesc c stDone)
  else .next s

/-- CPY_FENCE (R896): only earlier writes to host memory are still under way. -/
def execCpyFence (c : Channel) (s : State) : Host.Outcome State Fault Refusal :=
  if s.chState c = cpExec && s.atOp c cpFence && !(s.chan c).fencing then
    if (s.chan c).toHost then .next (s.onChan c fun x => { x with fencing := true }) else .next (s.endDesc c stDone)
  else .next s

/-- CPY_FENCE_DONE (R896, R904, R910): the read completes, or fails. -/
def execCpyFenceDone (c : Channel) (ok : Bool) (s : State) : Host.Outcome State Fault Refusal :=
  if (s.chan c).fencing then .next (if ok then s.endDesc c stDone else (s.raise srcCpyLink).endDesc c stLinkError)
  else .next (s.lateReply c)

/-- CPY_STOP (R897, R907, R912). -/
def execCpyStop (c : Channel) (s : State) : Host.Outcome State Fault Refusal :=
  if s.chState c = cpFetch && s.atOp c cpStop then
    let s := (s.writeBack c (s.recOf c stDone)).set (CH.STAT.LAST c) stDone
    .next ((s.cpyNotify fun s => s.set CPY.DONE.DONE (s.get CPY.DONE.DONE ||| 2 ^ c.val)).setIdle c)
  else .next s

/-! ### Segments of a MOVE (R899 to R904) -/

/-- An uncorrectable word, where it lies in the bytes from an offset. -/
def errHere (off n : Nat) (e : MemErr) : MemErr :=
  match e with
  | .uncorrectable at_ _ => if off / 32 ≤ at_ / 32 && at_ < off + n then e else .none
  | _ => .none

/-- A source unit is read: the status with which the read fails, or its bytes; `got` bytes of the segment came before it
(R899, R904, R926). -/
def State.readUnit (s : State) (c : Nat) (io : SegIo) (got : Nat) : Option Nat × List Byte × State :=
  let x := s.chan c
  let n := sunit c x
  let a := s.srcAt c
  if x.sspace = spHost then
    if !s.host.linkUp || io.hostFails.any (fun i => decide (got ≤ i) && decide (i < got + n)) then (some stLinkError, [], s)
    else (none, (List.range n).map fun i => io.data.getD (got + i) 0, s)
  else if x.sspace = spRegister then
    let r := s.asCopyist fun s => s.bar0Read a
    (none, leBytes 4 r.1.toNat, r.2)
  else
    let e := errHere a n io.err
    match regionOf a with
    | .stack _ _ => if s.readBad a n e then (some stDataError, [], s.poisonRead a n e) else (none, s.bar2Bytes a n, s)
    | .store k b _ =>
      if b = 0 && io.src = .write && s.chanIsGuest c k b then (none, s.bar2Bytes a n, s.set (SS.STAT.BUSY_B k) 1)
      else if b = 0 && io.src = .write then
        (some stDataError, [], ((s.set (SS.STAT.DP_UNDEF k) 1).set (SS.STAT.BUSY_B k) 1).raise (srcSsDpUndef k))
      else if s.readBad a n e then (some stDataError, [], s.memError e)
      else (none, s.bar2Bytes a n, s)
    | .reserved => (none, List.replicate n 0, s)

/-- How a segment ends: at a boundary, with the MOVE, or with a status at an address. -/
inductive SegEnd where
  | boundary
  | finished
  | failed (status addr : Nat)
deriving DecidableEq, Repr

/-- A segment copies unit by unit through the holding register, up to a 4 KiB boundary of the source or the destination
(R899). -/
def State.copySegment (s : State) (c : Nat) (io : SegIo) : Nat → Nat → Nat → SegEnd × State
  | 0, _, _ => (.boundary, s)
  | fuel + 1, got, put =>
    let x := s.chan c
    let done := s.chDone c
    let du := dunit c x
    if x.len ≤ done then (.finished, s)
    else if du ≤ x.hold.length then
      let a := s.dstAt c
      let ok := !(io.hostFails.any fun i => decide (put ≤ i) && decide (i < put + du))
      let r := s.chanWrite c x.dspace a (x.hold.take du) ok (errHere a du io.err) io.dst
      match r.1 with
      | some st => (.failed st a, r.2)
      | none =>
        let s := (r.2.set (CH.DONE_BYTES.BYTES c) (done + du)).onChan c fun x => { x with hold := x.hold.drop du }
        if !x.dfix && (a + du) % 4096 = 0 && done + du < x.len then (.boundary, s) else s.copySegment c io fuel got (put + du)
    else if !x.sfix && 0 < got && s.srcAt c % 4096 = 0 then (.boundary, s)
    else
      let r := s.readUnit c io got
      match r.1 with
      | some st => (.failed st (s.srcAt c), r.2.2)
      | none =>
        let n := sunit c x
        (r.2.2.onChan c fun x => { x with read := x.read + n, hold := x.hold ++ r.2.1 }).copySegment c io fuel (got + n) put

/-- The fabric lane that a segment uses (R1048): that of a sector whose store it names, else the central block's. -/
def State.segLink (s : State) (c : Nat) : Nat :=
  match bankOf (s.chan c).dspace (s.dstAt c), bankOf (s.chan c).sspace (s.srcAt c) with
  | some b, _ => sectorLink (b / 16) 3
  | none, some b => sectorLink (b / 16) 3
  | none, none => 0x60

/-- A corrected word that the segment read is counted (R283, R935). -/
def State.countCorrected (s : State) (e : MemErr) : State :=
  match e with
  | .corrected _ _ => s.memError e
  | _ => s

/-- A segment has ended, and the MOVE goes on: its reservations are released, waiting channels are granted, and it asks for its
next destination, unless it pauses (R900, R901, R907). -/
def State.nextSegment (s : State) (c : Nat) : State :=
  let s := ((s.freeBanks c).freeYields).grantWaiting
  if (s.chan c).pausing then
    (s.onChan c fun x => { x with left := cpExec, pausing := false }).setChState c cpPaused
  else s.askDst c

/-- CPY_SEGMENT_DONE (R899 to R904, R910, R1051): the segment of a channel that holds its banks is carried out; a reply that a
reset left outstanding is discarded. -/
def execCpySegmentDone (c : Channel) (io : SegIo) (s : State) : Host.Outcome State Fault Refusal :=
  let s := s.cpyAdvance
  let x := s.chan c
  if !(s.movingNow c && x.dstHeld && x.srcHeld) then .next (s.lateReply c)
  else
    let t := s.transfer (s.segLink c)
    if !t.1 then .next t.2
    else
      let r := (t.2.countCorrected io.err).copySegment c io (2 * x.len + 2) 0 0
      let delayed := decide (r.2.rd (CH.COUNTS.reg c) ≠ 0)
      match r.1 with
      | .boundary => .next (r.2.nextSegment c)
      | .finished => .next (((r.2.endMove c (if delayed then stDoneDelayed else stDone)).freeYields).grantWaiting)
      | .failed st a => .next ((((r.2.accessFails c st a).endMove c st).freeYields).grantWaiting)

/-- The channels of a mutual hold, from a channel on: each waits for a source bank that the next holds (R901). -/
def State.holdChain (s : State) (first c : Nat) : Nat → List Nat
  | 0 => []
  | n + 1 =>
    let x := s.chan c
    if s.movingNow c && x.dstHeld && x.waitsSrc then
      match (s.srcBank c).bind (s.holderOf c) with
      | some d => if d = first then [c] else c :: s.holdChain first d n
      | none => [32]
    else [32]

/-- CPY_MUTUAL_HOLD (R901): the highest-numbered channel of a mutual hold yields. -/
def execCpyMutualHold (c : Channel) (s : State) : Host.Outcome State Fault Refusal :=
  let l := s.holdChain c c 32
  if !l.isEmpty && l.all fun d => decide (d ≤ c.val) then
    let to_ := (s.srcBank c).bind (s.holderOf c)
    let s := (s.bump (CH.COUNTS.YIELDED c) 1).freeBanks c
    .next ((s.onChan c fun x => { x with yieldTo := to_ }).grantWaiting)
  else .next s

/-! ### Handing back (R891 to R895, R906, R912) -/

/-- Does a record belong to the body of a ring loop? Its LOOP and ENDLOOP stay until the channel stops (R894). -/
def inBody (l : CpyLoop) (e : CpyRec) : Bool := decide (l.start ≤ e.pc) && (l.close.map (·.1)) ≠ some e.pc

/-- Records written back in program order. -/
def State.writeRecs (s : State) (c : Nat) (es : List CpyRec) : State := s.each es fun s e => s.writeBack c e

/-- A descriptor that ended with DONE or DONE_DELAYED is written back now, or kept until its outermost loop, or the pass of
its ring loop, ends (R891, R892, R894). -/
def State.handBack (s : State) (c status : Nat) : State :=
  let x := s.chan c
  let e := s.recOf c status
  if x.loops.isEmpty && !x.flush then s.writeBack c e
  else
    let recs := enterRec e x.recs
    let pass := Tab.put (fun _ => 0) x.passes e.pc (x.pass e.pc + 1)
    let s := s.onChan c fun x => { x with passes := pass }
    if !x.flush then s.onChan c fun x => { x with recs := recs }
    else
      match x.loops.head? with
      | none => (s.writeRecs c recs).onChan c fun x => { x with recs := [] }
      | some l =>
        let s := s.writeRecs c (recs.filter fun r => r.due && inBody l r)
        s.onChan c fun x => { x with recs := recs.map fun r => if inBody l r then { r with due := false } else r }

/-- The channel goes on to the next descriptor (R906, R907). -/
def State.nextDesc (s : State) (c : Nat) : State :=
  let x := s.chan c
  let s := s.setPc c (if x.next = 0 then s.chPc c + 32 else x.next)
  (s.onChan c fun x => { x with desc := [], ended := none, next := 0, flush := false }).setChState c cpFetch

/-- A MOVE of PAT_LOAD has ended well: the next one, or the end of the command (R875). -/
def State.loadNext (s : State) (c status : Nat) : State :=
  match s.loadJob (c - 24) with
  | some j =>
    let lines := s.chDone c / 40
    if j.mask + lines < j.packet.arg 2 then
      let j' := { j with mask := j.mask + lines, delay := j.delay + s.get (CH.COUNTS.DELAY c) }
      (s.updateJob j j').loadMove (c - 24) j'
    else (s.set (CH.STAT.LAST c) status).setIdle c
  | none => (s.set (CH.STAT.LAST c) status).setIdle c

/-- The descriptor that ended as ABORT was written: the channel stops with no error (R912); a ring loop's LOOP and ENDLOOP are
written back with it (R894). -/
def State.stopAborted (s : State) (c status : Nat) : State :=
  let x := s.chan c
  let ends := match x.loops.getLast? with
    | some l => if l.ring then x.recs.filter fun r => !inBody l r && decide (r.pc ≠ s.chPc c) else []
    | none => []
  ((s.writeRecs c (enterRec (s.recOf c status) ends)).set (CH.STAT.LAST c) status).setIdle c

/-- CPY_WRITEBACK (R891 to R895, R906, R912). -/
def execCpyWriteback (c : Channel) (s : State) : Host.Outcome State Fault Refusal :=
  let x := s.chan c
  if !(s.chState c = cpExec || s.chState c = cpWait) then .next s
  else
    match x.ended with
    | none => .next s
    | some st =>
      if st ≠ stDone && st ≠ stDoneDelayed then .next (s.stopDesc c st true)
      else if s.lecHolds c then .next (s.loadNext c st)
      else if x.aborted then .next (s.stopAborted c st)
      else .next (((s.handBack c st).set (CH.STAT.LAST c) st).nextDesc c)

end Sys2Proof.Machine
end

