-- ==== Sys2Proof/Machine/Dispatch.lean ====
section
/-! DEFINITION. The dispatch of a command to its meaning, one arm per constructor. -/

namespace Sys2Proof.Machine

def exec (i : Instr) (s : State) : Host.Outcome State Fault Refusal :=
  match i with
  | .registerWrite bar4 off v => Sys2Proof.Machine.execRegisterWrite bar4 off v s
  | .narrowAccess bar4 off write => Sys2Proof.Machine.execNarrowAccess bar4 off write s
  | .rcRead bar4 off => Sys2Proof.Machine.execRcRead bar4 off s
  | .latchingLoRead off => Sys2Proof.Machine.execLatchingLoRead off s
  | .rwlWrite off v => Sys2Proof.Machine.execRwlWrite off v s
  | .modeReq k req => Sys2Proof.Machine.execModeReq k req s
  | .modeTransitionDone k => Sys2Proof.Machine.execModeTransitionDone k s
  | .safeEnter k => Sys2Proof.Machine.execSafeEnter k s
  | .safeExit k => Sys2Proof.Machine.execSafeExit k s
  | .vauxInRange addr1 addr0 => Sys2Proof.Machine.execVauxInRange addr1 addr0 s
  | .powerUpStart => Sys2Proof.Machine.execPowerUpStart s
  | .pgRise n => Sys2Proof.Machine.execPgRise n s
  | .railGroupRaise => Sys2Proof.Machine.execRailGroupRaise s
  | .pgTimeout => Sys2Proof.Machine.execPgTimeout s
  | .mainPorEnd bootSel table => Sys2Proof.Machine.execMainPorEnd bootSel table s
  | .startupStepEnd w => Sys2Proof.Machine.execStartupStepEnd w s
  | .pgLoss lost us counts => Sys2Proof.Machine.execPgLoss lost us counts s
  | .powerDownStep => Sys2Proof.Machine.execPowerDownStep s
  | .supplySupervisorTrip vaux => Sys2Proof.Machine.execSupplySupervisorTrip vaux s
  | .sregUv k => Sys2Proof.Machine.execSregUv k s
  | .sregOc k => Sys2Proof.Machine.execSregOc k s
  | .refMeasDone fkHz => Sys2Proof.Machine.execRefMeasDone fkHz s
  | .pllLockDeclared ahead => Sys2Proof.Machine.execPllLockDeclared ahead s
  | .pllEntryTimeout => Sys2Proof.Machine.execPllEntryTimeout s
  | .lossOfReference mean => Sys2Proof.Machine.execLossOfReference mean s
  | .lossOfLock mean => Sys2Proof.Machine.execLossOfLock mean s
  | .bandMargin w => Sys2Proof.Machine.execBandMargin w s
  | .autoReband => Sys2Proof.Machine.execAutoReband s
  | .coastLimitExpire => Sys2Proof.Machine.execCoastLimitExpire s
  | .refclkQualified => Sys2Proof.Machine.execRefclkQualified s
  | .relockTimeout => Sys2Proof.Machine.execRelockTimeout s
  | .relockWrite => Sys2Proof.Machine.execRelockWrite s
  | .pllRestartWrite => Sys2Proof.Machine.execPllRestartWrite s
  | .bandEntryWrite k w v => Sys2Proof.Machine.execBandEntryWrite k w v s
  | .anchorAdopt k => Sys2Proof.Machine.execAnchorAdopt k s
  | .tllUpdate k e up => Sys2Proof.Machine.execTllUpdate k e up s
  | .clkoutGo align => Sys2Proof.Machine.execClkoutGo align s
  | .clkoutCycleEnd n => Sys2Proof.Machine.execClkoutCycleEnd n s
  | .clkoutUpdateInstant => Sys2Proof.Machine.execClkoutUpdateInstant s
  | .rulRoleWrite role => Sys2Proof.Machine.execRulRoleWrite role s
  | .rulTrained hops => Sys2Proof.Machine.execRulTrained hops s
  | .rulTrainTimeout => Sys2Proof.Machine.execRulTrainTimeout s
  | .rulLinkLost => Sys2Proof.Machine.execRulLinkLost s
  | .rulBrokenRecover => Sys2Proof.Machine.execRulBrokenRecover s
  | .rulFrameIdle f arrive => Sys2Proof.Machine.execRulFrameIdle f arrive s
  | .rulFrameAnchor f arrive => Sys2Proof.Machine.execRulFrameAnchor f arrive s
  | .rulFrameStart f arrive => Sys2Proof.Machine.execRulFrameStart f arrive s
  | .rulFrameEvent f arrive => Sys2Proof.Machine.execRulFrameEvent f arrive s
  | .rulFrameCond f arrive => Sys2Proof.Machine.execRulFrameCond f arrive s
  | .rulFrameDecide f arrive => Sys2Proof.Machine.execRulFrameDecide f arrive s
  | .rulFrameHalt f arrive => Sys2Proof.Machine.execRulFrameHalt f arrive s
  | .rulFrameDeskew f arrive => Sys2Proof.Machine.execRulFrameDeskew f arrive s
  | .rulFrameHopval f arrive => Sys2Proof.Machine.execRulFrameHopval f arrive s
  | .rulFrameFault f arrive => Sys2Proof.Machine.execRulFrameFault f arrive s
  | .rulFrameMeas f arrive => Sys2Proof.Machine.execRulFrameMeas f arrive s
  | .rulFrameBad reserved => Sys2Proof.Machine.execRulFrameBad reserved s
  | .rulFrameForward => Sys2Proof.Machine.execRulFrameForward s
  | .rulFrameSend mark => Sys2Proof.Machine.execRulFrameSend mark s
  | .rulMeasSend => Sys2Proof.Machine.execRulMeasSend s
  | .rulAnchorSend => Sys2Proof.Machine.execRulAnchorSend s
  | .deskewGo => Sys2Proof.Machine.execDeskewGo s
  | .rulDeskewEnd dots cause => Sys2Proof.Machine.execRulDeskewEnd dots cause s
  | .chainStartInstant => Sys2Proof.Machine.execChainStartInstant s
  | .chainEventDeliver => Sys2Proof.Machine.execChainEventDeliver s
  | .chainHaltInstant => Sys2Proof.Machine.execChainHaltInstant s
  | .decideDegraded => Sys2Proof.Machine.execDecideDegraded s
  | .bar2Read off n e m => Sys2Proof.Machine.execBar2Read off n e m s
  | .bar2Write off data e m => Sys2Proof.Machine.execBar2Write off data e m s
  | .psWindowWrite k j v => Sys2Proof.Machine.execPsWindowWrite k j v s
  | .raCfgWrite k v => Sys2Proof.Machine.execRaCfgWrite k v s
  | .fetchIssue k g body again => Sys2Proof.Machine.execFetchIssue k g body again s
  | .fetchComplete k g e => Sys2Proof.Machine.execFetchComplete k g e s
  | .stackTempRead w t => Sys2Proof.Machine.execStackTempRead w t s
  | .pprSoftRepair w => Sys2Proof.Machine.execPprSoftRepair w s
  | .scribeStart k => Sys2Proof.Machine.execScribeStart k s
  | .scribeStop k => Sys2Proof.Machine.execScribeStop k s
  | .primingDone k => Sys2Proof.Machine.execPrimingDone k s
  | .primingStop k => Sys2Proof.Machine.execPrimingStop k s
  | .paceBoundary k => Sys2Proof.Machine.execPaceBoundary k s
  | .nextLine k => Sys2Proof.Machine.execNextLine k s
  | .rptLine k => Sys2Proof.Machine.execRptLine k s
  | .loopLine k => Sys2Proof.Machine.execLoopLine k s
  | .endlLine k => Sys2Proof.Machine.execEndlLine k s
  | .jmpLine k => Sys2Proof.Machine.execJmpLine k s
  | .callLine k => Sys2Proof.Machine.execCallLine k s
  | .retLine k => Sys2Proof.Machine.execRetLine k s
  | .matchLine k => Sys2Proof.Machine.execMatchLine k s
  | .brLine k => Sys2Proof.Machine.execBrLine k s
  | .sigLine k => Sys2Proof.Machine.execSigLine k s
  | .waitsLine k => Sys2Proof.Machine.execWaitsLine k s
  | .setpLine k => Sys2Proof.Machine.execSetpLine k s
  | .markLine k => Sys2Proof.Machine.execMarkLine k s
  | .haltLine k => Sys2Proof.Machine.execHaltLine k s
  | .idxjLine k => Sys2Proof.Machine.execIdxjLine k s
  | .ldcntLine k => Sys2Proof.Machine.execLdcntLine k s
  | .decbrLine k => Sys2Proof.Machine.execDecbrLine k s
  | .ensyncLine k => Sys2Proof.Machine.execEnsyncLine k s
  | .decisionResolve k => Sys2Proof.Machine.execDecisionResolve k s
  | .decisionLanding k => Sys2Proof.Machine.execDecisionLanding k s
  | .drainEnd k => Sys2Proof.Machine.execDrainEnd k s
  | .ensembleStop k => Sys2Proof.Machine.execEnsembleStop k s
  | .ensWrite k v => Sys2Proof.Machine.execEnsWrite k v s
  | .evtPost code => Sys2Proof.Machine.execEvtPost code s
  | .evtioInputEdge n level => Sys2Proof.Machine.execEvtioInputEdge n level s
  | .eventDeliver => Sys2Proof.Machine.execEventDeliver s
  | .evtioOutputEdge n => Sys2Proof.Machine.execEvtioOutputEdge n s
  | .evtioPulseEnd n => Sys2Proof.Machine.execEvtioPulseEnd n s
  | .evtFifoRead => Sys2Proof.Machine.execEvtFifoRead s
  | .pencilSlotAssign k => Sys2Proof.Machine.execPencilSlotAssign k s
  | .pencilLineStaged k pencilled => Sys2Proof.Machine.execPencilLineStaged k pencilled s
  | .ptHiCommit g e v => Sys2Proof.Machine.execPtHiCommit g e v s
  | .periodChangeEffect g => Sys2Proof.Machine.execPeriodChangeEffect g s
  | .octetVectorBoundary g => Sys2Proof.Machine.execOctetVectorBoundary g s
  | .driveInstant g l => Sys2Proof.Machine.execDriveInstant g l s
  | .strobeInstant g l j codes => Sys2Proof.Machine.execStrobeInstant g l j codes s
  | .tsStageWrite g l t w v => Sys2Proof.Machine.execTsStageWrite g l t w v s
  | .tsCommit g l t v => Sys2Proof.Machine.execTsCommit g l t v s
  | .broadcastWrite g off v => Sys2Proof.Machine.execBroadcastWrite g off v s
  | .correctionSetApply g l => Sys2Proof.Machine.execCorrectionSetApply g l s
  | .overcurrentTrip g l => Sys2Proof.Machine.execOvercurrentTrip g l s
  | .ocShutdownFail g l => Sys2Proof.Machine.execOcShutdownFail g l s
  | .ocClear g l => Sys2Proof.Machine.execOcClear g l s
  | .overVoltage g l => Sys2Proof.Machine.execOverVoltage g l s
  | .ovClear g l => Sys2Proof.Machine.execOvClear g l s
  | .loadCompliance g l => Sys2Proof.Machine.execLoadCompliance g l s
  | .forceIsoWrite g v => Sys2Proof.Machine.execForceIsoWrite g v s
  | .feCfgWrite g l v => Sys2Proof.Machine.execFeCfgWrite g l v s
  | .handoverSwitch g fail => Sys2Proof.Machine.execHandoverSwitch g fail s
  | .dacCodeWrite g l k code => Sys2Proof.Machine.execDacCodeWrite g l k code s
  | .dacStageWrite g l k v => Sys2Proof.Machine.execDacStageWrite g l k v s
  | .levelBatchApply g => Sys2Proof.Machine.execLevelBatchApply g s
  | .dacSpanWrite g l k span => Sys2Proof.Machine.execDacSpanWrite g l k span s
  | .spanChangeDone g l => Sys2Proof.Machine.execSpanChangeDone g l s
  | .dacHoldEnd g l k => Sys2Proof.Machine.execDacHoldEnd g l k s
  | .dacMonitorFault g l k => Sys2Proof.Machine.execDacMonitorFault g l k s
  | .dacParkStart g l => Sys2Proof.Machine.execDacParkStart g l s
  | .sineGo => Sys2Proof.Machine.execSineGo s
  | .sineStart => Sys2Proof.Machine.execSineStart s
  | .sineSample g => Sys2Proof.Machine.execSineSample g s
  | .sineStopWrite g => Sys2Proof.Machine.execSineStopWrite g s
  | .vectorResolve k => Sys2Proof.Machine.execVectorResolve k s
  | .margRecordWrite k => Sys2Proof.Machine.execMargRecordWrite k s
  | .margRunOpen k => Sys2Proof.Machine.execMargRunOpen k s
  | .margRunClose k => Sys2Proof.Machine.execMargRunClose k s
  | .margRptrWrite k v => Sys2Proof.Machine.execMargRptrWrite k v s
  | .margClr k => Sys2Proof.Machine.execMargClr k s
  | .blotRecordForm k o p samples => Sys2Proof.Machine.execBlotRecordForm k o p samples s
  | .triggerFire k p codes => Sys2Proof.Machine.execTriggerFire k p codes s
  | .maskViolation k m pin j back codes => Sys2Proof.Machine.execMaskViolation k m pin j back codes s
  | .folioMark k => Sys2Proof.Machine.execFolioMark k s
  | .blotResolutionChange k => Sys2Proof.Machine.execBlotResolutionChange k s
  | .blotDecimationStart k => Sys2Proof.Machine.execBlotDecimationStart k s
  | .blotDecimationEnd k p => Sys2Proof.Machine.execBlotDecimationEnd k p s
  | .blotRecordDrain k => Sys2Proof.Machine.execBlotRecordDrain k s
  | .blotCaptureEnd k => Sys2Proof.Machine.execBlotCaptureEnd k s
  | .blotDisarm k => Sys2Proof.Machine.execBlotDisarm k s
  | .blotRptrWrite k v => Sys2Proof.Machine.execBlotRptrWrite k v s
  | .maskCommit k m v => Sys2Proof.Machine.execMaskCommit k m v s
  | .blotRunOpen k => Sys2Proof.Machine.execBlotRunOpen k s
  | .hlGo g v => Sys2Proof.Machine.execHlGo g v s
  | .hlCalDone g one two => Sys2Proof.Machine.execHlCalDone g one two s
  | .hlShotEnd g start stops => Sys2Proof.Machine.execHlShotEnd g start stops s
  | .hlStartTimeout g => Sys2Proof.Machine.execHlStartTimeout g s
  | .hlFreqGateEnd g n dt near => Sys2Proof.Machine.execHlFreqGateEnd g n dt near s
  | .hlAbort g => Sys2Proof.Machine.execHlAbort g s
  | .hlSelfcheckStart g => Sys2Proof.Machine.execHlSelfcheckStart g s
  | .hlSelfcheckEnd g pass => Sys2Proof.Machine.execHlSelfcheckEnd g pass s
  | .tdrGo g v => Sys2Proof.Machine.execTdrGo g v s
  | .tdrPhaseEnd g ph => Sys2Proof.Machine.execTdrPhaseEnd g ph s
  | .dcConnectWrite g v => Sys2Proof.Machine.execDcConnectWrite g v s
  | .dcPathClosed g => Sys2Proof.Machine.execDcPathClosed g s
  | .dcDisconnectWrite g v => Sys2Proof.Machine.execDcDisconnectWrite g v s
  | .dcMeasureGo g v => Sys2Proof.Machine.execDcMeasureGo g v s
  | .dcMeasureDone g volts amps => Sys2Proof.Machine.execDcMeasureDone g volts amps s
  | .dcClampComply g => Sys2Proof.Machine.execDcClampComply g s
  | .dcSelftestStart g write => Sys2Proof.Machine.execDcSelftestStart g write s
  | .dcSelftestEnd g pass => Sys2Proof.Machine.execDcSelftestEnd g pass s
  | .dcQueueTimeout g => Sys2Proof.Machine.execDcQueueTimeout g s
  | .rotCycleStart g => Sys2Proof.Machine.execRotCycleStart g s
  | .rotMirrorDone g => Sys2Proof.Machine.execRotMirrorDone g s
  | .rotMatchTryEnd g pass => Sys2Proof.Machine.execRotMatchTryEnd g pass s
  | .rotSeamTimeout g => Sys2Proof.Machine.execRotSeamTimeout g s
  | .rotRunEnd g e => Sys2Proof.Machine.execRotRunEnd g e s
  | .calTempSample k reading => Sys2Proof.Machine.execCalTempSample k reading s
  | .calRecompute k => Sys2Proof.Machine.execCalRecompute k s
  | .calAgeClassChange g => Sys2Proof.Machine.execCalAgeClassChange g s
  | .rotSummary k => Sys2Proof.Machine.execRotSummary k s
  | .rotCtlWrite g v => Sys2Proof.Machine.execRotCtlWrite g v s
  | .tamperDetect => Sys2Proof.Machine.execTamperDetect s
  | .sqDoorbell r v => Sys2Proof.Machine.execSqDoorbell r v s
  | .commandRead r header params => Sys2Proof.Machine.execCommandRead r header params s
  | .commandStale => Sys2Proof.Machine.execCommandStale s
  | .replyWrite r => Sys2Proof.Machine.execReplyWrite r s
  | .replyCoalesceTimer r => Sys2Proof.Machine.execReplyCoalesceTimer r s
  | .cqHeadWrite r v => Sys2Proof.Machine.execCqHeadWrite r v s
  | .ringCtlWrite r v => Sys2Proof.Machine.execRingCtlWrite r v s
  | .functionLevelReset => Sys2Proof.Machine.execFunctionLevelReset s
  | .perstAssert => Sys2Proof.Machine.execPerstAssert s
  | .perstRelease => Sys2Proof.Machine.execPerstRelease s
  | .pciePowerState d3hot => Sys2Proof.Machine.execPciePowerState d3hot s
  | .imgChunk v image table => Sys2Proof.Machine.execImgChunk v image table s
  | .devIdent => Sys2Proof.Machine.execDevIdent s
  | .devStatus => Sys2Proof.Machine.execDevStatus s
  | .sectorMode => Sys2Proof.Machine.execSectorMode s
  | .rest => Sys2Proof.Machine.execRest s
  | .blockReset => Sys2Proof.Machine.execBlockReset s
  | .lecRestart => Sys2Proof.Machine.execLecRestart s
  | .tempRead => Sys2Proof.Machine.execTempRead s
  | .patAdmit => Sys2Proof.Machine.execPatAdmit s
  | .patRelease => Sys2Proof.Machine.execPatRelease s
  | .psHostRes => Sys2Proof.Machine.execPsHostRes s
  | .psWindows => Sys2Proof.Machine.execPsWindows s
  | .patLoad => Sys2Proof.Machine.execPatLoad s
  | .psStatus => Sys2Proof.Machine.execPsStatus s
  | .tsWrite => Sys2Proof.Machine.execTsWrite s
  | .ptWrite => Sys2Proof.Machine.execPtWrite s
  | .lvlWrite => Sys2Proof.Machine.execLvlWrite s
  | .clkoutSet => Sys2Proof.Machine.execClkoutSet s
  | .pllBand => Sys2Proof.Machine.execPllBand s
  | .pllRestart => Sys2Proof.Machine.execPllRestart s
  | .hlInterval => Sys2Proof.Machine.execHlInterval s
  | .hlFreq => Sys2Proof.Machine.execHlFreq s
  | .tdrRun => Sys2Proof.Machine.execTdrRun s
  | .dcConnect => Sys2Proof.Machine.execDcConnect s
  | .dcMeasure => Sys2Proof.Machine.execDcMeasure s
  | .dcDisconnect => Sys2Proof.Machine.execDcDisconnect s
  | .measStim => Sys2Proof.Machine.execMeasStim s
  | .calCore => Sys2Proof.Machine.execCalCore s
  | .calDeskew => Sys2Proof.Machine.execCalDeskew s
  | .calVerify => Sys2Proof.Machine.execCalVerify s
  | .calPoint => Sys2Proof.Machine.execCalPoint s
  | .calUnretire => Sys2Proof.Machine.execCalUnretire s
  | .tllRepair => Sys2Proof.Machine.execTllRepair s
  | .lcProvision => Sys2Proof.Machine.execLcProvision s
  | .lcSeal => Sys2Proof.Machine.execLcSeal s
  | .lcService => Sys2Proof.Machine.execLcService s
  | .lcChallenge => Sys2Proof.Machine.execLcChallenge s
  | .lcRetire => Sys2Proof.Machine.execLcRetire s
  | .colRead => Sys2Proof.Machine.execColRead s
  | .verdict => Sys2Proof.Machine.execVerdict s
  | .colRelease => Sys2Proof.Machine.execColRelease s
  | .flashInfo => Sys2Proof.Machine.execFlashInfo s
  | .flashRead => Sys2Proof.Machine.execFlashRead s
  | .flashErase => Sys2Proof.Machine.execFlashErase s
  | .hbmPpr => Sys2Proof.Machine.execHbmPpr s
  | .flashProgram => Sys2Proof.Machine.execFlashProgram s
  | .fuseProgram => Sys2Proof.Machine.execFuseProgram s
  | .storeBist => Sys2Proof.Machine.execStoreBist s
  | .errAck => Sys2Proof.Machine.execErrAck s
  | .errForce => Sys2Proof.Machine.execErrForce s
  | .errRead => Sys2Proof.Machine.execErrRead s
  | .inject => Sys2Proof.Machine.execInject s
  | .rulRole => Sys2Proof.Machine.execRulRole s
  | .rulDeskew => Sys2Proof.Machine.execRulDeskew s
  | .rulEns => Sys2Proof.Machine.execRulEns s
  | .rulHop => Sys2Proof.Machine.execRulHop s
  | .rulStatus => Sys2Proof.Machine.execRulStatus s
  | .cpyGo c v => Sys2Proof.Machine.execCpyGo c v s
  | .cpyAbort c v => Sys2Proof.Machine.execCpyAbort c v s
  | .cpyKick c v => Sys2Proof.Machine.execCpyKick c v s
  | .cpyPause c v => Sys2Proof.Machine.execCpyPause c v s
  | .cpyPoll c => Sys2Proof.Machine.execCpyPoll c s
  | .cpyDescriptorRead c words e => Sys2Proof.Machine.execCpyDescriptorRead c words e s
  | .cpyMove c => Sys2Proof.Machine.execCpyMove c s
  | .cpyLoop c => Sys2Proof.Machine.execCpyLoop c s
  | .cpyEndloop c => Sys2Proof.Machine.execCpyEndloop c s
  | .cpyWait c => Sys2Proof.Machine.execCpyWait c s
  | .cpySignal c => Sys2Proof.Machine.execCpySignal c s
  | .cpyFence c => Sys2Proof.Machine.execCpyFence c s
  | .cpyStop c => Sys2Proof.Machine.execCpyStop c s
  | .cpySegmentDone c io => Sys2Proof.Machine.execCpySegmentDone c io s
  | .cpyMutualHold c => Sys2Proof.Machine.execCpyMutualHold c s
  | .cpyWaitTimeout c => Sys2Proof.Machine.execCpyWaitTimeout c s
  | .cpyFenceDone c ok => Sys2Proof.Machine.execCpyFenceDone c ok s
  | .cpyWriteback c => Sys2Proof.Machine.execCpyWriteback c s
  | .ssBankWrite k b code => Sys2Proof.Machine.execSsBankWrite k b code s
  | .ssGuestWrite k code => Sys2Proof.Machine.execSsGuestWrite k code s
  | .bankHandoverDone k b => Sys2Proof.Machine.execBankHandoverDone k b s
  | .hostWriteHoldTimeout => Sys2Proof.Machine.execHostWriteHoldTimeout s
  | .bistPassEnd k fails => Sys2Proof.Machine.execBistPassEnd k fails s
  | .requestUrgent cls who => Sys2Proof.Machine.execRequestUrgent cls who s
  | .sourceRaise n stays => Sys2Proof.Machine.execSourceRaise n stays s
  | .railBroken pair ns judged stays => Sys2Proof.Machine.execRailBroken pair ns judged stays s
  | .errAckWrite n => Sys2Proof.Machine.execErrAckWrite n s
  | .errEscalation n => Sys2Proof.Machine.execErrEscalation n s
  | .errForceWrite n b => Sys2Proof.Machine.execErrForceWrite n b s
  | .errStatClear n => Sys2Proof.Machine.execErrStatClear n s
  | .resetAnnounce d => Sys2Proof.Machine.execResetAnnounce d s
  | .resetDomainEnd d => Sys2Proof.Machine.execResetDomainEnd d s
  | .shadowClose d => Sys2Proof.Machine.execShadowClose d s
  | .lecWatchdogExpire => Sys2Proof.Machine.execLecWatchdogExpire s
  | .fabricTimeout k => Sys2Proof.Machine.execFabricTimeout k s
  | .quillTick aClosed bClosed aux => Sys2Proof.Machine.execQuillTick aClosed bClosed aux s
  | .qsecTick => Sys2Proof.Machine.execQsecTick s
  | .quillSensorSample die quill vaux => Sys2Proof.Machine.execQuillSensorSample die quill vaux s
  | .overtempTrip sensor => Sys2Proof.Machine.execOvertempTrip sensor s
  | .powerDownStart => Sys2Proof.Machine.execPowerDownStart s
  | .powerCycleRequest key => Sys2Proof.Machine.execPowerCycleRequest key s
  | .powerCycleRestart => Sys2Proof.Machine.execPowerCycleRestart s
  | .restEntryDone => Sys2Proof.Machine.execRestEntryDone s
  | .wakeTimer => Sys2Proof.Machine.execWakeTimer s
  | .wake io => Sys2Proof.Machine.execWake io s
  | .wakeDone => Sys2Proof.Machine.execWakeDone s
  | .ilkChannelOpen b => Sys2Proof.Machine.execIlkChannelOpen b s
  | .ilkArm => Sys2Proof.Machine.execIlkArm s
  | .tamperNAssert us taken => Sys2Proof.Machine.execTamperNAssert us taken s
  | .smbIdent => Sys2Proof.Machine.execSmbIdent s
  | .smbStatus => Sys2Proof.Machine.execSmbStatus s
  | .smbTempDie => Sys2Proof.Machine.execSmbTempDie s
  | .smbTempQuill => Sys2Proof.Machine.execSmbTempQuill s
  | .smbTempHbm w => Sys2Proof.Machine.execSmbTempHbm w s
  | .smbVaux => Sys2Proof.Machine.execSmbVaux s
  | .smbAuxIn n => Sys2Proof.Machine.execSmbAuxIn n s
  | .smbEvent => Sys2Proof.Machine.execSmbEvent s
  | .smbEvtCount => Sys2Proof.Machine.execSmbEvtCount s
  | .smbAlertMask write pecOk => Sys2Proof.Machine.execSmbAlertMask write pecOk s
  | .smbWake v pecOk => Sys2Proof.Machine.execSmbWake v pecOk s
  | .smbPowerCycle v pecOk => Sys2Proof.Machine.execSmbPowerCycle v pecOk s
  | .smbQsec => Sys2Proof.Machine.execSmbQsec s
  | .smbAlertResponse => Sys2Proof.Machine.execSmbAlertResponse s
  | .smbClockTimeout ms resets => Sys2Proof.Machine.execSmbClockTimeout ms resets s
  | .tapReset => Sys2Proof.Machine.execTapReset s
  | .tapInstructionUpdate code => Sys2Proof.Machine.execTapInstructionUpdate code s
  | .dapRead wa => Sys2Proof.Machine.execDapRead wa s
  | .dapWrite wa v => Sys2Proof.Machine.execDapWrite wa v s
  | .lecHalt dap => Sys2Proof.Machine.execLecHalt dap s
  | .haltDeferTimeout => Sys2Proof.Machine.execHaltDeferTimeout s
  | .lecResume dap => Sys2Proof.Machine.execLecResume dap s
  | .lecDebugRestart dap => Sys2Proof.Machine.execLecDebugRestart dap s
  | .injCtlWrite j v => Sys2Proof.Machine.execInjCtlWrite j v s
  | .injectHoldRelease => Sys2Proof.Machine.execInjectHoldRelease s
  | .fabricRetry link item => Sys2Proof.Machine.execFabricRetry link item s
  | .supplySupervisorRelease => Sys2Proof.Machine.execSupplySupervisorRelease s
  | .tamperNRelease => Sys2Proof.Machine.execTamperNRelease s
  | .hostLinkStateChange up => Sys2Proof.Machine.execHostLinkStateChange up s
  | .dcPathOpened g => Sys2Proof.Machine.execDcPathOpened g s
  | .rulRoleReplyTimeout => Sys2Proof.Machine.execRulRoleReplyTimeout s
  | .calProcedureEnd k => Sys2Proof.Machine.execCalProcedureEnd k s
  | .flashOperationDone bad => Sys2Proof.Machine.execFlashOperationDone bad s
  | .boundaryScanUpdate cells => Sys2Proof.Machine.execBoundaryScanUpdate cells s

end Sys2Proof.Machine
end

