-- ==== Sys2Proof/Machine/Step.lean ====
section
/-! DEFINITION. One step: the command at the front of the queue, or with none waiting, one baseline tick. -/

namespace Sys2Proof.Machine

/-- With no command waiting one baseline tick passes (DESIGN CHOICE, log entry 1): the tick counter counts where it runs
(R14, R139), and what falls due at the tick without a row of its own happens: the DESKEW instant of the chain (R208), the
steps of a span change (R593), the start of capture on entry to MEASURE (R700), and reservations of the Copyist (R912). -/
def State.idle (s : State) : State :=
  let s := if s.clk.counting && s.clk.running then { s with tick := tickWrap (s.tick + 1) } else s
  (s.deskewDue.spanSteps.each (List.range 8) State.blotEnter).cpyAdvance

/-- One step. -/
def step (s : State) : Host.Outcome State Fault Refusal :=
  match s.pending with
  | [] => .next s.idle
  | c :: rest => exec c { s with pending := rest }

/-- The state with the command that a word spells at the front of its queue; no word spells one. -/
def State.withFetchWord (s : State) (nbits w : Nat) : State :=
  match decodeTableWord nbits w with
  | none => s
  | some c => { s with pending := c :: s.pending }

end Sys2Proof.Machine
end

