-- ==== Sys2Proof/WellFormed.lean ====
section
/-! DEFINITION. Which commands can arrive: what their operands' types do not say. A command's meaning is total; these checks
name the operands that the ports and lines of the block can carry. -/

namespace Sys2Proof

/-- A frame whose fields fit their places (R195). -/
def Frame.fits (f : Frame) : Bool :=
  decide (f.kind < 16) && decide (f.origin < 32) && decide (f.hops < 32) && decide (f.ldot < 1024) && decide (f.ltick < 2 ^ 32)
    && decide (f.payload < 2 ^ 48)

/-- A link that training can bring (R853, R859). -/
def LinkUp.fits (l : LinkUp) : Bool :=
  decide (1 ≤ l.speed.toNat) && decide (l.speed.toNat ≤ 5) && [1, 2, 4, 8, 16].contains l.width.toNat

/-- Is a register offset a whole word? (R21, R24) -/
def aligned {n : Nat} (off : BitVec n) : Bool := off.toNat % 4 = 0

/-- Can a command arrive with its operands? -/
def Instr.wellFormed : Instr → Bool
  | .registerWrite _ off _ => aligned off
  | .rcRead _ off => aligned off
  | .latchingLoRead off => aligned off
  | .rwlWrite off _ => aligned off
  | .broadcastWrite _ off _ => aligned off
  | .mainPorEnd _ table => table.length = 64
  | .rulFrameIdle f _ | .rulFrameAnchor f _ | .rulFrameStart f _ | .rulFrameEvent f _ | .rulFrameCond f _
  | .rulFrameDecide f _ | .rulFrameHalt f _ | .rulFrameDeskew f _ | .rulFrameHopval f _ | .rulFrameFault f _
  | .rulFrameMeas f _ => f.fits
  | .bar2Read off n _ _ => decide (0 < n.toNat) && decide (off.toNat + n.toNat ≤ 2 ^ 36)
  | .bar2Write off data _ _ => !data.isEmpty && decide (off.toNat + data.length ≤ 2 ^ 36)
  | .strobeInstant _ _ _ codes => !codes.isEmpty
  | .maskViolation _ _ _ _ _ codes => !codes.isEmpty
  | .commandRead _ header params => params.length = 4 * (header.toNat / 2 ^ 32 % 256)
  | .quillTick _ _ aux => aux.length = 8
  | .cpyDescriptorRead _ (some words) _ => words.length = 8
  | .hostLinkStateChange (some l) => l.fits
  | .dcMeasureDone _ volts _ => !volts.isEmpty
  | _ => true

end Sys2Proof
end

