-- ==== Sys2Proof/Safety.lean ====
section
/-! DEFINITION. What claims about runs are said in: the canonical form of registers and memories, what a change leaves as
it was, and the conditions under which blocks work. -/

namespace Sys2Proof.Machine
open Reg

/-- Registers and memories in canonical form: equal contents are equal data. -/
structure State.Canonical (s : State) : Prop where
  regs : Tab.wf resetOf s.regs = true
  hostMem : Memory.wf s.hostMem
  stores : Memory.wf s.mem.mem
  window : Memory.wf s.host.window
  sram : Memory.wf s.vault.sram
  flash : Tab.wf flashDefault s.nvm.flash = true

/-- A command completes: `exec` answers a next state, of which a property holds. -/
def Completes (c : Instr) (s : State) (p : State → Prop) : Prop := ∃ t, exec c s = .next t ∧ p t

/-- Every register but the listed ones reads as before. -/
def RegsOnly (l : List Nat) (s t : State) : Prop := ∀ a, a ∉ l → t.rd a = s.rd a

/-- A key of the Errata block, whose registers the raise of a source writes. -/
def inErrata (a : Nat) : Bool := decide (0x100000 ≤ a ∧ a < 0x200000)

/-- Every register but the listed ones and those of Errata reads as before. -/
def RegsOnlyErr (l : List Nat) (s t : State) : Prop := ∀ a, a ∉ l → inErrata a = false → t.rd a = s.rd a

/-- Every memory reads as before: host memory, BAR2, the boot image window, the vault's and the flash. -/
def SameMemory (s t : State) : Prop :=
  t.hostMem = s.hostMem ∧ t.mem.mem = s.mem.mem ∧ t.host.window = s.host.window ∧ t.vault.sram = s.vault.sram
    ∧ t.nvm.flash = s.nvm.flash

/-- The reply that a command gets as it starts: DONE after its deadline is DONE_DELAYED (R867, R871). -/
def State.replyOf (s : State) (p : Packet) (status : Nat) (result : List Word) : Reply :=
  { ring := p.ring, opcode := p.opcode, tag := p.tag, gen := p.gen
    status := if status = stDone && s.overdue p then stDoneDelayed else status
    wait := s.waitUs p, noirq := p.noirq, lecGen := s.get LEC.STAT.GEN, result := result }

/-- A command has been replied to as it started, and no other reply was put in line. -/
def RepliedTo (p : Packet) (status : Nat) (result : List Word) (s t : State) : Prop :=
  t.lec.replies = s.lec.replies ++ [s.replyOf p status result]

/-- The reply of a command that has been in progress (R867, R871). -/
def State.jobReply (s : State) (j : Job) (status : Nat) (result : List Word) : Reply :=
  { ring := j.packet.ring, opcode := j.packet.opcode, tag := j.packet.tag, gen := j.packet.gen
    status := if status = stDone && (s.overdue j.packet || decide (j.delay ≠ 0)) then stDoneDelayed else status
    wait := j.wait, delay := min (2 ^ 16 - 1) j.delay, noirq := j.packet.noirq, lecGen := s.get LEC.STAT.GEN, result := result }

/-- A command in progress has ended with a reply, and no other command began, ended or replied. -/
def JobEnded (j : Job) (status : Nat) (result : List Word) (s t : State) : Prop :=
  t.lec.replies = s.lec.replies ++ [s.jobReply j status result] ∧ t.lec.jobs = dropFirst (fun x => decide (x = j)) s.lec.jobs

/-- A command is in progress, and awaits its end. -/
def InProgress (p : Packet) (mask aux : Nat) (s t : State) : Prop :=
  t.lec.jobs = s.lec.jobs ++ [{ packet := p, wait := s.waitUs p, mask := mask, aux := aux }] ∧ t.lec.replies = s.lec.replies

/-- The registers that show the flow of a sector's Scribe and the fetch credit (R366, R367, R292). -/
def flowRegs (k : Nat) : List Nat := SCRIBE.DEPTH.reg k :: PS.RA_STAT.reg k :: (List.range 4).map (SCRIBE.CNT.reg k)

/-- The main domain runs, the host link is up, and no rest is in force or being entered or left. -/
def State.awake (s : State) : Bool :=
  s.mainOn && s.host.linkUp && decide (s.pstate ≤ psLight) && s.quill.entering.isNone && !s.quill.waking

end Sys2Proof.Machine
end

