-- ==== Sys2Proof/Certificates/Slice0/Obligations.lean ====
section
/-! DEFINITION. What is claimed of the block, from the numbered rules of the spec. -/

open Sys2Proof Sys2Proof.Machine Sys2Proof.Machine.Reg


/-- A step runs the command at the front of the queue on the state with the queue's rest -/
def Obligations.StepRunsFront : Prop :=
  (∀ (c : Instr) (rest : List Instr) (s : State), s.pending = c :: rest → step s = exec c { s with pending := rest })

/-- A step on an empty queue is one tick: the tick counter counts where it runs (the model's choice, log entry 1) -/
def Obligations.IdleTick : Prop :=
  (∀ s : State, s.pending = [] → ∃ t, step s = .next t ∧ t.pending = [] ∧
    t.tick = (if s.clk.counting && s.clk.running then (s.tick + 1) % 2 ^ 64 else s.tick))

/-- The state after reset: canonical, no command waiting, every register at its reset value -/
def Obligations.ResetState : Prop :=
  (State.reset.Canonical ∧ State.reset.pending = [] ∧ State.reset.tick = 0 ∧ (∀ a, State.reset.rd a = resetOf a)) ∧
  (∀ w : Wing, State.reset.get (PSC.HOST_RES.H w) = 4 * 30) ∧
  (∀ k : Sector, State.reset.get (PS.VEC_WIN.SIZE k) = 96 ∧ State.reset.get (PS.VEC_WIN.BASE k) = 96 * (k.val % 4)) ∧
  (∀ (g : Octet) (e : Fin 16), State.reset.period g e = 65535 * 2 ^ 32) ∧
  (State.reset.get QL.ILK.CTL.DISC = 1000)

/-- Every step keeps registers and memories in canonical form -/
def Obligations.CanonicalKept : Prop :=
  (∀ s t : State, s.Canonical → step s = .next t → t.Canonical)

/-- Every command completes in every state: none faults and none is refused -/
def Obligations.CommandsComplete : Prop :=
  (∀ (c : Instr) (s : State), ∃ t, exec c s = .next t)

/-- No command steps the tick counter or touches the queue -/
def Obligations.QueueAndTick : Prop :=
  (∀ (c : Instr) (s t : State), exec c s = .next t → t.pending = s.pending ∧ s.free ≤ t.free ∧ (t.tick = s.tick ∨ t.tick = 0))

/-- Host and debug-port register accesses complete with the effects of R24 to R30 -/
def Obligations.RegisterAccess : Prop :=
  (∀ (off : BitVec 26) (v : Word) (r : RegRow) (s : State),
      s.awake = true →
      (whereIs off.toNat).1 = .copyist →
      off.toNat < 0x601000 →
      off.toNat % 4 = 0 →
      rowAt off.toNat = some r →
      Completes (.registerWrite false off v) s fun t =>
        t.rd off.toNat = r.written (!s.rwlOpen) (s.rd off.toNat).toNat v.toNat ∧
        RegsOnly [off.toNat] s t ∧
        SameMemory s t) ∧
  (∀ (bar4 : Bool) (off : BitVec 26) (write : Bool) (s : State),
      s.awake = true →
      bar4 = false ∨ off.toNat < 0x100000 →
      Completes (.narrowAccess bar4 off write) s fun t =>
        t.get ERR.ACCESS_HI.KIND = 0 ∧
        t.rd ERR.ACCESS_LO.reg = BitVec.ofNat 32 off.toNat ∧
        ((s.flag (ERR.SRC.ACTIVE srcHostAccess) = false → t.flag (ERR.SRC.STAT srcHostAccess) = true)) ∧
        ((write = false → t.answer.words = [0])) ∧
        RegsOnlyErr [] s t ∧
        SameMemory s t) ∧
  (∀ (off : BitVec 26) (r : RegRow) (s : State),
      s.awake = true →
      rowAt off.toNat = some r →
      r.has .rc = true →
      s.placeOff (whereIs off.toNat).1 = false →
      off.toNat % 4 = 0 →
      off.toNat ≠ EVT.FIFO.reg →
      latchedHi off.toNat = none →
      Tab.get (fun _ => 0) s.latch off.toNat = 0 →
      s.slotAlias off.toNat = off.toNat →
      openOnRead off.toNat = false →
      Completes (.rcRead false off) s fun t =>
        t.answer.words = [s.peek off.toNat] ∧
        t.rd off.toNat = BitVec.ofNat 32 ((s.rd off.toNat).toNat - ((s.rd off.toNat).toNat &&& r.rcMask)) ∧
        RegsOnly [off.toNat] s t ∧
        SameMemory s t) ∧
  (∀ (off : BitVec 26) (hi : Nat) (r : RegRow) (s : State),
      s.awake = true →
      latchedHi off.toNat = some hi →
      rowAt off.toNat = some r →
      r.has .rc = false →
      s.placeOff (whereIs off.toNat).1 = false →
      off.toNat % 4 = 0 →
      off.toNat ≠ EVT.FIFO.reg →
      Tab.get (fun _ => 0) s.latch off.toNat = 0 →
      s.slotAlias off.toNat = off.toNat →
      openOnRead off.toNat = false →
      Completes (.latchingLoRead off) s fun t =>
        t.answer.words = [s.peek off.toNat] ∧
        Tab.get (fun _ => 0) t.latch hi = (s.peek hi).toNat + 1 ∧
        RegsOnly [] s t ∧
        SameMemory s t) ∧
  (∀ (wa : BitVec 24) (s : State),
      s.dapOn = true →
      s.dbgGated = false ∨ (whereIs (4 * wa.toNat)).1 ≠ .vault →
      Completes (.dapRead wa) s fun t =>
        t.dbg.dapStatus = 0 ∧
        t.dbg.dapAddr = wa.toNat ∧
        t.dbg.dapData = (s.peek (4 * wa.toNat)).toNat ∧
        RegsOnly [] s t ∧
        SameMemory s t) ∧
  (∀ (wa : BitVec 24) (v : Word) (r : RegRow) (s : State),
      s.dapOn = true →
      s.dbgGated = false →
      (whereIs (4 * wa.toNat)).1 = .copyist →
      4 * wa.toNat < 0x601000 →
      rowAt (4 * wa.toNat) = some r →
      Completes (.dapWrite wa v) s fun t =>
        t.rd (4 * wa.toNat) = r.written (!s.rwlOpen) (s.rd (4 * wa.toNat)).toNat v.toNat ∧
        t.dbg.dapStatus = 0 ∧
        RegsOnly [4 * wa.toNat] s t ∧
        SameMemory s t)

/-- Writes of locked, gated and broadcast registers -/
def Obligations.RegisterGates : Prop :=
  (∀ (k : Sector) (v : Word) (s : State),
      s.awake = true →
      s.lifecycle = 0 →
      s.rwlOpen = true →
      Completes (.rwlWrite (BitVec.ofNat 26 (SREG.CTL.reg k)) v) s fun t =>
        t.get (SREG.CTL.TRIM k) = v.toNat % 2 ^ 6 ∧
        RegsOnly [SREG.CTL.reg k] s t ∧
        SameMemory s t) ∧
  (∀ (k : Sector) (v : Word) (s : State),
      s.awake = true →
      s.rwlOpen = false →
      Completes (.rwlWrite (BitVec.ofNat 26 (SREG.CTL.reg k)) v) s fun t =>
        RegsOnly [] s t ∧
        SameMemory s t) ∧
  (∀ (wa : BitVec 24) (v : Word) (s : State),
      s.dapOn = true →
      s.dbgGated = true →
      Completes (.dapWrite wa v) s fun t =>
        t.flag DEBUG.STATUS.DAP_REFUSED = true ∧
        t.dbg.dapStatus = 2 ∧
        RegsOnly [DEBUG.STATUS.reg] s t ∧
        SameMemory s t) ∧
  (∀ (g : Octet) (off : BitVec 11) (v : Word) (s : State),
      s.awake = true →
      off.toNat < 0x600 →
      off.toNat % 4 = 0 →
      off.toNat % 24 ≠ 20 →
      s.modeOf (g / 8) ≠ mOff →
      (s.rot g).visit = none →
      s.nibLocked g = false →
      Completes (.broadcastWrite g off v) s fun t =>
        (∀ l : Lane, Tab.get (fun _ => 0) (t.oct g).staging (5 * l + off.toNat % 24 / 4) = v.toNat) ∧
        RegsOnly [] s t ∧
        SameMemory s t)

/-- A mode request that the table reaches begins its transition -/
def Obligations.ModeRequest : Prop :=
  (∀ (k : Sector) (req : BitVec 3) (s : State),
      s.mainOn = true →
      s.flag DEV.MODE.READY = true →
      s.modeInSafe k = false →
      s.flag (SMODE.CTL.BUSY k) = false →
      s.inDoze = false →
      s.quill.entering ≠ some 2 →
      modeReach (s.modeOf k) req.toNat = true →
      ¬(s.modeOf k = mStandby ∧ req.toNat = mSetup) →
      Completes (.modeReq k req) s fun t =>
        t.flag (SMODE.CTL.BUSY k) = true ∧
        t.get (SMODE.CTL.MODE_TGT k) = req.toNat ∧
        t.modeOf k = s.modeOf k ∧
        t.err.announced = s.err.announced ++ (if req.toNat = mOff ∨ s.modeOf k = mOff then [domSector k] else []) ∧
        RegsOnly [ SMODE.CTL.reg k] s t ∧
        SameMemory s t) ∧
  (∀ (k : Sector) (req : BitVec 3) (s : State),
      s.mainOn = true →
      s.flag DEV.MODE.READY = true →
      s.modeInSafe k = false →
      s.flag (SMODE.CTL.BUSY k) = false →
      s.inDoze = false →
      s.quill.entering ≠ some 2 →
      s.modeOf k = mStandby →
      req.toNat = mSetup →
      s.flag (TLL.STAT.LOCKED k) = true →
      s.flag (SREG.STAT.PGOOD k) = true →
      (s.bistOf k).banks = 0 →
      Completes (.modeReq k req) s fun t =>
        t.flag (SMODE.CTL.BUSY k) = true ∧
        t.get (SMODE.CTL.MODE_TGT k) = mSetup ∧
        t.modeOf k = mStandby ∧
        SameMemory s t) ∧
  (∀ (k : Sector) (req : BitVec 3) (s : State),
      s.mainOn = true →
      s.flag DEV.MODE.READY = true →
      s.modeInSafe k = false →
      s.flag (SMODE.CTL.BUSY k) = false →
      s.inDoze = false →
      s.quill.entering ≠ some 2 →
      s.modeOf k = mRun →
      req.toNat = mRun →
      Completes (.modeReq k req) s fun t =>
        t.flag (SMODE.CTL.BUSY k) = true ∧
        t.get (SMODE.CTL.MODE_TGT k) = mSetup ∧
        t.modeOf k = mRun ∧
        RegsOnly [ SMODE.CTL.reg k] s t ∧
        SameMemory s t)

/-- Transitions end in their target, and SAFE is entered and left -/
def Obligations.ModeChange : Prop :=
  (∀ (k : Sector) (s : State),
      s.mayArrive k = true →
      s.modeOf k = mSetup →
      s.get (SMODE.CTL.MODE_TGT k) = mStandby →
      s.flag (SMODE.CTL.PENDING k) = false →
      s.lec.jobs = [] →
      Completes (.modeTransitionDone k) s fun t =>
        t.modeOf k = mStandby ∧
        t.flag (SMODE.CTL.BUSY k) = false) ∧
  (∀ (k : Sector) (s : State),
      s.mayArrive k = true →
      s.modeOf k = mStandby →
      s.get (SMODE.CTL.MODE_TGT k) = mSetup →
      s.flag (SMODE.CTL.PENDING k) = false →
      s.lec.jobs = [] →
      Completes (.modeTransitionDone k) s fun t =>
        t.modeOf k = mSetup ∧
        t.flag (SMODE.CTL.BUSY k) = false ∧
        k.val ∈ t.settled) ∧
  (∀ (k : Sector) (s : State),
      s.mainOn = true →
      s.modeOf k ≠ mOff →
      Completes (.safeEnter k) s fun t =>
        t.flag (SMODE.CTL.SAFE k) = true ∧
        t.modeOf k = s.modeOf k ∧
        ((s.flag (SMODE.CTL.SAFE k) = false → s.safeCauses k = [] → t.get (SMODE.CTL.SAFE_CAUSE k) = 4))) ∧
  (∀ (k : Sector) (s : State),
      s.mainOn = true →
      s.flag (SMODE.CTL.SAFE k) = true →
      s.safeCauses k = [] →
      s.scanHolds = false →
      s.modeOf k ≤ mRun →
      Completes (.safeExit k) s fun t =>
        t.flag (SMODE.CTL.SAFE k) = false ∧
        t.get (SMODE.CTL.SAFE_CAUSE k) = 0 ∧
        t.modeOf k = (if s.modeOf k = mRun then mSetup else s.modeOf k))

/-- The rails are raised group by group, and start-up goes through its steps -/
def Obligations.PowerUp : Prop :=
  (∀ (addr1 addr0 : Bool) (s : State),
      s.quill.phase = .unpowered →
      Completes (.vauxInRange addr1 addr0) s fun t =>
        t.quill.phase = .delay ∧
        t.quill.smbAddr = 0x58 + 2 * b2n addr1 + b2n addr0 ∧
        t.pstate = psUp ∧
        t.quill.step = 2 ∧
        RegsOnly [QL.STAT.reg] s t ∧
        t = { s with quill := t.quill, regs := t.regs }) ∧
  (∀ (s : State),
      s.quill.phase = .delay →
      Completes .powerUpStart s fun t =>
        t.quill.phase = .raising 0 ∧
        t.quill.en = s.quill.en ||| 1 ∧
        t.quill.f3 = false ∧
        t.vault.tamperSeen = false ∧
        t = { s with quill := t.quill, vault := t.vault }) ∧
  (∀ (n : Fin 8) (s : State),
      s.quill.phase = .raising n →
      Completes (.pgRise n) s fun t =>
        t.quill.phase = .settling n ∧
        t.quill.pg = s.quill.pg ||| 2 ^ n.val ∧
        t = { s with quill := t.quill }) ∧
  (∀ (n : Nat) (s : State),
      s.quill.phase = .settling n →
      n < 7 →
      Completes .railGroupRaise s fun t =>
        t.quill.phase = .raising (n + 1) ∧
        t.quill.en = s.quill.en ||| 2 ^ (n + 1) ∧
        t = { s with quill := t.quill }) ∧
  (∀ (n : Nat) (s : State),
      s.quill.phase = .raising n →
      2 ≤ n →
      Completes .pgTimeout s fun t =>
        t.quill.phase = .aborting n ∧
        t.quill.en = s.quill.en &&& (255 - 2 ^ n) ∧
        t.pstate = psDown ∧
        SameMemory s t) ∧
  (∀ (table : List Word) (s : State),
      s.quill.phase = .settling 7 →
      s.host.perst = false →
      Completes (.mainPorEnd false table) s fun t =>
        t.quill.phase = .up ∧
        t.quill.step = 4 ∧
        SameMemory s t) ∧
  (∀ (f : Fuses) (s : State),
      s.mainOn = true →
      s.quill.step = 4 →
      Completes (.startupStepEnd (.fuses f)) s fun t =>
        t.quill.step = 5 ∧
        t.quill.serial = f.serial ∧
        t.quill.rev = f.rev ∧
        SameMemory s t) ∧
  (∀ (s : State),
      s.mainOn = true →
      s.quill.step = 6 →
      s.pll = pllLocked →
      Completes (.startupStepEnd .lock) s fun t =>
        t.quill.step = 7 ∧
        t = { s with quill := t.quill }) ∧
  (∀ (s : State),
      s.mainOn = true →
      s.quill.step = 8 →
      (∀ k : Sector, s.modeOf k = mStandby ∧ s.flag (SMODE.CTL.BUSY k) = false) →
      Completes (.startupStepEnd .sectors) s fun t =>
        t.quill.step = 9 ∧
        t = { s with quill := t.quill }) ∧
  (∀ (s : State),
      s.mainOn = true →
      s.quill.step = 10 →
      s.get QL.ILK.STAT.STATE = 0 →
      Completes (.startupStepEnd .standby) s fun t =>
        t.quill.step = 11 ∧
        t.flag DEV.MODE.READY = true ∧
        t.flag LEC.STAT.RUNNING = true ∧
        t.pstate = psLight ∧
        RegsOnly [DEV.MODE.reg, QL.STAT.reg, LEC.STAT.reg] s t ∧
        t = { s with quill := t.quill, regs := t.regs }) ∧
  (∀ (s : State),
      s.host.perst = false →
      s.quill.phase = .up →
      3 ≤ s.quill.step →
      Completes .perstAssert s fun t =>
        t.host.perst = true ∧
        t.quill.step = 3 ∧
        t.pstate = psUp ∧
        t.hostMem = s.hostMem ∧
        t.nvm.flash = s.nvm.flash ∧
        t.vault.lc = s.vault.lc) ∧
  (∀ (s : State),
      Completes .perstRelease s fun t =>
        t.host.perst = false ∧
        t = { s with host := t.host }) ∧
  (∀ (s : State),
      Completes (.hostLinkStateChange none) s fun t =>
        t.host.linkUp = false ∧
        t.get DEV.LINK.SPEED = 0 ∧
        RegsOnly [DEV.LINK.reg] s t ∧
        SameMemory s t) ∧
  (∀ (u : LinkUp) (s : State),
      s.mainOn = true →
      s.clk.running = true →
      s.quill.step = 11 →
      u.width.toNat = 16 →
      s.host.lastWidth = 16 →
      s.host.awaitImage = false →
      Completes (.hostLinkStateChange (some u)) s fun t =>
        t.host.linkUp = true ∧
        t.get DEV.LINK.WIDTH = 16 ∧
        t.get DEV.LINK.SPEED = u.speed.toNat ∧
        t.flag DEV.LINK.REVERSED = u.reversed ∧
        t.flag DEV.LINK.DEGRADED = false ∧
        RegsOnly [DEV.LINK.reg] s t ∧
        t = { s with host := t.host, regs := t.regs }) ∧
  (∀ (v : Word) (image : Image) (table : List Word) (s : State),
      s.mainOn = true →
      s.host.linkUp = true →
      s.flag IMG.STAT.WAITING = true →
      v.getLsbD 31 = false →
      0 < v.field 0 20 →
      v.field 0 20 ≤ 524288 →
      s.host.image.length + v.field 0 20 ≤ 0x1000000 →
      Completes (.imgChunk v image table) s fun t =>
        t.host.image = s.host.image ++ memRds s.host.window 0 (v.field 0 20) ∧
        t.get IMG.STAT.TOTAL = s.host.image.length + v.field 0 20 ∧
        RegsOnly [IMG.STAT.reg] s t ∧
        t = { s with host := t.host, regs := t.regs })

/-- Power-downs, power cycles and supply faults -/
def Obligations.PowerDown : Prop :=
  (∀ (lost : BitVec 8) (us : Nat) (counts : Bool) (s : State),
      s.quill.phase = .up →
      lost.toNat &&& s.quill.en ≠ 0 →
      20 ≤ us →
      50 < us ∨ counts = true →
      Completes (.pgLoss lost us counts) s fun t =>
        t.quill.phase = .safeWait ∧
        t.quill.down = some .pgLoss ∧
        t.pstate = psDown) ∧
  (∀ (c : DownCause) (s : State),
      s.quill.phase = .safeWait →
      s.quill.down = some c →
      4 ≤ s.quill.en →
      Completes .powerDownStart s fun t =>
        t.quill.phase = .lowering (Nat.log2 s.quill.en) ∧
        t.quill.en = s.quill.en &&& (255 - 2 ^ Nat.log2 s.quill.en) ∧
        SameMemory s t) ∧
  (∀ (n : Nat) (s : State),
      s.quill.phase = .lowering (n + 1) →
      2 ≤ n →
      Completes .powerDownStep s fun t =>
        t.quill.phase = .lowering n ∧
        t.quill.en = s.quill.en &&& (255 - 2 ^ n) ∧
        t = { s with quill := t.quill }) ∧
  (∀ (key : BitVec 8) (s : State),
      s.mainOn = true →
      key = 0x5A →
      Completes (.powerCycleRequest key) s fun t =>
        t.quill.phase = .safeWait ∧
        t.quill.down = some .cycle ∧
        t.pstate = psDown) ∧
  (∀ (s : State),
      s.quill.phase = .cycleWait →
      Completes .powerCycleRestart s fun t =>
        t.quill.phase = .raising 0 ∧
        t.quill.en = s.quill.en ||| 1 ∧
        t.quill.f3 = false ∧
        t.pstate = psUp ∧
        SameMemory s t) ∧
  (∀ (s : State),
      Completes (.supplySupervisorTrip true) s fun t =>
        t.quill = {} ∧
        t.regs = [] ∧
        t.vault.lc = s.vault.lc ∧
        t.vault.entries = s.vault.entries ∧
        t.nvm.flash = s.nvm.flash ∧
        t.hostMem = s.hostMem) ∧
  (∀ (s : State),
      Completes (.supplySupervisorTrip false) s fun t =>
        t.quill.supervisor = true ∧
        SameMemory s t) ∧
  (∀ (s : State),
      Completes .supplySupervisorRelease s fun t =>
        t.quill.supervisor = false ∧
        SameMemory s t) ∧
  (∀ (k : Sector) (s : State),
      s.sregWatched k = true →
      Completes (.sregUv k) s fun t =>
        t.flag (SREG.STAT.UV k) = true) ∧
  (∀ (k : Sector) (s : State),
      s.sregWatched k = true →
      Completes (.sregOc k) s fun t =>
        t.flag (SREG.STAT.OC k) = true) ∧
  (∀ (i : BitVec 8) (s : State),
      s.quill.phase = .up →
      s.coreUp = true →
      Completes (.overtempTrip (some i)) s fun t =>
        t.quill.phase = .safeWait ∧
        t.quill.down = some .overtemp ∧
        t.flag QL.STAT.WAKE_INHIBIT = true ∧
        t.pstate = psDown)

/-- Quill's ticks, samples, wakes, interlock and tamper inputs -/
def Obligations.QuillWatch : Prop :=
  (∀ (aux : List (BitVec 12)) (s : State),
      s.quillOn = true →
      s.get QL.ILK.STAT.STATE = 0 →
      (∀ k : Fin 16, s.flag (QL.RULE.CFG.EN k) = false) →
      Completes (.quillTick true true aux) s fun t =>
        t.quill.qtick = s.quill.qtick + 1 ∧
        (∀ n : Fin 8, t.get (QL.AUX.CODE n) = (aux.getD n 0).toNat) ∧
        t.get QL.ILK.STAT.STATE = 0 ∧
        RegsOnly (QL.ILK.STAT.reg :: (List.range 8).map QL.AUX.reg) s t ∧
        t = { s with quill := t.quill, regs := t.regs }) ∧
  (∀ (s : State),
      s.quillOn = true →
      Completes .qsecTick s fun t =>
        t.quill.qsec = (s.quill.qsec + 1) % 2 ^ 48 ∧
        t.get64 QL.QSEC_LO.reg QL.QSEC_HI.reg = (s.quill.qsec + 1) % 2 ^ 48 ∧
        RegsOnly [QL.QSEC_LO.reg, QL.QSEC_HI.reg] s t ∧
        t = { s with quill := t.quill, regs := t.regs }) ∧
  (∀ (die quill vaux : BitVec 16) (s : State),
      s.quillOn = true →
      s.coreUp = true →
      sext 16 die.toNat < sext 16 (s.get QL.THERM.WARN) →
      (∀ k : Fin 16, s.flag (QL.RULE.CFG.EN k) = false) →
      Completes (.quillSensorSample die quill vaux) s fun t =>
        t.get QL.TEMP.DIE = die.toNat ∧
        t.get QL.TEMP.QUILL = quill.toNat ∧
        t.flag QL.STAT.THERM_WARN = false ∧
        t.quill.vaux = vaux.toNat ∧
        RegsOnly [QL.TEMP.reg, QL.STAT.reg] s t ∧
        t = { s with quill := t.quill, regs := t.regs }) ∧
  (∀ (at_ : Nat) (s : State),
      s.quill.wakeAt = some at_ →
      at_ ≤ s.quill.qtick →
      s.quill.phase = .dormant →
      s.flag QL.STAT.WAKE_INHIBIT = false →
      s.quill.entering = none →
      s.quill.waking = false →
      s.wakeEnabled 1 3 = true →
      Completes .wakeTimer s fun t =>
        t.quill.phase = .delay ∧
        t.quill.wakeAt = none ∧
        t.quill.waking = true ∧
        t.get QL.WAKE.LAST = 1 ∧
        SameMemory s t) ∧
  (∀ (io : Bool) (s : State),
      s.quill.phase = .up →
      s.pstate = psLightRest →
      s.flag QL.STAT.WAKE_INHIBIT = false →
      s.quill.entering = none →
      s.quill.waking = false →
      s.wakeEnabled (if io then 5 else 4) 1 = true →
      Completes (.wake io) s fun t =>
        t.quill.waking = true ∧
        t.get QL.WAKE.LAST = (if io then 5 else 4) ∧
        t.quill.phase = .up ∧
        SameMemory s t) ∧
  (∀ (b : Bool) (s : State),
      s.quillOn = true →
      s.quill.step ≠ 11 →
      Completes (.ilkChannelOpen b) s fun t =>
        t.flag (if b then QL.ILK.STAT.B_CLOSED else QL.ILK.STAT.A_CLOSED) = false ∧
        RegsOnly [QL.ILK.STAT.reg] s t ∧
        t = { s with regs := t.regs }) ∧
  (∀ (s : State),
      s.quillOn = true →
      s.get QL.ILK.STAT.STATE = 4 →
      Completes .ilkArm s fun t =>
        t.get QL.ILK.STAT.STATE = 0 ∧
        SameMemory s t) ∧
  (∀ (us : Nat) (taken : Bool) (s : State),
      s.quillOn = true →
      2 ≤ us →
      10 < us ∨ taken = true →
      s.quill.tamperOnce = false →
      Completes (.tamperNAssert us taken) s fun t =>
        t.quill.tamperLow = true ∧
        t.quill.tamperOnce = true ∧
        t.quill.tamperWait = s.quill.tamperWait ++ [1] ∧
        SameMemory s t) ∧
  (∀ (s : State),
      s.quillOn = true →
      Completes .tamperNRelease s fun t =>
        t.quill.tamperLow = false ∧
        t = { s with quill := t.quill }) ∧
  (∀ (c : Nat) (cs : List Nat) (s : State),
      s.quill.tamperWait = c :: cs →
      Completes .tamperDetect s fun t =>
        t.quill.tamperWait = cs ∧
        t.vault.tamperSeen = true ∧
        ((s.vault.lc ≠ 4 → t.vault.lc = 0 ∧ t.vault.keys = false ∧ t.vault.deviceKey = 0)) ∧
        t.vault.sram = [] ∧
        t.vault.nonce = none) ∧
  (∀ (s : State),
      s.quill.entering = some 1 →
      s.quill.heldWake = none →
      Completes .restEntryDone s fun t =>
        t.quill.entering = none ∧
        t.quill.depth = 1 ∧
        t.pstate = psLightRest ∧
        RegsOnly [QL.STAT.reg] s t ∧
        t = { s with quill := t.quill, regs := t.regs }) ∧
  (∀ (s : State),
      s.quill.waking = true →
      s.pstate = psLightRest →
      Completes .wakeDone s fun t =>
        t.quill.waking = false ∧
        t.pstate = psLight ∧
        RegsOnly [QL.STAT.reg] s t ∧
        t = { s with quill := t.quill, regs := t.regs })

/-- SMBus codes answer what R1018 lists -/
def Obligations.SmbusAccess : Prop :=
  (∀ (s : State),
      s.quillOn = true →
      Completes .smbIdent s fun t =>
        t = { s with answer := { bytes := leBytes 2 0x5128 ++ leBytes 1 s.quill.rev ++ leBytes 1 s.quill.lcStart ++ leBytes 8 s.quill.serial } }) ∧
  (∀ (s : State),
      s.quillOn = true →
      Completes .smbStatus s fun t =>
        t = { s with answer := { bytes := leBytes 2 s.smbStatus } }) ∧
  (∀ (s : State),
      s.quillOn = true →
      Completes .smbTempDie s fun t =>
        t = { s with answer := { bytes := leBytes 2 (s.get QL.TEMP.DIE) } }) ∧
  (∀ (s : State),
      s.quillOn = true →
      Completes .smbTempQuill s fun t =>
        t = { s with answer := { bytes := leBytes 2 (s.get QL.TEMP.QUILL) } }) ∧
  (∀ (w : Wing) (s : State),
      s.quillOn = true →
      s.flag (PSC.LINK.TRAINED w) = true →
      Completes (.smbTempHbm w) s fun t =>
        t = { s with answer := { bytes := leBytes 2 (trunc 16 (64 * (s.get (PSC.LINK.TEMP w) : Int))) } }) ∧
  (∀ (s : State),
      s.quillOn = true →
      Completes .smbVaux s fun t =>
        t = { s with answer := { bytes := leBytes 2 s.quill.vaux } }) ∧
  (∀ (n : Fin 8) (s : State),
      s.quillOn = true →
      Completes (.smbAuxIn n) s fun t =>
        t = { s with answer := { bytes := leBytes 2 (s.get (QL.AUX.CODE n)) } }) ∧
  (∀ (e : SmbEntry) (rest : List SmbEntry) (s : State),
      s.quillOn = true →
      s.quill.smbUnread = e :: rest →
      Completes .smbEvent s fun t =>
        t.quill.smbUnread = rest ∧
        t.answer.bytes = s.entryBytes e.index ∧
        t = { s with quill := t.quill, answer := t.answer }) ∧
  (∀ (s : State),
      s.quillOn = true →
      Completes .smbEvtCount s fun t =>
        t = { s with answer := { bytes := leBytes 1 s.quill.smbUnread.length } }) ∧
  (∀ (m : BitVec 16) (s : State),
      s.quillOn = true →
      Completes (.smbAlertMask (some m) true) s fun t =>
        t.quill.alertMask = m.toNat ∧
        t.answer.acked = true ∧
        t = { s with quill := t.quill, answer := t.answer }) ∧
  (∀ (s : State),
      s.quill.phase = .dormant →
      s.flag QL.STAT.WAKE_INHIBIT = false →
      s.quill.entering = none →
      s.quill.waking = false →
      s.wakeEnabled 2 3 = true →
      Completes (.smbWake 0xA5 true) s fun t =>
        t.quill.phase = .delay ∧
        t.get QL.WAKE.LAST = 2 ∧
        SameMemory s t) ∧
  (∀ (s : State),
      s.quill.phase = .up →
      Completes (.smbPowerCycle 0x5A true) s fun t =>
        t.quill.phase = .safeWait ∧
        t.quill.down = some .cycle) ∧
  (∀ (s : State),
      s.quillOn = true →
      Completes .smbQsec s fun t =>
        t = { s with answer := { bytes := leBytes 6 s.quill.qsec } }) ∧
  (∀ (s : State),
      s.quillOn = true →
      s.alertLow = true →
      Completes .smbAlertResponse s fun t =>
        t.answer.bytes = [BitVec.ofNat 8 (2 * s.quill.smbAddr)] ∧
        t.alertLow = false ∧
        t = { s with quill := t.quill, answer := t.answer }) ∧
  (∀ (ms : Nat) (resets : Bool) (s : State),
      35 < ms →
      Completes (.smbClockTimeout ms resets) s fun t =>
        t = { s with answer := { acked := false } })

/-- The baseline PLL moves between its states as R159 gives -/
def Obligations.ClockRows : Prop :=
  (∀ (fkHz : BitVec 18) (k : Nat) (rest : List Nat) (s : State),
      s.pll = pllAcquire →
      s.bandTries fkHz.toNat = k :: rest →
      Completes (.refMeasDone fkHz) s fun t =>
        t.get CLK.REF_MEAS.FREQ = fkHz.toNat ∧
        t.get CLK.PLL_STAT.BAND_CUR = k ∧
        t.get CLK.OCW.WORD = 0x8000 ∧
        t.clk.untried = rest ∧
        RegsOnly [CLK.REF_MEAS.reg, CLK.PLL_STAT.reg, CLK.OCW.reg] s t ∧
        t = { s with clk := t.clk, regs := t.regs }) ∧
  (∀ (ahead : Nat) (s : State),
      s.pll = pllAcquire →
      s.lec.jobs = [] →
      Completes (.pllLockDeclared ahead) s fun t =>
        t.pll = pllLocked ∧
        t.clk.running = true ∧
        t.clk.counting = true ∧
        t.get CLK.PLL_STAT.LOCK_GEN = (s.get CLK.PLL_STAT.LOCK_GEN + 1) % 2 ^ 8 ∧
        t.get64 CLK.ANCHOR_LO.reg CLK.ANCHOR_HI.reg = (s.tick * 1024 + ahead) % 2 ^ 64 ∧
        (∀ g : Octet, t.get64 (PER.ANCHOR_LO.reg g) (PER.ANCHOR_HI.reg g) = (s.tick * 1024 + ahead) % 2 ^ 64) ∧
        SameMemory s t) ∧
  (∀ (k : Nat) (rest : List Nat) (s : State),
      s.pll = pllAcquire →
      s.clk.untried = k :: rest →
      k < 16 →
      Completes .pllEntryTimeout s fun t =>
        t.get CLK.PLL_STAT.BAND_CUR = k ∧
        t.clk.untried = rest ∧
        t.get CLK.OCW.WORD = 0x8000 ∧
        RegsOnly [CLK.PLL_STAT.reg, CLK.OCW.reg] s t ∧
        t = { s with clk := t.clk, regs := t.regs }) ∧
  (∀ (mean : BitVec 16) (s : State),
      s.pll = pllLocked →
      Completes (.lossOfReference mean) s fun t =>
        t.pll = pllCoast ∧
        t.flag CLK.PLL_STAT.LOR_SEEN = true ∧
        t.get CLK.OCW.WORD = mean.toNat ∧
        t.flag CLK.OCW.FROZEN = true ∧
        t.clk.coasting = true ∧
        t.clk.freezeAt = s.tick) ∧
  (∀ (mean : BitVec 16) (s : State),
      s.pll = pllLocked →
      Completes (.lossOfLock mean) s fun t =>
        t.pll = pllCoast ∧
        t.flag CLK.PLL_STAT.LOL_SEEN = true ∧
        t.get CLK.OCW.WORD = mean.toNat ∧
        t.flag CLK.OCW.FROZEN = true ∧
        t.clk.coasting = true) ∧
  (∀ (w : BitVec 16) (s : State),
      s.pll = pllLocked →
      w.toNat < 0x1000 ∨ 0xF000 < w.toNat →
      Completes (.bandMargin w) s fun t =>
        t.get CLK.OCW.WORD = w.toNat ∧
        t.flag CLK.PLL_STAT.BAND_MARGIN = true) ∧
  (∀ (s : State),
      s.pll = pllLocked →
      s.flag CLK.PLL_CTL.AUTO_REBAND = true →
      s.flag CLK.PLL_STAT.BAND_MARGIN = true →
      s.anyActive3 = false →
      Completes .autoReband s fun t =>
        t.pll = pllAcquire ∧
        t.clk.running = false ∧
        (∀ k : Sector, t.flag (TLL.STAT.LOCKED k) = false) ∧
        RegsOnly ([CLK.PLL_STAT.reg, CLK.OCW.reg] ++ (List.range 8).map TLL.STAT.reg) s t ∧
        t = { s with clk := t.clk, rul := t.rul, regs := t.regs }) ∧
  (∀ (s : State),
      s.pll = pllCoast ∨ s.pll = pllRelock →
      s.clk.freezeAt + s.coastLimit ≤ s.tick →
      Completes .coastLimitExpire s fun t =>
        t.flag CLK.PLL_STAT.COAST_LONG = true ∧
        t.pll = s.pll) ∧
  (∀ (s : State),
      s.pll = pllCoast →
      Completes .refclkQualified s fun t =>
        t.clk.qualified = true ∧
        t.pll = (if s.flag CLK.PLL_CTL.AUTO_RELOCK then pllRelock else pllCoast) ∧
        RegsOnly [CLK.PLL_STAT.reg, CLK.OCW.reg] s t ∧
        t = { s with clk := t.clk, regs := t.regs }) ∧
  (∀ (s : State),
      s.pll = pllRelock →
      s.clk.frozenWord < 2 ^ 16 →
      Completes .relockTimeout s fun t =>
        t.pll = pllCoast ∧
        t.flag CLK.OCW.FROZEN = true ∧
        t.get CLK.OCW.WORD = s.clk.frozenWord ∧
        RegsOnly [CLK.PLL_STAT.reg, CLK.OCW.reg] s t ∧
        t = { s with regs := t.regs }) ∧
  (∀ (s : State),
      s.pll = pllCoast →
      s.clk.qualified = true →
      Completes .relockWrite s fun t =>
        t.pll = pllRelock ∧
        t.flag CLK.OCW.FROZEN = false ∧
        RegsOnly [CLK.PLL_STAT.reg, CLK.OCW.reg] s t ∧
        t = { s with regs := t.regs }) ∧
  (∀ (s : State),
      s.anyActive3 = false →
      s.pll ≠ pllAcquire →
      Completes .pllRestartWrite s fun t =>
        t.pll = pllAcquire ∧
        t.clk.running = false ∧
        RegsOnly ([CLK.PLL_STAT.reg, CLK.OCW.reg] ++ (List.range 8).map TLL.STAT.reg) s t ∧
        t = { s with clk := t.clk, rul := t.rul, regs := t.regs }) ∧
  (∀ (s : State),
      s.anyActive3 = true →
      Completes .pllRestartWrite s fun t =>
        t.flag CLK.PLL_STAT.RESTART_REFUSED = true ∧
        t.pll = s.pll ∧
        RegsOnly [CLK.PLL_STAT.reg] s t ∧
        t = { s with regs := t.regs })

/-- Band entries, anchors, tap-lock loops and reference outputs -/
def Obligations.ClockTables : Prop :=
  (∀ (k : Fin 16) (w : Fin 4) (v : Word) (r : RegRow) (s : State),
      s.bandInUse k = false →
      rowAt (CLK.BAND.RANGE.reg k + 4 * w) = some r →
      Completes (.bandEntryWrite k w v) s fun t =>
        t.rd (CLK.BAND.RANGE.reg k + 4 * w) = r.written (!s.rwlOpen) (s.rd (CLK.BAND.RANGE.reg k + 4 * w)).toNat v.toNat ∧
        RegsOnly [CLK.BAND.RANGE.reg k + 4 * w] s t ∧
        t = { s with regs := t.regs }) ∧
  (∀ (k : Fin 16) (w : Fin 4) (v : Word) (s : State),
      s.bandInUse k = true →
      Completes (.bandEntryWrite k w v) s fun t =>
        t.flag CLK.PLL_STAT.ENTRY_LOCKED = true ∧
        RegsOnly [CLK.PLL_STAT.reg] s t ∧
        t = { s with regs := t.regs }) ∧
  (∀ (k : Sector) (s : State),
      s.ensembleOf k = [k.val] →
      s.flag (TLL.STAT.ANCHOR_PEND k) = true →
      s.idleMode k = true →
      s.chainOf k = none →
      Completes (.anchorAdopt k) s fun t =>
        t.flag (TLL.STAT.ANCHOR_PEND k) = false ∧
        (∀ o : Fin 8, t.get64 (PER.ANCHOR_LO.reg (8 * k + o)) (PER.ANCHOR_HI.reg (8 * k + o)) = Tab.get (fun _ => 0) s.clk.anchorWait k % 2 ^ 64) ∧
        Tab.get (fun _ => 0) t.clk.adopted k = Tab.get (fun _ => 0) s.clk.anchorWait k ∧
        t = { s with clk := t.clk, regs := t.regs }) ∧
  (∀ (k : Sector) (e : Int) (up : Option Bool) (s : State),
      s.tllRuns k = true →
      s.flag (TLL.STAT.LOCKED k) = true →
      e.natAbs ≤ 500 →
      Completes (.tllUpdate k e up) s fun t =>
        t.get (TLL.STAT.BIAS k) = moveBias (s.get (TLL.STAT.BIAS k)) up ∧
        t.get (TLL.ERR.ERROR k) = trunc 16 e ∧
        t.flag (TLL.STAT.LOCKED k) = true ∧
        RegsOnly [TLL.STAT.reg k, TLL.ERR.reg k] s t ∧
        t = { s with clk := t.clk, regs := t.regs }) ∧
  (∀ (k : Sector) (e : Int) (up : Option Bool) (s : State),
      s.tllRuns k = true →
      s.flag (TLL.STAT.LOCKED k) = true →
      500 < e.natAbs →
      15 ≤ Tab.get (fun _ => 0) s.clk.badRun k →
      Completes (.tllUpdate k e up) s fun t =>
        t.flag (TLL.STAT.LOCKED k) = false ∧
        t.flag (TLL.STAT.UNLOCK_SEEN k) = true) ∧
  (∀ (align : Bool) (s : State),
      s.flag CLK.OUT_UPDATE.BUSY = false →
      Completes (.clkoutGo align) s fun t =>
        t.flag CLK.OUT_UPDATE.BUSY = true ∧
        t.flag CLK.OUT_UPDATE.ALIGN = align ∧
        (∀ n : Fin 4, Tab.get outDefault t.clk.shadow n = s.outNext n) ∧
        t.clk.goTick = s.tick ∧
        RegsOnly [CLK.OUT_UPDATE.reg] s t ∧
        t = { s with clk := t.clk, regs := t.regs }) ∧
  (∀ (n : Fin 4) (s : State),
      s.flag CLK.OUT_UPDATE.BUSY = true →
      (Tab.get outDefault s.clk.active n).en = true →
      Completes (.clkoutCycleEnd n) s fun t =>
        n.val ∈ t.clk.cycleEnded ∧
        t = { s with clk := t.clk }) ∧
  (∀ (u : Nat) (s : State),
      s.flag CLK.OUT_UPDATE.BUSY = true →
      s.updateInstant = some u →
      (∀ n : Fin 4, (Tab.get outDefault s.clk.shadow n).outOfRange = false) →
      s.lec.jobs = [] →
      Completes .clkoutUpdateInstant s fun t =>
        t.flag CLK.OUT_UPDATE.BUSY = false ∧
        t.clk.active = s.clk.shadow ∧
        t.clk.edgeBase = u ∧
        (∀ n : Fin 4, t.rd (CLKOUT.DIV_ACT.reg n) = BitVec.ofNat 32 (Tab.get outDefault s.clk.shadow n).div) ∧
        (∀ n : Fin 4, t.flag (CLKOUT.CTL.ACTIVE_EN n) = (Tab.get outDefault s.clk.shadow n).en) ∧
        RegsOnly (CLK.OUT_UPDATE.reg :: ((List.range 4).map CLKOUT.DIV_ACT.reg ++ (List.range 4).map CLKOUT.CTL.reg)) s t ∧
        t = { s with clk := t.clk, regs := t.regs }) ∧
  (∀ (p : Packet) (u : State) (s : State),
      s.start 0x204 = some (p, u) →
      s.flag CLK.OUT_UPDATE.BUSY = false →
      p.arg 0 = 0xF →
      (∀ n : Fin 4, p.arg (4 + 4 * n) % 2 = 0) →
      Completes .clkoutSet s fun t =>
        InProgress p 0 0 u t ∧
        t.flag CLK.OUT_UPDATE.BUSY = true ∧
        (∀ n : Fin 4, t.flag (CLKOUT.CTL.EN n) = false) ∧
        (∀ n : Fin 4, t.rd (CLKOUT.DIV.reg n) = BitVec.ofNat 32 (p.arg (2 + 4 * n))) ∧
        SameMemory s t) ∧
  (∀ (p : Packet) (u : State) (s : State),
      s.start 0x205 = some (p, u) →
      s.bandInUse (p.arg 0) = false →
      p.arg 0 < 16 →
      Completes .pllBand s fun t =>
        RepliedTo p stDone [] u t ∧
        RegsOnly ((List.range 4).map fun w => CLK.BAND.RANGE.reg (p.arg 0) + 4 * w) s t ∧
        SameMemory s t) ∧
  (∀ (p : Packet) (u : State) (s : State),
      s.start 0x206 = some (p, u) →
      s.anyActive3 = false →
      Completes .pllRestart s fun t =>
        InProgress p 0 0 u t ∧
        t.pll = pllAcquire ∧
        SameMemory s t)

/-- The Ruling chain's states, its link and the frames it sends -/
def Obligations.ChainLink : Prop :=
  (∀ (role : Fin 4) (s : State),
      (List.range 8).any (fun k => s.modeOf k = mRun) = false →
      role = 0 →
      s.lec.jobs = [] →
      Completes (.rulRoleWrite role) s fun t =>
        t.get RUL.CTL.ROLE = 0 ∧
        t.chain = chOff ∧
        t.rul.queue = [] ∧
        RegsOnly [RUL.CTL.reg, RUL.STAT.reg] s t ∧
        SameMemory s t) ∧
  (∀ (role : Fin 4) (s : State),
      (List.range 8).any (fun k => s.modeOf k = mRun) = false →
      role = 1 ∨ role = 2 →
      s.chain = chOff →
      2 ≤ s.pll →
      s.lec.jobs = [] →
      Completes (.rulRoleWrite role) s fun t =>
        t.get RUL.CTL.ROLE = role.val ∧
        t.chain = chTrain ∧
        t.rul.sending = true ∧
        RegsOnly [RUL.CTL.reg, RUL.STAT.reg] s t ∧
        SameMemory s t) ∧
  (∀ (hops : Fin 32) (s : State),
      s.chain = chTrain →
      s.rul.hopPending = false →
      s.lec.jobs = [] →
      Completes (.rulTrained hops) s fun t =>
        t.chain = chRuling ∧
        t.chainAddr = (if s.isMaster then 0 else (hops + 1 : Fin 32).val) ∧
        RegsOnly [RUL.STAT.reg] s t ∧
        SameMemory s t) ∧
  (∀ (s : State),
      s.chain = chTrain →
      Completes .rulTrainTimeout s fun t =>
        t.chain = chBroken ∧
        t.flag RUL.STAT.LINK_DOWN = true ∧
        t.get RUL.STAT.BROKEN_AT = s.chainAddr) ∧
  (∀ (s : State),
      s.chain = chRuled →
      Completes .rulLinkLost s fun t =>
        t.chain = chBroken ∧
        t.flag RUL.STAT.LINK_DOWN = true ∧
        t.get RUL.STAT.BROKEN_AT = s.chainAddr) ∧
  (∀ (s : State),
      s.chain = chBroken →
      s.lec.jobs = [] →
      Completes .rulBrokenRecover s fun t =>
        t.chain = chRuling ∧
        t.rul.valid = 0 ∧
        RegsOnly [RUL.STAT.reg] s t ∧
        SameMemory s t) ∧
  (∀ (reserved : Bool) (s : State),
      s.slotsOn linkChain = [] →
      s.chain ≠ chOff →
      Completes (.rulFrameBad reserved) s fun t =>
        t.flag RUL.STAT.CRC_ERR = true ∧
        t.rul.valid = 0 ∧
        t.get RUL.CRC_CNT.CRC = (if reserved then s.get RUL.CRC_CNT.CRC else min 65535 (s.get RUL.CRC_CNT.CRC + 1)) ∧
        t.get RUL.CRC_CNT.DROP = (if reserved then min 65535 (s.get RUL.CRC_CNT.DROP + 1) else s.get RUL.CRC_CNT.DROP) ∧
        RegsOnly [RUL.STAT.reg, RUL.CRC_CNT.reg] s t ∧
        SameMemory s t) ∧
  (∀ (f : Frame) (l : List Frame) (s : State),
      s.rul.forward = f :: l →
      Completes .rulFrameForward s fun t =>
        t.rul.forward = l ∧
        t.rul.ready = s.rul.ready ++ [{ f with hops := (f.hops + 1) % 32 }] ∧
        t = { s with rul := t.rul }) ∧
  (∀ (mark : Nat) (f : Frame) (l : List Frame) (s : State),
      s.rul.sending = true →
      s.chain = chRuled →
      s.rul.ready = f :: l →
      Completes (.rulFrameSend mark) s fun t =>
        t.rul.ready = l ∧
        t.rul.out = { f with ltick := trunc 42 ((mark : Int) - s.rul.offset) / 1024, ldot := trunc 42 ((mark : Int) - s.rul.offset) % 1024 } ∧
        t = { s with rul := t.rul }) ∧
  (∀ (s : State),
      s.isMaster = true →
      s.chainUp = true →
      Completes .rulMeasSend s fun t =>
        t.rul.measId = (s.rul.measId + 1) % 65536 ∧
        t.rul.queue = s.rul.queue ++ [{ kind := ftMeas, origin := s.chainAddr, payload := (s.rul.measId + 1) % 65536 * 2 ^ 32 }] ∧
        t = { s with rul := t.rul }) ∧
  (∀ (s : State),
      s.isMaster = true →
      s.chainUp = true →
      Completes .rulAnchorSend s fun t =>
        t.rul.anchors.head? = some (s.get CLK.PLL_STAT.LOCK_GEN % 64, s.get64 CLK.ANCHOR_LO.reg CLK.ANCHOR_HI.reg % 2 ^ 42) ∧
        t.rul.queue.length = s.rul.queue.length + 1 ∧
        t = { s with rul := t.rul }) ∧
  (∀ (s : State),
      s.isMaster = true →
      s.chain = chRuled →
      Completes .deskewGo s fun t =>
        t.rul.queue = s.rul.queue ++ [{ kind := ftDeskew, origin := s.chainAddr, payload := (s.masterNow + s.chainLat) % 2 ^ 32 }] ∧
        t.rul.actions = s.rul.actions ++ [{ kind := .deskew, instant := (s.masterNow + s.chainLat) % 2 ^ 32 }] ∧
        t = { s with rul := t.rul }) ∧
  (∀ (s : State),
      s.isMaster = false ∨ s.chain ≠ chRuled →
      Completes .deskewGo s fun t =>
        t.flag RUL.STAT.CONFIG_REFUSED = true ∧
        RegsOnly [RUL.STAT.reg] s t ∧
        t = { s with regs := t.regs }) ∧
  (∀ (dots : BitVec 16) (cause : Fin 5) (s : State),
      s.chain = chDeskew →
      s.lec.jobs = [] →
      Completes (.rulDeskewEnd dots cause) s fun t =>
        t.chain = chTrain ∧
        t.flag RUL.HOP_OUT.VALID = decide (cause.val = 0) ∧
        t.get RUL.HOP_OUT.OUT_DOTS = dots.toNat ∧
        t.get RUL.HOP_OUT.CAUSE = cause.val ∧
        t.rul.hopPending = true ∧
        RegsOnly [RUL.STAT.reg, RUL.HOP_OUT.reg] s t ∧
        SameMemory s t)

/-- Frames act by their type as they arrive -/
def Obligations.ChainFrames : Prop :=
  (∀ (f : Frame) (arrive : Nat) (s : State),
      f.kind = ftIdle →
      s.slotsOn linkChain = [] →
      s.chain = chRuled →
      s.isMaster = false →
      Completes (.rulFrameIdle f arrive) s fun t =>
        t.rul.offsets = pushLast 64 s.rul.offsets (sext 42 (trunc 42 ((arrive : Int) - (f.ltick * 1024 + f.ldot + s.get RUL.HOP.IN_DOTS : Nat)))) ∧
        t.rul.offset = meanDots t.rul.offsets ∧
        t.get64 RUL.OFFSET_LO.reg RUL.OFFSET_HI.reg = trunc 64 t.rul.offset ∧
        t.rul.valid = min 64 (s.rul.valid + 1)) ∧
  (∀ (f : Frame) (arrive : Nat) (s : State),
      f.kind = ftAnchor →
      s.slotsOn linkChain = [] →
      s.dbg.heldFrames = [] →
      s.chain = chRuled →
      s.isMaster = false →
      Completes (.rulFrameAnchor f arrive) s fun t =>
        t.rul.anchors.head? = some (f.payload / 2 ^ 42 % 64, f.payload % 2 ^ 42) ∧
        t.rul.forward = s.rul.forward ++ [f]) ∧
  (∀ (f : Frame) (arrive : Nat) (u : State) (s : State),
      f.kind = ftStart →
      s.slotsOn linkChain = [] →
      s.dbg.heldFrames = [] →
      u = s.onFrame f arrive →
      u.chain = chRuled →
      u.isMaster = false →
      reached f.instant (u.masterTick arrive) = false →
      u.chainMembers f.ens ≠ [] →
      (u.rul.anchors.any (·.1 = f.startGen)) = true →
      (u.chainMembers f.ens).any (fun k => (u.startFails k).isSome) = false →
      Completes (.rulFrameStart f arrive) s fun t =>
        t.rul.actions = u.rul.actions ++ [{ kind := .start f.ens f.startGen, instant := f.instant % 2 ^ 32 }] ∧
        t.rul.forward = u.rul.forward ++ [f]) ∧
  (∀ (f : Frame) (arrive : Nat) (u : State) (s : State),
      f.kind = ftEvent →
      s.slotsOn linkChain = [] →
      s.dbg.heldFrames = [] →
      u = s.onFrame f arrive →
      u.chain = chRuled →
      u.isMaster = false →
      u.ownFrame f = false →
      reached f.instant (u.masterTick arrive) = false →
      Completes (.rulFrameEvent f arrive) s fun t =>
        t.ev.posted = u.ev.posted ++ [{ code := f.code, source := evChain, route := (u.rd (EVT.ROUTE.reg f.code)).toNat, at_ := arrive, chain := some f.instant }] ∧
        t.rul.forward = u.rul.forward ++ [f]) ∧
  (∀ (f : Frame) (arrive : Nat) (u : State) (s : State),
      f.kind = ftCond →
      s.slotsOn linkChain = [] →
      s.dbg.heldFrames = [] →
      u = s.onFrame f arrive →
      u.chain = chRuled →
      u.isMaster = false →
      Completes (.rulFrameCond f arrive) s fun t =>
        t.rul.forward = u.rul.forward ++ [f]) ∧
  (∀ (f : Frame) (arrive : Nat) (u : State) (k : Sector) (d : Decision) (s : State),
      f.kind = ftDecide →
      s.slotsOn linkChain = [] →
      s.dbg.heldFrames = [] →
      u = s.onFrame f arrive →
      u.chain = chRuled →
      u.isMaster = false →
      reached f.instant (u.masterTick arrive) = false →
      u.chainMembers f.ens = [k.val] →
      (u.scribe k).decisions = [d] →
      d.chainSeq = some f.seq →
      d.done = none →
      d.op ≠ opMatch →
      Completes (.rulFrameDecide f arrive) s fun t =>
        (t.scribe k).decisions = [{ d with done := some (u.localInstant f.instant, f.result), timeout := d.lastRep && !f.result }] ∧
        t.rul.forward = u.rul.forward ++ [f]) ∧
  (∀ (f : Frame) (arrive : Nat) (u : State) (s : State),
      f.kind = ftHalt →
      s.slotsOn linkChain = [] →
      s.dbg.heldFrames = [] →
      u = s.onFrame f arrive →
      u.chain = chRuled →
      u.isMaster = false →
      u.ownFrame f = false →
      reached f.instant (u.masterTick arrive) = false →
      Completes (.rulFrameHalt f arrive) s fun t =>
        t.rul.actions = u.rul.actions ++ [{ kind := .halt f.ens, instant := f.instant % 2 ^ 32 }] ∧
        t.rul.forward = u.rul.forward ++ [f]) ∧
  (∀ (f : Frame) (arrive : Nat) (u : State) (s : State),
      f.kind = ftDeskew →
      s.slotsOn linkChain = [] →
      s.dbg.heldFrames = [] →
      u = s.onFrame f arrive →
      u.chain = chRuled →
      u.isMaster = false →
      reached f.instant (u.masterTick arrive) = false →
      Completes (.rulFrameDeskew f arrive) s fun t =>
        t.rul.actions = u.rul.actions ++ [{ kind := .deskew, instant := f.instant % 2 ^ 32 }] ∧
        t.rul.forward = u.rul.forward ++ [f]) ∧
  (∀ (f : Frame) (arrive : Nat) (s : State),
      f.kind = ftHopval →
      s.slotsOn linkChain = [] →
      s.dbg.heldFrames = [] →
      Completes (.rulFrameHopval f arrive) s fun t =>
        t.flag RUL.HOP.VALID = f.payload.testBit 32 ∧
        t.get RUL.HOP.IN_DOTS = f.payload % 2 ^ 16) ∧
  (∀ (f : Frame) (arrive : Nat) (u : State) (s : State),
      f.kind = ftFault →
      s.slotsOn linkChain = [] →
      s.dbg.heldFrames = [] →
      s.ownFrame f = false →
      u = s.onFrame f arrive →
      u.chainUp = true →
      f.cause = 0 ∨ f.cause = 3 →
      Completes (.rulFrameFault f arrive) s fun t =>
        t.chain = chBroken ∧
        t.get RUL.STAT.BROKEN_AT = f.brokenAt) ∧
  (∀ (f : Frame) (arrive : Nat) (u : State) (s : State),
      f.kind = ftMeas →
      s.slotsOn linkChain = [] →
      s.dbg.heldFrames = [] →
      u = s.onFrame f arrive →
      u.isMaster = true →
      u.chainUp = true →
      f.payload / 2 ^ 32 % 2 ^ 16 = u.rul.measId →
      Completes (.rulFrameMeas f arrive) s fun t =>
        t.rd RUL.RT.reg = BitVec.ofNat 32 (arrive - u.rul.measAt))

/-- Ruled instants, degraded decisions and the chain commands -/
def Obligations.ChainInstants : Prop :=
  (∀ (a : RuledAction) (u : State) (e g : Nat) (s : State),
      s.takeAction (fun k => match k with | .start _ _ => true | _ => false) = some (a, u) →
      a.kind = .start e g →
      (u.chainMembers e).filter (fun k => u.scState k = scPriming && (u.scribe k).chain.isSome) = [] →
      Completes .chainStartInstant s fun t =>
        t = u) ∧
  (∀ (q : Posted) (k : Sector) (s : State),
      s.ev.posted.find? (fun p => match p.chain with | some t => s.ruledDue t | none => false) = some q →
      q.route.testBit k = true →
      q.code < 256 →
      s.modeOf k ≠ mOff →
      Completes .chainEventDeliver s fun t =>
        t.evPending k q.code = true ∧
        t.ev.posted = dropFirst (fun x => decide (x = q)) s.ev.posted) ∧
  (∀ (a : RuledAction) (u : State) (e : Nat) (k : Sector) (s : State),
      s.takeAction (fun k => match k with | .halt _ => true | _ => false) = some (a, u) →
      a.kind = .halt e →
      u.chainMembers e = [k.val] →
      u.scState k = scRunning →
      Completes .chainHaltInstant s fun t =>
        (t.scribe k).stops = (u.scribe k).stops ++ [(stopChain, u.localInstant a.instant)] ∧
        t = { u with scribes := t.scribes }) ∧
  (∀ (d : ChainDecision) (s : State),
      s.isMaster = true →
      s.chain = chRuled →
      s.rul.conds = [] →
      s.rul.decisions = [d] →
      d.reached + s.chainLat / 2 ≤ s.masterNow →
      Completes .decideDegraded s fun t =>
        t.rul.decisions = [] ∧
        t.rul.queue = s.rul.queue ++ [{ kind := ftDecide, origin := s.chainAddr, payload := decidePayload d.ens d.seq false true (d.reached + s.chainLat) }]) ∧
  (∀ (p : Packet) (u : State) (s : State),
      s.start 0x801 = some (p, u) →
      (List.range 8).any (fun k => s.modeOf k = mRun) = false →
      p.arg 0 = 0 →
      s.lec.jobs = [] →
      Completes .rulRole s fun t =>
        t.get RUL.CTL.ROLE = 0 ∧
        t.chain = chOff ∧
        t.lec.jobs = [] ∧
        t.lec.replies.length = s.lec.replies.length + 1 ∧
        SameMemory s t) ∧
  (∀ (j : Job) (s : State),
      s.findJob (fun j => j.packet.opcode = 0x801) = some j →
      s.rul.roleAt + usTicks 10000 ≤ s.tick →
      Completes .rulRoleReplyTimeout s fun t =>
        JobEnded j stDone [s.rd RUL.STAT.reg] s t ∧
        RegsOnly [LEC.STAT.reg] s t ∧
        SameMemory s t) ∧
  (∀ (p : Packet) (u : State) (s : State),
      s.start 0x802 = some (p, u) →
      s.isMaster = true →
      s.chain = chRuled →
      Completes .rulDeskew s fun t =>
        InProgress p 0 0 u t ∧
        t.rul.queue = s.rul.queue ++ [{ kind := ftDeskew, origin := s.chainAddr, payload := (s.masterNow + s.chainLat) % 2 ^ 32 }] ∧
        RegsOnly [LEC.STAT.reg] s t ∧
        SameMemory s t) ∧
  (∀ (p : Packet) (u : State) (s : State),
      s.start 0x803 = some (p, u) →
      s.ensClash (p.arg 0) (p.arg 2) = false →
      p.arg 0 < 4 →
      Completes .rulEns s fun t =>
        RepliedTo p stDone [] u t ∧
        t.flag (RUL.ENS.EN (p.arg 0)) = decide (p.arg 1 % 2 = 1) ∧
        t.get (RUL.ENS.SMASK (p.arg 0)) = p.arg 2 % 2 ^ 8 ∧
        RegsOnly [RUL.ENS.reg (p.arg 0), RUL.ENS_DEV.reg (p.arg 0)] s t ∧
        SameMemory s t) ∧
  (∀ (p : Packet) (u : State) (s : State),
      s.start 0x804 = some (p, u) →
      Completes .rulHop s fun t =>
        RepliedTo p stDone [] u t ∧
        t.get RUL.HOP.VALID = p.arg 0 % 2 ∧
        t.get RUL.HOP.IN_DOTS = p.arg 1 % 2 ^ 16 ∧
        RegsOnly [RUL.HOP.reg] s t ∧
        SameMemory s t) ∧
  (∀ (p : Packet) (u : State) (s : State),
      s.start 0x805 = some (p, u) →
      Completes .rulStatus s fun t =>
        RepliedTo p stDone (packFields [(32, (s.rd RUL.STAT.reg).toNat), (64, s.get64 RUL.OFFSET_LO.reg RUL.OFFSET_HI.reg), (32, (s.rd RUL.RT.reg).toNat), (32, (s.rd RUL.CLOSURE.reg).toNat), (32, (s.rd RUL.CHAIN_LAT.reg).toNat)]) u t ∧
        RegsOnly [] s t ∧
        SameMemory s t)

/-- Ring doorbells, reading of commands, replies and the resets of the host function -/
def Obligations.Rings : Prop :=
  (∀ (r : Ring) (v : Word) (s : State),
      s.awake = true →
      v.toNat % 2 ^ 16 < 2 ^ s.get (RING.SIZE.SQ_LOG r) →
      Completes (.sqDoorbell r v) s fun t =>
        t.get (RING.SQ_TAIL.TAIL r) = v.toNat % 2 ^ 16 ∧
        RegsOnly [RING.SQ_TAIL.reg r] s t ∧
        t = { s with regs := t.regs }) ∧
  (∀ (r : Ring) (v : Word) (s : State),
      s.awake = true →
      2 ^ s.get (RING.SIZE.SQ_LOG r) ≤ v.toNat % 2 ^ 16 →
      Completes (.sqDoorbell r v) s fun t =>
        t.flag (RING.STAT.TAIL_ERR r) = true ∧
        RegsOnly [RING.STAT.reg r] s t ∧
        t = { s with regs := t.regs }) ∧
  (∀ (r : Ring) (header : BitVec 128) (s : State),
      s.lecReads = true →
      s.flag (RING.CTL.EN r) = true →
      s.host.linkUp = true →
      1 ≤ s.sqReady r →
      header.toNat / 2 ^ 32 % 256 = 0 →
      headerOk r header.toNat [] = true →
      Completes (.commandRead r header []) s fun t =>
        t.lec.waiting = s.lec.waiting ++ [{ ring := r, opcode := header.toNat % 2 ^ 12, cls := r / 2, tag := header.toNat / 2 ^ 16 % 2 ^ 16, fence := header.toNat.testBit 40, noirq := header.toNat.testBit 41, target := header.toNat / 2 ^ 64 % 2 ^ 32, deadline := header.toNat / 2 ^ 96 % 2 ^ 32, gen := s.get (RING.SQ_HEAD.GEN r), readAt := s.tick, params := [] }] ∧
        t.get (RING.SQ_HEAD.HEAD r) = (s.get (RING.SQ_HEAD.HEAD r) + 1) % 2 ^ s.get (RING.SIZE.SQ_LOG r) % 2 ^ 16 ∧
        t.get (RING.STAT.OUTSTANDING r) = (s.get (RING.STAT.OUTSTANDING r) + 1) % 2 ^ 16 ∧
        RegsOnly [RING.SQ_HEAD.reg r, RING.STAT.reg r] s t ∧
        t = { s with regs := t.regs, lec := t.lec }) ∧
  (∀ (r : Ring) (header : BitVec 128) (params : List Word) (s : State),
      s.lecReads = true →
      s.flag (RING.CTL.EN r) = true →
      s.host.linkUp = true →
      1 + header.toNat / 2 ^ 32 % 256 ≤ s.sqReady r →
      params.length = 4 * (header.toNat / 2 ^ 32 % 256) →
      headerOk r header.toNat params = false →
      Completes (.commandRead r header params) s fun t =>
        t.lec.replies.length = s.lec.replies.length + 1 ∧
        t.lec.replies.getLast?.map (fun x => (x.status, x.tag, x.ring, x.result)) = some (stBadParam, header.toNat / 2 ^ 16 % 2 ^ 16, r.val, []) ∧
        t.lec.waiting = s.lec.waiting ∧
        RegsOnly [RING.SQ_HEAD.reg r, RING.STAT.reg r] s t) ∧
  (∀ (p : Packet) (rest : List Packet) (s : State),
      s.lec.waiting = p :: rest →
      s.overdue p = true →
      Completes .commandStale s fun t =>
        RepliedTo p stStale [] s t ∧
        t.lec.waiting = rest ∧
        t = { s with lec := t.lec }) ∧
  (∀ (r : Ring) (x : Reply) (rest : List Reply) (s : State),
      s.lec.replies = x :: rest →
      x.ring = r.val →
      x.result = [] →
      x.lecGen = s.get LEC.STAT.GEN →
      x.noirq = true →
      x.opcode ≠ 0x004 →
      s.cqRoom x = true →
      s.slotsOn 0x90 = [] →
      s.dbg.heldReplies = [] →
      s.get (RING.CQ_TAIL.TAIL r) + 1 < s.cqSize r →
      Completes (.replyWrite r) s fun t =>
        t.hostMem = memWrs s.hostMem (s.cqSlot r (s.get (RING.CQ_TAIL.TAIL r))) (leBytes 16 (s.replyHeader x)) ∧
        t.get (RING.CQ_TAIL.TAIL r) = s.get (RING.CQ_TAIL.TAIL r) + 1 ∧
        t.get (RING.STAT.OUTSTANDING r) = s.get (RING.STAT.OUTSTANDING r) - 1 ∧
        t.lec.replies = rest ∧
        RegsOnly [RING.CQ_TAIL.reg r, RING.STAT.reg r] s t ∧
        t = { s with regs := t.regs, lec := t.lec, hostMem := t.hostMem }) ∧
  (∀ (r : Ring) (x : Reply) (rest : List Reply) (s : State),
      s.lec.replies = x :: rest →
      x.ring = r.val →
      x.lecGen ≠ s.get LEC.STAT.GEN →
      Completes (.replyWrite r) s fun t =>
        t.lec.replies = rest ∧
        t.get LEC.STALE.COUNT = satAdd (2 ^ LEC.STALE.COUNT.n - 1) (s.get LEC.STALE.COUNT) 1 ∧
        t.get (RING.STAT.OUTSTANDING r) = s.get (RING.STAT.OUTSTANDING r) - 1 ∧
        RegsOnly [LEC.STALE.reg, RING.STAT.reg r] s t ∧
        t = { s with regs := t.regs, lec := t.lec }) ∧
  (∀ (r : Ring) (s : State),
      s.get (RING.CTL.COAL_US r) ≠ 0 →
      Tab.get (fun _ => 0) s.lec.coal r ≠ 0 →
      Tab.get (fun _ => 0) s.lec.coalAt r + 1500 * s.get (RING.CTL.COAL_US r) ≤ s.tick →
      s.host.d3hot = false →
      s.host.msixUnmask.contains (2 + r) = true →
      Completes (.replyCoalesceTimer r) s fun t =>
        Tab.get (fun _ => 0) t.lec.coal r = 0 ∧
        Tab.get (fun _ => 0) t.host.msixSent (2 + r) = Tab.get (fun _ => 0) s.host.msixSent (2 + r) + 1 ∧
        t = { s with lec := t.lec, host := t.host }) ∧
  (∀ (r : Ring) (v : Word) (s : State),
      s.awake = true →
      v.toNat % 2 ^ 16 < s.cqSize r →
      Completes (.cqHeadWrite r v) s fun t =>
        t.get (RING.CQ_HEAD.HEAD r) = v.toNat % 2 ^ 16 ∧
        RegsOnly [RING.CQ_HEAD.reg r] s t ∧
        t = { s with regs := t.regs, lec := t.lec }) ∧
  (∀ (r : Ring) (v : Word) (s : State),
      s.awake = true →
      s.flag (RING.CTL.EN r) = false →
      v.getLsbD 31 = true →
      Completes (.ringCtlWrite r v) s fun t =>
        t.flag (RING.CTL.EN r) = true ∧
        t.get (RING.SQ_TAIL.TAIL r) = 0 ∧
        t.get (RING.SQ_HEAD.HEAD r) = 0 ∧
        t.get (RING.CQ_HEAD.HEAD r) = 0 ∧
        t.get (RING.CQ_TAIL.TAIL r) = 0 ∧
        t.get (RING.CQ_TAIL.PHASE r) = 1 ∧
        RegsOnly [RING.CTL.reg r, RING.SQ_TAIL.reg r, RING.SQ_HEAD.reg r, RING.CQ_HEAD.reg r, RING.CQ_TAIL.reg r] s t ∧
        t = { s with regs := t.regs }) ∧
  (∀ (s : State),
      s.mainOn = true →
      Completes .functionLevelReset s fun t =>
        t.lec.waiting = [] ∧
        t.lec.replies = [] ∧
        t.lec.jobs = [] ∧
        t.host.msixSent = [] ∧
        t.host.msixUnmask = [] ∧
        t.host.window = [] ∧
        t.get (RING.SQ_TAIL.TAIL 0) = 0 ∧
        t.hostMem = s.hostMem ∧
        t.mem.mem = s.mem.mem) ∧
  (∀ (s : State),
      Completes (.pciePowerState true) s fun t =>
        t.host.d3hot = true ∧
        t = { s with host := t.host }) ∧
  (∀ (v : Nat) (s : State),
      s.host.held = [v] →
      s.host.msixUnmask.contains v = true →
      Completes (.pciePowerState false) s fun t =>
        t.host.d3hot = false ∧
        t.host.held = [] ∧
        Tab.get (fun _ => 0) t.host.msixSent v = Tab.get (fun _ => 0) s.host.msixSent v + 1 ∧
        t = { s with host := t.host })

/-- The device commands of Lectern reply with what R874 gives -/
def Obligations.DeviceCommands : Prop :=
  (∀ (p : Packet) (u : State) (s : State),
      s.start 0x001 = some (p, u) →
      Completes .devIdent s fun t =>
        RepliedTo p stDone (packFields [(64, s.serial), (16, s.get DEV.ID.PART), (8, s.get DEV.ID.REV), (8, s.lifecycle), (32, s.vault.fwVersion), (8, s.get VAULT.FW.SVN), (8, s.get DEV.LINK.SPEED), (8, s.get DEV.LINK.WIDTH)]) s t ∧
        t = { s with lec := t.lec }) ∧
  (∀ (p : Packet) (u : State) (s : State),
      s.start 0x007 = some (p, u) →
      Completes .tempRead s fun t =>
        RepliedTo p stDone (packFields (((List.range 8).map fun k => (16, s.get (CAL.TEMP.TEMP k))) ++ (List.range 2).map fun w => (8, s.get (PSC.LINK.TEMP w)))) s t ∧
        t = { s with lec := t.lec }) ∧
  (∀ (p : Packet) (u : State) (s : State),
      s.start 0x002 = some (p, u) →
      Completes .devStatus s fun t =>
        t.lec.replies.length = s.lec.replies.length + 1 ∧
        RegsOnly [] s t ∧
        t = { s with lec := t.lec }) ∧
  (∀ (p : Packet) (u : State) (s : State),
      s.start 0x003 = some (p, u) →
      p.arg 0 < 8 →
      p.target % 256 = 0 →
      Completes .sectorMode s fun t =>
        RepliedTo p stDone (packFields (((List.range 8).map fun i => (8, s.modeOf i)) ++ (List.range 8).map fun i => (8, s.get (SMODE.CTL.REFUSE_CAUSE i)))) s t ∧
        t = { s with lec := t.lec }) ∧
  (∀ (p : Packet) (u : State) (s : State),
      s.start 0x003 = some (p, u) →
      8 ≤ p.arg 0 →
      Completes .sectorMode s fun t =>
        RepliedTo p stBadParam [] s t ∧
        t = { s with lec := t.lec }) ∧
  (∀ (p : Packet) (u : State) (d : Nat) (s : State),
      s.start 0x004 = some (p, u) →
      p.arg 1 < 2 →
      s.restChoice (p.arg 0) (decide (p.arg 1 = 1)) = d →
      0 < d →
      p.arg 0 ≠ 2 ^ 64 - 1 →
      Completes .rest s fun t =>
        t.lec.replies = s.lec.replies ++ [s.replyOf p stDone (packFields [(8, d), (32, restLatency d)])] ∧
        t.quill.wakeAt = some (s.quill.qtick + (p.arg 0 - restLatency d) / 100) ∧
        t.flag QL.WAKE.ARMED = true ∧
        t.get QL.REST.LAST = d) ∧
  (∀ (p : Packet) (u : State) (s : State),
      s.start 0x004 = some (p, u) →
      p.arg 1 < 2 →
      s.restChoice (p.arg 0) (decide (p.arg 1 = 1)) = 0 →
      Completes .rest s fun t =>
        RepliedTo p stDone (packFields [(8, 0), (32, 0)]) s t ∧
        t = { s with lec := t.lec }) ∧
  (∀ (p : Packet) (u : State) (d : Nat) (s : State),
      s.start 0x005 = some (p, u) →
      blockDomain (p.arg 0) (p.arg 1) = some d →
      ((blockSector (p.arg 0) (p.arg 1)).any fun k => decide (s.modeOf k = mRun)) = false →
      Completes .blockReset s fun t =>
        InProgress p 0 d s t ∧
        t.err.announced = s.err.announced ++ [d]) ∧
  (∀ (p : Packet) (u : State) (s : State),
      s.start 0x006 = some (p, u) →
      s.lecLocked = false →
      p.arg 0 < 2 →
      s.lec.jobs = [] →
      Completes .lecRestart s fun t =>
        t.get LEC.STAT.GEN = (s.get LEC.STAT.GEN + 1) % 2 ^ LEC.STAT.GEN.n ∧
        t.lec.replies.length = s.lec.replies.length + 1 ∧
        t.lec.replies.getLast?.map (fun x => (x.status, x.tag, x.lecGen, x.result)) = some (stDone, p.tag, t.get LEC.STAT.GEN, [BitVec.ofNat 32 (t.get LEC.STAT.GEN)])) ∧
  (∀ (p : Packet) (u : State) (s : State),
      s.start 0x105 = some (p, u) →
      p.arg 0 < 8 →
      s.modeOf (p.arg 0) ≠ mRun →
      p.arg 1 ≤ s.lineLimit (p.arg 0) →
      p.arg 1 % 8 = 0 →
      p.arg 2 = 0 →
      p.arg 3 % 64 = 0 →
      Completes .patLoad s fun t =>
        RepliedTo p stDone [0] s t ∧
        t = { s with lec := t.lec }) ∧
  (∀ (p : Packet) (u : State) (s : State),
      s.start 0x105 = some (p, u) →
      p.arg 0 < 8 →
      s.modeOf (p.arg 0) = mRun →
      Completes .patLoad s fun t =>
        RepliedTo p stBusy [] s t ∧
        t = { s with lec := t.lec })

/-- Test access port, halting of Lectern and injection -/
def Obligations.DebugAccess : Prop :=
  (∀ (s : State),
      Completes .tapReset s fun t =>
        t.dbg.tapInstr = 1 ∧
        t.dbg.cells = [] ∧
        t = { s with dbg := t.dbg }) ∧
  (∀ (code : BitVec 8) (s : State),
      s.tapOn = true →
      code.toNat ≠ tiExtest ∧ code.toNat ≠ tiClamp ∧ code.toNat ≠ tiHighz →
      Completes (.tapInstructionUpdate code) s fun t =>
        t.dbg.tapInstr = (if code.toNat = tiIdcode ∨ code.toNat = tiPreload ∨ code.toNat = tiDap then code.toNat else tiBypass) ∧
        t = { s with dbg := t.dbg }) ∧
  (∀ (code : BitVec 8) (s : State),
      s.tapOn = true →
      code.toNat = tiExtest ∨ code.toNat = tiClamp ∨ code.toNat = tiHighz →
      Completes (.tapInstructionUpdate code) s fun t =>
        t.dbg.tapInstr = code.toNat ∧
        t.scanHolds = true) ∧
  (∀ (cells : BitVec 77) (s : State),
      s.tapOn = true →
      s.dbg.tapInstr = tiExtest ∨ s.dbg.tapInstr = tiPreload →
      Completes (.boundaryScanUpdate cells) s fun t =>
        (∀ i : Fin 77, Tab.get (fun _ => 0) t.dbg.cells i = b2n (cells.toNat.testBit i)) ∧
        t = { s with dbg := t.dbg }) ∧
  (∀ (dap : Bool) (s : State),
      s.mainOn = true →
      s.dbgGated = false →
      s.flag DEBUG.STATUS.DEFERRED = false →
      s.flag LEC.STAT.HALTED = false →
      s.lecLocked = false →
      Completes (.lecHalt dap) s fun t =>
        t.flag LEC.STAT.HALTED = true ∧
        t.flag DEBUG.STATUS.HALTED = true ∧
        RegsOnly [LEC.STAT.reg, DEBUG.STATUS.reg] s t ∧
        SameMemory s t) ∧
  (∀ (dap : Bool) (s : State),
      s.mainOn = true →
      s.dbgGated = false →
      s.flag DEBUG.STATUS.DEFERRED = false →
      s.flag LEC.STAT.HALTED = false →
      s.lecLocked = true →
      Completes (.lecHalt dap) s fun t =>
        t.flag DEBUG.STATUS.DEFERRED = true ∧
        t.flag LEC.STAT.HALTED = false ∧
        t.dbg.haltAt = s.tick ∧
        RegsOnly [DEBUG.STATUS.reg] s t ∧
        SameMemory s t) ∧
  (∀ (s : State),
      s.flag DEBUG.STATUS.DEFERRED = true →
      s.dbg.haltAt + 6000 ≤ s.tick →
      s.lecLocked = true →
      s.err.shadows = [] →
      Completes .haltDeferTimeout s fun t =>
        t.flag LEC.STAT.HALTED = true ∧
        t.flag DEBUG.STATUS.LOCK_BROKEN = true ∧
        t.lec.locked = none ∧
        t.vault.txs = []) ∧
  (∀ (dap : Bool) (s : State),
      s.mainOn = true →
      s.dbgGated = false →
      s.flag DEBUG.STATUS.DEFERRED = false →
      s.lec.broken = [] →
      Completes (.lecResume dap) s fun t =>
        t.flag LEC.STAT.HALTED = false ∧
        t.flag DEBUG.STATUS.HALTED = false ∧
        RegsOnly [LEC.STAT.reg, DEBUG.STATUS.reg] s t ∧
        SameMemory s t) ∧
  (∀ (dap : Bool) (s : State),
      s.mainOn = true →
      s.dbgGated = false →
      s.flag DEBUG.STATUS.DEFERRED = false →
      s.lecLocked = false →
      Completes (.lecDebugRestart dap) s fun t =>
        t.flag LEC.STAT.HALTED = false ∧
        t.get LEC.STAT.GEN = (s.get LEC.STAT.GEN + 1) % 2 ^ LEC.STAT.GEN.n ∧
        t.lec.broken = []) ∧
  (∀ (i : Fin 4) (v : Word) (s : State),
      s.awake = true →
      s.dbgGated = false →
      v.getLsbD 31 = true →
      s.rwlOpen = true →
      s.flag (DEBUG.INJ.CTL.EN i) = false →
      Completes (.injCtlWrite i v) s fun t =>
        t.flag (DEBUG.INJ.CTL.EN i) = true ∧
        t.get (DEBUG.INJ.CTL.LINK i) = v.toNat % 2 ^ 8 ∧
        t.get (DEBUG.INJ.CTL.KIND i) = v.toNat / 2 ^ 8 % 2 ^ 2 ∧
        Tab.get (fun _ => 1) t.dbg.lfsrs i = (s.rd (DEBUG.INJ.SEED.reg i)).toNat ∧
        RegsOnlyErr [DEBUG.INJ.CTL.reg i, DEBUG.STATUS.reg] s t ∧
        SameMemory s t) ∧
  (∀ (i : Fin 4) (v : Word) (s : State),
      s.awake = true →
      v.getLsbD 31 = true →
      s.rwlOpen = false →
      Completes (.injCtlWrite i v) s fun t =>
        t.flag DEBUG.STATUS.DAP_REFUSED = true ∧
        RegsOnly [DEBUG.STATUS.reg] s t ∧
        t = { s with regs := t.regs }) ∧
  (∀ (p : Packet) (u : State) (s : State),
      s.start 0x704 = some (p, u) →
      s.rwlOpen = true →
      s.slotsOn (p.arg 0) = [] →
      s.flag (DEBUG.INJ.CTL.EN 0) = false →
      linkKnown (p.arg 0) = true →
      p.arg 1 = 1 ∨ p.arg 1 = 2 ∨ p.arg 1 = 3 →
      p.arg 2 ≠ 0 →
      p.arg 3 ≠ 0 →
      Completes .inject s fun t =>
        t.flag (DEBUG.INJ.CTL.EN 0) = true ∧
        t.get (DEBUG.INJ.CTL.LINK 0) = p.arg 0 % 2 ^ 8 ∧
        t.get (DEBUG.INJ.CTL.KIND 0) = p.arg 1 ∧
        t.rd (DEBUG.INJ.RATE.reg 0) = BitVec.ofNat 32 (p.arg 2) ∧
        t.rd (DEBUG.INJ.SEED.reg 0) = BitVec.ofNat 32 (p.arg 3) ∧
        RepliedTo p stDone [] s t) ∧
  (∀ (x : Reply) (s : State),
      s.dbg.heldFrames = [] →
      s.dbg.heldReplies = [x] →
      x.heldAt + 15000 ≤ s.tick →
      s.cqRoom x = true →
      x.opcode ≠ 0x004 →
      x.result = [] →
      s.get (RING.CQ_TAIL.TAIL x.ring) + 1 < s.cqSize x.ring →
      s.cqSize x.ring ≤ 2 ^ 16 →
      Completes .injectHoldRelease s fun t =>
        t.dbg.heldReplies = [] ∧
        t.hostMem = memWrs s.hostMem (s.cqSlot x.ring (s.get (RING.CQ_TAIL.TAIL x.ring))) (leBytes 16 (s.replyHeader x)) ∧
        t.get (RING.CQ_TAIL.TAIL x.ring) = s.get (RING.CQ_TAIL.TAIL x.ring) + 1) ∧
  (∀ (link : BitVec 8) (item : Nat) (s : State),
      Tab.get (fun _ => 0) s.dbg.tries link.toNat = 4 →
      link.toNat % 8 = 0 →
      0x20 ≤ link.toNat ∧ link.toNat < 0x60 →
      Completes (.fabricRetry link item) s fun t =>
        Tab.get (fun _ => 0) t.dbg.tries link.toNat = 0 ∧
        ((s.mainOn = true → s.flag (ERR.SRC.ACTIVE (srcFabricSec ((link.toNat - 0x20) / 8))) = false → t.flag (ERR.SRC.STAT (srcFabricSec ((link.toNat - 0x20) / 8))) = true)) ∧
        RegsOnlyErr [PS.RA_STAT.reg ((link.toNat - 0x20) / 8)] s t ∧
        SameMemory s t) ∧
  (∀ (link : BitVec 8) (item : Nat) (s : State),
      Tab.get (fun _ => 0) s.dbg.tries link.toNat = 2 →
      link.toNat = 0x60 →
      Completes (.fabricRetry link item) s fun t =>
        t.get (CH.COUNTS.DELAY (item % 32)) = satAdd (2 ^ (CH.COUNTS.DELAY 0).n - 1) (s.get (CH.COUNTS.DELAY (item % 32))) 1 ∧
        t.dbg = s.dbg ∧
        SameMemory s t)

/-- Errata records, acknowledges, escalates, forces and clears its sources -/
def Obligations.ErrataSources : Prop :=
  (∀ (n : Source) (s : State),
      s.mainOn = true →
      srcHasDetector n = true →
      srcClass n = .f1 →
      s.flag (ERR.SRC.ACTIVE n) = false →
      s.err.shadows = [] →
      Completes (.sourceRaise n false) s fun t =>
        t.flag (ERR.SRC.STAT n) = true ∧
        t.get (ERR.SRC.COUNT n) = satAdd (2 ^ (ERR.SRC.COUNT n).n - 1) (s.get (ERR.SRC.COUNT n)) 1 ∧
        t.flag (ERR.SRC.CONSEQ n) = false ∧
        t.flag (ERR.SRC.FORCED n) = false ∧
        t.flag ERR.STAT.FIRST_VALID = true ∧
        ((s.flag ERR.STAT.FIRST_VALID = false → t.get ERR.STAT.FIRST = n.val)) ∧
        RegsOnlyErr [] s t ∧
        SameMemory s t) ∧
  (∀ (n : Source) (s : State),
      s.mainOn = true →
      srcHasDetector n = true →
      srcClass n = .f2 →
      s.flag (ERR.SRC.ACTIVE n) = false →
      s.flag (ERR.SRC.ESCALATED n) = false →
      s.flag (ERR.SRC.PENDING n) = false →
      s.err.shadows = [] →
      Completes (.sourceRaise n true) s fun t =>
        t.flag (ERR.SRC.STAT n) = true ∧
        t.flag (ERR.SRC.PENDING n) = true ∧
        t.flag (ERR.SRC.ACTIVE n) = true ∧
        Tab.get (fun _ => 0) t.err.pendAt n = s.tick ∧
        RegsOnlyErr [] s t ∧
        SameMemory s t) ∧
  (∀ (n : Source) (ns : Nat) (judged stays : Bool) (s : State),
      s.mainOn = true →
      50 < ns ∨ (20 ≤ ns ∧ judged = true) →
      srcClass n = .f1 →
      Completes (.railBroken (some n) ns judged stays) s fun t =>
        t.flag (ERR.SRC.BROKEN n) = true ∧
        t.flag ERR.STAT.BROKEN_SEEN = true ∧
        RegsOnlyErr [] s t ∧
        SameMemory s t) ∧
  (∀ (ns : Nat) (judged stays : Bool) (s : State),
      ns < 20 ∨ (ns ≤ 50 ∧ judged = false) →
      Completes (.railBroken none ns judged stays) s fun t =>
        t = s) ∧
  (∀ (n : Source) (s : State),
      s.flag (ERR.SRC.PENDING n) = true ∨ s.flag (ERR.SRC.ESCALATED n) = true →
      Completes (.errAckWrite n) s fun t =>
        t.flag (ERR.SRC.PENDING n) = false ∧
        t.flag (ERR.SRC.ESCALATED n) = false ∧
        t.get ⟨ERR.PEND.reg (n / 32), n % 32, 1⟩ = 0 ∧
        RegsOnly [ERR.SRC.reg n, ERR.PEND.reg (n / 32)] s t ∧
        t = { s with regs := t.regs, err := t.err }) ∧
  (∀ (n : Source) (s : State),
      s.flag (ERR.SRC.PENDING n) = false →
      s.flag (ERR.SRC.ESCALATED n) = false →
      Completes (.errAckWrite n) s fun t =>
        t.flag ERR.STAT.ACK_ERR = true ∧
        RegsOnly [ERR.STAT.reg] s t ∧
        t = { s with regs := t.regs }) ∧
  (∀ (n : Source) (s : State),
      s.flag (ERR.SRC.PENDING n) = true →
      s.clk.running = true →
      Tab.get (fun _ => 0) s.err.pendAt n + s.reactTicks n ≤ s.tick →
      s.escTargets n = 0 →
      Completes (.errEscalation n) s fun t =>
        t.flag (ERR.SRC.PENDING n) = false ∧
        t.flag (ERR.SRC.ESCALATED n) = true ∧
        t.get ERR.STAT.ESC_CNT = satAdd (2 ^ ERR.STAT.ESC_CNT.n - 1) (s.get ERR.STAT.ESC_CNT) 1 ∧
        Tab.get (fun _ => 0) t.err.targets n = 0 ∧
        RegsOnly [ERR.SRC.reg n, ERR.PEND.reg (n / 32), ERR.IRQ.reg, ERR.STAT.reg] s t ∧
        SameMemory s t) ∧
  (∀ (n : Source) (s : State),
      s.flag (ERR.SRC.ACTIVE n) = false →
      srcClass n = .f0 →
      s.err.shadows = [] →
      Completes (.errForceWrite n true) s fun t =>
        t.flag (ERR.SRC.FORCE n) = true ∧
        t.flag (ERR.SRC.STAT n) = true ∧
        t.flag (ERR.SRC.FORCED n) = true ∧
        RegsOnlyErr [] s t ∧
        SameMemory s t) ∧
  (∀ (n : Source) (b : Bool) (s : State),
      srcClass n = .f3 →
      s.lifecycle ≠ 0 →
      s.lifecycle ≠ 3 →
      Completes (.errForceWrite n b) s fun t =>
        t.flag ERR.STAT.FORCE_REFUSED = true ∧
        RegsOnly [ERR.STAT.reg] s t ∧
        t = { s with regs := t.regs }) ∧
  (∀ (n : Source) (s : State),
      s.flag (ERR.SRC.PENDING n) = false →
      s.flag (ERR.SRC.ESCALATED n) = false →
      srcClass n ≠ .f3 →
      Completes (.errStatClear n) s fun t =>
        t.flag (ERR.SRC.STAT n) = false ∧
        t.get ⟨ERR.SUM.reg (n / 32), n % 32, 1⟩ = 0 ∧
        RegsOnly [ERR.SRC.reg n, ERR.SUM.reg (n / 32)] s t ∧
        t = { s with regs := t.regs }) ∧
  (∀ (s : State),
      s.mainOn = true →
      s.flag LEC.STAT.RUNNING = true →
      s.flag LEC.STAT.HALTED = false →
      s.flag (ERR.SRC.ACTIVE srcLecWdog) = false →
      Completes .lecWatchdogExpire s fun t =>
        t.flag (ERR.SRC.STAT srcLecWdog) = true) ∧
  (∀ (k : Sector) (s : State),
      s.mainOn = true →
      s.flag (ERR.SRC.ACTIVE (srcFabricSec k)) = false →
      Completes (.fabricTimeout (some k)) s fun t =>
        t.flag (ERR.SRC.STAT (srcFabricSec k)) = true ∧
        RegsOnlyErr [] s t) ∧
  (∀ (c : Channel) (s : State),
      s.mainOn = true →
      s.err.announced.contains (0x20 + c.val) = true →
      Completes (.resetAnnounce (BitVec.ofNat 8 (0x20 + c))) s fun t =>
        t.get (ERR.RESET.GEN (0x20 + c)) = (s.get (ERR.RESET.GEN (0x20 + c)) + 1) % 2 ^ (ERR.RESET.GEN 0).n ∧
        t.flag (ERR.RESET.BUSY (0x20 + c)) = true ∧
        t.flag (ERR.RESET.SHADOW (0x20 + c)) = true ∧
        (0x20 + c.val) ∈ t.err.shadows ∧
        t.chState c = cpIdle) ∧
  (∀ (d : BitVec 8) (s : State),
      s.mainOn = true →
      s.flag (ERR.RESET.BUSY d.toNat) = true →
      d.toNat < 0xD0 →
      s.lec.jobs = [] →
      Completes (.resetDomainEnd d) s fun t =>
        t.flag (ERR.RESET.BUSY d.toNat) = false ∧
        t.err.ending = s.err.ending ++ [d.toNat] ∧
        RegsOnly [ERR.RESET.reg d.toNat] s t ∧
        t = { s with regs := t.regs, err := t.err }) ∧
  (∀ (d : BitVec 8) (j : Job) (s : State),
      s.mainOn = true →
      s.flag (ERR.RESET.BUSY d.toNat) = true →
      d.toNat < 0x20 →
      s.lec.jobs = [j] →
      j.packet.opcode = 0x005 →
      j.aux = d.toNat →
      Completes (.resetDomainEnd d) s fun t =>
        JobEnded j stDone [BitVec.ofNat 32 (s.get (ERR.RESET.GEN d.toNat) % 2 ^ 8)] s t ∧
        t.flag (ERR.RESET.BUSY d.toNat) = false) ∧
  (∀ (d : BitVec 8) (s : State),
      s.err.ending.contains d.toNat = true →
      Completes (.shadowClose d) s fun t =>
        t.flag (ERR.RESET.SHADOW d.toNat) = false ∧
        d.toNat ∉ t.err.shadows ∧
        d.toNat ∉ t.err.ending ∧
        RegsOnly [ERR.RESET.reg d.toNat] s t ∧
        t = { s with regs := t.regs, err := t.err })

/-- ERR_ACK, ERR_FORCE and ERR_READ -/
def Obligations.ErrataCommands : Prop :=
  (∀ (p : Packet) (u : State) (n : Source) (s : State),
      s.start 0x701 = some (p, u) →
      p.arg 0 = 1 →
      p.params = [BitVec.ofNat 32 (1 + n * 2 ^ 16)] →
      srcClass n = .f2 →
      s.flag (ERR.SRC.PENDING n) = true →
      Completes .errAck s fun t =>
        t.flag (ERR.SRC.PENDING n) = false ∧
        RepliedTo p stDone [1] s t ∧
        RegsOnly [ERR.SRC.reg n, ERR.PEND.reg (n / 32)] s t) ∧
  (∀ (p : Packet) (u : State) (s : State),
      s.start 0x701 = some (p, u) →
      (∀ n : Source, s.flag (ERR.SRC.PENDING n) = false ∧ s.flag (ERR.SRC.ESCALATED n) = false) →
      p.arg 0 ≠ 0 →
      Completes .errAck s fun t =>
        RepliedTo p stBadParam [] s t ∧
        t = { s with lec := t.lec }) ∧
  (∀ (p : Packet) (u : State) (s : State),
      s.start 0x702 = some (p, u) →
      s.mayForce (p.arg 0) = false →
      Completes .errForce s fun t =>
        RepliedTo p stSealed [] s t ∧
        t = { s with lec := t.lec }) ∧
  (∀ (p : Packet) (u : State) (s : State),
      s.start 0x702 = some (p, u) →
      s.mayForce (p.arg 0) = true →
      p.arg 0 < 384 →
      p.arg 1 = 0 →
      Completes .errForce s fun t =>
        t.flag (ERR.SRC.FORCE (p.arg 0)) = false ∧
        RepliedTo p stDone [] s t ∧
        RegsOnly [ERR.SRC.reg (p.arg 0)] s t) ∧
  (∀ (p : Packet) (u : State) (s : State),
      s.start 0x703 = some (p, u) →
      0 < p.arg 1 →
      p.arg 1 ≤ 384 →
      p.arg 0 + p.arg 1 ≤ 384 →
      Completes .errRead s fun t =>
        RepliedTo p stDone (packFields ((List.range (p.arg 1)).map fun i => (8, (s.rd (ERR.SRC.reg (p.arg 0 + i))).toNat / 2 ^ 24))) s t ∧
        t = { s with lec := t.lec })

/-- The lifecycle commands and the Colophon's commands -/
def Obligations.LifecycleCommands : Prop :=
  (∀ (p : Packet) (u : State) (s : State),
      s.start 0x501 = some (p, u) →
      s.lifecycle = 0 →
      s.anyActive = false →
      s.vault.room 2 = true →
      s.vault.mayCount = true →
      Completes .lcProvision s fun t =>
        InProgress p 0 0 s t ∧
        t.vault.txs = s.vault.txs ++ [{ act := .provision (p.arg 0), opcode := 0x501, origin := 0 }] ∧
        t.nvm.op = s.nvm.op ++ [.backup] ∧
        t.lec.locked = some .lifecycle ∧
        t.lifecycle = 0 ∧
        RegsOnly [LEC.STAT.reg] s t ∧
        SameMemory s t) ∧
  (∀ (p : Packet) (u : State) (s : State),
      s.start 0x501 = some (p, u) →
      s.lifecycle ≠ 0 →
      Completes .lcProvision s fun t =>
        RepliedTo p stSealed [] s t ∧
        t = { s with lec := t.lec }) ∧
  (∀ (p : Packet) (u : State) (s : State),
      s.start 0x502 = some (p, u) →
      s.lifecycle = 1 ∨ s.lifecycle = 3 →
      s.anyActive = false →
      s.flag (CAL.TPOINT.VALID 0) = true →
      s.flag (CAL.TPOINT.VALID 1) = true →
      s.vault.room 2 = true →
      s.vault.mayCount = true →
      Completes .lcSeal s fun t =>
        InProgress p 0 0 s t ∧
        t.vault.txs = s.vault.txs ++ [{ act := .sealing, opcode := 0x502, origin := 0 }] ∧
        (∀ i : Fin 4, t.flag (DEBUG.INJ.CTL.EN i) = false) ∧
        t.lec.locked = some .lifecycle ∧
        t.lifecycle = s.lifecycle ∧
        SameMemory s t) ∧
  (∀ (p : Packet) (u : State) (s : State),
      s.start 0x503 = some (p, u) →
      s.lifecycle ≠ 2 ∨ s.vault.authFails = 3 →
      Completes .lcService s fun t =>
        RepliedTo p stSealed [] s t ∧
        t = { s with lec := t.lec }) ∧
  (∀ (p : Packet) (u : State) (s : State),
      s.start 0x503 = some (p, u) →
      s.lifecycle = 2 →
      s.vault.authFails ≠ 3 →
      s.vault.room 1 = true →
      s.vault.mayCount = true →
      Completes .lcService s fun t =>
        t.vault.nonce = none ∧
        t.lifecycle = (if (s.judgeSigned p 3).1 then 3 else 2) ∧
        t.vault.counter = s.vault.counter + b2n (s.judgeSigned p 3).1 ∧
        t.vault.nextSeq = s.vault.nextSeq + b2n (s.judgeSigned p 3).1 ∧
        (if (s.judgeSigned p 3).1 then t.vault.sram = [] else t.vault.entries = s.vault.entries) ∧
        t.vault.attKey = s.vault.attKey ∧
        t.hostMem = s.hostMem ∧
        t.nvm = s.nvm) ∧
  (∀ (p : Packet) (u : State) (s : State),
      s.start 0x505 = some (p, u) →
      s.lifecycle = 0 ∨ s.lifecycle = 4 ∨ s.vault.authFails = 3 →
      Completes .lcRetire s fun t =>
        RepliedTo p stSealed [] s t ∧
        t = { s with lec := t.lec }) ∧
  (∀ (p : Packet) (u : State) (s : State),
      s.start 0x505 = some (p, u) →
      1 ≤ s.lifecycle →
      s.lifecycle ≤ 3 →
      s.vault.authFails ≠ 3 →
      s.vault.reserveRoom = true →
      s.vault.mayCount = true →
      Completes .lcRetire s fun t =>
        t.vault.nonce = none ∧
        t.lifecycle = (if (s.judgeSigned p 4).1 then 4 else s.lifecycle) ∧
        t.vault.counter = s.vault.counter + b2n (s.judgeSigned p 4).1 ∧
        t.vault.nextSeq = s.vault.nextSeq + b2n (s.judgeSigned p 4).1 ∧
        t.vault.keys = (s.vault.keys && !(s.judgeSigned p 4).1) ∧
        (((s.judgeSigned p 4).1 = true → t.vault.deviceKey = 0 ∧ t.vault.attKey = 0 ∧ t.vault.owner = 0)) ∧
        t.hostMem = s.hostMem) ∧
  (∀ (p : Packet) (u : State) (s : State),
      s.start 0x504 = some (p, u) →
      s.lifecycle ≠ 0 →
      s.lifecycle ≠ 4 →
      Completes .lcChallenge s fun t =>
        t.vault.nonce = some (Config.freeNat s.free % 2 ^ 256, s.quill.qsec) ∧
        RepliedTo p stDone (packFields [(256, Config.freeNat s.free % 2 ^ 256), (64, s.quill.qsec)]) s t ∧
        t.free = s.free + 1 ∧
        t = { s with lec := t.lec, vault := { s.vault with nonce := t.vault.nonce }, free := t.free }) ∧
  (∀ (p : Packet) (u : State) (s : State),
      s.start 0x506 = some (p, u) →
      0 < p.arg 1 →
      p.arg 1 ≤ 63 →
      s.vault.first ≤ p.arg 0 →
      (∃ e ∈ s.vault.entries, p.arg 0 ≤ e.seq) →
      Completes .colRead s fun t =>
        RepliedTo p (if ((s.vault.entries.filter fun e => decide (p.arg 0 ≤ e.seq)).take (p.arg 1)).length < p.arg 1 then stDoneReduced else stDone)
      (packFields ((32, ((s.vault.entries.filter fun e => decide (p.arg 0 ≤ e.seq)).take (p.arg 1)).length) :: ((s.vault.entries.filter fun e => decide (p.arg 0 ≤ e.seq)).take (p.arg 1)).map fun e => (512, leNat e.bytes))) s t ∧
        t = { s with lec := t.lec }) ∧
  (∀ (p : Packet) (u : State) (e : ColEntry) (s : State),
      s.start 0x508 = some (p, u) →
      s.vault.entries.find? (·.seq = p.arg 0) = some e →
      p.arg 0 + 1 < s.vault.nextSeq →
      s.vault.nextSeq < 2 ^ 32 →
      s.vault.held = [] →
      Completes .colRelease s fun t =>
        t.vault.first = p.arg 0 + 1 ∧
        t.vault.nextSeq = s.vault.nextSeq + 1 ∧
        t.vault.entries.dropLast = s.vault.entries.filter (fun x => decide (p.arg 0 < x.seq)) ∧
        t.vault.entries.getLast?.map (·.kind) = some colRelease ∧
        t.lec.replies.length = s.lec.replies.length + 1 ∧
        t.hostMem = s.hostMem ∧
        t.vault.lc = s.vault.lc) ∧
  (∀ (p : Packet) (u : State) (s : State),
      s.start 0x507 = some (p, u) →
      s.lifecycle ≠ 0 →
      s.lifecycle ≠ 4 →
      Completes .verdict s fun t =>
        t.lec.replies.length = s.lec.replies.length + 1 ∧
        t.lec.replies.getLast?.map (fun x => (x.status, x.tag, x.result.take 8)) = some (if s.overdue p then stDoneDelayed else stDone, p.tag, (packFields [(256, p.arg 0)])) ∧
        t = { s with lec := t.lec }) ∧
  (∀ (p : Packet) (u : State) (s : State),
      s.start 0x507 = some (p, u) →
      s.lifecycle = 0 ∨ s.lifecycle = 4 →
      Completes .verdict s fun t =>
        RepliedTo p stSealed [] s t ∧
        t = { s with lec := t.lec })

/-- Flash, fuses and repairs of HBM rows -/
def Obligations.FlashAndFuses : Prop :=
  (∀ (p : Packet) (u : State) (s : State),
      s.start 0x601 = some (p, u) →
      Completes .flashInfo s fun t =>
        RepliedTo p stDone (packFields ((32, Config.flashJedec) :: (32, s.nvm.flashSize) :: (List.range 4).map fun i => (32, Config.flashErase i))) s t ∧
        t = { s with lec := t.lec }) ∧
  (∀ (p : Packet) (u : State) (s : State),
      s.start 0x602 = some (p, u) →
      0 < p.arg 1 →
      p.arg 1 ≤ 4064 →
      0x210000 ≤ p.arg 0 →
      p.arg 0 + p.arg 1 ≤ s.nvm.flashSize →
      Completes .flashRead s fun t =>
        RepliedTo p stDone (packFields ((List.range (p.arg 1)).map fun i => (8, (s.flashRd (p.arg 0 + i)).toNat))) s t ∧
        t = { s with lec := t.lec, free := s.free + 1 }) ∧
  (∀ (p : Packet) (u : State) (s : State),
      s.start 0x602 = some (p, u) →
      p.arg 1 = 0 ∨ 4064 < p.arg 1 ∨ s.nvm.flashSize < p.arg 0 + p.arg 1 →
      Completes .flashRead s fun t =>
        RepliedTo p stBadParam [] s t ∧
        t = { s with lec := t.lec }) ∧
  (∀ (p : Packet) (u : State) (s : State),
      s.start 0x603 = some (p, u) →
      inBackup (p.arg 0) (p.arg 1) = false →
      s.inBooted (p.arg 0) (p.arg 1) = false →
      p.arg 0 + p.arg 1 ≤ s.nvm.flashSize →
      p.arg 0 % 4096 = 0 →
      p.arg 1 % 4096 = 0 →
      Completes .flashErase s fun t =>
        InProgress p 0 0 s t ∧
        t.nvm.op = s.nvm.op ++ [.erase (p.arg 0) (p.arg 1)] ∧
        t.nvm.flash = s.nvm.flash ∧
        RegsOnly [LEC.STAT.reg] s t ∧
        SameMemory s t) ∧
  (∀ (p : Packet) (u : State) (s : State),
      s.start 0x603 = some (p, u) →
      inBackup (p.arg 0) (p.arg 1) = true →
      Completes .flashErase s fun t =>
        RepliedTo p stSealed [] s t ∧
        t = { s with lec := t.lec }) ∧
  (∀ (p : Packet) (u : State) (b : BitVec 32) (s : State),
      s.start 0x605 = some (p, u) →
      p.params.drop 2 = [b] →
      inBackup (p.arg 0) 4 = false →
      s.inBooted (p.arg 0) 4 = false →
      p.arg 0 + 4 ≤ s.nvm.flashSize →
      p.arg 1 = 0 →
      (∀ i : Fin 4, s.flashRd (p.arg 0 + i) = 0xFF) →
      Completes .flashProgram s fun t =>
        InProgress p 0 0 s t ∧
        t.nvm.op = s.nvm.op ++ [.program (p.arg 0) (leBytes 4 b.toNat)] ∧
        SameMemory s t) ∧
  (∀ (off n : Nat) (rest : List FlashOp) (s : State),
      s.nvm.op = .erase off n :: rest →
      s.lec.jobs = [] →
      Completes (.flashOperationDone []) s fun t =>
        (∀ i, Tab.get flashDefault t.nvm.flash i = (if off ≤ i ∧ i < off + n then 0xFF else Tab.get flashDefault s.nvm.flash i)) ∧
        t.nvm.op = rest ∧
        t = { s with nvm := t.nvm }) ∧
  (∀ (off : Nat) (b : Byte) (rest : List FlashOp) (s : State),
      s.nvm.op = .program off [b] :: rest →
      s.lec.jobs = [] →
      Completes (.flashOperationDone []) s fun t =>
        (∀ i, Tab.get flashDefault t.nvm.flash i = (if i = off then b &&& Tab.get flashDefault s.nvm.flash off else Tab.get flashDefault s.nvm.flash i)) ∧
        t.nvm.op = rest ∧
        t.regs = s.regs) ∧
  (∀ (p : Packet) (u : State) (s : State),
      s.start 0x606 = some (p, u) →
      s.lifecycle = 0 ∨ s.lifecycle = 3 →
      Tab.get (fun _ => 0) s.nvm.fuses (p.arg 0) &&& p.arg 1 = Tab.get (fun _ => 0) s.nvm.fuses (p.arg 0) →
      Completes .fuseProgram s fun t =>
        Tab.get (fun _ => 0) t.nvm.fuses (p.arg 0) = p.arg 1 ∧
        RepliedTo p stDone [BitVec.ofNat 32 (p.arg 1)] s t ∧
        RegsOnly [] s t ∧
        SameMemory s t) ∧
  (∀ (p : Packet) (u : State) (s : State),
      s.start 0x606 = some (p, u) →
      s.lifecycle ≠ 0 →
      s.lifecycle ≠ 3 →
      Completes .fuseProgram s fun t =>
        RepliedTo p stSealed [] s t ∧
        t = { s with lec := t.lec }) ∧
  (∀ (p : Packet) (u : State) (s : State),
      s.start 0x604 = some (p, u) →
      s.lifecycle ≠ 3 →
      Completes .hbmPpr s fun t =>
        RepliedTo p stSealed [] s t ∧
        t = { s with lec := t.lec }) ∧
  (∀ (p : Packet) (u : State) (s : State),
      s.start 0x604 = some (p, u) →
      s.lifecycle = 3 →
      p.arg 0 < 2 →
      p.arg 1 < 32 →
      (∀ k : Sector, s.modeOf k = mStandby ∨ s.modeOf k = mOff) →
      s.vault.room 1 = true →
      Completes .hbmPpr s fun t =>
        t.flag (PSC.STAT.PPR_DONE (p.arg 0)) = true ∧
        Config.hbmRowAt (p.arg 1) (p.arg 2) (p.arg 3) ∈ Tab.get (fun _ => []) t.vault.ledger.rowHard (p.arg 0) ∧
        t.lec.replies.length = s.lec.replies.length + 1 ∧
        t.vault.nextSeq = s.vault.nextSeq + 1 ∧
        t.mem = s.mem ∧
        t.hostMem = s.hostMem) ∧
  (∀ (w : Wing) (row : Nat) (rest : List Nat) (s : State),
      Tab.get (fun _ => []) s.vault.ledger.rowCand w = row :: rest →
      s.anyActive3 = false →
      (∀ c : Channel, s.usesStack c w = false) →
      s.flag (PSC.LINK.TRAINED w) = true →
      Completes (.pprSoftRepair w) s fun t =>
        Tab.get (fun _ => []) t.vault.ledger.rowCand w = rest ∧
        row ∈ Tab.get (fun _ => []) t.vault.ledger.rowSoft w ∧
        t.flag (PSC.STAT.PPR_DONE w) = true ∧
        t.get (PSC.STAT.CAND w) = rest.length % 2 ^ (PSC.STAT.CAND 0).n ∧
        RegsOnly [PSC.STAT.reg w] s t ∧
        t.mem.mem = s.mem.mem ∧
        SameMemory s t)

/-- Reads and writes of BAR2, windows, the read-ahead cache and stack temperatures -/
def Obligations.PatternStore : Prop :=
  (∀ (off : BitVec 36) (n : BitVec 13) (m : Meeting) (s : State),
      s.awake = true →
      off.toNat + n.toNat ≤ storesBase →
      off.toNat < storesBase →
      s.mem.poison = [] →
      Completes (.bar2Read off n .none m) s fun t =>
        t.answer.bytes = memRds s.mem.mem off.toNat n.toNat ∧
        t.answer.poisoned = false ∧
        t = { s with answer := t.answer }) ∧
  (∀ (off : BitVec 36) (n : BitVec 13) (e : MemErr) (m : Meeting) (s : State),
      s.awake = true →
      storesBase + 8 * 0x800000 ≤ off.toNat →
      Completes (.bar2Read off n e m) s fun t =>
        t.answer.bytes = List.replicate n.toNat 0 ∧
        t.get ERR.ACCESS_HI.KIND = 1 ∧
        t.get ERR.ACCESS_HI.BAR = 1 ∧
        t.rd ERR.ACCESS_LO.reg = BitVec.ofNat 32 off.toNat ∧
        RegsOnlyErr [] s t ∧
        SameMemory s t) ∧
  (∀ (off : BitVec 36) (data : List Byte) (m : Meeting) (s : State),
      s.awake = true →
      off.toNat % 32 = 0 →
      data.length = 32 →
      off.toNat + 32 ≤ storesBase →
      s.lockedBy (off.toNat / stackSize) (off.toNat % stackSize) = none →
      Completes (.bar2Write off (data.map some) .none m) s fun t =>
        t.mem.mem = memWrs s.mem.mem off.toNat data ∧
        t.mem.poison = s.mem.poison.filter (· ≠ off.toNat / 32) ∧
        t = { s with mem := t.mem } ∧
        t.hostMem = s.hostMem) ∧
  (∀ (off : BitVec 36) (b : Byte) (e : MemErr) (m : Meeting) (k : Nat) (s : State),
      s.awake = true →
      off.toNat < storesBase →
      s.lockedBy (off.toNat / stackSize) (off.toNat % stackSize) = some k →
      Completes (.bar2Write off [some b] e m) s fun t =>
        t.flag (PS.RA_STAT.WLOCK k) = true ∧
        RegsOnly [PS.RA_STAT.reg k] s t ∧
        t = { s with regs := t.regs }) ∧
  (∀ (k : Sector) (b : Fin 16) (i : Fin 0x4000) (x : Byte) (m : Meeting) (s : State),
      s.awake = true →
      s.modeOf k ≠ mOff →
      b ≠ 0 →
      s.owner k b = owHost →
      Completes (.bar2Write (BitVec.ofNat 36 (storesBase + k * 0x800000 + b * 0x80000 + 32 * i)) [some x] .none m) s fun t =>
        t.mem.mem = memWr s.mem.mem (storesBase + k * 0x800000 + b * 0x80000 + 32 * i) x ∧
        t = { s with mem := t.mem }) ∧
  (∀ (k : Sector) (v : Word) (s : State),
      s.modeOf k ≠ mOff →
      s.windowBusy k = false →
      s.windowsFit k [(v.toNat % 512, v.toNat / 2 ^ 16 % 512), s.window k 1, s.window k 2] = true →
      Completes (.psWindowWrite k 0 v) s fun t =>
        t.get (PS.VEC_WIN.BASE k) = v.toNat % 512 ∧
        t.get (PS.VEC_WIN.SIZE k) = v.toNat / 2 ^ 16 % 512 ∧
        RegsOnly [PS.VEC_WIN.reg k] s t ∧
        t = { s with regs := t.regs }) ∧
  (∀ (k : Sector) (i : Fin 3) (v : Word) (s : State),
      s.modeOf k = mOff →
      Completes (.psWindowWrite k i v) s fun t =>
        t = s.hostAccess 0 2 (PS.VEC_WIN.reg k + 4 * i)) ∧
  (∀ (k : Sector) (i : Fin 3) (v : Word) (s : State),
      s.modeOf k ≠ mOff →
      s.windowBusy k = true →
      Completes (.psWindowWrite k i v) s fun t =>
        t.flag (PS.RA_STAT.CFG_ERR k) = true ∧
        RegsOnly [PS.RA_STAT.reg k] s t ∧
        t = { s with regs := t.regs }) ∧
  (∀ (k : Sector) (v : Word) (s : State),
      s.modeOf k ≠ mOff →
      s.modeOf k ≠ mRun →
      v.toNat % 2 ^ 16 = s.get (PS.RA_CFG.BANKS k) →
      (∀ b : Fin 16, (s.get (PS.RA_CFG.BANKS k)).testBit b = true → s.owner k b = owScribe) →
      v.toNat % 2 = 0 →
      v.toNat % 2 ^ 16 &&& v.toNat / 2 ^ 16 % 2 ^ 16 = v.toNat / 2 ^ 16 % 2 ^ 16 →
      v.toNat % 2 ^ 16 ≠ v.toNat / 2 ^ 16 % 2 ^ 16 →
      Completes (.raCfgWrite k v) s fun t =>
        t.get (PS.RA_CFG.BANKS k) = v.toNat % 2 ^ 16 ∧
        t.get (PS.RA_CFG.RES k) = v.toNat / 2 ^ 16 % 2 ^ 16 ∧
        RegsOnly [PS.RA_CFG.reg k] s t ∧
        t = { s with regs := t.regs }) ∧
  (∀ (k : Sector) (v : Word) (s : State),
      s.modeOf k = mRun →
      Completes (.raCfgWrite k v) s fun t =>
        t.flag (PS.RA_STAT.CFG_ERR k) = true ∧
        RegsOnly [PS.RA_STAT.reg k] s t ∧
        t = { s with regs := t.regs }) ∧
  (∀ (k : Sector) (g : Nat) (body : Option Nat) (s : State),
      s.scribeBusy k = true →
      ((s.cache k).groups.find? fun e => decide (e.1 = g)) = none →
      32 ≤ (s.cache k).credit →
      Completes (.fetchIssue k g body .none) s fun t =>
        (t.cache k).credit = (s.cache k).credit - 32 ∧
        ((t.cache k).groups.find? fun e => decide (e.1 = g)).map (·.2) = some { body := body } ∧
        RegsOnly [PS.RA_STAT.reg k] s t ∧
        SameMemory s t) ∧
  (∀ (k : Sector) (g : Nat) (x : Nat × Group) (s : State),
      s.slotsOn (sectorLink k 0) = [] →
      ((s.cache k).groups.find? fun x => decide (x.1 = g ∧ x.2.arrived = false)) = some x →
      s.mem.poison = [] →
      Completes (.fetchComplete k g .none) s fun t =>
        (t.cache k).credit = (s.cache k).credit ∧
        ((t.cache k).groups.find? fun e => decide (e.1 = g)).map (·.2) = some { x.2 with arrived := true, bad := 0 } ∧
        RegsOnly [PS.RA_STAT.reg k] s t ∧
        SameMemory s t) ∧
  (∀ (w : Wing) (c : BitVec 8) (s : State),
      s.flag (PSC.LINK.TRAINED w) = true →
      c.toNat ≤ 95 →
      Completes (.stackTempRead w c) s fun t =>
        t.get (PSC.LINK.TEMP w) = c.toNat ∧
        t.flag (PSC.LINK.REFRESH_X2 w) = decide (85 < c.toNat) ∧
        RegsOnly [PSC.LINK.reg w, ERR.SRC.reg (srcPsHot w)] s t ∧
        SameMemory s t)

/-- Admission, windows and status by command -/
def Obligations.Admission : Prop :=
  (∀ (p : Packet) (u : State) (n : Nat) (s : State),
      s.start 0x101 = some (p, u) →
      p.arg 0 < 8 →
      s.flag (PS.RESV.HELD (p.arg 0)) = false →
      s.modeOf (p.arg 0) = mStandby ∨ s.modeOf (p.arg 0) = mSetup →
      2 ^ 32 ≤ p.arg 4 →
      p.arg 4 < 2 ^ 48 →
      p.arg 2 ≤ 64 →
      p.arg 1 = 0 →
      p.arg 2 = 0 →
      resvUnits (p.arg 4) false 0 = n →
      s.get (PSC.LEDGER.TOTAL (p.arg 0 / 4)) + n ≤ s.get (PSC.LEDGER.CEIL (p.arg 0 / 4)) →
      p.arg 3 ≤ s.lineLimit (p.arg 0) →
      Completes .patAdmit s fun t =>
        t.get (PSC.LEDGER.TOTAL (p.arg 0 / 4)) = (s.get (PSC.LEDGER.TOTAL (p.arg 0 / 4)) + n) % 2 ^ (PSC.LEDGER.TOTAL 0).n ∧
        t.flag (PS.RESV.HELD (p.arg 0)) = true ∧
        t.get (PS.RESV.CAP_BUDGET (p.arg 0)) = 0 ∧
        t.flag (PS.RESV.FAIL_ON (p.arg 0)) = false ∧
        RepliedTo p stDone (packFields [(16, s.get (PSC.LEDGER.TOTAL (p.arg 0 / 4)) + n)]) s t ∧
        RegsOnly [PSC.LEDGER.reg (p.arg 0 / 4), PS.RESV.reg (p.arg 0)] s t ∧
        SameMemory s t) ∧
  (∀ (p : Packet) (u : State) (s : State),
      s.start 0x101 = some (p, u) →
      p.arg 0 < 8 →
      s.flag (PS.RESV.HELD (p.arg 0)) = true →
      Completes .patAdmit s fun t =>
        RepliedTo p stBusy [] s t ∧
        t = { s with lec := t.lec }) ∧
  (∀ (p : Packet) (u : State) (s : State),
      s.start 0x102 = some (p, u) →
      p.arg 0 < 8 →
      s.active3 (p.arg 0) = false →
      s.flag (PS.RESV.HELD (p.arg 0)) = true →
      Completes .patRelease s fun t =>
        t.get (PSC.LEDGER.TOTAL (p.arg 0 / 4)) = s.get (PSC.LEDGER.TOTAL (p.arg 0 / 4)) - (Tab.get (fun _ => {}) s.mem.resv (p.arg 0) : Resv).units ∧
        t.rd (PS.RESV.reg (p.arg 0)) = 0 ∧
        RepliedTo p stDone (packFields [(16, t.get (PSC.LEDGER.TOTAL (p.arg 0 / 4)))]) s t ∧
        RegsOnly [PSC.LEDGER.reg (p.arg 0 / 4), PS.RESV.reg (p.arg 0)] s t ∧
        SameMemory s t) ∧
  (∀ (p : Packet) (u : State) (s : State),
      s.start 0x103 = some (p, u) →
      p.arg 0 < 2 →
      32 ≤ p.arg 1 →
      p.arg 1 ≤ 224 →
      p.arg 1 + s.get (PSC.HOST_RES.H (1 - p.arg 0)) ≤ 256 →
      s.get (PSC.LEDGER.TOTAL (p.arg 0)) - s.get (PSC.HOST_RES.H (p.arg 0)) + p.arg 1 ≤ s.get (PSC.LEDGER.CEIL (p.arg 0)) →
      Completes .psHostRes s fun t =>
        t.get (PSC.HOST_RES.H (p.arg 0)) = p.arg 1 ∧
        t.get (PSC.LEDGER.TOTAL (p.arg 0)) = s.get (PSC.LEDGER.TOTAL (p.arg 0)) - s.get (PSC.HOST_RES.H (p.arg 0)) + p.arg 1 ∧
        RegsOnly [PSC.HOST_RES.reg (p.arg 0), PSC.LEDGER.reg (p.arg 0)] s t ∧
        SameMemory s t) ∧
  (∀ (p : Packet) (u : State) (s : State),
      s.start 0x104 = some (p, u) →
      p.arg 0 < 8 →
      s.modeOf (p.arg 0) ≠ mOff →
      s.windowBusy (p.arg 0) = false →
      s.windowsFit (p.arg 0) [(p.arg 1, p.arg 2), (p.arg 3, p.arg 4), (p.arg 5, p.arg 6)] = true →
      Completes .psWindows s fun t =>
        t.window (p.arg 0) 0 = (p.arg 1 % 2 ^ 9, p.arg 2 % 2 ^ 9) ∧
        t.window (p.arg 0) 1 = (p.arg 3 % 2 ^ 9, p.arg 4 % 2 ^ 9) ∧
        t.window (p.arg 0) 2 = (p.arg 5 % 2 ^ 9, p.arg 6 % 2 ^ 9) ∧
        RepliedTo p stDone [] s t ∧
        RegsOnly [PS.VEC_WIN.reg (p.arg 0), PS.FAIL_WIN.reg (p.arg 0), PS.CAP_WIN.reg (p.arg 0)] s t ∧
        SameMemory s t) ∧
  (∀ (p : Packet) (u : State) (s : State),
      s.start 0x106 = some (p, u) →
      p.arg 0 < 2 →
      Completes .psStatus s fun t =>
        RepliedTo p stDone (packFields ([PSC.LEDGER.reg (p.arg 0), PSC.HOST_RES.reg (p.arg 0), PSC.LINK.reg (p.arg 0), PSC.STAT.reg (p.arg 0)].map fun a => (32, (s.rd a).toNat))) s t ∧
        t = { s with lec := t.lec })

/-- Owners, handovers and self-tests of sector-store banks -/
def Obligations.SectorStores : Prop :=
  (∀ (k : Sector) (b : Fin 16) (c : Channel) (s : State),
      s.modeOf k ≠ mOff →
      s.flag (SS.BANK.PENDING k b) = false →
      s.flag (SS.BANK.BIST k b) = false →
      s.owner k b = owHost →
      Completes (.ssBankWrite k b (BitVec.ofNat 8 (0x20 + c))) s fun t =>
        t.flag (SS.BANK.PENDING k b) = true ∧
        t.owner k b = owHost ∧
        Tab.get (fun _ => 0) t.mem.next (16 * k + b) = 0x20 + c.val + 1 ∧
        RegsOnly [SS.BANK.reg k b] s t ∧
        SameMemory s t) ∧
  (∀ (k : Sector) (b : Fin 16) (code : BitVec 8) (s : State),
      s.modeOf k ≠ mOff →
      s.owner k b = owScribe →
      Completes (.ssBankWrite k b code) s fun t =>
        t.flag (SS.STAT.OWN_ERR k) = true ∧
        t.owner k b = owScribe ∧
        RegsOnly [SS.STAT.reg k] s t ∧
        t = { s with regs := t.regs }) ∧
  (∀ (k : Sector) (c : Channel) (s : State),
      s.modeOf k ≠ mOff →
      s.owner k 0 ≠ 0x20 + c.val →
      Completes (.ssGuestWrite k (BitVec.ofNat 8 (0x20 + c))) s fun t =>
        t.get (SS.GUEST.CODE k) = 0x20 + c.val ∧
        RegsOnly [SS.GUEST.reg k] s t ∧
        t = { s with regs := t.regs }) ∧
  (∀ (k : Sector) (b : Fin 16) (o : BitVec 8) (s : State),
      Tab.get (fun _ => 0) s.mem.next (16 * k + b) = o.toNat + 1 →
      s.mem.held = [] →
      s.flag DEBUG.STATUS.DEFERRED = false →
      Completes (.bankHandoverDone k b) s fun t =>
        t.flag (SS.BANK.PENDING k b) = false ∧
        t.owner k b = o.toNat ∧
        Tab.get (fun _ => 0) t.mem.next (16 * k + b) = 0 ∧
        RegsOnly [SS.BANK.reg k b] s t ∧
        SameMemory s t) ∧
  (∀ (x : HeldWrite) (s : State),
      s.mem.held = [x] →
      s.serveHeld x = none →
      x.tick + 150000 ≤ s.tick →
      Completes .hostWriteHoldTimeout s fun t =>
        t.mem.held = [] ∧
        t.flag DEV.HOSTACC.WR_REFUSED = true ∧
        t.get64 DEV.HOSTACC_ADDR_LO.reg DEV.HOSTACC_ADDR_HI.reg = x.off % 2 ^ 64 ∧
        RegsOnlyErr [DEV.HOSTACC.reg, DEV.HOSTACC_ADDR_LO.reg, DEV.HOSTACC_ADDR_HI.reg] s t ∧
        SameMemory s t) ∧
  (∀ (k : Sector) (s : State),
      (s.bistOf k).banks ≠ 0 →
      (s.bistOf k).pass < 4 →
      Completes (.bistPassEnd k []) s fun t =>
        t.bistOf k = { s.bistOf k with pass := (s.bistOf k).pass + 1 } ∧
        RegsOnly [SS.STAT.reg k] s t ∧
        SameMemory s t) ∧
  (∀ (p : Packet) (u : State) (b : Fin 16) (s : State),
      s.start 0x607 = some (p, u) →
      p.arg 0 < 8 →
      s.modeOf (p.arg 0) = mStandby ∨ s.modeOf (p.arg 0) = mSetup →
      p.arg 1 = 2 ^ b.val →
      s.flag (SS.BANK.PENDING (p.arg 0) b) = false →
      s.owner (p.arg 0) b = owHost →
      (s.bistOf (p.arg 0)).banks = 0 →
      s.vault.ledger.bankFailed = [] →
      Completes .storeBist s fun t =>
        InProgress p 0 0 s t ∧
        t.owner (p.arg 0) b = owTest ∧
        t.flag (SS.BANK.BIST (p.arg 0) b) = true ∧
        t.bistOf (p.arg 0) = { banks := 2 ^ b.val, pass := 1, named := 2 ^ b.val, owners := [(b.val, owHost)], job := true } ∧
        SameMemory s t) ∧
  (∀ (c : Channel) (s : State),
      Completes (.requestUrgent 3 (.channel c)) s fun t =>
        t.get (CH.COUNTS.DELAY c) = satAdd (2 ^ (CH.COUNTS.DELAY 0).n - 1) (s.get (CH.COUNTS.DELAY c)) 1 ∧
        RegsOnly [CH.COUNTS.reg c] s t ∧
        t = { s with regs := t.regs })

/-- What each pattern line does to the flow of its Scribe -/
def Obligations.PatternLines : Prop :=
  (∀ (k : Sector) (pc w : Nat) (s : State),
      s.inkedWord k opNext = some (pc, w) →
      (s.scribe k).reps = 0 →
      Completes (.nextLine k) s fun t =>
        (t.scribe k).word = none ∧
        (t.scribe k).flow = (s.scribe k).flow.goto ((s.scribe k).flow.pc + 1) ∧
        RegsOnly (flowRegs k) s t ∧
        SameMemory s t) ∧
  (∀ (k : Sector) (pc w : Nat) (s : State),
      s.inkedWord k opRpt = some (pc, w) →
      (s.scribe k).reps = 0 →
      Completes (.rptLine k) s fun t =>
        (t.scribe k).word = none ∧
        (t.scribe k).flow = (s.scribe k).flow.goto ((s.scribe k).flow.pc + 1) ∧
        RegsOnly (flowRegs k) s t ∧
        SameMemory s t) ∧
  (∀ (k : Sector) (pc w : Nat) (s : State),
      s.inkedWord k opRpt = some (pc, w) →
      (s.scribe k).reps ≠ 0 →
      Completes (.rptLine k) s fun t =>
        (t.scribe k).word = none ∧
        (t.scribe k).flow = (s.scribe k).flow ∧
        RegsOnly (flowRegs k) s t ∧
        SameMemory s t) ∧
  (∀ (k : Sector) (pc w : Nat) (s : State),
      s.inkedWord k opLoop = some (pc, w) →
      (s.scribe k).reps = 0 →
      (s.scribe k).flow.back = false →
      Completes (.loopLine k) s fun t =>
        (t.scribe k).word = none ∧
        (t.scribe k).flow.loops = ((s.scribe k).flow.pc, (s.scribe k).flow.passes w) :: (s.scribe k).flow.loops ∧
        (t.scribe k).flow.pc = (s.scribe k).flow.pc + 1 ∧
        RegsOnly (flowRegs k) s t ∧
        SameMemory s t) ∧
  (∀ (k : Sector) (pc w : Nat) (a n : Nat) (rest : List (Nat × Nat)) (s : State),
      s.inkedWord k opEndl = some (pc, w) →
      (s.scribe k).reps = 0 →
      (s.scribe k).flow.loops = (a, n) :: rest →
      1 < n →
      Completes (.endlLine k) s fun t =>
        (t.scribe k).word = none ∧
        (t.scribe k).flow.pc = a ∧
        (t.scribe k).flow.loops = (a, n - 1) :: rest ∧
        (t.scribe k).flow.back = true ∧
        RegsOnly (flowRegs k) s t ∧
        SameMemory s t) ∧
  (∀ (k : Sector) (pc w : Nat) (a : Nat) (rest : List (Nat × Nat)) (s : State),
      s.inkedWord k opEndl = some (pc, w) →
      (s.scribe k).reps = 0 →
      (s.scribe k).flow.loops = (a, 1) :: rest →
      Completes (.endlLine k) s fun t =>
        (t.scribe k).word = none ∧
        (t.scribe k).flow.pc = (s.scribe k).flow.pc + 1 ∧
        (t.scribe k).flow.loops = rest ∧
        RegsOnly (flowRegs k) s t ∧
        SameMemory s t) ∧
  (∀ (k : Sector) (pc w : Nat) (s : State),
      s.inkedWord k opJmp = some (pc, w) →
      (s.scribe k).reps = 0 →
      Completes (.jmpLine k) s fun t =>
        (t.scribe k).word = none ∧
        (t.scribe k).flow = (s.scribe k).flow.goto (w % 2 ^ 30) ∧
        RegsOnly (flowRegs k) s t ∧
        SameMemory s t) ∧
  (∀ (k : Sector) (pc w : Nat) (s : State),
      s.inkedWord k opCall = some (pc, w) →
      (s.scribe k).reps = 0 →
      Completes (.callLine k) s fun t =>
        (t.scribe k).word = none ∧
        (t.scribe k).flow.pc = w % 2 ^ 30 ∧
        (t.scribe k).flow.calls = ((s.scribe k).flow.pc + 1, (s.scribe k).flow.loops.length) :: (s.scribe k).flow.calls ∧
        RegsOnly (flowRegs k) s t ∧
        SameMemory s t) ∧
  (∀ (k : Sector) (pc w : Nat) (a d : Nat) (rest : List (Nat × Nat)) (s : State),
      s.inkedWord k opRet = some (pc, w) →
      (s.scribe k).reps = 0 →
      (s.scribe k).flow.calls = (a, d) :: rest →
      Completes (.retLine k) s fun t =>
        (t.scribe k).word = none ∧
        (t.scribe k).flow.pc = a ∧
        (t.scribe k).flow.calls = rest ∧
        RegsOnly (flowRegs k) s t ∧
        SameMemory s t) ∧
  (∀ (k : Sector) (pc w : Nat) (s : State),
      s.inkedWord k opMatch = some (pc, w) →
      condClass (lnCond w) = 0 →
      (s.scribe k).flow.immediate w = true →
      Completes (.matchLine k) s fun t =>
        (t.scribe k).word = none ∧
        (t.scribe k).flow = (s.scribe k).flow.goto (pc + 1) ∧
        RegsOnly (flowRegs k) s t ∧
        SameMemory s t) ∧
  (∀ (k : Sector) (pc w : Nat) (s : State),
      s.inkedWord k opMatch = some (pc, w) →
      condClass (lnCond w) = 0 →
      (s.scribe k).flow.immediate w = false →
      s.flag (SCRIBE.CFG.MATCH_TO k) = false →
      Completes (.matchLine k) s fun t =>
        (t.scribe k).word = none ∧
        (t.scribe k).flow = (s.scribe k).flow.goto (w % 2 ^ 30) ∧
        RegsOnly (flowRegs k) s t ∧
        SameMemory s t) ∧
  (∀ (k : Sector) (pc w : Nat) (s : State),
      s.inkedWord k opMatch = some (pc, w) →
      condClass (lnCond w) ≠ 0 →
      s.chainOf k = none →
      (s.scribe k).reps = 0 →
      Completes (.matchLine k) s fun t =>
        (t.scribe k).word = none ∧
        (t.scribe k).flow = (s.scribe k).flow.goto (w % 2 ^ 30) ∧
        (t.scribe k).decisions.dropLast = (s.scribe k).decisions ∧
        ((t.scribe k).decisions.getLast?.map fun d => decide (d.op = lnOp w ∧ d.addr = pc ∧ d.cond = lnCond w) && d.own.isNone && d.done.isNone) = some true ∧
        t.flag (SCRIBE.DEPTH.DEC_PEND k) = true ∧
        RegsOnly (flowRegs k) s t ∧
        SameMemory s t) ∧
  (∀ (k : Sector) (pc w : Nat) (s : State),
      s.inkedWord k opBr = some (pc, w) →
      condClass (lnCond w) = 0 →
      (s.scribe k).reps = 0 →
      Completes (.brLine k) s fun t =>
        (t.scribe k).word = none ∧
        (t.scribe k).flow = (s.scribe k).flow.goto (if (s.scribe k).flow.immediate w then w % 2 ^ 30 else (s.scribe k).flow.pc + 1) ∧
        RegsOnly (flowRegs k) s t ∧
        SameMemory s t) ∧
  (∀ (k : Sector) (pc w : Nat) (s : State),
      s.inkedWord k opBr = some (pc, w) →
      condClass (lnCond w) ≠ 0 →
      s.chainOf k = none →
      (s.scribe k).reps = 0 →
      Completes (.brLine k) s fun t =>
        (t.scribe k).word = none ∧
        (t.scribe k).flow = (s.scribe k).flow.goto ((s.scribe k).flow.pc + 1) ∧
        (t.scribe k).decisions.dropLast = (s.scribe k).decisions ∧
        ((t.scribe k).decisions.getLast?.map fun d => decide (d.op = lnOp w ∧ d.addr = pc ∧ d.cond = lnCond w) && d.own.isNone && d.done.isNone) = some true ∧
        t.flag (SCRIBE.DEPTH.DEC_PEND k) = true ∧
        RegsOnly (flowRegs k) s t ∧
        SameMemory s t) ∧
  (∀ (k : Sector) (pc w : Nat) (s : State),
      s.inkedWord k opSig = some (pc, w) →
      (s.scribe k).reps = 0 →
      s.flag (EVT.ROUTE.CHAIN (lnEvt w)) = false →
      Completes (.sigLine k) s fun t =>
        (t.scribe k).word = none ∧
        (t.scribe k).flow = (s.scribe k).flow.goto ((s.scribe k).flow.pc + 1) ∧
        t.ev.posted = s.ev.posted ++ [{ code := lnEvt w, source := k, route := (s.rd (EVT.ROUTE.reg (lnEvt w))).toNat, at_ := (s.scribe k).at_, io := false }] ∧
        RegsOnly (flowRegs k) s t ∧
        SameMemory s t) ∧
  (∀ (k : Sector) (pc w : Nat) (s : State),
      s.inkedWord k opWaits = some (pc, w) →
      (s.scribe k).reps = 0 →
      Completes (.waitsLine k) s fun t =>
        (t.scribe k).word = none ∧
        (t.scribe k).waits = (s.scribe k).waits + 1 ∧
        (t.scribe k).flow = (s.scribe k).flow.goto (s.scribe k).flow.pc ∧
        (t.scribe k).decisions.dropLast = (s.scribe k).decisions ∧
        ((t.scribe k).decisions.getLast?.map fun d => decide (d.op = lnOp w ∧ d.addr = pc ∧ d.cond = lnCond w) && d.own.isNone && d.done.isNone) = some true ∧
        t.flag (SCRIBE.DEPTH.DEC_PEND k) = true ∧
        RegsOnly (flowRegs k) s t ∧
        SameMemory s t) ∧
  (∀ (k : Sector) (pc w : Nat) (s : State),
      s.inkedWord k opSetp = some (pc, w) →
      (s.scribe k).reps = 0 →
      w / 256 % 256 ≠ 0 →
      Completes (.setpLine k) s fun t =>
        (t.scribe k).word = none ∧
        (t.scribe k).flow = (s.scribe k).flow.goto ((s.scribe k).flow.pc + 1) ∧
        (t.scribe k).setps = (s.scribe k).setps ++ [(w / 256 % 256, w % 16)] ∧
        (∀ o : Fin 8, (w / 256 % 256).testBit o = true → t.flag (PER.STAT.CHANGE_PEND (8 * k + o)) = true ∧ t.get (PER.STAT.NEXT_PT (8 * k + o)) = w % 16) ∧
        RegsOnly (flowRegs k ++ (octetsOf k).map PER.STAT.reg) s t ∧
        SameMemory s t) ∧
  (∀ (k : Sector) (pc w : Nat) (s : State),
      s.inkedWord k opMark = some (pc, w) →
      (s.scribe k).reps = 0 →
      Completes (.markLine k) s fun t =>
        (t.scribe k).word = none ∧
        (t.scribe k).flow = (s.scribe k).flow.goto ((s.scribe k).flow.pc + 1) ∧
        RegsOnly (flowRegs k) s t ∧
        SameMemory s t) ∧
  (∀ (k : Sector) (pc w : Nat) (s : State),
      s.inkedWord k opHalt = some (pc, w) →
      Completes (.haltLine k) s fun t =>
        (t.scribe k).word = none ∧
        (t.scribe k).halted = true ∧
        (t.scribe k).decisions = [] ∧
        t.get (SCRIBE.HALT_CODE.CODE k) = w % 2 ^ 32 ∧
        (((s.scribe k).decisions ≠ [] → t.flag (SCRIBE.STAT.DEC_DROPPED k) = true)) ∧
        RegsOnly (SCRIBE.HALT_CODE.reg k :: SCRIBE.STAT.reg k :: flowRegs k) s t ∧
        SameMemory s t) ∧
  (∀ (k : Sector) (pc w : Nat) (s : State),
      s.inkedWord k opIdxj = some (pc, w) →
      (s.scribe k).reps = 0 →
      Completes (.idxjLine k) s fun t =>
        (t.scribe k).word = none ∧
        (t.scribe k).flow = (s.scribe k).flow.goto ((w % 2 ^ 30 + (s.scribe k).flow.c (w / 2 ^ 30 % 4)) % 2 ^ 30) ∧
        RegsOnly (flowRegs k) s t ∧
        SameMemory s t) ∧
  (∀ (k : Sector) (pc w : Nat) (s : State),
      s.inkedWord k opLdcnt = some (pc, w) →
      (s.scribe k).reps = 0 →
      lnEvt w / 4 % 4 = 0 →
      (s.scribe k).flow.cnt.length = 4 →
      Completes (.ldcntLine k) s fun t =>
        (t.scribe k).word = none ∧
        (t.scribe k).flow.c (lnEvt w % 4) = w % 2 ^ 32 ∧
        (t.scribe k).flow.pc = (s.scribe k).flow.pc + 1 ∧
        t.get (SCRIBE.CNT.VALUE k (lnEvt w % 4)) = w % 2 ^ 32 ∧
        RegsOnly (flowRegs k) s t ∧
        SameMemory s t) ∧
  (∀ (k : Sector) (pc w : Nat) (s : State),
      s.inkedWord k opDecbr = some (pc, w) →
      (s.scribe k).reps = 0 →
      (s.scribe k).flow.cnt.length = 4 →
      condClass (lnCond w) = 0 →
      (s.scribe k).flow.c (lnCn w) < 2 ^ 32 →
      Completes (.decbrLine k) s fun t =>
        (t.scribe k).word = none ∧
        (t.scribe k).flow.c (lnCn w) = (s.scribe k).flow.c (lnCn w) - 1 ∧
        (t.scribe k).flow.pc = (if (t.scribe k).flow.c (lnCn w) ≠ 0 ∧ ((s.scribe k).flow.decrement w).immediate w = true then w % 2 ^ 30 else (s.scribe k).flow.pc + 1) ∧
        RegsOnly (flowRegs k) s t ∧
        SameMemory s t) ∧
  (∀ (k : Sector) (pc w : Nat) (s : State),
      s.inkedWord k opEnsync = some (pc, w) →
      (s.scribe k).reps = 0 →
      s.inEnsemble k = false →
      Completes (.ensyncLine k) s fun t =>
        (t.scribe k).word = none ∧
        (t.scribe k).flow = (s.scribe k).flow.goto ((s.scribe k).flow.pc + 1) ∧
        RegsOnly (flowRegs k) s t ∧
        SameMemory s t)

/-- A run starts, inks vectors, decides, and stops -/
def Obligations.ScribeRuns : Prop :=
  (∀ (k : Sector) (s : State),
      s.modeOf k = mOff →
      Completes (.scribeStart k) s fun t =>
        t = s.hostAccess 0 2 (SCRIBE.CTL.reg k)) ∧
  (∀ (k : Sector) (s : State),
      s.modeOf k ≠ mOff →
      s.scState k ≠ scIdle →
      Completes (.scribeStart k) s fun t =>
        t.flag (SCRIBE.STAT.START_REFUSED k) = true ∧
        t.get (SCRIBE.STAT.REFUSE_CAUSE k) = refBusy ∧
        RegsOnly [SCRIBE.STAT.reg k] s t ∧
        t = { s with regs := t.regs }) ∧
  (∀ (k : Sector) (s : State),
      s.startFails k = none →
      s.chainOf k = none →
      s.ensembleOf k = [k.val] →
      Completes (.scribeStart k) s fun t =>
        t.scState k = scPriming ∧
        t.modeOf k = mRun ∧
        (t.scribe k).flow.pc = s.get (SCRIBE.START_ADDR.ADDR k) ∧
        (t.scribe k).idx = 0 ∧
        t.get64 (SCRIBE.VEC_IDX_LO.reg k) (SCRIBE.VEC_IDX_HI.reg k) = 0 ∧
        SameMemory s t) ∧
  (∀ (k : Sector) (s : State),
      s.scState k = scPriming →
      (s.scribe k).primed = false →
      (s.scribe k).stops = [] →
      (s.scribe k).chain = none →
      s.primedNow k = true →
      s.ensembleOf k = [k.val] →
      Completes (.primingDone k) s fun t =>
        t.scState k = scRunning ∧
        (t.scribe k).start = some (1024 * (s.tick + 64)) ∧
        (∀ o : Fin 8, t.flag (PER.STAT.RUNNING (8 * k + o)) = true) ∧
        RegsOnly (SCRIBE.STAT.reg k :: (octetsOf k).map PER.STAT.reg) s t ∧
        SameMemory s t) ∧
  (∀ (k : Sector) (c : Nat) (s : State),
      s.scState k = scPriming →
      reportedCause ((s.scribe k).stops.map (·.1)) = some c →
      Completes (.primingStop k) s fun t =>
        t.scState k = scIdle ∧
        t.get (SCRIBE.STAT.STOP_CAUSE k) = c % 2 ^ 4 ∧
        t.flag (SCRIBE.STAT.STOPPED k) = true ∧
        SameMemory s t) ∧
  (∀ (k : Sector) (s : State),
      s.modeOf k ≠ mOff →
      s.scState k = scRunning →
      (∀ e ∈ (s.scribe k).stops, e.1 ≠ stopHost) →
      Completes (.scribeStop k) s fun t =>
        (t.scribe k).stops = (s.scribe k).stops ++ [(stopHost, 1024 * (s.tick + 16))] ∧
        t = { s with scribes := t.scribes }) ∧
  (∀ (k : Sector) (s : State),
      s.scState k = scRunning →
      s.due (s.paceNext k) = true →
      s.boundaryClear k = true →
      (s.marg k).running = false →
      (s.scribe k).stops = [] →
      (s.scribe k).halted = false →
      (s.scribe k).decisions = [] →
      (s.scribe k).reps ≠ 0 →
      Completes (.paceBoundary k) s fun t =>
        (t.scribe k).idx = (s.scribe k).idx + 1 ∧
        (t.scribe k).reps = (s.scribe k).reps - 1 ∧
        (t.scribe k).word = some ((s.scribe k).flow.pc, s.lineBits k (s.scribe k).flow.pc) ∧
        (t.scribe k).flow = (s.scribe k).flow ∧
        t.get (SCRIBE.LINE_PTR.LINE k) = (s.scribe k).flow.pc % 2 ^ 30 ∧
        t.get64 (SCRIBE.VEC_IDX_LO.reg k) (SCRIBE.VEC_IDX_HI.reg k) = ((s.scribe k).idx + 1) % 2 ^ 64) ∧
  (∀ (k : Sector) (d : Decision) (s : State),
      (s.scribe k).decisions = [d] →
      d.own = none →
      d.op = opBr →
      d.cond = 9 →
      d.chainSeq = none →
      d.sampledAt ≤ s.nowDots →
      s.inEnsemble k = false →
      Completes (.decisionResolve k) s fun t =>
        (t.scribe k).decisions = [{ d with own := some (d.sampledAt, s.flag (SCRIBE.CTL.HFLAG k)), vecs := 0, done := some (d.sampledAt, s.flag (SCRIBE.CTL.HFLAG k)), timeout := d.lastRep && !s.flag (SCRIBE.CTL.HFLAG k) }] ∧
        RegsOnly [] s t ∧
        t = { s with scribes := t.scribes }) ∧
  (∀ (k : Sector) (d : Decision) (at_ : Nat) (s : State),
      s.scState k = scRunning →
      s.due (s.paceNext k) = true →
      (s.scribe k).word = none →
      (s.scribe k).decisions = [d] →
      d.done = some (at_, false) →
      at_ ≤ dotOf (s.paceNext k) →
      d.timeout = false →
      d.op = opMatch →
      (s.scribe k).pen.holder = some d.addr →
      (s.scribe k).pen.ready = true →
      Completes (.decisionLanding k) s fun t =>
        (t.scribe k).decisions = [] ∧
        (t.scribe k).flow = (s.scribe k).flow ∧
        t.flag (SCRIBE.DEPTH.DEC_PEND k) = false ∧
        t.get (PEN.LANDS.INLINE k) = satAdd (2 ^ (PEN.LANDS.INLINE 0).n - 1) (s.get (PEN.LANDS.INLINE k)) 1 ∧
        RegsOnly [SCRIBE.DEPTH.reg k, PEN.LANDS.reg k] s t ∧
        t = { s with scribes := t.scribes, regs := t.regs }) ∧
  (∀ (k : Sector) (s : State),
      s.scState k = scDraining →
      (∀ o : Fin 8, (s.oct (8 * k + o)).running = false) →
      Completes (.drainEnd k) s fun t =>
        t.scState k = scIdle ∧
        t.flag (SCRIBE.STAT.STOPPED k) = true ∧
        SameMemory s t) ∧
  (∀ (k : Sector) (a : Nat) (s : State),
      (s.scribe k).ensStop = some a →
      a ≤ s.nowDots →
      s.scState k = scRunning →
      Completes (.ensembleStop k) s fun t =>
        (t.scribe k).ensStop = none ∧
        (t.scribe k).stops = (s.scribe k).stops ++ [(stopEnsemble, a)] ∧
        t = { s with scribes := t.scribes }) ∧
  (∀ (k : Fin 4) (v : Word) (s : State),
      s.ensDouble k v.toNat = false →
      s.ensBusy k v.toNat = false →
      v.getLsbD 30 = false →
      Completes (.ensWrite k v) s fun t =>
        t.flag (ENS.EN k) = v.getLsbD 31 ∧
        t.get (ENS.SMASK k) = v.toNat % 256 ∧
        RegsOnly [ENS.reg k] s t ∧
        t = { s with regs := t.regs }) ∧
  (∀ (k : Fin 4) (v : Word) (s : State),
      s.ensDouble k v.toNat = true →
      Completes (.ensWrite k v) s fun t =>
        t.flag (ENS.CFG_REFUSED k) = true ∧
        t.get (ENS.SMASK k) = s.get (ENS.SMASK k) ∧
        RegsOnly [ENS.reg k] s t ∧
        t = { s with regs := t.regs })

/-- Events are posted, delivered and shown, and drive the EVT_IO balls -/
def Obligations.EventRows : Prop :=
  (∀ (code : BitVec 8) (s : State),
      s.flag (EVT.ROUTE.CHAIN code.toNat) = false →
      Completes (.evtPost code) s fun t =>
        t.ev.posted = s.ev.posted ++ [{ code := code.toNat, source := evHost, route := (s.rd (EVT.ROUTE.reg code.toNat)).toNat, at_ := 1024 * s.tick, io := true }] ∧
        t = { s with ev := t.ev }) ∧
  (∀ (code : BitVec 8) (s : State),
      s.flag (EVT.ROUTE.CHAIN code.toNat) = true →
      s.chain ≠ chRuled →
      Completes (.evtPost code) s fun t =>
        t.flag EVT.FIFO.LOST = true ∧
        RegsOnly [EVT.FIFO.reg] s t ∧
        t = { s with regs := t.regs }) ∧
  (∀ (n : Fin 8) (level : Bool) (s : State),
      s.mainOn = true →
      s.ev.levels.testBit n = !level →
      s.flag (EVTIO.CTL.DIR n) = false →
      level = !s.flag (EVTIO.CTL.FALL n) →
      s.flag (EVT.ROUTE.CHAIN (s.get (EVTIO.CTL.CODE n))) = false →
      Completes (.evtioInputEdge n level) s fun t =>
        t.ev.levels.testBit n = level ∧
        t.ev.posted = s.ev.posted ++ [{ code := s.get (EVTIO.CTL.CODE n), source := evIo, route := (s.rd (EVT.ROUTE.reg (s.get (EVTIO.CTL.CODE n)))).toNat, at_ := 1024 * s.tick, io := true }] ∧
        t = { s with ev := t.ev }) ∧
  (∀ (x : Posted) (rest : List Posted) (s : State),
      s.ev.posted = x :: rest →
      x.chain = none →
      x.deliveredAt ≤ s.nowDots →
      x.route = 2 ^ 31 + 1 →
      x.code < 256 →
      s.modeOf 0 ≠ mOff →
      s.ev.fifo.length < 64 →
      x.io = false →
      Completes .eventDeliver s fun t =>
        t.ev.posted = rest ∧
        t.ev.fifo = s.ev.fifo ++ [(x.source, x.code)] ∧
        t.evPending 0 x.code = true ∧
        RegsOnly [SCRIBE.EVT_PEND.reg 0 (x.code / 32), EVT.FIFO.reg] s t ∧
        SameMemory s t) ∧
  (∀ (n : Fin 8) (e : IoEdge) (rest : List IoEdge) (s : State),
      s.ev.edges = e :: rest →
      e.pin = n.val →
      e.ref + 28 * 1024 ≤ s.nowDots →
      s.flag (EVTIO.CTL.DIR n) = true →
      s.flag (EVTIO.CTL.MODE n) = false →
      Completes (.evtioOutputEdge n) s fun t =>
        t.ev.edges = rest ∧
        t.ev.driven.testBit n = true ∧
        1024 * (s.tick + s.get (EVTIO.CTL.PULSE n) + 1) ≤ Tab.get (fun _ => 0) t.ev.pulses n ∧
        t = { s with ev := t.ev }) ∧
  (∀ (n : Fin 8) (s : State),
      Tab.get (fun _ => 0) s.ev.pulses n ≠ 0 →
      Tab.get (fun _ => 0) s.ev.pulses n ≤ s.nowDots →
      Completes (.evtioPulseEnd n) s fun t =>
        t.ev.driven.testBit n = false ∧
        Tab.get (fun _ => 0) t.ev.pulses n = 0 ∧
        t = { s with ev := t.ev }) ∧
  (∀ (x : Nat × Nat) (rest : List (Nat × Nat)) (s : State),
      s.ev.fifo = x :: rest →
      Completes .evtFifoRead s fun t =>
        t.answer.words = [s.rd EVT.FIFO.reg] ∧
        t.ev.fifo = rest ∧
        t.flag EVT.FIFO.VALID = decide (rest ≠ []) ∧
        RegsOnly [EVT.FIFO.reg] s t ∧
        SameMemory s t)

/-- Pencilled lines, period tables and time sets -/
def Obligations.PencilAndPeriods : Prop :=
  (∀ (k : Sector) (d : Decision) (rest : List Decision) (s : State),
      s.scState k = scRunning →
      (s.scribe k).pen.holder = none →
      (s.scribe k).decisions = d :: rest →
      Completes (.pencilSlotAssign k) s fun t =>
        (t.scribe k).pen.holder = some d.addr ∧
        (t.scribe k).pen.tag = d.seq % 4096 ∧
        (t.scribe k).pen.track = [] ∧
        (t.scribe k).pen.depth = 0 ∧
        t.flag (PEN.STAT.SLOT k) = true ∧
        RegsOnly [PEN.STAT.reg k] s t ∧
        t = { s with scribes := t.scribes, regs := t.regs }) ∧
  (∀ (k : Sector) (s : State),
      s.scState k = scRunning →
      (s.scribe k).pen.holder ≠ none →
      (s.scribe k).pen.ended = false →
      s.lineLimit k ≤ (s.scribe k).pen.flow.pc →
      Completes (.pencilLineStaged k true) s fun t =>
        (t.scribe k).pen = { (s.scribe k).pen with ended := true } ∧
        t.flag (PEN.STAT.READY k) = true ∧
        RegsOnly [PEN.STAT.reg k] s t ∧
        t = { s with scribes := t.scribes, regs := t.regs }) ∧
  (∀ (g : Octet) (e : Fin 16) (v : Word) (s : State),
      s.modeOf (g / 8) ≠ mOff →
      s.ptIgnored g e = false →
      s.flag (PS.RESV.HELD (g / 8)) = false →
      0 < v.toNat % 2 ^ 16 →
      Tab.get (fun _ => 0) (s.oct g).heldFrac e = 0 →
      Completes (.ptHiCommit g e v) s fun t =>
        s.period g e % 2 ^ 32 = t.period g e % 2 ^ 32 ∧
        t.get (PER.PT.HI.INT g e) = v.toNat % 2 ^ 16 ∧
        RegsOnly [PER.PT.LO.reg g e, PER.PT.HI.reg g e] s t ∧
        SameMemory s t) ∧
  (∀ (g : Octet) (e : Fin 16) (v : Word) (s : State),
      s.modeOf (g / 8) ≠ mOff →
      s.scState (g / 8) ≠ scIdle →
      Completes (.ptHiCommit g e v) s fun t =>
        t.flag (PER.STAT.WR_IGNORED g) = true ∧
        t.period g e = s.period g e ∧
        RegsOnly [PER.STAT.reg g] s t ∧
        SameMemory s t) ∧
  (∀ (g : Octet) (e stretch : Nat) (s : State),
      (s.oct g).effect = some (e, stretch) →
      (s.oct g).running = true →
      s.due (s.oct g).next = true →
      Completes (.periodChangeEffect g) s fun t =>
        (t.oct g).effect = none ∧
        t.get (PER.STAT.CUR_PT g) = e % 2 ^ 4 ∧
        t.get64 (PER.CHG_LO.reg g) (PER.CHG_HI.reg g) = dotOf (s.oct g).next % 2 ^ 64 ∧
        RegsOnly [PER.STAT.reg g, PER.CHG_LO.reg g, PER.CHG_HI.reg g, PER.STRETCH.reg g] s t ∧
        t = { s with octs := t.octs, regs := t.regs }) ∧
  (∀ (g : Octet) (s : State),
      (s.oct g).running = true →
      s.due (s.oct g).next = true →
      (s.oct g).effect = none →
      (s.oct g).meas = false →
      g.val ≠ s.paceOctet (g / 8) →
      s.scState (g / 8) = scRunning →
      (s.oct g).isOver = false →
      (s.scribe (g / 8)).word = none →
      (s.oct g).next < s.paceNext (g / 8) →
      (s.oct g).count = 0 →
      Completes (.octetVectorBoundary g) s fun t =>
        (t.oct g).count = 1 ∧
        SameMemory s t) ∧
  (∀ (g : Octet) (l : Slot) (n : Fin 64) (w : Fin 5) (v : Word) (s : State),
      s.modeOf (g / 8) ≠ mOff →
      s.nibLocked g = false →
      (s.rot g).visit = none →
      l.val < 8 →
      Completes (.tsStageWrite g l n w v) s fun t =>
        Tab.get (fun _ => 0) (t.oct g).staging (5 * l + w) = v.toNat ∧
        t = { s with octs := t.octs }) ∧
  (∀ (g : Octet) (l : Slot) (n : Fin 64) (v : Word) (s : State),
      s.modeOf (g / 8) ≠ mOff →
      s.nibLocked g = false →
      (s.rot g).visit = none →
      l.val < 8 →
      tsBad (wordsNat ((List.range 5).map (fun k => BitVec.ofNat 32 (Tab.get (fun _ => 0) (s.oct g).staging (5 * l + k))) ++ [BitVec.ofNat 32 (v.toNat % 2 ^ 28)])) = false →
      Completes (.tsCommit g l n v) s fun t =>
        t.timeSet g l n = wordsNat ((List.range 5).map (fun k => BitVec.ofNat 32 (Tab.get (fun _ => 0) (s.oct g).staging (5 * l + k))) ++ [BitVec.ofNat 32 (v.toNat % 2 ^ 28)]) ∧
        RegsOnly ((List.range 6).map (NIB.TS.W.reg g l n)) s t ∧
        SameMemory s t) ∧
  (∀ (g : Octet) (l : Slot) (n : Fin 64) (v : Word) (s : State),
      s.modeOf (g / 8) ≠ mOff →
      s.scState (g / 8) ≠ scIdle →
      (s.rot g).visit = none →
      l.val < 8 →
      Completes (.tsCommit g l n v) s fun t =>
        t.flag (NIB.STAT.WR_IGNORED g l) = true ∧
        RegsOnly [NIB.STAT.reg g l] s t ∧
        t = { s with regs := t.regs }) ∧
  (∀ (g : Octet) (l : Slot) (x : List Int) (s : State),
      s.modeOf (g / 8) ≠ mOff →
      (s.core g (s.coreAt g l)).next = some x →
      Completes (.correctionSetApply g l) s fun t =>
        (t.core g (s.coreAt g l)).set = x ∧
        (t.core g (s.coreAt g l)).next = none ∧
        t.get (NIB.STAT.CORR_GEN g l) = (s.get (NIB.STAT.CORR_GEN g l) + 1) % 2 ^ (NIB.STAT.CORR_GEN 0 0).n ∧
        RegsOnly [NIB.STAT.reg g l] s t ∧
        t = { s with cores := t.cores, regs := t.regs })

/-- Drive instants, strobes and the states of the balls -/
def Obligations.PinsAndStrobes : Prop :=
  (∀ (g : Octet) (l : Lane) (x : Pulse) (b : Bool) (rest : List Pulse) (s : State),
      (s.ball g l).placed = x :: rest →
      x.eng < 4 →
      x.t + s.get (NIB.DESKEW.DRV g l) ≤ s.nowDots →
      x.lev = some b →
      x.de = none →
      s.flag (STK.STAT.DE g l) = true →
      Completes (.driveInstant g l) s fun t =>
        t.flag (STK.STAT.LEV g l) = b ∧
        t.flag (STK.STAT.DE g l) = true ∧
        (t.ball g l).placed = rest ∧
        RegsOnly [STK.STAT.reg g l, FE.STAT.reg g l, STEER.STAT.reg g] s t ∧
        t = { s with balls := t.balls, regs := t.regs }) ∧
  (∀ (g : Octet) (l : Lane) (i : Fin 2) (c : Fin 4) (x : Pulse) (rest : List Pulse) (s : State),
      (s.ball g l).placed = x :: rest →
      x.eng = 4 + i.val →
      s.strobeEnd g l x ≤ s.nowDots →
      x.glyph = gL →
      x.idx = none →
      s.get (ROT.CORES.DEAD g) = 0 →
      Completes (.strobeInstant g l i [c]) s fun t =>
        t.get (MSR.TALLY.PASS g l) = satAdd (2 ^ (MSR.TALLY.PASS 0 0).n - 1) (s.get (MSR.TALLY.PASS g l)) (if c = 1 then 1 else 0) ∧
        t.get (MSR.TALLY.FAIL g l) = satAdd (2 ^ (MSR.TALLY.FAIL 0 0).n - 1) (s.get (MSR.TALLY.FAIL g l)) (if c = 1 then 0 else 1) ∧
        (t.ball g l).placed = rest ∧
        RegsOnly [MSR.TALLY.reg g l] s t ∧
        SameMemory s t) ∧
  (∀ (g : Octet) (l : Lane) (s : State),
      1 ≤ s.ballState g l →
      s.ballState g l ≤ fsHigh →
      s.isolated g l = false →
      s.get (STEER.STAT.DC_BALL g) ≠ l.val →
      Completes (.overcurrentTrip g l) s fun t =>
        t.flag (FE.STAT.OC g l) = true ∧
        t.ballState g l = fsShutdown ∧
        ((s.mainOn = true → s.flag (ERR.SRC.ACTIVE (srcFeOc (g / 8))) = false → t.flag (ERR.SRC.STAT (srcFeOc (g / 8))) = true)) ∧
        RegsOnlyErr [FE.STAT.reg g l, STEER.STAT.reg g] s t ∧
        SameMemory s t) ∧
  (∀ (g : Octet) (l : Lane) (s : State),
      s.flag (FE.STAT.OC g l) = true →
      s.ballState g l = fsShutdown →
      Completes (.ocShutdownFail g l) s fun t =>
        t.flag (FE.STAT.OC_FAIL g l) = true ∧
        t.ballState g l = fsIsolated) ∧
  (∀ (g : Octet) (l : Lane) (s : State),
      s.modeOf (g / 8) ≠ mOff →
      s.flag (FE.STAT.OC g l) = true →
      Completes (.ocClear g l) s fun t =>
        t.flag (FE.STAT.OC g l) = false ∧
        RegsOnly [FE.STAT.reg g l, STEER.STAT.reg g] s t ∧
        SameMemory s t) ∧
  (∀ (g : Octet) (l : Lane) (s : State),
      s.modeOf (g / 8) ≠ mOff →
      (s.dcUnit g).link = 0 →
      Completes (.overVoltage g l) s fun t =>
        (t.get (STEER.STAT.OV g)).testBit l = true ∧
        t.ballState g l = fsIsolated ∧
        RegsOnlyErr [FE.STAT.reg g l, STEER.STAT.reg g] s t ∧
        SameMemory s t) ∧
  (∀ (g : Octet) (l : Lane) (s : State),
      s.modeOf (g / 8) ≠ mOff →
      Completes (.ovClear g l) s fun t =>
        (t.get (STEER.STAT.OV g)).testBit l = false ∧
        RegsOnly [FE.STAT.reg g l, STEER.STAT.reg g] s t ∧
        SameMemory s t) ∧
  (∀ (g : Octet) (l : Lane) (s : State),
      s.ballState g l = fsLoad →
      Completes (.loadCompliance g l) s fun t =>
        t.flag (FE.STAT.COMPLY g l) = true ∧
        RegsOnlyErr [FE.STAT.reg g l] s t ∧
        SameMemory s t) ∧
  (∀ (g : Octet) (v : Word) (s : State),
      s.modeOf (g / 8) ≠ mOff →
      Completes (.forceIsoWrite g v) s fun t =>
        t.get (STEER.CTL.FORCE_ISO g) = v.toNat % 256 ∧
        (∀ l : Lane, v.getLsbD l = true → (s.get (STEER.CTL.FORCE_ISO g)).testBit l = false → t.ballState g l = fsIsolated) ∧
        RegsOnly (STEER.CTL.reg g :: STEER.STAT.reg g :: (List.range 8).map (FE.STAT.reg g)) s t ∧
        SameMemory s t) ∧
  (∀ (g : Octet) (l : Slot) (v : Word) (s : State),
      s.modeOf (g / 8) ≠ mOff →
      (s.rot g).visit = none →
      l.val < 8 →
      s.scState (g / 8) ≠ scIdle →
      Completes (.feCfgWrite g l v) s fun t =>
        t.flag (FE.STAT.WR_IGNORED g l) = true ∧
        RegsOnly [FE.STAT.reg g l] s t ∧
        t = { s with regs := t.regs }) ∧
  (∀ (g : Octet) (l : Slot) (v : Word) (r : RegRow) (s : State),
      s.modeOf (g / 8) = mSetup →
      (s.rot g).visit = none →
      l.val < 8 →
      s.scState (g / 8) = scIdle →
      v.toNat / 2 ^ 8 % 8 < 6 →
      v.toNat % 4 ≠ 3 →
      rowAt (FE.CFG.reg g l) = some r →
      Completes (.feCfgWrite g l v) s fun t =>
        t.rd (FE.CFG.reg g l) = r.written (!s.rwlOpen) (s.rd (FE.CFG.reg g l)).toNat v.toNat ∧
        RegsOnly [FE.CFG.reg g l, FE.STAT.reg g l, STEER.STAT.reg g] s t ∧
        SameMemory s t)

/-- Level DACs: codes, staging, spans, holds and parking -/
def Obligations.LevelDacs : Prop :=
  (∀ (g : Octet) (l : Slot) (k : DacIdx) (code : BitVec 16) (s : State),
      s.modeOf (g / 8) = mSetup →
      (s.rot g).visit = none →
      l.val < 8 →
      s.scState (g / 8) = scIdle →
      s.flag (DAC.STAT.SPAN_CHG g l) = false →
      s.get (DAC.LVL.ACT.OUT g l k) = doHiz →
      Completes (.dacCodeWrite g l k code) s fun t =>
        t.get (DAC.LVL.CODE.CODE g l k) = code.toNat ∧
        t.get (DAC.LVL.ACT.CODE g l k) = code.toNat ∧
        RegsOnly [DAC.LVL.CODE.reg g l k, DAC.LVL.ACT.reg g l k] s t ∧
        t = { s with regs := t.regs }) ∧
  (∀ (g : Octet) (l : Slot) (k : DacIdx) (code : BitVec 16) (s : State),
      s.modeOf (g / 8) = mSetup →
      (s.rot g).visit = none →
      l.val < 8 →
      s.scState (g / 8) = scIdle →
      s.flag (DAC.STAT.SPAN_CHG g l) = false →
      s.dacActive g l k = true →
      (s.dac g l k).off = 0 →
      Completes (.dacCodeWrite g l k code) s fun t =>
        t.get (DAC.LVL.CODE.CODE g l k) = code.toNat ∧
        t.get (DAC.LVL.ACT.CODE g l k) = code.toNat ∧
        (t.dac g l k).out = code.toNat ∧
        RegsOnly [DAC.LVL.CODE.reg g l k, DAC.LVL.ACT.reg g l k] s t ∧
        SameMemory s t) ∧
  (∀ (g : Octet) (l : Slot) (k : DacIdx) (code : BitVec 16) (s : State),
      s.modeOf (g / 8) ≠ mOff →
      (s.rot g).visit = none →
      l.val < 8 →
      s.scState (g / 8) ≠ scIdle →
      Completes (.dacCodeWrite g l k code) s fun t =>
        t.flag (DAC.STAT.WR_IGNORED g l) = true ∧
        RegsOnly [DAC.STAT.reg g l] s t ∧
        t = { s with regs := t.regs }) ∧
  (∀ (g : Octet) (l : Slot) (k : DacIdx) (v : Word) (s : State),
      s.modeOf (g / 8) ≠ mOff →
      s.modeOf (g / 8) ≠ mCalibrate →
      (s.rot g).visit = none →
      l.val < 8 →
      v.getLsbD 30 = false →
      Completes (.dacStageWrite g l k v) s fun t =>
        t.get (DAC.LVL.STAGE.CODE g l k) = v.toNat % 2 ^ 16 ∧
        t.flag (DAC.LVL.STAGE.PEND g l k) = true ∧
        RegsOnly [DAC.LVL.STAGE.reg g l k, DAC.STAT.reg g l] s t ∧
        t = { s with regs := t.regs }) ∧
  (∀ (g : Octet) (l : Slot) (k : DacIdx) (v : Word) (s : State),
      s.modeOf (g / 8) ≠ mOff →
      s.modeOf (g / 8) ≠ mCalibrate →
      (s.rot g).visit = none →
      l.val < 8 →
      v.getLsbD 30 = true →
      Completes (.dacStageWrite g l k v) s fun t =>
        t.flag (DAC.LVL.STAGE.PEND g l k) = false ∧
        t.get (DAC.LVL.STAGE.CODE g l k) = s.get (DAC.LVL.STAGE.CODE g l k) ∧
        RegsOnly [DAC.LVL.STAGE.reg g l k, DAC.STAT.reg g l] s t ∧
        t = { s with regs := t.regs }) ∧
  (∀ (g : Octet) (n : Nat) (l : Slot) (k : DacIdx) (code : BitVec 16) (s : State),
      (s.oct g).batches = [(n, [(8 * l.val + k.val, code.toNat)])] →
      n + 13 ≤ (s.oct g).count →
      s.flag (DAC.STAT.SPAN_CHG g l) = false →
      s.get (DAC.LVL.ACT.OUT g l k) = doParked →
      Completes (.levelBatchApply g) s fun t =>
        (t.oct g).batches = [] ∧
        t.get (DAC.LVL.CODE.CODE g l k) = code.toNat ∧
        RegsOnly [DAC.LVL.CODE.reg g l k] s t ∧
        t = { s with octs := t.octs, regs := t.regs }) ∧
  (∀ (g : Octet) (l : Slot) (k : DacIdx) (span : Fin 2) (s : State),
      s.modeOf (g / 8) = mSetup →
      (s.rot g).visit = none →
      l.val < 8 →
      s.flag (DAC.STAT.SPAN_CHG g l) = false →
      s.get (DAC.LVL.CFG.SPAN g l k) ≠ span.val →
      s.get (DAC.LVL.ACT.OUT g l k) = doHiz →
      Completes (.dacSpanWrite g l k span) s fun t =>
        t.get (DAC.LVL.ACT.CODE g l k) = safeCode k ∧
        t.flag (DAC.STAT.SPAN_CHG g l) = true ∧
        t.get (DAC.LVL.CFG.SPAN g l k) = s.get (DAC.LVL.CFG.SPAN g l k) ∧
        (t.dac g l k).span = some s.tick ∧
        (t.dac g l k).to_ = span.val ∧
        t.ballState g l = fsIsolated ∧
        RegsOnly [DAC.STAT.reg g l, FE.STAT.reg g l, STEER.STAT.reg g, DAC.LVL.ACT.reg g l k] s t ∧
        SameMemory s t) ∧
  (∀ (g : Octet) (l : Slot) (k : DacIdx) (at_ : Nat) (s : State),
      (s.dac g l k).span = some at_ →
      (s.dac g l k).stage = 2 →
      (∀ j : DacIdx, j ≠ k → (s.dac g l j).span = none) →
      (∀ j : DacIdx, s.get (DAC.LVL.ACT.OUT g l j) = doHiz) →
      s.lec.jobs = [] →
      Completes (.spanChangeDone g l) s fun t =>
        (∀ j : DacIdx, t.get (DAC.LVL.ACT.CODE g l j) = s.get (DAC.LVL.CODE.CODE g l j)) ∧
        t.flag (DAC.STAT.SPAN_CHG g l) = false ∧
        (t.dac g l k).span = none ∧
        RegsOnly ([DAC.STAT.reg g l, FE.STAT.reg g l, STEER.STAT.reg g] ++ (List.range 8).map (DAC.LVL.ACT.reg g l)) s t ∧
        SameMemory s t) ∧
  (∀ (g : Octet) (l : Slot) (k : DacIdx) (at_ : Nat) (s : State),
      (s.dac g l k).hold = some at_ →
      at_ ≤ s.tick →
      (s.dac g l k).waits = false →
      Completes (.dacHoldEnd g l k) s fun t =>
        t.flag (DAC.LVL.ACT.HOLD g l k) = false ∧
        (t.dac g l k).hold = none ∧
        RegsOnly [DAC.LVL.ACT.reg g l k] s t ∧
        t = { s with dacs := t.dacs, regs := t.regs }) ∧
  (∀ (g : Octet) (l : Slot) (s : State),
      Tab.get (fun _ => 0) s.parks (9 * g + l) ≠ 0 →
      Tab.get (fun _ => 0) s.parks (9 * g + l) ≤ s.tick + 1 →
      (∀ k : DacIdx, (s.dac g l k).off = 0) →
      Completes (.dacParkStart g l) s fun t =>
        Tab.get (fun _ => 0) t.parks (9 * g + l) = 0 ∧
        (∀ k : DacIdx, s.get (DAC.LVL.ACT.OUT g l k) = doParked → t.get (DAC.LVL.ACT.CODE g l k) = safeCode k) ∧
        RegsOnly ((List.range 8).map (DAC.LVL.ACT.reg g l)) s t ∧
        SameMemory s t) ∧
  (∀ (g : Octet) (l : Slot) (k : DacIdx) (s : State),
      s.get (DAC.LVL.ACT.OUT g l k) = doActive →
      (s.dac g l k).hold = none →
      (s.dac g l k).upd + 18000 ≤ s.tick →
      s.flag (DAC.STAT.SPAN_CHG g l) = false →
      s.get (DAC.MOD.EN g l) = 0 →
      (s.core g (s.coreAt g l)).faults = [] →
      s.underRun g ≠ some (s.coreAt g l) →
      Completes (.dacMonitorFault g l k) s fun t =>
        (t.get (DAC.STAT.FAULT g l)).testBit k = true ∧
        ((l.val < 8 → (t.get (STEER.CTL.FORCE_ISO g)).testBit l = true)) ∧
        ((s.mainOn = true → s.flag (ERR.SRC.ACTIVE (srcDacFault (g / 8))) = false → t.flag (ERR.SRC.STAT (srcDacFault (g / 8))) = true)) ∧
        SameMemory s t) ∧
  (∀ (p : Packet) (u : State) (s : State),
      s.start 0x203 = some (p, u) →
      p.arg 0 < 64 →
      p.arg 1 = 0 →
      p.arg 2 < 8 →
      s.modeOf (p.arg 0 / 8) = mSetup →
      p.arg 3 = 1 →
      Completes .lvlWrite s fun t =>
        RepliedTo p stDone [] s t ∧
        t = { s with lec := t.lec }) ∧
  (∀ (p : Packet) (u : State) (l : Fin 8) (s : State),
      s.start 0x203 = some (p, u) →
      p.arg 0 < 64 →
      p.arg 1 = 2 ^ l.val →
      p.arg 2 < 8 →
      s.modeOf (p.arg 0 / 8) = mSetup →
      p.arg 3 = 1 →
      (s.rot (p.arg 0)).visit = none →
      s.flag (DAC.STAT.SPAN_CHG (p.arg 0) l) = false →
      (p.arg 5).testBit 30 = false →
      Completes .lvlWrite s fun t =>
        t.get (DAC.LVL.STAGE.CODE (p.arg 0) l (p.arg 2)) = p.arg 5 % 2 ^ 16 ∧
        t.flag (DAC.LVL.STAGE.PEND (p.arg 0) l (p.arg 2)) = true ∧
        RepliedTo p stDone [] s t ∧
        RegsOnly [DAC.LVL.STAGE.reg (p.arg 0) l (p.arg 2), DAC.STAT.reg (p.arg 0) l] s t ∧
        t = { s with regs := t.regs, lec := t.lec })

/-- Sine generators start together, step their phase, and stop at a crossing -/
def Obligations.SineGenerators : Prop :=
  (∀ (s : State),
      s.flag DEV.SINE_GO.BUSY = false →
      Completes .sineGo s fun t =>
        t.flag DEV.SINE_GO.BUSY = true ∧
        t.sineAt = some ((s.tick + 191) / 64 * 64) ∧
        RegsOnly [DEV.SINE_GO.reg] s t ∧
        t = { s with regs := t.regs, sineAt := t.sineAt }) ∧
  (∀ (at_ : Nat) (s : State),
      s.sineAt = some at_ →
      at_ ≤ s.tick →
      Completes .sineStart s fun t =>
        t.flag DEV.SINE_GO.BUSY = false ∧
        t.sineAt = none ∧
        (∀ g : Octet, s.flag (SINE.CTL.ARM g) = true → s.flag (SINE.CTL.RUN g) = false → s.sineMay (g / 8) = true → t.flag (SINE.CTL.RUN g) = true ∧ t.flag (SINE.CTL.ARM g) = false ∧ t.get (SINE.PHASE.PHASE g) = s.get (SINE.PHASE0.PHASE g) ∧ (t.sine g).next = at_ + 64) ∧
        SameMemory s t) ∧
  (∀ (g : Octet) (s : State),
      s.flag (SINE.CTL.RUN g) = true →
      (s.sine g).next ≤ s.tick →
      (s.sine g).stop = false →
      s.modeOf (g / 8) = mSetup →
      Completes (.sineSample g) s fun t =>
        t.get (SINE.PHASE.PHASE g) = (s.get (SINE.PHASE.PHASE g) + s.get (SINE.FTW.FTW g)) % 2 ^ 32 ∧
        (t.sine g).next = (s.sine g).next + 64 ∧
        RegsOnly [SINE.PHASE.reg g] s t ∧
        t = { s with regs := t.regs, sines := t.sines }) ∧
  (∀ (g : Octet) (s : State),
      s.modeOf (g / 8) ≠ mOff →
      s.flag (SINE.CTL.RUN g) = true →
      Completes (.sineStopWrite g) s fun t =>
        (t.sine g) = { s.sine g with stop := true } ∧
        t = { s with sines := t.sines })

/-- Vectors resolve, Marginalia counts them, and records are written -/
def Obligations.MarginaliaRuns : Prop :=
  (∀ (k : Sector) (e : Inked) (rest : List Inked) (at_ : Nat) (s : State),
      (s.scribe k).inked = e :: rest →
      e.resolvesAt = some at_ →
      at_ ≤ s.nowDots →
      (s.marg k).running = false →
      s.scState k ≠ scRunning →
      Completes (.vectorResolve k) s fun t =>
        (t.scribe k).inked = rest ∧
        (t.scribe k).resolved = (s.scribe k).resolved + 1 ∧
        t = { s with scribes := t.scribes }) ∧
  (∀ (k : Sector) (e : Inked) (rest : List Inked) (at_ : Nat) (s : State),
      (s.scribe k).inked = e :: rest →
      e.resolvesAt = some at_ →
      at_ ≤ s.nowDots →
      (s.marg k).running = true →
      (s.marg k).mode = 0 →
      e.idx % 2 = 0 →
      lnFailEn e.bits = true →
      e.fail = 0 →
      e.pass &&& s.rmask k ≠ 0 →
      Completes (.vectorResolve k) s fun t =>
        (t.scribe k).inked = rest ∧
        t.get64 (MARG.RVEC_LO.reg k) (MARG.RVEC_HI.reg k) = (s.get64 (MARG.RVEC_LO.reg k) (MARG.RVEC_HI.reg k) + 1) % 2 ^ 64 ∧
        RegsOnly [MARG.RVEC_LO.reg k, MARG.RVEC_HI.reg k] s t ∧
        t = { s with regs := t.regs, scribes := t.scribes, margs := t.margs }) ∧
  (∀ (k : Sector) (e : Inked) (rest : List Inked) (at_ : Nat) (pin : Fin 64) (s : State),
      (s.scribe k).inked = e :: rest →
      e.resolvesAt = some at_ →
      at_ ≤ s.nowDots →
      (s.marg k).running = true →
      (s.marg k).mode = 0 →
      e.idx % 2 = 0 →
      lnFailEn e.bits = true →
      e.fail &&& ((e.fail ||| e.pass) &&& s.rmask k) = 2 ^ pin.val →
      s.flag (MARG.CFG.N_EN k) = false →
      s.flag (MARG.CFG.PIN_EN k) = false →
      s.flag (MARG.FIRST_HI.VALID k) = true →
      s.flag (MARG.PIN.PFIRST_HI.VALID k pin) = true →
      Completes (.vectorResolve k) s fun t =>
        t.get64 (MARG.RVEC_LO.reg k) (MARG.RVEC_HI.reg k) = (s.get64 (MARG.RVEC_LO.reg k) (MARG.RVEC_HI.reg k) + 1) % 2 ^ 64 ∧
        t.get64 (MARG.FVEC_LO.reg k) (MARG.FVEC_HI.reg k) = (s.get64 (MARG.FVEC_LO.reg k) (MARG.FVEC_HI.reg k) + 1) % 2 ^ 64 ∧
        t.get (MARG.PIN.PCNT.COUNT k pin) = satAdd (2 ^ (MARG.PIN.PCNT.COUNT 0 0).n - 1) (s.get (MARG.PIN.PCNT.COUNT k pin)) 1 ∧
        RegsOnly [MARG.RVEC_LO.reg k, MARG.RVEC_HI.reg k, MARG.FVEC_LO.reg k, MARG.FVEC_HI.reg k, MARG.PIN.PCNT.reg k pin] s t ∧
        t = { s with regs := t.regs, scribes := t.scribes, margs := t.margs }) ∧
  (∀ (k : Sector) (r : MargRec) (rest : List MargRec) (s : State),
      (s.marg k).owed = r :: rest →
      r.kind ≠ mtClose →
      (s.marg k).mode ≠ 3 →
      s.slotsOn (sectorLink k 1) = [] →
      Completes (.margRecordWrite k) s fun t =>
        (t.marg k).owed = rest ∧
        (t.marg k).written = (s.marg k).written + 1 ∧
        t.mem.mem = memWrs s.mem.mem (s.margAddr k (s.get (MARG.WPTR.POS k))) (leBytes 32 (r.bits + s.get (MARG.STAT.SEQ k) * 2 ^ 4)) ∧
        t.get (MARG.WPTR.POS k) = (s.get (MARG.WPTR.POS k) + 1) % 2 ^ 30 ∧
        t.get (MARG.STAT.SEQ k) = (s.get (MARG.STAT.SEQ k) + 1) % 2 ^ (MARG.STAT.SEQ 0).n ∧
        t.get (MARG.RECS.RECORDS k) = satAdd (2 ^ (MARG.RECS.RECORDS 0).n - 1) (s.get (MARG.RECS.RECORDS k)) 1 ∧
        RegsOnly [MARG.WPTR.reg k, MARG.STAT.reg k, MARG.RECS.reg k, MARG.RES.reg k] s t ∧
        t = { s with regs := t.regs, mem := t.mem, margs := t.margs, dbg := t.dbg }) ∧
  (∀ (k : Sector) (q : MargStart) (rest : List MargStart) (s : State),
      (s.marg k).queue = q :: rest →
      (s.marg k).running = false →
      (s.scribe k).inked = [] →
      (s.margDest k).1 ≠ 0 →
      s.flag (MARG.CFG.ACCUM k) = false →
      Completes (.margRunOpen k) s fun t =>
        (t.marg k).queue = rest ∧
        (t.marg k).running = true ∧
        (t.marg k).start = q ∧
        (t.marg k).mode = s.get (MARG.CFG.MODE k) ∧
        (t.marg k).dest = (s.margDest k).1 ∧
        (t.marg k).size = (s.margDest k).2.1 ∧
        t.flag (MARG.STAT.TRIP k) = false ∧
        t.flag (MARG.STAT.CLOSED k) = false ∧
        t.get (MARG.STAT.SEQ k) = 0 ∧
        t.get (MARG.WPTR.POS k) = 0 ∧
        t.get64 (MARG.FVEC_LO.reg k) (MARG.FVEC_HI.reg k) = 0 ∧
        t.get64 (MARG.RVEC_LO.reg k) (MARG.RVEC_HI.reg k) = 0 ∧
        t = { s with regs := t.regs, latch := t.latch, margs := t.margs }) ∧
  (∀ (k : Sector) (q : MargStart) (rest : List MargStart) (s : State),
      (s.marg k).queue = q :: rest →
      (s.marg k).running = false →
      (s.scribe k).inked = [] →
      (s.margDest k).1 = 0 →
      s.flag (MARG.CFG.ACCUM k) = true →
      Completes (.margRunOpen k) s fun t =>
        (t.marg k).queue = rest ∧
        (t.marg k).running = true ∧
        (t.marg k).mode = 0 ∧
        t.flag (MARG.STAT.NO_DEST k) = true ∧
        RegsOnly [MARG.STAT.reg k, MARG.RES.reg k] s t ∧
        t = { s with regs := t.regs, margs := t.margs }) ∧
  (∀ (k : Sector) (e : MargStop) (s : State),
      (s.marg k).running = true →
      (s.marg k).start.stop = some e →
      (s.scribe k).inked = [] →
      (s.marg k).closing = true →
      (s.marg k).mode = 0 →
      Completes (.margRunClose k) s fun t =>
        t.flag (MARG.STAT.CLOSED k) = true ∧
        t.get (MARG.STAT.CLOSE_CAUSE k) = e.cause % 2 ^ (MARG.STAT.CLOSE_CAUSE 0).n ∧
        (t.marg k).running = false ∧
        RegsOnly [MARG.STAT.reg k, MARG.RES.reg k] s t ∧
        t = { s with regs := t.regs, margs := t.margs }) ∧
  (∀ (k : Sector) (v : Word) (s : State),
      s.modeOf k ≠ mOff →
      (s.marg k).mode = 3 →
      ringValid (s.marg k).size (s.rd (MARG.WPTR.reg k)) (v &&& 0xBFFFFFFF) = false →
      Completes (.margRptrWrite k v) s fun t =>
        t.flag (MARG.STAT.RP_ERR k) = true ∧
        RegsOnly [MARG.STAT.reg k] s t ∧
        t = { s with regs := t.regs }) ∧
  (∀ (k : Sector) (v : Word) (s : State),
      s.modeOf k ≠ mOff →
      (s.marg k).mode ≠ 3 →
      Completes (.margRptrWrite k v) s fun t =>
        t.rd (MARG.RPTR.reg k) = v &&& 0xBFFFFFFF ∧
        RegsOnly [MARG.RPTR.reg k] s t ∧
        t = { s with regs := t.regs, margs := t.margs }) ∧
  (∀ (k : Sector) (s : State),
      s.modeOf k ≠ mOff →
      s.scribeBusy k = false →
      Completes (.margClr k) s fun t =>
        t.rd (MARG.WPTR.reg k) = 0 ∧
        t.rd (MARG.RPTR.reg k) = 0 ∧
        t.get64 (MARG.FVEC_LO.reg k) (MARG.FVEC_HI.reg k) = 0 ∧
        t.get64 (MARG.RVEC_LO.reg k) (MARG.RVEC_HI.reg k) = 0 ∧
        t.flag (MARG.FIRST_HI.VALID k) = false ∧
        (∀ pin : Fin 64, t.get (MARG.PIN.PCNT.COUNT k pin) = 0 ∧ t.flag (MARG.PIN.PFIRST_HI.VALID k pin) = false) ∧
        (∀ a, a < margBase k ∨ margBase k + 0x1400 ≤ a → t.rd a = s.rd a) ∧
        t = { s with regs := t.regs, latch := t.latch, margs := t.margs }) ∧
  (∀ (k : Sector) (s : State),
      s.modeOf k ≠ mOff →
      s.scribeBusy k = true →
      Completes (.margClr k) s fun t =>
        t.flag (MARG.STAT.WR_IGNORED k) = true ∧
        RegsOnly [MARG.STAT.reg k] s t ∧
        t = { s with regs := t.regs })

/-- Blotter records, triggers, masks and the draining of a capture -/
def Obligations.BlotterStream : Prop :=
  (∀ (k : Sector) (o : Fin 8) (p : Fin 8) (samples : List (BitVec 16)) (s : State),
      s.capturing k = false →
      Completes (.blotRecordForm k o p samples) s fun t =>
        t = s) ∧
  (∀ (k : Sector) (o : Fin 8) (p : Fin 8) (now : BitVec 16) (fl : Nat) (s : State),
      s.capturing k = true →
      (s.blot k).from_ ≤ s.phaseTag p →
      (s.blot k).isOver = none →
      (s.blot k).post = none →
      (s.blot k).decim = false →
      (s.blot k).dest = 2 →
      (s.blot k).measure = true →
      (s.blot k).whole = 255 →
      (s.blot k).staging = [] →
      s.get (BLOT.STAT.RES k) = 0 →
      fl = s.blotFlags k + (if (List.range 8).any (s.noSense (8 * k + o)) then bfNosense else 0) + (if (List.range 8).any fun l => (s.agedLanes (8 * k + o)).testBit l then bfAge else 0) →
      Completes (.blotRecordForm k o p [now]) s fun t =>
        (t.blot k).staging = [{ tag := s.phaseTag p, rank := brChange o, bits := blotBits 1 fl o now.toNat (s.phaseTag p) 255 }] ∧
        Tab.get (fun _ => 0) (t.blot k).last o = now.toNat ∧
        (t.blot k).whole = 255 - 2 ^ o.val ∧
        t.get (BLOT.FILL.NOW k) = 1 ∧
        RegsOnly [BLOT.FILL.reg k] s t ∧
        t = { s with regs := t.regs, blots := t.blots }) ∧
  (∀ (k : Sector) (p : Fin 8) (codes : BitVec 128) (s : State),
      (s.blot k).live = false →
      Completes (.triggerFire k p codes) s fun t =>
        t = s) ∧
  (∀ (k : Sector) (p : Fin 8) (codes : BitVec 128) (j : Fin 8) (s : State),
      (s.blot k).live = true →
      (s.blot k).liveAt ≤ s.phaseTag p →
      (s.blot k).measure = true →
      (s.blot k).staging = [] →
      s.capturing k = false →
      (s.trigRun k j) = { armed := true } →
      s.trigHolds k j codes.toNat = true →
      s.get (BLOT.TRG.CTL.N k j) ≤ 1 →
      s.flag (BLOT.TRG.CTL.REARM k j) = true →
      s.flag (BLOT.TRG.CTL.GATE k j) = false →
      s.flag (BLOT.TRG.CTL.IRQ k j) = false →
      s.flag (BLOT.TRG.CTL.EN k j) = true →
      s.get (BLOT.TRG.CTL.ACT k j) = 0 →
      (∀ i : Fin 8, s.get (BLOT.TRG.CTL.ARM_BY k i) = 0) →
      (∀ i : Fin 8, i ≠ j → s.flag (BLOT.TRG.CTL.EN k i) = false) →
      Completes (.triggerFire k p codes) s fun t =>
        t.get (BLOT.TRG.CNT.FIRES k j) = satAdd (2 ^ (BLOT.TRG.CNT.FIRES 0 0).n - 1) (s.get (BLOT.TRG.CNT.FIRES k j)) 1 ∧
        t.flag (BLOT.STAT.FIRED k) = true ∧
        (t.get (BLOT.STAT.TBITS k)).testBit j = true ∧
        t.trigRun k j = { armed := true, held := true } ∧
        (t.scribe k).trigs.length = (s.scribe k).trigs.length + 1 ∧
        (∀ x ∈ (t.scribe k).trigs, x ∉ (s.scribe k).trigs → s.phaseTag p ≤ x) ∧
        RegsOnly [BLOT.TRG.CNT.reg k j, BLOT.STAT.reg k] s t ∧
        SameMemory s t) ∧
  (∀ (k : Sector) (m : Fin 4) (pin : Fin 64) (j back : Fin 16) (codes : List (Fin 4)) (s : State),
      s.get (BLOT.MSK.CTL.MODE k m) = 0 →
      Completes (.maskViolation k m pin j back codes) s fun t =>
        t = s) ∧
  (∀ (k : Sector) (m : Fin 4) (pin : Fin 64) (j back : Fin 16) (v : Begun) (c : Fin 4) (s : State),
      (s.oct (8 * k + pin / 8)).recent[back.val]? = some v →
      s.get (BLOT.MSK.CTL.MODE k m) ≠ 0 →
      (s.get (BLOT.MSK.PMASK_LO.MASK k m) + s.get (BLOT.MSK.PMASK_HI.MASK k m) * 2 ^ 32).testBit pin = true →
      j.val ≤ s.get (BLOT.MSK.CTL.UIN k m) →
      s.flag (BLOT.MSK.CTL.GATE k m) = false →
      (s.blot k).live = true →
      (s.maskRun k m).stopped = false →
      (s.blot k).liveAt ≤ v.v + s.get (BLOT.MSK.CTL.OFFSET k m) + j * (s.maskRun k m).ui →
      v.v + s.get (BLOT.MSK.CTL.OFFSET k m) + j * (s.maskRun k m).ui < s.begunEnd (8 * k + pin / 8) back v →
      v.v + s.get (BLOT.MSK.CTL.OFFSET k m) + j * (s.maskRun k m).ui + (s.maskRun k m).close ≤ s.nowDots →
      (s.maskRun k m).open_ + 128 ≤ (s.maskRun k m).close →
      c = 1 ∨ c = 2 →
      Completes (.maskViolation k m pin j back [c]) s fun t =>
        t.get (BLOT.MSK.WCNT.COUNT k m) = satAdd (2 ^ (BLOT.MSK.WCNT.COUNT 0 0).n - 1) (s.get (BLOT.MSK.WCNT.COUNT k m)) 1 ∧
        RegsOnly [BLOT.MSK.WCNT.reg k m] s t ∧
        t = { s with regs := t.regs }) ∧
  (∀ (k : Sector) (s : State),
      s.tick % 2 ^ 32 ≠ 0 →
      Completes (.folioMark k) s fun t =>
        t = s) ∧
  (∀ (k : Sector) (s : State),
      s.tick % 2 ^ 32 = 0 →
      s.blotTakes k (1024 * s.tick) = true →
      (s.blot k).staging = [] →
      (s.blot k).post = none →
      (s.blot k).dest = 2 →
      Completes (.folioMark k) s fun t =>
        (t.blot k).staging = [{ tag := 1024 * s.tick, rank := brFolio, bits := blotBits 3 (s.blotFlags k) bkFolio 0 (1024 * s.tick) (s.tick / 2 ^ 32 % 2 ^ 32) }] ∧
        t.get (BLOT.FILL.NOW k) = 1 ∧
        RegsOnly [BLOT.FILL.reg k] s t ∧
        t = { s with regs := t.regs, blots := t.blots }) ∧
  (∀ (k : Sector) (s : State),
      s.capturing k = true →
      s.get (BLOT.RED.HI k) ≤ (s.blot k).staging.length →
      (s.blot k).changedAt + 512 ≤ s.tick →
      s.get (BLOT.STAT.RES k) < s.get (BLOT.CFG.MAX_RES k) →
      (s.blot k).staging.length < blotRoom →
      (s.blot k).post = none →
      (s.blot k).dest = 2 →
      Completes (.blotResolutionChange k) s fun t =>
        t.get (BLOT.STAT.RES k) = s.get (BLOT.STAT.RES k) + 1 ∧
        (t.blot k).changedAt = s.tick ∧
        (t.blot k).staging.length = (s.blot k).staging.length + 1 ∧
        RegsOnly [BLOT.STAT.reg k, BLOT.FILL.reg k] s t ∧
        t = { s with regs := t.regs, blots := t.blots }) ∧
  (∀ (k : Sector) (u : Nat) (s : State),
      s.capturing k = true →
      (s.blot k).staging.length < s.get (BLOT.RED.HI k) →
      (s.blot k).lowAt = some u →
      u + 4096 ≤ s.tick →
      s.get (BLOT.STAT.RES k) ≠ 0 →
      (s.blot k).staging.length < blotRoom →
      (s.blot k).post = none →
      (s.blot k).dest = 2 →
      Completes (.blotResolutionChange k) s fun t =>
        t.get (BLOT.STAT.RES k) = s.get (BLOT.STAT.RES k) - 1 ∧
        (t.blot k).changedAt = s.tick ∧
        RegsOnly [BLOT.STAT.reg k, BLOT.FILL.reg k] s t ∧
        t = { s with regs := t.regs, blots := t.blots }) ∧
  (∀ (k : Sector) (s : State),
      s.capturing k = true →
      (s.blot k).decim = false →
      s.get (BLOT.STAT.RES k) = s.get (BLOT.CFG.MAX_RES k) →
      blotDecimate ≤ (s.blot k).staging.length →
      Completes (.blotDecimationStart k) s fun t =>
        t.blot k = { s.blot k with decim := true } ∧
        t = { s with blots := t.blots }) ∧
  (∀ (k : Sector) (p : Fin 8) (s : State),
      s.capturing k = true →
      (s.blot k).decim = true →
      (s.blot k).staging.length ≤ s.get (BLOT.RED.LO k) →
      (s.blot k).post = none →
      (s.blot k).dest = 2 →
      s.mainOn = true →
      s.awake = true →
      Completes (.blotDecimationEnd k p) s fun t =>
        (t.blot k).decim = false ∧
        (t.blot k).gapLost = 0 ∧
        (t.blot k).whole = (s.blot k).whole ||| (s.blot k).gapOcts ∧
        t.flag (BLOT.STAT.GAP k) = true ∧
        t.get (BLOT.LOST.COUNT k) = satAdd (2 ^ (BLOT.LOST.COUNT 0).n - 1) (s.get (BLOT.LOST.COUNT k)) (s.blot k).gapLost ∧
        RegsOnlyErr [BLOT.STAT.reg k, BLOT.LOST.reg k, BLOT.FILL.reg k] s t ∧
        SameMemory s t) ∧
  (∀ (k : Sector) (r : BlotRec) (rest : List BlotRec) (s : State),
      (s.blot k).staging = r :: rest →
      r.tag / 1024 + 160 ≤ s.tick →
      s.blotRoomNow k = true →
      (s.blot k).dest = 2 →
      r.rank ≠ brEnd →
      r.stops = false →
      s.get (BLOT.WPTR.POS k) + 1 < (s.blot k).size →
      Completes (.blotRecordDrain k) s fun t =>
        (t.blot k).staging = rest ∧
        (t.blot k).written = (s.blot k).written + 1 ∧
        t.get (BLOT.WPTR.POS k) = (s.get (BLOT.WPTR.POS k) + 1) % 2 ^ 31 ∧
        t.get (BLOT.FILL.NOW k) = rest.length % 2 ^ (BLOT.FILL.NOW 0).n ∧
        t.get (BLOT.RECS.COUNT k) = satAdd (2 ^ (BLOT.RECS.COUNT 0).n - 1) (s.get (BLOT.RECS.COUNT k)) 1 ∧
        t.hostMem = memWrs (memWrs s.hostMem (s.get64 (BLOT.HBASE_LO.reg k) (BLOT.HBASE_HI.reg k) + 16 * s.get (BLOT.WPTR.POS k)) (leBytes 16 r.bits)) (s.get64 (BLOT.HBASE_LO.reg k) (BLOT.HBASE_HI.reg k) + 16 * (s.blot k).size) (leBytes 8 (t.rd (BLOT.WPTR.reg k)).toNat) ∧
        RegsOnly [BLOT.WPTR.reg k, BLOT.RECS.reg k, BLOT.FILL.reg k] s t ∧
        t = { s with regs := t.regs, blots := t.blots, hostMem := t.hostMem }) ∧
  (∀ (k : Sector) (r : BlotRec) (rest : List BlotRec) (s : State),
      (s.blot k).staging = r :: rest →
      s.tick < r.tag / 1024 + 160 →
      Completes (.blotRecordDrain k) s fun t =>
        t = s) ∧
  (∀ (k : Sector) (tag : Nat) (s : State),
      (s.blot k).isOver = some tag →
      s.capturing k = true →
      (s.blot k).decim = false →
      (s.blot k).safe = false →
      (s.blot k).staging = [] →
      Completes (.blotCaptureEnd k) s fun t =>
        t.flag (BLOT.STAT.CAPTURING k) = false ∧
        (t.blot k).staging = [{ tag := tag, rank := brEnd, bits := blotBits 3 (s.blotFlags k) bkEnd beRun tag 0 }] ∧
        (t.blot k).isOver = none ∧
        (t.blot k).ended = true ∧
        RegsOnly [BLOT.STAT.reg k, BLOT.FILL.reg k] s t ∧
        t = { s with regs := t.regs, blots := t.blots }) ∧
  (∀ (k : Sector) (s : State),
      s.modeOf k ≠ mOff →
      s.capturing k = true →
      (s.blot k).decim = false →
      (s.blot k).safe = false →
      (s.blot k).staging = [] →
      Completes (.blotDisarm k) s fun t =>
        t.flag (BLOT.STAT.CAPTURING k) = false ∧
        (t.blot k).staging = [{ tag := 1024 * s.tick, rank := brEnd, bits := blotBits 3 (s.blotFlags k) bkEnd beDisarm (1024 * s.tick) 0 }] ∧
        RegsOnly [BLOT.STAT.reg k, BLOT.FILL.reg k] s t ∧
        t = { s with regs := t.regs, blots := t.blots }) ∧
  (∀ (k : Sector) (s : State),
      s.modeOf k ≠ mOff →
      s.capturing k = false →
      Completes (.blotDisarm k) s fun t =>
        t = s) ∧
  (∀ (k : Sector) (v : Word) (s : State),
      s.modeOf k ≠ mOff →
      (s.blot k).dest = 2 →
      blotValid (s.blot k).size (s.rd (BLOT.WPTR.reg k)) v = false →
      Completes (.blotRptrWrite k v) s fun t =>
        t.flag (BLOT.STAT.RP_ERR k) = true ∧
        RegsOnly [BLOT.STAT.reg k] s t ∧
        t = { s with regs := t.regs }) ∧
  (∀ (k : Sector) (v : Word) (s : State),
      s.modeOf k ≠ mOff →
      (s.blot k).dest = 2 →
      blotValid (s.blot k).size (s.rd (BLOT.WPTR.reg k)) v = true →
      Completes (.blotRptrWrite k v) s fun t =>
        t.rd (BLOT.RPTR.reg k) = v ∧
        RegsOnly [BLOT.RPTR.reg k] s t ∧
        t = { s with regs := t.regs, blots := t.blots }) ∧
  (∀ (k : Sector) (m : Fin 4) (v : Word) (s : State),
      s.modeOf k ≠ mOff →
      s.blotLocked k = false →
      s.get (BLOT.MSK.UI.UI k m) < 128 →
      Completes (.maskCommit k m v) s fun t =>
        t.flag (BLOT.STAT.CFG_ERR k) = true ∧
        RegsOnly [BLOT.STAT.reg k] s t ∧
        t = { s with regs := t.regs }) ∧
  (∀ (k : Sector) (m : Fin 4) (v : Word) (s : State),
      s.modeOf k ≠ mOff →
      s.blotLocked k = false →
      128 ≤ s.get (BLOT.MSK.UI.UI k m) →
      s.get (BLOT.MSK.WIN.OPEN k m) + 127 ≤ s.get (BLOT.MSK.WIN.CLOSE k m) →
      s.get (BLOT.MSK.WIN.CLOSE k m) < s.get (BLOT.MSK.UI.UI k m) →
      Completes (.maskCommit k m v) s fun t =>
        (t.maskRun k m).ui = s.get (BLOT.MSK.UI.UI k m) ∧
        (t.maskRun k m).open_ = s.get (BLOT.MSK.WIN.OPEN k m) ∧
        (t.maskRun k m).close = s.get (BLOT.MSK.WIN.CLOSE k m) ∧
        RegsOnly [BLOT.MSK.CTL.reg k m] s t ∧
        t = { s with regs := t.regs, blots := t.blots }) ∧
  (∀ (k : Sector) (m : Fin 4) (v : Word) (s : State),
      s.modeOf k ≠ mOff →
      s.blotLocked k = true →
      Completes (.maskCommit k m v) s fun t =>
        t.flag (BLOT.STAT.WR_IGNORED k) = true ∧
        RegsOnly [BLOT.STAT.reg k] s t ∧
        t = { s with regs := t.regs }) ∧
  (∀ (k : Sector) (s : State),
      (s.blot k).opening = true →
      (s.blot k).measure = false →
      s.capturing k = false →
      (s.blot k).staging = [] →
      Completes (.blotRunOpen k) s fun t =>
        (t.blot k).opening = false ∧
        (t.blot k).dest = (s.blotDest k).1 ∧
        (t.blot k).size = (s.blotDest k).2 ∧
        (t.blot k).mode = (if (s.blotDest k).1 = 0 then 0 else s.get (BLOT.CFG.CAPMODE k)) ∧
        t.flag (BLOT.STAT.NO_DEST k) = (decide ((s.blotDest k).1 = 0) || s.flag (BLOT.STAT.NO_DEST k)) ∧
        t.rd (BLOT.WPTR.reg k) = 0 ∧
        t.rd (BLOT.RPTR.reg k) = 0 ∧
        t.get (BLOT.STAT.TBITS k) = 0 ∧
        t.get (BLOT.STAT.RES k) = 0 ∧
        (∀ j : Fin 8, t.rd (BLOT.TRG.CNT.reg k j) = 0) ∧
        t = { s with regs := t.regs, blots := t.blots })

/-- Hairlines: GO, calibration, shots, the frequency gate, abort and self-check -/
def Obligations.Hairlines : Prop :=
  (∀ (g : Octet) (v : Word) (s : State),
      s.modeOf (g / 8) = mMeasure →
      s.hlBusy g = false →
      s.flag (HL.STAT.SELFCHECK g) = false →
      hlBad (v ||| 0x80000000) (s.rd (HL.SRC.reg g)) (s.rd (HL.WIN.reg g)) (s.rd (HL.FREQ_CFG.reg g)) = false →
      Completes (.hlGo g v) s fun t =>
        t.flag (HL.STAT.BUSY g) = true ∧
        (t.hair g).phase = 1 ∧
        (t.hair g).left = max 1 (v.field 0 16) ∧
        (t.hair g).at_ = s.tick ∧
        RegsOnly [HL.CTL.reg g, HL.STAT.reg g] s t ∧
        t = { s with regs := t.regs, hairs := t.hairs }) ∧
  (∀ (g : Octet) (v : Word) (s : State),
      s.modeOf (g / 8) ≠ mMeasure →
      s.modeOf (g / 8) ≠ mOff →
      s.hlBusy g = false →
      Completes (.hlGo g v) s fun t =>
        t.flag (HL.STAT.REFUSED g) = true ∧
        RegsOnly [HL.STAT.reg g] s t ∧
        t = { s with regs := t.regs }) ∧
  (∀ (g : Octet) (v : Word) (s : State),
      s.modeOf (g / 8) ≠ mOff →
      s.hlBusy g = true →
      v.getLsbD 30 = false →
      Completes (.hlGo g v) s fun t =>
        t.flag (HL.STAT.WR_IGNORED g) = true ∧
        RegsOnly [HL.STAT.reg g] s t ∧
        t = { s with regs := t.regs }) ∧
  (∀ (g : Octet) (one two : BitVec 32) (s : State),
      (s.hair g).phase = 1 →
      (s.hair g).at_ + (s.hlMethod g).2.2 ≤ s.tick →
      15872 ≤ one.toNat →
      one.toNat ≤ 16896 →
      31744 ≤ two.toNat →
      two.toNat ≤ 33792 →
      s.hlNoSense g = false →
      Completes (.hlCalDone g one two) s fun t =>
        (t.hair g).phase = (if s.get (HL.CTL.OP g) = 1 then 3 else 2) ∧
        (t.hair g).at_ = s.tick ∧
        t = { s with hairs := t.hairs }) ∧
  (∀ (g : Octet) (one two : BitVec 32) (s : State),
      (s.hair g).phase = 1 →
      (s.hair g).at_ + (s.hlMethod g).2.2 ≤ s.tick →
      one.toNat < 15872 →
      s.lec.jobs = [] →
      Completes (.hlCalDone g one two) s fun t =>
        t.flag (HL.STAT.CAL_FAIL g) = true ∧
        t.flag (HL.STAT.BUSY g) = false ∧
        t.flag (HL.STAT.DONE g) = true ∧
        (t.hair g).phase = 0 ∧
        RegsOnlyErr [HL.STAT.reg g] s t ∧
        SameMemory s t) ∧
  (∀ (g : Octet) (start : BitVec 64) (x : BitVec 32) (s : State),
      (s.hair g).phase = 2 →
      1 < (s.hair g).left →
      (s.hair g).at_ ≤ start.toNat / 1024 →
      start.toNat + x.toNat ≤ s.nowDots →
      s.get (HL.CTL.STOPS g) = 0 →
      s.get (HL.SRC.STAT_STOP g) = 0 →
      s.get (HL.SRC.STOP_SRC g) ≠ 0 →
      0 < x.toNat →
      1024 * s.get (HL.WIN.OPEN g) ≤ x.toNat →
      x.toNat ≤ 1024 * s.get (HL.WIN.CLOSE g) →
      s.hlNoSense g = false →
      Completes (.hlShotEnd g start [x]) s fun t =>
        (t.hair g).good = (s.hair g).good ++ [x.toNat] ∧
        (t.hair g).left = (s.hair g).left - 1 ∧
        (t.hair g).lastStart = start.toNat ∧
        RegsOnly [] s t ∧
        t = { s with regs := t.regs, hairs := t.hairs }) ∧
  (∀ (g : Octet) (start : BitVec 64) (x : BitVec 32) (s : State),
      (s.hair g).phase = 2 →
      (s.hair g).left = 1 →
      (s.hair g).good = [] →
      (s.hair g).short = 0 →
      (s.hair g).at_ ≤ start.toNat / 1024 →
      start.toNat + x.toNat ≤ s.nowDots →
      s.get (HL.CTL.STOPS g) = 0 →
      s.get (HL.SRC.STAT_STOP g) = 0 →
      s.get (HL.SRC.STOP_SRC g) ≠ 0 →
      0 < x.toNat →
      1024 * s.get (HL.WIN.OPEN g) ≤ x.toNat →
      x.toNat ≤ 1024 * s.get (HL.WIN.CLOSE g) →
      s.hlNoSense g = false →
      s.lec.jobs = [] →
      Completes (.hlShotEnd g start [x]) s fun t =>
        t.flag (HL.STAT.BUSY g) = false ∧
        t.flag (HL.STAT.DONE g) = true ∧
        t.get64 (HL.START_LO.reg g) (HL.START_HI.reg g) = start.toNat ∧
        t.get (HL.STOP.INTERVAL g 0) = x.toNat ∧
        t.get (HL.STOPVALID.VALID g) = 1 ∧
        t.get (HL.SHOTS.GOOD g) = 1 ∧
        t.get (HL.SHOTS.SHORT g) = 0 ∧
        t.get (HL.MEAN.DOTS64 g) = 64 * x.toNat % 2 ^ 32 ∧
        t.get (HL.SPREAD.DOTS64 g) = 0 ∧
        t.get (HL.MIN.INTERVAL g) = x.toNat ∧
        t.get (HL.MAX.INTERVAL g) = x.toNat ∧
        RegsOnly [HL.STAT.reg g, HL.START_LO.reg g, HL.START_HI.reg g, HL.STOP.reg g 0, HL.STOPVALID.reg g, HL.SHOTS.reg g, HL.MEAN.reg g, HL.SPREAD.reg g, HL.MIN.reg g, HL.MAX.reg g] s t ∧
        t = { s with regs := t.regs, hairs := t.hairs, host := t.host }) ∧
  (∀ (g : Octet) (s : State),
      (s.hair g).phase = 2 →
      s.get (HL.TIMEOUT.US g) ≠ 0 →
      (s.hair g).at_ + 1500 * s.get (HL.TIMEOUT.US g) ≤ s.tick →
      (s.hair g).good = [] →
      (s.hair g).lastStops = [] →
      s.lec.jobs = [] →
      Completes (.hlStartTimeout g) s fun t =>
        t.flag (HL.STAT.NO_START g) = true ∧
        t.flag (HL.STAT.BUSY g) = false ∧
        t.flag (HL.STAT.DONE g) = true ∧
        t.get (HL.SHOTS.GOOD g) = 0 ∧
        t.get (HL.STOPVALID.VALID g) = 0 ∧
        RegsOnly [HL.STAT.reg g, HL.START_LO.reg g, HL.START_HI.reg g, HL.STOPVALID.reg g, HL.SHOTS.reg g, HL.MEAN.reg g, HL.SPREAD.reg g, HL.MIN.reg g, HL.MAX.reg g] s t ∧
        t = { s with regs := t.regs, hairs := t.hairs, host := t.host }) ∧
  (∀ (g : Octet) (n : BitVec 32) (dt : BitVec 64) (s : State),
      (s.hair g).phase = 3 →
      (s.hair g).at_ + 1500 * s.get (HL.FREQ_CFG.GATE g) ≤ s.tick →
      dt ≠ 0 →
      s.hlNoSense g = false →
      s.lec.jobs = [] →
      Completes (.hlFreqGateEnd g n dt false) s fun t =>
        t.get (HL.FCOUNT.N g) = n.toNat ∧
        t.get64 (HL.FSPAN_LO.reg g) (HL.FSPAN_HI.reg g) = dt.toNat ∧
        t.get (HL.FHZ.HZ g) = min (2 ^ 32 - 1) ((2 * (n.toNat * (s.get (HL.FREQ_CFG.PRESC g) + 1) * 1024 * 1500000000) + dt.toNat) / (2 * dt.toNat)) ∧
        t.flag (HL.STAT.BUSY g) = false ∧
        t.flag (HL.STAT.DONE g) = true ∧
        RegsOnly [HL.STAT.reg g, HL.FSPAN_LO.reg g, HL.FSPAN_HI.reg g, HL.FCOUNT.reg g, HL.FHZ.reg g] s t ∧
        t = { s with regs := t.regs, hairs := t.hairs, host := t.host }) ∧
  (∀ (g : Octet) (s : State),
      s.modeOf (g / 8) ≠ mOff →
      s.hlBusy g = true →
      (s.tdr g).lanes = [] →
      s.lec.jobs = [] →
      Completes (.hlAbort g) s fun t =>
        t.flag (HL.STAT.BUSY g) = false ∧
        t.flag (HL.STAT.QUEUED g) = false ∧
        t.flag (HL.STAT.ABANDONED g) = true ∧
        (t.hair g).phase = 0 ∧
        RegsOnly [HL.STAT.reg g] s t ∧
        t = { s with regs := t.regs, hairs := t.hairs }) ∧
  (∀ (g : Octet) (s : State),
      s.modeOf (g / 8) ≠ mOff →
      s.flag (HL.STAT.SELFCHECK g) = false →
      s.hlBusy g = false →
      (s.hair g).checked + 150000000 ≤ s.tick →
      Completes (.hlSelfcheckStart g) s fun t =>
        t.flag (HL.STAT.SELFCHECK g) = true ∧
        RegsOnly [HL.STAT.reg g] s t ∧
        t = { s with regs := t.regs }) ∧
  (∀ (g : Octet) (pass : Bool) (s : State),
      s.flag (HL.STAT.SELFCHECK g) = true →
      s.flag (HL.STAT.QUEUED g) = false →
      Completes (.hlSelfcheckEnd g pass) s fun t =>
        t.flag (HL.STAT.SELFCHECK g) = false ∧
        (t.hair g).checked = s.tick ∧
        ((pass = false → t.flag (HL.STAT.CAL_FAIL g) = true)) ∧
        RegsOnlyErr [HL.STAT.reg g] s t ∧
        SameMemory s t) ∧
  (∀ (g : Octet) (s : State),
      s.flag (HL.STAT.SELFCHECK g) = true →
      s.flag (HL.STAT.QUEUED g) = true →
      Completes (.hlSelfcheckEnd g true) s fun t =>
        t.flag (HL.STAT.SELFCHECK g) = false ∧
        t.flag (HL.STAT.QUEUED g) = false ∧
        t.flag (HL.STAT.BUSY g) = true ∧
        (t.hair g).phase = 1 ∧
        RegsOnly [HL.STAT.reg g] s t ∧
        t = { s with regs := t.regs, hairs := t.hairs }) ∧
  (∀ (p : Packet) (u : State) (s : State),
      s.start 0x301 = some (p, u) →
      p.arg 0 < 64 →
      s.modeOf (p.arg 0 / 8) = mMeasure →
      s.hlBusy (p.arg 0) = false →
      s.flag (HL.STAT.SELFCHECK (p.arg 0)) = false →
      p.arg 1 ≤ 15 →
      p.arg 2 ≤ 1 →
      hlBad (((wordOf (p.arg 5)).withField 16 4 (p.arg 1)).withField 27 1 (p.arg 2) ||| 0x80000000) (wordOf (p.arg 3)) (wordOf (p.arg 4)) 0 = false →
      Completes .hlInterval s fun t =>
        t.flag (HL.STAT.BUSY (p.arg 0)) = true ∧
        (t.hair (p.arg 0)).phase = 1 ∧
        t.get (HL.CTL.STOPS (p.arg 0)) = p.arg 1 ∧
        t.get (HL.WIN.OPEN (p.arg 0)) = p.arg 4 % 2 ^ 16 ∧
        t.get (HL.TIMEOUT.US (p.arg 0)) = p.arg 6 % 2 ^ 16 ∧
        InProgress p 0 0 s t ∧
        RegsOnly [LEC.STAT.reg, HL.SRC.reg (p.arg 0), HL.WIN.reg (p.arg 0), HL.TIMEOUT.reg (p.arg 0), HL.CTL.reg (p.arg 0), HL.STAT.reg (p.arg 0)] s t ∧
        t = { s with regs := t.regs, hairs := t.hairs, lec := t.lec }) ∧
  (∀ (p : Packet) (u : State) (s : State),
      s.start 0x302 = some (p, u) →
      p.arg 0 < 64 →
      s.modeOf (p.arg 0 / 8) ≠ mMeasure →
      Completes .hlFreq s fun t =>
        RepliedTo p stBusy [] s t ∧
        t = { s with lec := t.lec }) ∧
  (∀ (p : Packet) (u : State) (s : State),
      s.start 0x302 = some (p, u) →
      p.arg 0 < 64 →
      s.modeOf (p.arg 0 / 8) = mMeasure →
      s.hlBusy (p.arg 0) = false →
      s.flag (HL.STAT.SELFCHECK (p.arg 0)) = false →
      isComparator (p.arg 1) = true →
      p.arg 2 ≤ 7 →
      p.arg 4 % 2 ^ 16 ≠ 0 →
      hlBad ((s.rd (HL.CTL.reg (p.arg 0))).withField 28 2 1 ||| 0x80000000) (((s.rd (HL.SRC.reg (p.arg 0))).withField 28 4 (p.arg 1)).withField 24 3 (p.arg 2)) (s.rd (HL.WIN.reg (p.arg 0))) ((wordOf (p.arg 4)).withField 16 16 (p.arg 3)) = false →
      Completes .hlFreq s fun t =>
        t.flag (HL.STAT.BUSY (p.arg 0)) = true ∧
        (t.hair (p.arg 0)).phase = 1 ∧
        t.get (HL.CTL.OP (p.arg 0)) = 1 ∧
        t.get (HL.FREQ_CFG.GATE (p.arg 0)) = p.arg 4 % 2 ^ 16 ∧
        InProgress p 0 0 s t ∧
        RegsOnly [LEC.STAT.reg, HL.SRC.reg (p.arg 0), HL.FREQ_CFG.reg (p.arg 0), HL.CTL.reg (p.arg 0), HL.STAT.reg (p.arg 0)] s t ∧
        t = { s with regs := t.regs, hairs := t.hairs, lec := t.lec })

/-- Time-domain reflectometry and the MEASURE stimulus command -/
def Obligations.TdrAndStimulus : Prop :=
  (∀ (g : Octet) (v : Word) (s : State),
      s.modeOf (g / 8) ≠ mMeasure →
      s.modeOf (g / 8) ≠ mOff →
      Completes (.tdrGo g v) s fun t =>
        t.flag (HL.STAT.REFUSED g) = true ∧
        RegsOnly [HL.STAT.reg g] s t ∧
        t = { s with regs := t.regs }) ∧
  (∀ (g : Octet) (v : Word) (s : State),
      s.modeOf (g / 8) = mMeasure →
      s.tdrBad g (v.field 0 8) = true →
      Completes (.tdrGo g v) s fun t =>
        t.flag (TDR.CTL.CFG_ERR g) = true ∧
        RegsOnly [TDR.CTL.reg g] s t ∧
        t = { s with regs := t.regs }) ∧
  (∀ (g : Octet) (v : Word) (s : State),
      s.modeOf (g / 8) = mMeasure →
      s.tdrBad g (v.field 0 8) = false →
      v.field 0 8 ≠ 0 →
      Completes (.tdrGo g v) s fun t =>
        t.flag (HL.STAT.BUSY g) = true ∧
        (t.tdr g).lanes = bitsOf 8 (v.field 0 8) ∧
        (t.tdr g).phase = 0 ∧
        (t.tdr g).apply = v.getLsbD 8 ∧
        (t.tdr g).ref = v.field 16 16 ∧
        (∀ l : Fin 8, v.getLsbD l = true → t.rd (TDR.RES.reg g l) = 0) ∧
        SameMemory s t) ∧
  (∀ (g : Octet) (l : Nat) (rest : List Nat) (s : State),
      (s.tdr g).lanes = l :: rest →
      (s.tdr g).phase = 0 →
      (s.tdr g).at_ + 15000 ≤ s.tick →
      Completes (.tdrPhaseEnd g (.quiet false)) s fun t =>
        (t.tdr g).lanes = l :: rest ∧
        (t.tdr g).phase = 1 ∧
        (t.tdr g).at_ = s.tick ∧
        SameMemory s t) ∧
  (∀ (g : Octet) (l m : Lane) (rest : List Nat) (s : State),
      (s.tdr g).lanes = l.val :: m.val :: rest →
      (s.tdr g).phase = 0 →
      (s.tdr g).at_ + 15000 ≤ s.tick →
      Completes (.tdrPhaseEnd g (.quiet true)) s fun t =>
        t.get (TDR.RES.SIG g l) = 4 ∧
        (t.tdr g).lanes = m.val :: rest ∧
        (t.tdr g).phase = 0 ∧
        SameMemory s t) ∧
  (∀ (g : Octet) (l m : Lane) (rest : List Nat) (shots : List TdrShot) (s : State),
      (s.tdr g).lanes = l.val :: m.val :: rest →
      (s.tdr g).phase ≠ 0 →
      (s.tdr g).at_ + 512 * s.period g (s.tdrEntry g) / 2 ^ 32 ≤ s.tick →
      passSig shots ≠ 1 →
      Completes (.tdrPhaseEnd g (.pass shots)) s fun t =>
        t.get (TDR.RES.SIG g l) = passSig shots ∧
        (t.tdr g).lanes = m.val :: rest ∧
        SameMemory s t) ∧
  (∀ (g : Octet) (l : Nat) (rest : List Nat) (shots : List TdrShot) (s : State),
      (s.tdr g).lanes = l :: rest →
      (s.tdr g).phase = 1 →
      (s.tdr g).at_ + 512 * s.period g (s.tdrEntry g) / 2 ^ 32 ≤ s.tick →
      passSig shots = 1 →
      Completes (.tdrPhaseEnd g (.pass shots)) s fun t =>
        t.tdr g = { s.tdr g with phase := 2, at_ := s.tick, passA := trips shots } ∧
        t = { s with tdrs := t.tdrs }) ∧
  (∀ (p : Packet) (u : State) (s : State),
      s.start 0x303 = some (p, u) →
      p.arg 0 = 0 →
      p.arg 2 ≤ 1 →
      Completes .tdrRun s fun t =>
        RepliedTo p stDone [] s t ∧
        t = { s with lec := t.lec }) ∧
  (∀ (p : Packet) (u : State) (g : Octet) (s : State),
      s.start 0x303 = some (p, u) →
      p.arg 0 = 2 ^ g.val →
      s.modeOf (g / 8) = mMeasure →
      p.arg 1 % 2 ^ 8 ≠ 0 →
      p.arg 1 < 2 ^ 8 →
      p.arg 2 ≤ 1 →
      s.tdrBad g (p.arg 1) = false →
      Completes .tdrRun s fun t =>
        InProgress p (2 ^ g.val) 0 s t ∧
        t.flag (HL.STAT.BUSY g) = true ∧
        (t.tdr g).lanes = bitsOf 8 (p.arg 1) ∧
        SameMemory s t) ∧
  (∀ (p : Packet) (u : State) (s : State),
      s.start 0x307 = some (p, u) →
      p.arg 0 < 64 →
      s.modeOf (p.arg 0 / 8) ≠ mOff →
      p.arg 1 ≤ 7 →
      p.arg 2 ≤ 63 →
      Completes .measStim s fun t =>
        RepliedTo p stDone [] s t ∧
        (∀ k : Fin 8, t.rd (MSR.STIM.reg (p.arg 0) k) = BitVec.ofNat 32 (p.arg (4 + k))) ∧
        t.get (MSR.CTL.LEN (p.arg 0)) = p.arg 1 ∧
        t.get (MSR.CTL.TS (p.arg 0)) = p.arg 2 ∧
        RegsOnly (MSR.CTL.reg (p.arg 0) :: (List.range 8).map (MSR.STIM.reg (p.arg 0))) s t ∧
        t = { s with regs := t.regs, lec := t.lec })

/-- DC units connect, measure, self-test and disconnect -/
def Obligations.DcUnits : Prop :=
  (∀ (g : Octet) (v : Word) (s : State),
      s.modeOf (g / 8) ≠ mOff →
      s.dcJudge g (v ||| 0x80000000) = .accept →
      s.flag (DC.STAT.SELFTEST g) = false →
      (s.dcUnit g).link = 0 →
      s.rotState g = roIdle →
      Completes (.dcConnectWrite g v) s fun t =>
        (t.dcUnit g).link = 1 ∧
        (t.dcUnit g).ball = v.field 24 3 ∧
        (t.dcUnit g).at_ = s.tick ∧
        t.flag (DC.CTL.CONNECT g) = true ∧
        RegsOnly [DC.CTL.reg g, FE.STAT.reg g (v.field 24 3), STEER.STAT.reg g] s t ∧
        t = { s with regs := t.regs, dcs := t.dcs }) ∧
  (∀ (g : Octet) (v : Word) (s : State),
      s.modeOf (g / 8) ≠ mOff →
      s.dcJudge g (v ||| 0x80000000) = .refuse →
      Completes (.dcConnectWrite g v) s fun t =>
        t.flag (DC.STAT.REFUSED g) = true ∧
        t.get (DC.STAT.REFUSE_CAUSE g) = 1 ∧
        RegsOnly [DC.STAT.reg g] s t ∧
        t = { s with regs := t.regs }) ∧
  (∀ (g : Octet) (v : Word) (s : State),
      s.modeOf (g / 8) ≠ mOff →
      s.dcJudge g (v ||| 0x80000000) = .ignore →
      Completes (.dcConnectWrite g v) s fun t =>
        t.flag (DC.STAT.CFG_ERR g) = true ∧
        RegsOnly [DC.STAT.reg g] s t ∧
        t = { s with regs := t.regs }) ∧
  (∀ (g : Octet) (v : Word) (s : State),
      s.modeOf (g / 8) ≠ mOff →
      s.dcJudge g (v ||| 0x80000000) = .accept →
      s.flag (DC.STAT.SELFTEST g) = true →
      Completes (.dcConnectWrite g v) s fun t =>
        t.flag (DC.STAT.QUEUED g) = true ∧
        (t.dcUnit g).queued = some (.connect (v ||| 0x80000000).toNat) ∧
        (t.dcUnit g).queuedAt = s.tick ∧
        RegsOnly [DC.STAT.reg g] s t ∧
        t = { s with regs := t.regs, dcs := t.dcs }) ∧
  (∀ (g : Octet) (s : State),
      (s.dcUnit g).link = 1 →
      (s.dcUnit g).at_ + 22500 ≤ s.tick →
      s.lec.jobs = [] →
      Completes (.dcPathClosed g) s fun t =>
        (t.dcUnit g).link = 2 ∧
        t.flag (DC.STAT.CONNECTED g) = true ∧
        t.get (STEER.STAT.DC_BALL g) = (s.dcUnit g).ball % 2 ^ 4 ∧
        RegsOnly [DC.STAT.reg g, FE.STAT.reg g (s.dcUnit g).ball, STEER.STAT.reg g] s t ∧
        t = { s with regs := t.regs, dcs := t.dcs }) ∧
  (∀ (g : Octet) (v : Word) (s : State),
      s.modeOf (g / 8) ≠ mOff →
      s.dcJudge g (v &&& 0x7FFFFFFF) = .accept →
      (s.dcUnit g).link = 2 →
      s.flag (DC.STAT.BUSY g) = false →
      Completes (.dcDisconnectWrite g v) s fun t =>
        (t.dcUnit g).link = 3 ∧
        t.get (DC.CTL.MODE g) = 0 ∧
        t.flag (DC.CTL.CONNECT g) = false ∧
        RegsOnly [DC.CTL.reg g, FE.STAT.reg g (s.dcUnit g).ball, STEER.STAT.reg g] s t ∧
        t = { s with regs := t.regs, dcs := t.dcs }) ∧
  (∀ (g : Octet) (s : State),
      (s.dcUnit g).link = 3 →
      s.lec.jobs = [] →
      Completes (.dcPathOpened g) s fun t =>
        (t.dcUnit g).link = 0 ∧
        t.flag (DC.STAT.CONNECTED g) = false ∧
        t.get (STEER.STAT.DC_BALL g) = 15 ∧
        RegsOnly [DC.STAT.reg g, DC.CTL.reg g, FE.STAT.reg g (s.dcUnit g).ball, STEER.STAT.reg g] s t ∧
        t = { s with regs := t.regs, dcs := t.dcs }) ∧
  (∀ (g : Octet) (v : Word) (s : State),
      s.modeOf (g / 8) ≠ mOff →
      v.field 0 4 ≠ 15 →
      s.flag (DC.STAT.BUSY g) = false →
      s.flag (DC.STAT.SELFTEST g) = false →
      (s.dcUnit g).link = 2 →
      Completes (.dcMeasureGo g v) s fun t =>
        t.flag (DC.STAT.BUSY g) = true ∧
        (t.dcUnit g).doneAt = s.tick + 1500 * ((v.field 16 8 + 1) * 2 ^ v.field 0 4) ∧
        RegsOnly [DC.MCFG.reg g, DC.STAT.reg g] s t ∧
        t = { s with regs := t.regs, dcs := t.dcs }) ∧
  (∀ (g : Octet) (v : Word) (s : State),
      s.modeOf (g / 8) ≠ mOff →
      s.flag (DC.STAT.BUSY g) = true →
      Completes (.dcMeasureGo g v) s fun t =>
        t.flag (DC.STAT.CFG_ERR g) = true ∧
        RegsOnly [DC.STAT.reg g] s t ∧
        t = { s with regs := t.regs }) ∧
  (∀ (g : Octet) (x y : Int) (s : State),
      s.flag (DC.STAT.BUSY g) = true →
      (s.dcUnit g).doneAt ≤ s.tick →
      (s.dcUnit g).comply = false →
      s.get (DC.CTL.MODE g) ≠ 0 →
      s.lec.jobs = [] →
      Completes (.dcMeasureDone g [x] [y]) s fun t =>
        t.get (DC.RES.V g) = trunc 16 x ∧
        t.get (DC.RES.I g) = trunc 16 y ∧
        t.flag (DC.STAT.BUSY g) = false ∧
        t.flag (DC.STAT.DONE g) = true ∧
        RegsOnly [DC.RES.reg g, DC.STAT.reg g] s t ∧
        t = { s with regs := t.regs, host := t.host }) ∧
  (∀ (g : Octet) (s : State),
      s.get (DC.CTL.MODE g) ≠ 0 →
      (s.dcUnit g).link ≠ 0 →
      s.flag (DC.STAT.BUSY g) = true →
      Completes (.dcClampComply g) s fun t =>
        t.flag (DC.STAT.COMPLY g) = true ∧
        (t.dcUnit g).comply = true ∧
        RegsOnlyErr [DC.STAT.reg g] s t ∧
        SameMemory s t) ∧
  (∀ (g : Octet) (s : State),
      s.modeOf (g / 8) ≠ mOff →
      s.get (DC.ST_CFG.INTERVAL g) ≠ 0 →
      (s.dcUnit g).tested + 1500 * (1000000 * s.get (DC.ST_CFG.INTERVAL g)) ≤ s.tick →
      s.dcIdle g = true →
      Completes (.dcSelftestStart g none) s fun t =>
        t.flag (DC.STAT.SELFTEST g) = true ∧
        RegsOnly [DC.STAT.reg g] s t ∧
        t = { s with regs := t.regs }) ∧
  (∀ (g : Octet) (v : Word) (s : State),
      s.modeOf (g / 8) ≠ mOff →
      s.dcIdle g = false →
      Completes (.dcSelftestStart g (some v)) s fun t =>
        t.flag (DC.STAT.CFG_ERR g) = true ∧
        t.flag (DC.STAT.SELFTEST g) = s.flag (DC.STAT.SELFTEST g) ∧
        RegsOnly [DC.ST_CFG.reg g, DC.STAT.reg g] s t ∧
        t = { s with regs := t.regs }) ∧
  (∀ (g : Octet) (pass : Bool) (s : State),
      s.flag (DC.STAT.SELFTEST g) = true →
      (s.dcUnit g).queued = none →
      Completes (.dcSelftestEnd g pass) s fun t =>
        t.flag (DC.STAT.SELFTEST g) = false ∧
        (t.dcUnit g).tested = s.tick ∧
        ((pass = false → t.flag (DC.STAT.ST_FAIL g) = true)) ∧
        RegsOnlyErr [DC.STAT.reg g] s t ∧
        SameMemory s t) ∧
  (∀ (g : Octet) (q : DcRequest) (s : State),
      (s.dcUnit g).queued = some q →
      (s.dcUnit g).queuedAt + 1500000 ≤ s.tick →
      s.lec.jobs = [] →
      Completes (.dcQueueTimeout g) s fun t =>
        t.flag (DC.STAT.QUEUED g) = false ∧
        t.flag (DC.STAT.REFUSED g) = true ∧
        t.get (DC.STAT.REFUSE_CAUSE g) = 2 ∧
        t.get (DC.STAT.EST g) ≤ 2000 ∧
        (t.dcUnit g).queued = none ∧
        RegsOnly [DC.STAT.reg g] s t ∧
        t = { s with regs := t.regs, dcs := t.dcs, free := t.free }) ∧
  (∀ (p : Packet) (u : State) (s : State),
      s.start 0x304 = some (p, u) →
      p.arg 0 < 64 →
      (s.dcUnit (p.arg 0)).link = 0 →
      (s.dcUnit (p.arg 0)).queued = none →
      s.inSafe (p.arg 0 / 8) = false →
      s.modeOf (p.arg 0 / 8) = mSetup →
      p.arg 1 ≤ 7 →
      p.arg 2 ≤ 2 →
      p.arg 3 ≤ 4 →
      forceBad (p.arg 2) (p.arg 4) = false →
      s.flag (DC.STAT.SELFTEST (p.arg 0)) = false →
      s.rotState (p.arg 0) = roIdle →
      Completes .dcConnect s fun t =>
        InProgress p 0 0 s t ∧
        (t.dcUnit (p.arg 0)).link = 1 ∧
        (t.dcUnit (p.arg 0)).ball = p.arg 1 ∧
        t.get (DC.FORCE.VALUE (p.arg 0)) = p.arg 4 % 2 ^ 16 ∧
        t.get (DC.CTL.MODE (p.arg 0)) = p.arg 2 ∧
        SameMemory s t) ∧
  (∀ (p : Packet) (u : State) (s : State),
      s.start 0x305 = some (p, u) →
      p.arg 0 < 64 →
      s.modeOf (p.arg 0 / 8) ≠ mOff →
      s.flag (DC.STAT.BUSY (p.arg 0)) = false →
      (s.dcUnit (p.arg 0)).queued = none →
      (s.dcUnit (p.arg 0)).link = 2 →
      p.arg 2 ≤ 14 →
      s.flag (DC.STAT.SELFTEST (p.arg 0)) = false →
      Completes .dcMeasure s fun t =>
        InProgress p 0 0 s t ∧
        t.flag (DC.STAT.BUSY (p.arg 0)) = true ∧
        RegsOnly [LEC.STAT.reg, DC.MCFG.reg (p.arg 0), DC.STAT.reg (p.arg 0)] s t ∧
        t = { s with regs := t.regs, dcs := t.dcs, lec := t.lec }) ∧
  (∀ (p : Packet) (u : State) (s : State),
      s.start 0x306 = some (p, u) →
      p.arg 0 < 64 →
      s.modeOf (p.arg 0 / 8) ≠ mOff →
      (s.dcUnit (p.arg 0)).link = 2 →
      s.dcJudge (p.arg 0) (s.rd (DC.CTL.reg (p.arg 0)) &&& 0x7FFFFFFF) = .accept →
      s.flag (DC.STAT.BUSY (p.arg 0)) = false →
      Completes .dcDisconnect s fun t =>
        InProgress p 0 0 s t ∧
        (t.dcUnit (p.arg 0)).link = 3 ∧
        t.get (DC.CTL.MODE (p.arg 0)) = 0 ∧
        SameMemory s t)

/-- Rotation visits lanes, matches, hands over, and counts -/
def Obligations.RotationCycles : Prop :=
  (∀ (g : Octet) (s : State),
      s.rotMay g = true →
      s.rotState g = roIdle →
      (s.rot g).visit = none →
      Completes (.rotCycleStart g) s fun t =>
        t.rotState g = roSpareCal ∧
        t.get (ROT.STAT.LANE g) = 8 ∧
        (t.rot g).todo = s.cycleLanes g ∧
        (t.rot g).cycleAt = some s.tick ∧
        RegsOnly [ROT.STAT.reg g] s t ∧
        t = { s with regs := t.regs, rots := t.rots, secCals := t.secCals }) ∧
  (∀ (g : Octet) (l : Lane) (s : State),
      (s.rot g).visit = some l.val →
      s.rotState g = roMirror →
      Completes (.rotMirrorDone g) s fun t =>
        t.rotState g = roMatch ∧
        t.get (ROT.STAT.LANE g) = l ∧
        (t.rot g).tries = 0 ∧
        SameMemory s t) ∧
  (∀ (g : Octet) (l : Lane) (s : State),
      (s.rot g).visit = some l.val →
      s.rotState g = roMatch →
      Completes (.rotMatchTryEnd g true) s fun t =>
        t.rotState g = roSeamOut ∧
        t.get (ROT.STAT.LANE g) = l ∧
        RegsOnly [ROT.STAT.reg g] s t ∧
        t = { s with regs := t.regs, rots := t.rots, secCals := t.secCals }) ∧
  (∀ (g : Octet) (l : Lane) (s : State),
      (s.rot g).visit = some l.val →
      s.rotState g = roMatch →
      (s.rot g).tries < 2 →
      Completes (.rotMatchTryEnd g false) s fun t =>
        t.rot g = { s.rot g with tries := (s.rot g).tries + 1 } ∧
        t = { s with rots := t.rots }) ∧
  (∀ (g : Octet) (l : Lane) (s : State),
      (s.rot g).visit = some l.val →
      s.rotState g = roSeamOut →
      (s.rot g).at_ + 75000000 ≤ s.tick →
      (s.rot g).todo = [] →
      Completes (.rotSeamTimeout g) s fun t =>
        t.rotState g = roWait ∧
        (t.rot g).visit = none ∧
        t.flag (ROT.STAT.SKIPPED g) = true ∧
        (t.get (ROT.STAT.SKIPMASK g)).testBit l = true ∧
        t.get (ROT.COUNT.SKIPS g) = satAdd (2 ^ (ROT.COUNT.SKIPS 0).n - 1) (s.get (ROT.COUNT.SKIPS g)) 1 ∧
        RegsOnlyErr [ROT.STAT.reg g, ROT.COUNT.reg g] s t ∧
        SameMemory s t) ∧
  (∀ (g : Octet) (l : Lane) (s : State),
      (s.rot g).owed = none →
      (s.rot g).visit = some l.val →
      s.rotState g = roSeamOut →
      s.handoverShut g l = false →
      Completes (.handoverSwitch g false) s fun t =>
        t.rotState g = roCal ∧
        t.get (STEER.STAT.SPARE g) = 2 ^ l.val ∧
        (t.rot g).visit = some l.val ∧
        SameMemory s t) ∧
  (∀ (g : Octet) (fail : Bool) (l : Lane) (s : State),
      (s.rot g).owed = none →
      (s.rot g).visit = some l.val →
      s.handoverShut g l = true →
      Completes (.handoverSwitch g fail) s fun t =>
        t = s) ∧
  (∀ (g : Octet) (e : RunEnd) (l : Lane) (s : State),
      s.modeOf (g / 8) = mSetup →
      s.rotState g = roSpareCal →
      e.taps = [] →
      s.runCause g 8 e = 0 →
      s.vault.room 1 = true →
      (s.rot g).visit = some l.val →
      Completes (.rotRunEnd g e) s fun t =>
        (t.core g 8).drift = s.runDrift g 8 e.measured ∧
        (t.core g 8).verr = e.verr ∧
        (t.core g 8).commitAt = some s.tick ∧
        (t.core g 8).fails = 0 ∧
        t.rotState g = roMirror ∧
        t.get (ROT.STAT.LANE g) = l ∧
        SameMemory s t) ∧
  (∀ (g : Octet) (e : RunEnd) (s : State),
      s.rotState g = roIdle →
      s.procCore g = none →
      Completes (.rotRunEnd g e) s fun t =>
        t = s) ∧
  (∀ (g : Octet) (v : Word) (s : State),
      s.modeOf (g / 8) ≠ mOff →
      s.rotState g = roIdle →
      Completes (.rotCtlWrite g v) s fun t =>
        t.flag (ROT.CTL.EN g) = v.getLsbD 31 ∧
        t.flag (ROT.CTL.PAUSE g) = v.getLsbD 30 ∧
        t.get (ROT.CTL.LANES g) = v.field 16 8 ∧
        t.get (ROT.CTL.PERIOD g) = v.field 0 12 ∧
        RegsOnly [ROT.CTL.reg g] s t ∧
        t = { s with regs := t.regs }) ∧
  (∀ (g : Octet) (v : Word) (s : State),
      s.modeOf (g / 8) = mSetup →
      v.getLsbD 30 = true →
      s.rotState g = roMatch →
      (s.rot g).visit = none →
      (∀ c : Fin 9, (s.core g c).prov = none) →
      s.procCore g = none →
      Completes (.rotCtlWrite g v) s fun t =>
        t.rotState g = roIdle ∧
        t.flag (ROT.CTL.PAUSE g) = true ∧
        RegsOnly [ROT.CTL.reg g, ROT.STAT.reg g] s t ∧
        SameMemory s t) ∧
  (∀ (k : Sector) (s : State),
      (s.secCal k).ran + (if s.rotating k then s.quill.qsec - (s.secCal k).ranAt else 0) < 3600 →
      Completes (.rotSummary k) s fun t =>
        t = s) ∧
  (∀ (k : Sector) (s : State),
      3600 ≤ (s.secCal k).ran →
      s.vault.room 1 = true →
      Completes (.rotSummary k) s fun t =>
        (t.secCal k).ran = 0 ∧
        (t.secCal k).visits = 0 ∧
        (t.secCal k).skips = 0 ∧
        t.vault.entries.length = s.vault.entries.length + 1 ∧
        SameMemory s t)

/-- Temperatures, correction sets and ages of cores -/
def Obligations.CorrectionsAndAges : Prop :=
  (∀ (k : Sector) (reading : BitVec 16) (s : State),
      s.mainOn = true →
      s.modeOf k = mOff →
      (s.secCal k).primed = false →
      s.tempPoints = [] →
      Completes (.calTempSample k reading) s fun t =>
        t.get (CAL.TEMP.TEMP k) = reading.toNat ∧
        (t.secCal k).filt = reading.toInt * 1024 ∧
        (t.secCal k).primed = true ∧
        RegsOnly [CAL.TEMP.reg k] s t ∧
        t = { s with regs := t.regs, secCals := t.secCals }) ∧
  (∀ (k : Sector) (reading : BitVec 16) (s : State),
      s.mainOn = true →
      (s.secCal k).primed = true →
      Completes (.calTempSample k reading) s fun t =>
        min (s.secCal k).filt (reading.toInt * 1024) ≤ (t.secCal k).filt ∧
        (t.secCal k).filt ≤ max (s.secCal k).filt (reading.toInt * 1024) ∧
        SameMemory s t) ∧
  (∀ (k : Sector) (s : State),
      s.modeOf k ≠ mOff →
      s.mainOn = true →
      Completes (.calRecompute k) s fun t =>
        (∀ (g : Octet) (c : Fin 9), (t.core g c).set = (s.core g c).set ∧ ((t.core g c).next = (s.core g c).next ∨ (t.core g c).next = some (s.corrections g c))) ∧
        (∀ (g : Octet) (c : Fin 9), g.val / 8 ≠ k.val → t.core g c = s.core g c) ∧
        t = { s with cores := t.cores }) ∧
  (∀ (g : Octet) (s : State),
      s.modeOf (g / 8) ≠ mOff →
      s.mainOn = true →
      Completes (.calAgeClassChange g) s fun t =>
        (∀ l : Lane, t.get (ROT.AGE.ACLASS g l) = s.ageClass g (s.coreAt g l)) ∧
        t.get (ROT.AGE_LS.ACLASS g) = s.ageClass g 8 ∧
        RegsOnlyErr (ROT.AGE_LS.reg g :: ROT.CLASS.reg g :: CAL.STAT.reg :: (List.range 8).map (ROT.AGE.reg g)) s t ∧
        SameMemory s t)

/-- Foreground calibration, repair and timing commands -/
def Obligations.CalibrationCommands : Prop :=
  (∀ (p : Packet) (u : State) (k : Sector) (s : State),
      s.start 0x401 = some (p, u) →
      p.scope = 2 ^ k.val →
      s.calMay (2 ^ k.val) = true →
      Completes .calCore s fun t =>
        InProgress p (2 ^ k.val) 0 s t ∧
        (t.proc k).kind = 1 ∧
        (t.proc k).octets = sectorOctets (p.arg 0) k ∧
        t.flag (SMODE.CTL.BUSY k) = true ∧
        t.get (SMODE.CTL.MODE_TGT k) = mCalibrate ∧
        SameMemory s t) ∧
  (∀ (p : Packet) (u : State) (s : State),
      s.start 0x401 = some (p, u) →
      s.calMay p.scope = false →
      Completes .calCore s fun t =>
        RepliedTo p stBusy [] s t ∧
        t = { s with lec := t.lec }) ∧
  (∀ (p : Packet) (u : State) (k : Sector) (s : State),
      s.start 0x402 = some (p, u) →
      p.scope = 2 ^ k.val →
      s.calMay (2 ^ k.val) = true →
      p.arg 1 % 256 = 0 →
      Completes .calDeskew s fun t =>
        InProgress p (2 ^ k.val) 0 s t ∧
        (t.proc k).kind = 2 ∧
        (t.proc k).ref = p.arg 2 ∧
        t.flag (SMODE.CTL.BUSY k) = true ∧
        t.get (SMODE.CTL.MODE_TGT k) = mCalibrate ∧
        SameMemory s t) ∧
  (∀ (p : Packet) (u : State) (k : Sector) (s : State),
      s.start 0x403 = some (p, u) →
      p.scope = 2 ^ k.val →
      s.calMay (2 ^ k.val) = true →
      Completes .calVerify s fun t =>
        InProgress p (2 ^ k.val) 0 s t ∧
        (t.proc k).kind = 3 ∧
        t.flag (SMODE.CTL.BUSY k) = true ∧
        t.get (SMODE.CTL.MODE_TGT k) = mCalibrate ∧
        SameMemory s t) ∧
  (∀ (p : Packet) (u : State) (s : State),
      s.start 0x404 = some (p, u) →
      s.rwlOpen = false →
      Completes .calPoint s fun t =>
        RepliedTo p stSealed [] s t ∧
        t = { s with lec := t.lec }) ∧
  (∀ (p : Packet) (u : State) (k : Sector) (s : State),
      s.start 0x404 = some (p, u) →
      s.rwlOpen = true →
      s.calMay 255 = true →
      p.arg 0 < 8 →
      s.changeRoom 1 = true →
      p.scope = 2 ^ k.val →
      Completes .calPoint s fun t =>
        InProgress p (2 ^ k.val) 0 s t ∧
        (t.proc k).kind = 4 ∧
        (t.proc k).point = p.arg 0 ∧
        t.flag (SMODE.CTL.BUSY k) = true ∧
        SameMemory s t) ∧
  (∀ (k : Sector) (s : State),
      s.procDone k = true →
      s.inSafe k = false →
      s.flag (SMODE.CTL.PENDING k) = false →
      Completes (.calProcedureEnd k) s fun t =>
        t.modeOf k = mSetup ∧
        (t.proc k).kind = 0) ∧
  (∀ (p : Packet) (u : State) (s : State),
      s.start 0x405 = some (p, u) →
      s.lifecycle = 3 →
      p.arg 0 < 64 →
      p.arg 1 < 512 →
      s.modeOf (p.arg 0 / 8) = mOff →
      s.changeRoom 1 = true →
      Completes .calUnretire s fun t =>
        InProgress p 0 0 s t ∧
        (∀ c : Fin 9, (p.arg 1).testBit c = true → (t.core (p.arg 0) c).fails = 0 ∧ (9 * p.arg 0 + c.val) ∉ t.vault.ledger.cores) ∧
        RegsOnly [LEC.STAT.reg] s t ∧
        SameMemory s t) ∧
  (∀ (p : Packet) (u : State) (s : State),
      s.start 0x405 = some (p, u) →
      s.lifecycle ≠ 3 →
      Completes .calUnretire s fun t =>
        RepliedTo p stSealed [] s t ∧
        t = { s with lec := t.lec }) ∧
  (∀ (p : Packet) (u : State) (k : Sector) (s : State),
      s.start 0x406 = some (p, u) →
      s.lifecycle = 1 →
      s.rwlOpen = true →
      p.arg 0 = k.val →
      s.modeOf k = mOff →
      s.changeRoom 2 = true →
      Completes .tllRepair s fun t =>
        t.rd (TLL.REPAIR.reg k) = BitVec.ofNat 32 (p.arg 1 + p.arg 2 * 2 ^ 8 + p.arg 3 * 2 ^ 16 + p.arg 4 * 2 ^ 24) ∧
        Tab.get (fun _ => 0) t.vault.ledger.masters k = p.arg 1 + p.arg 2 * 2 ^ 8 + p.arg 3 * 2 ^ 16 + p.arg 4 * 2 ^ 24 ∧
        InProgress p 0 0 s t ∧
        RegsOnly [LEC.STAT.reg, TLL.REPAIR.reg k] s t ∧
        SameMemory s t) ∧
  (∀ (p : Packet) (u : State) (s : State),
      s.start 0x201 = some (p, u) →
      p.arg 0 < 64 →
      p.arg 1 = 0 →
      p.arg 2 < 64 →
      p.arg 8 < 2 ^ 28 →
      s.modeOf (p.arg 0 / 8) ≠ mOff →
      s.nibLocked (p.arg 0) = false →
      tsBad (wordsNat ((List.range 6).map fun i => BitVec.ofNat 32 (p.arg (3 + i)))) = false →
      Completes .tsWrite s fun t =>
        RepliedTo p stDone [] s t ∧
        t = { s with lec := t.lec }) ∧
  (∀ (p : Packet) (u : State) (l : Lane) (s : State),
      s.start 0x201 = some (p, u) →
      p.arg 0 < 64 →
      p.arg 1 = 2 ^ l.val →
      p.arg 2 < 64 →
      p.arg 8 < 2 ^ 28 →
      s.modeOf (p.arg 0 / 8) ≠ mOff →
      s.nibLocked (p.arg 0) = false →
      (s.rot (p.arg 0)).visit = none →
      tsBad (wordsNat ((List.range 6).map fun i => BitVec.ofNat 32 (p.arg (3 + i)))) = false →
      Completes .tsWrite s fun t =>
        (∀ w : Fin 6, t.rd (NIB.TS.W.reg (p.arg 0) l (p.arg 2) w) = BitVec.ofNat 32 (p.arg (3 + w))) ∧
        RepliedTo p stDone [] s t ∧
        RegsOnly ((List.range 6).map (NIB.TS.W.reg (p.arg 0) l (p.arg 2))) s t ∧
        t = { s with regs := t.regs, lec := t.lec }) ∧
  (∀ (p : Packet) (u : State) (s : State),
      s.start 0x202 = some (p, u) →
      p.arg 0 = 0 →
      16 ≤ p.arg 1 →
      Completes .ptWrite s fun t =>
        RepliedTo p stBadParam [] s t ∧
        t = { s with lec := t.lec }) ∧
  (∀ (p : Packet) (u : State) (g : Octet) (s : State),
      s.start 0x202 = some (p, u) →
      p.arg 0 = 2 ^ g.val →
      p.arg 1 < 16 →
      2 ^ 32 ≤ p.arg 2 →
      p.arg 2 < 2 ^ 48 →
      s.modeOf (g / 8) ≠ mOff →
      s.ptIgnored g (p.arg 1) = false →
      s.flag (PS.RESV.HELD (g / 8)) = false →
      Completes .ptWrite s fun t =>
        t.period g (p.arg 1) = p.arg 2 ∧
        RepliedTo p stDone [] s t ∧
        RegsOnly [PER.PT.LO.reg g (p.arg 1), PER.PT.HI.reg g (p.arg 1)] s t ∧
        t = { s with regs := t.regs, octs := t.octs, lec := t.lec })

/-- Channels of the Copyist start, poll, pause, abort and read descriptors -/
def Obligations.CopyistControl : Prop :=
  (∀ (c : Channel) (v : Word) (s : State),
      s.chState c = cpIdle →
      s.lecHolds c = false →
      s.progOf c % 32 = 0 →
      s.get (CH.CTL.PSPACE c) ≤ 1 →
      v.field 0 2 = s.get (CH.CTL.PSPACE c) →
      v.getLsbD 27 = s.flag (CH.CTL.IRQ_EN c) →
      v.field 28 3 = 0 →
      Completes (.cpyGo c v) s fun t =>
        t.chState c = cpFetch ∧
        t.chPc c = s.progOf c ∧
        t.chDone c = 0 ∧
        t.rd (CH.COUNTS.reg c) = 0 ∧
        (t.chan c).desc = [] ∧
        (t.chan c).loops = [] ∧
        RegsOnly [CH.CTL.reg c, CH.STAT.reg c, CH.PC_LO.reg c, CH.PC_HI.reg c, CH.DONE_BYTES.reg c, CH.COUNTS.reg c] s t ∧
        t = { s with regs := t.regs, chans := t.chans }) ∧
  (∀ (c : Channel) (v : Word) (s : State),
      s.chState c = cpFetch →
      v.field 0 2 = s.get (CH.CTL.PSPACE c) →
      v.getLsbD 27 = s.flag (CH.CTL.IRQ_EN c) →
      v.field 28 3 = 0 →
      Completes (.cpyGo c v) s fun t =>
        t.flag (CH.STAT.REFUSED c) = true ∧
        t.chState c = cpFetch ∧
        RegsOnly [CH.CTL.reg c, CH.STAT.reg c] s t ∧
        t = { s with regs := t.regs, chans := t.chans }) ∧
  (∀ (c : Channel) (v : Word) (s : State),
      s.chState c = cpEmpty →
      v.field 0 2 = s.get (CH.CTL.PSPACE c) →
      v.getLsbD 27 = s.flag (CH.CTL.IRQ_EN c) →
      v.field 28 4 % 2 = 0 →
      v.field 30 2 = 0 →
      Completes (.cpyKick c v) s fun t =>
        t.chState c = cpFetch ∧
        RegsOnly [CH.CTL.reg c, CH.STAT.reg c] s t ∧
        t = { s with regs := t.regs, chans := t.chans }) ∧
  (∀ (c : Channel) (v : Word) (s : State),
      s.chState c = cpFetch →
      (s.chan c).moving = false →
      v.field 0 2 = s.get (CH.CTL.PSPACE c) →
      v.getLsbD 27 = s.flag (CH.CTL.IRQ_EN c) →
      v.field 28 4 = 1 →
      Completes (.cpyPause c v) s fun t =>
        t.chState c = cpPaused ∧
        (t.chan c).left = cpFetch ∧
        t.flag (CH.CTL.PAUSE c) = true ∧
        RegsOnly [CH.CTL.reg c, CH.STAT.reg c] s t ∧
        t = { s with regs := t.regs, chans := t.chans }) ∧
  (∀ (c : Channel) (v : Word) (s : State),
      s.chState c = cpPaused →
      (s.chan c).left = cpFetch →
      v.field 0 2 = s.get (CH.CTL.PSPACE c) →
      v.getLsbD 27 = s.flag (CH.CTL.IRQ_EN c) →
      v.field 28 4 = 0 →
      Completes (.cpyPause c v) s fun t =>
        t.chState c = cpFetch ∧
        t.flag (CH.CTL.PAUSE c) = false ∧
        RegsOnly [CH.CTL.reg c, CH.STAT.reg c] s t ∧
        t = { s with regs := t.regs, chans := t.chans }) ∧
  (∀ (c : Channel) (v : Word) (s : State),
      s.chState c = cpEmpty →
      (s.chan c).ended = none →
      c.val < 24 →
      s.lecHolds c = false →
      s.mem.held = [] →
      v.field 0 2 = s.get (CH.CTL.PSPACE c) →
      v.getLsbD 27 = s.flag (CH.CTL.IRQ_EN c) →
      v.field 28 4 = 0 →
      Completes (.cpyAbort c v) s fun t =>
        t.chState c = cpIdle ∧
        t.get (CH.STAT.LAST c) = stAborted ∧
        (t.get CPY.ERR.ERR).testBit c = true ∧
        (t.chan c).desc = [] ∧
        RegsOnly [CH.CTL.reg c, CH.STAT.reg c, CPY.ERR.reg] s t ∧
        t = { s with regs := t.regs, chans := t.chans, host := t.host, cpyWait := t.cpyWait }) ∧
  (∀ (c : Channel) (s : State),
      s.chState c = cpEmpty →
      s.get CPY.CTL.POLL_US ≠ 0 →
      (s.chan c).at_ + 1500 * s.get CPY.CTL.POLL_US ≤ s.tick →
      Completes (.cpyPoll c) s fun t =>
        t.chState c = cpFetch ∧
        RegsOnly [CH.STAT.reg c] s t ∧
        t = { s with regs := t.regs }) ∧
  (∀ (c : Channel) (ws : List Word) (e : MemErr) (s : State),
      s.chState c = cpFetch →
      (s.chan c).desc = [] →
      (s.chan c).loops = [] →
      s.get (CH.CTL.PSPACE c) = spHost →
      s.host.linkUp = true →
      (ws.getD 0 0).getLsbD 31 = false →
      (s.chan c).kicked = false →
      Completes (.cpyDescriptorRead c (some ws) e) s fun t =>
        t.chState c = cpEmpty ∧
        (t.chan c).at_ = s.tick ∧
        RegsOnly [CH.STAT.reg c] s t ∧
        t = { s with regs := t.regs, chans := t.chans }) ∧
  (∀ (c : Channel) (w0 w1 w2 w3 w4 w5 w6 w7 : Word) (e : MemErr) (s : State),
      s.chState c = cpFetch →
      (s.chan c).desc = [] →
      (s.chan c).loops = [] →
      s.get (CH.CTL.PSPACE c) = spHost →
      s.host.linkUp = true →
      w0.getLsbD 31 = true →
      w1.field 28 4 = cpMove →
      w1.field 0 16 = 0 →
      Completes (.cpyDescriptorRead c (some [w0, w1, w2, w3, w4, w5, w6, w7]) e) s fun t =>
        t.chState c = cpExec ∧
        (t.chan c).desc = [w0, w1, w2, w3, w4, w5, w6, w7] ∧
        RegsOnly [CH.STAT.reg c] s t ∧
        t = { s with regs := t.regs, chans := t.chans })

/-- MOVE, LOOP, ENDLOOP, WAIT, SIGNAL, FENCE and STOP -/
def Obligations.CopyistInstructions : Prop :=
  (∀ (c : Channel) (st : Nat) (s : State),
      s.chState c = cpExec →
      s.atOp c cpMove = true →
      (s.chan c).moving = false →
      s.moveCheck c = some st →
      Completes (.cpyMove c) s fun t =>
        (t.chan c).ended = some st ∧
        (t.chan c).moving = false ∧
        t.chDone c = 0 ∧
        RegsOnly [CH.DONE_BYTES.reg c, CH.COUNTS.reg c] s t ∧
        t = { s with regs := t.regs, chans := t.chans }) ∧
  (∀ (c : Channel) (s : State),
      s.chState c = cpExec →
      s.atOp c cpMove = true →
      (s.chan c).moving = false →
      s.moveCheck c = none →
      (s.chan c).sspace = spHost →
      (s.chan c).dspace = spHost →
      Completes (.cpyMove c) s fun t =>
        (t.chan c).moving = true ∧
        (t.chan c).dstHeld = true ∧
        (t.chan c).ended = none ∧
        t.chDone c = 0 ∧
        RegsOnly [CH.DONE_BYTES.reg c, CH.COUNTS.reg c] s t ∧
        t = { s with regs := t.regs, chans := t.chans, cpyWait := t.cpyWait }) ∧
  (∀ (c : Channel) (data : List Byte) (s : State),
      s.movingNow c = true →
      (s.chan c).dstHeld = true →
      (s.chan c).srcHeld = true →
      (∀ d : Channel, (s.chan d).yieldTo = none) →
      (∀ d : Channel, d ≠ c → s.movingNow d = false) →
      (s.chan c).sspace = spHost →
      (s.chan c).dspace = spHost →
      s.host.linkUp = true →
      sunit c (s.chan c) = dunit c (s.chan c) →
      (s.chan c).len = sunit c (s.chan c) →
      (s.chan c).hold = [] →
      s.chDone c = 0 →
      data.length = (s.chan c).len →
      s.rd (CH.COUNTS.reg c) = 0 →
      s.slotsOn 0x60 = [] →
      Completes (.cpySegmentDone c ⟨data, none, .none, .none, .none⟩) s fun t =>
        t.hostMem = memWrs s.hostMem (s.dstAt c) data ∧
        t.chDone c = (s.chan c).len ∧
        (t.chan c).ended = some stDone ∧
        (t.chan c).moving = false ∧
        (t.chan c).dstHeld = false ∧
        RegsOnly [CH.DONE_BYTES.reg c] s t ∧
        t = { s with regs := t.regs, chans := t.chans, hostMem := t.hostMem, cpyWait := t.cpyWait, dbg := t.dbg }) ∧
  (∀ (c : Channel) (s : State),
      s.chState c = cpExec →
      s.atOp c cpLoop = true →
      (s.chan c).fld 1 27 1 = 0 →
      (s.chan c).loops.length < 4 →
      Completes (.cpyLoop c) s fun t =>
        (t.chan c).loops = { start := s.chPc c + 32, left := max 1 ((s.chan c).w 2) } :: (s.chan c).loops ∧
        (t.chan c).ended = some stDone ∧
        t = { s with chans := t.chans }) ∧
  (∀ (c : Channel) (l : CpyLoop) (rest : List CpyLoop) (s : State),
      s.chState c = cpExec →
      s.atOp c cpEndloop = true →
      (s.chan c).loops = l :: rest →
      l.ring = false →
      1 < l.left →
      Completes (.cpyEndloop c) s fun t =>
        (t.chan c).loops = { l with left := l.left - 1 } :: rest ∧
        (t.chan c).next = l.start ∧
        (t.chan c).ended = some stDone ∧
        t = { s with chans := t.chans }) ∧
  (∀ (c : Channel) (s : State),
      s.chState c = cpWait →
      s.atOp c cpWaitOp = true →
      s.cpyPending ((s.chan c).fld 1 0 8) = true →
      Completes (.cpyWait c) s fun t =>
        (t.chan c).ended = some stDone ∧
        (t.chan c).waited = s.chWaited c ∧
        RegsOnly [CPY.EVT_PEND.reg ((s.chan c).fld 1 0 8 / 32)] s t ∧
        t = { s with regs := t.regs, chans := t.chans }) ∧
  (∀ (c : Channel) (s : State),
      s.cpyPending ((s.chan c).fld 1 0 8) = false →
      Completes (.cpyWait c) s fun t =>
        t = s) ∧
  (∀ (c : Channel) (s : State),
      s.chState c = cpWait →
      s.atOp c cpWaitOp = true →
      (s.chan c).w 2 ≠ 0 →
      (s.chan c).at_ + 1500 * (s.chan c).w 2 ≤ s.tick →
      s.cpyPending ((s.chan c).fld 1 0 8) = false →
      Completes (.cpyWaitTimeout c) s fun t =>
        (t.chan c).ended = some stWaitTimeout ∧
        (t.chan c).waited = s.chWaited c ∧
        t = { s with chans := t.chans }) ∧
  (∀ (c : Channel) (s : State),
      s.chState c = cpExec →
      s.atOp c cpSignal = true →
      (s.chan c).fld 1 8 1 = 0 →
      (s.chan c).fld 1 9 1 = 1 →
      (s.chan c).fld 1 10 2 = spHost →
      (s.chan c).wide 2 % 4 = 0 →
      (s.chan c).wide 2 + 4 ≤ 2 ^ 64 →
      s.host.linkUp = true →
      Completes (.cpySignal c) s fun t =>
        t.hostMem = memWrs s.hostMem ((s.chan c).wide 2) (leBytes 4 ((s.chan c).w 4)) ∧
        (t.chan c).ended = some stDone ∧
        (t.chan c).toHost = true ∧
        t = { s with chans := t.chans, hostMem := t.hostMem }) ∧
  (∀ (c : Channel) (s : State),
      s.chState c = cpExec →
      s.atOp c cpSignal = true →
      (s.chan c).fld 1 8 1 = 1 →
      (s.chan c).fld 1 9 1 = 0 →
      s.flag (EVT.ROUTE.CHAIN ((s.chan c).fld 1 0 8)) = false →
      Completes (.cpySignal c) s fun t =>
        t.ev.posted = s.ev.posted ++ [{ code := (s.chan c).fld 1 0 8, source := evHost, route := (s.rd (EVT.ROUTE.reg ((s.chan c).fld 1 0 8))).toNat, at_ := 1024 * s.tick, io := true }] ∧
        (t.chan c).ended = some stDone ∧
        t = { s with chans := t.chans, ev := t.ev }) ∧
  (∀ (c : Channel) (s : State),
      s.chState c = cpExec →
      s.atOp c cpFence = true →
      (s.chan c).fencing = false →
      (s.chan c).toHost = false →
      Completes (.cpyFence c) s fun t =>
        (t.chan c).ended = some stDone ∧
        t = { s with chans := t.chans }) ∧
  (∀ (c : Channel) (s : State),
      s.chState c = cpExec →
      s.atOp c cpFence = true →
      (s.chan c).fencing = false →
      (s.chan c).toHost = true →
      Completes (.cpyFence c) s fun t =>
        t.chan c = { s.chan c with fencing := true } ∧
        t = { s with chans := t.chans }) ∧
  (∀ (c : Channel) (s : State),
      (s.chan c).fencing = true →
      Completes (.cpyFenceDone c true) s fun t =>
        (t.chan c).ended = some stDone ∧
        (t.chan c).fencing = false ∧
        t = { s with chans := t.chans }) ∧
  (∀ (c : Channel) (s : State),
      (s.chan c).fencing = true →
      Completes (.cpyFenceDone c false) s fun t =>
        (t.chan c).ended = some stLinkError ∧
        (t.chan c).fencing = false ∧
        RegsOnlyErr [] s t ∧
        SameMemory s t) ∧
  (∀ (c : Channel) (s : State),
      s.chState c = cpFetch →
      s.atOp c cpStop = true →
      c.val < 24 →
      s.lecHolds c = false →
      s.mem.held = [] →
      s.get (CH.CTL.PSPACE c) = spHost →
      s.host.linkUp = true →
      ((s.chan c).w 0).testBit 30 = false →
      Completes (.cpyStop c) s fun t =>
        t.chState c = cpIdle ∧
        t.get (CH.STAT.LAST c) = stDone ∧
        (t.get CPY.DONE.DONE).testBit c = true ∧
        t.hostMem = memWrs s.hostMem (s.chPc c) (leBytes 4 ((s.chan c).w 0 % 2 ^ 31 / 2 ^ 16 * 2 ^ 16 + stDone)) ∧
        RegsOnly [CH.STAT.reg c, CPY.DONE.reg] s t ∧
        t = { s with regs := t.regs, chans := t.chans, host := t.host, hostMem := t.hostMem, cpyWait := t.cpyWait }) ∧
  (∀ (c : Channel) (l : List Nat) (s : State),
      s.holdChain c c 32 = l →
      l ≠ [] →
      (∀ d ∈ l, d ≤ c.val) →
      Completes (.cpyMutualHold c) s fun t =>
        t.get (CH.COUNTS.YIELDED c) = satAdd (2 ^ (CH.COUNTS.YIELDED 0).n - 1) (s.get (CH.COUNTS.YIELDED c)) 1 ∧
        (t.chan c).yieldTo = (s.srcBank c).bind (s.holderOf c) ∧
        (t.chan c).dstHeld = false ∧
        SameMemory s t) ∧
  (∀ (c : Channel) (s : State),
      (s.holdChain c c 32).any (fun d => decide (c.val < d)) = true →
      Completes (.cpyMutualHold c) s fun t =>
        t = s) ∧
  (∀ (c : Channel) (s : State),
      s.chState c = cpExec →
      (s.chan c).ended = some stDone →
      s.lecHolds c = false →
      (s.chan c).aborted = false →
      (s.chan c).loops = [] →
      (s.chan c).flush = false →
      (s.chan c).op ≠ cpMove →
      (s.chan c).op ≠ cpWaitOp →
      s.get (CH.CTL.PSPACE c) = spHost →
      s.host.linkUp = true →
      ((s.chan c).w 0).testBit 30 = false →
      Completes (.cpyWriteback c) s fun t =>
        t.chState c = cpFetch ∧
        t.get (CH.STAT.LAST c) = stDone ∧
        t.chPc c = (if (s.chan c).next = 0 then s.chPc c + 32 else (s.chan c).next) % 2 ^ 64 ∧
        (t.chan c).desc = [] ∧
        (t.chan c).ended = none ∧
        t.hostMem = memWrs s.hostMem (s.chPc c) (leBytes 4 ((s.chan c).w 0 % 2 ^ 31 / 2 ^ 16 * 2 ^ 16 + stDone)) ∧
        RegsOnly [CH.STAT.reg c, CH.PC_LO.reg c, CH.PC_HI.reg c] s t ∧
        t = { s with regs := t.regs, chans := t.chans, hostMem := t.hostMem })

/-- An access narrower than 32 bits, or misaligned, writes nothing, reads as 0 and is recorded (R24) -/
def Obligations.NarrowAccess : Prop :=
  (∀ (bar4 : Bool) (off : BitVec 26) (write : Bool) (s : State),
      s.awake = true →
      bar4 = false ∨ off.toNat < 0x100000 →
      Completes (.narrowAccess bar4 off write) s fun t =>
        RegsOnlyErr [] s t ∧
        SameMemory s t ∧
        ((write = false → t.answer.words = [0])) ∧
        t.rd ERR.ACCESS_LO.reg = BitVec.ofNat 32 off.toNat ∧
        srcClass srcHostAccess = .f0 ∧
        ((s.flag (ERR.SRC.ACTIVE srcHostAccess) = false → t.flag (ERR.SRC.STAT srcHostAccess) = true))) ∧
  (∀ (bar4 : Bool) (off : BitVec 26) (v : Word) (s : State),
      s.awake = true →
      off.toNat % 4 ≠ 0 →
      bar4 = false ∨ off.toNat < 0x100000 →
      Completes (.registerWrite bar4 off v) s fun t =>
        RegsOnlyErr [] s t ∧
        SameMemory s t ∧
        t.rd ERR.ACCESS_LO.reg = BitVec.ofNat 32 off.toNat ∧
        ((s.flag (ERR.SRC.ACTIVE srcHostAccess) = false → t.flag (ERR.SRC.STAT srcHostAccess) = true))) ∧
  (∀ (bar4 : Bool) (off : BitVec 26) (s : State),
      s.awake = true →
      off.toNat % 4 ≠ 0 →
      bar4 = false ∨ off.toNat < 0x100000 →
      Completes (.rcRead bar4 off) s fun t =>
        RegsOnlyErr [] s t ∧
        SameMemory s t ∧
        t.answer.words = [0] ∧
        t.rd ERR.ACCESS_LO.reg = BitVec.ofNat 32 off.toNat ∧
        ((s.flag (ERR.SRC.ACTIVE srcHostAccess) = false → t.flag (ERR.SRC.STAT srcHostAccess) = true)))

/-- A read through the debug access port has no side effect (R27) -/
def Obligations.DebugReadNoEffect : Prop :=
  (∀ (wa : BitVec 24) (s : State),
      Completes (.dapRead wa) s fun t =>
        t = { s with free := t.free, dbg := { s.dbg with dapStatus := t.dbg.dapStatus, dapAddr := t.dbg.dapAddr, dapData := t.dbg.dapData } } ∧
        ((s.dapOn = true → t.dbg.dapAddr = wa.toNat ∧ t.dbg.dapStatus = 0)))

/-- Halting or resetting Lectern stops no Scribe and changes no pin (R44) -/
def Obligations.LecternLeavesPins : Prop :=
  (∀ (dap : Bool) (s : State),
      Completes (.lecHalt dap) s fun t =>
        t.scribes = s.scribes ∧
        ((∀ k : Sector, t.rd (SCRIBE.STAT.reg k) = s.rd (SCRIBE.STAT.reg k))) ∧
        t.balls = s.balls ∧
        t.dacs = s.dacs ∧
        ((∀ g : Octet, t.rd (STEER.STAT.reg g) = s.rd (STEER.STAT.reg g)))) ∧
  (∀ (s : State),
      Completes .haltDeferTimeout s fun t =>
        t.scribes = s.scribes ∧
        ((∀ k : Sector, t.rd (SCRIBE.STAT.reg k) = s.rd (SCRIBE.STAT.reg k))) ∧
        t.balls = s.balls ∧
        t.dacs = s.dacs ∧
        ((∀ g : Octet, t.rd (STEER.STAT.reg g) = s.rd (STEER.STAT.reg g)))) ∧
  (∀ (dap : Bool) (s : State),
      Completes (.lecDebugRestart dap) s fun t =>
        t.scribes = s.scribes ∧
        ((∀ k : Sector, t.rd (SCRIBE.STAT.reg k) = s.rd (SCRIBE.STAT.reg k))) ∧
        t.balls = s.balls ∧
        t.dacs = s.dacs ∧
        ((∀ g : Octet, t.rd (STEER.STAT.reg g) = s.rd (STEER.STAT.reg g)))) ∧
  (∀ (s : State),
      Completes .lecRestart s fun t =>
        t.scribes = s.scribes ∧
        ((∀ k : Sector, t.rd (SCRIBE.STAT.reg k) = s.rd (SCRIBE.STAT.reg k))) ∧
        t.balls = s.balls ∧
        t.dacs = s.dacs ∧
        ((∀ g : Octet, t.rd (STEER.STAT.reg g) = s.rd (STEER.STAT.reg g))))

/-- A mode request of a reserved code, or one that the table does not reach, is refused (R61) -/
def Obligations.ModeRefusal : Prop :=
  (∀ (k : Sector) (req : BitVec 3) (s : State),
      s.mainOn = true →
      s.flag DEV.MODE.READY = true →
      s.modeInSafe k = false →
      s.flag (SMODE.CTL.BUSY k) = false →
      s.inDoze = false →
      s.quill.entering ≠ some 2 →
      modeReach (s.modeOf k) req.toNat = false →
      ¬(s.modeOf k = mRun ∧ req.toNat = mRun) →
      Completes (.modeReq k req) s fun t =>
        t.flag (SMODE.CTL.REFUSED k) = true ∧
        t.get (SMODE.CTL.REFUSE_CAUSE k) = mcIllegal ∧
        ((∀ j : Sector, t.modeOf j = s.modeOf j)) ∧
        t.flag (SMODE.CTL.BUSY k) = false) ∧
  (∀ (k : Sector) (req : BitVec 3) (s : State),
      s.mainOn = true →
      s.flag DEV.MODE.READY = false →
      Completes (.modeReq k req) s fun t =>
        t.flag (SMODE.CTL.REFUSED k) = true ∧
        t.get (SMODE.CTL.REFUSE_CAUSE k) = mcNotReady ∧
        ((∀ j : Sector, t.modeOf j = s.modeOf j))) ∧
  (∀ (k : Sector) (req : BitVec 3) (s : State),
      s.mainOn = true →
      s.flag DEV.MODE.READY = true →
      s.modeInSafe k = true →
      Completes (.modeReq k req) s fun t =>
        t.flag (SMODE.CTL.REFUSED k) = true ∧
        t.get (SMODE.CTL.REFUSE_CAUSE k) = mcInSafe ∧
        ((∀ j : Sector, t.modeOf j = s.modeOf j)))

/-- A successful SAFE_EXIT sets the mode that R67 gives -/
def Obligations.SafeExitMode : Prop :=
  (∀ (k : Sector) (s : State),
      s.mainOn = true →
      s.flag (SMODE.CTL.SAFE k) = true →
      s.safeCauses k = [] →
      s.scanHolds = false →
      s.modeOf k = mStandby →
      Completes (.safeExit k) s fun t =>
        t.flag (SMODE.CTL.SAFE k) = false ∧
        t.modeOf k = mStandby) ∧
  (∀ (k : Sector) (s : State),
      s.mainOn = true →
      s.flag (SMODE.CTL.SAFE k) = true →
      s.safeCauses k = [] →
      s.scanHolds = false →
      s.modeOf k = mRun ∨ s.modeOf k = mMeasure ∨ s.modeOf k = mCalibrate ∨ s.modeOf k = mSetup →
      Completes (.safeExit k) s fun t =>
        t.flag (SMODE.CTL.SAFE k) = false ∧
        t.modeOf k = mSetup)

/-- A write to the band entry in use is ignored and sets ENTRY_LOCKED (R131) -/
def Obligations.BandEntryLocked : Prop :=
  (∀ (k : Fin 16) (w : Fin 4) (v : Word) (s : State),
      s.pll ≠ pllOff →
      s.get CLK.PLL_STAT.BAND_CUR = k →
      Completes (.bandEntryWrite k w v) s fun t =>
        t = s.set CLK.PLL_STAT.ENTRY_LOCKED 1 ∧
        t.flag CLK.PLL_STAT.ENTRY_LOCKED = true) ∧
  (∀ (k : Fin 16) (w : Fin 3) (v : Word) (s : State),
      s.awake = true →
      s.pll ≠ pllOff →
      s.get CLK.PLL_STAT.BAND_CUR = k →
      Completes (.registerWrite false (BitVec.ofNat 26 (CLK.BAND.RANGE.reg k + 4 * w)) v) s fun t =>
        t = s.set CLK.PLL_STAT.ENTRY_LOCKED 1 ∧
        t.flag CLK.PLL_STAT.ENTRY_LOCKED = true)

/-- RESTART puts the PLL into ACQUIRE only with no sector at work (R157) -/
def Obligations.RestartOnlyIdle : Prop :=
  (∀ (s : State),
      (∀ k : Sector, s.modeOf k < mRun) →
      Completes .pllRestartWrite s fun t =>
        t.pll = pllAcquire) ∧
  (∀ (k : Sector) (s : State),
      s.modeOf k = mRun ∨ s.modeOf k = mMeasure ∨ s.modeOf k = mCalibrate →
      Completes .pllRestartWrite s fun t =>
        t = s.set CLK.PLL_STAT.RESTART_REFUSED 1 ∧
        t.flag CLK.PLL_STAT.RESTART_REFUSED = true)

/-- A ROLE write while any sector is in RUN is ignored and sets CONFIG_REFUSED (R206) -/
def Obligations.RoleWriteInRun : Prop :=
  (∀ (role : Fin 4) (k : Sector) (s : State),
      s.modeOf k = mRun →
      Completes (.rulRoleWrite role) s fun t =>
        t = s.set RUL.STAT.CONFIG_REFUSED 1 ∧
        t.flag RUL.STAT.CONFIG_REFUSED = true)

/-- An access of the reserved range of BAR2 reads zeros, stores nothing and is recorded (R246) -/
def Obligations.ReservedStoreAccess : Prop :=
  (∀ (off : BitVec 36) (n : BitVec 13) (e : MemErr) (m : Meeting) (s : State),
      s.awake = true →
      storesBase + 8 * 0x800000 ≤ off.toNat →
      Completes (.bar2Read off n e m) s fun t =>
        t.answer.bytes = List.replicate n.toNat 0 ∧
        RegsOnlyErr [] s t ∧
        SameMemory s t ∧
        srcClass srcHostAccess = .f0 ∧
        ((s.flag (ERR.SRC.ACTIVE srcHostAccess) = false → t.flag (ERR.SRC.STAT srcHostAccess) = true))) ∧
  (∀ (off : BitVec 36) (data : List (Option Byte)) (e : MemErr) (m : Meeting) (s : State),
      s.awake = true →
      storesBase + 8 * 0x800000 ≤ off.toNat →
      data ≠ [] →
      Completes (.bar2Write off data e m) s fun t =>
        t.mem = s.mem ∧
        RegsOnlyErr [] s t ∧
        SameMemory s t ∧
        ((s.flag (ERR.SRC.ACTIVE srcHostAccess) = false → t.flag (ERR.SRC.STAT srcHostAccess) = true)))

/-- A front-end configuration with a reserved code is ignored as a whole (R574) -/
def Obligations.ReservedFrontEndCode : Prop :=
  (∀ (g : Octet) (l : Slot) (v : Word) (s : State),
      s.modeOf (g / 8) ≠ mOff →
      s.modeOf (g / 8) ≠ mCalibrate →
      s.scState (g / 8) = scIdle →
      (s.rot g).visit = none →
      (l.val = 8 → s.get (STEER.STAT.SPARE g) = 0) →
      6 ≤ v.toNat / 2 ^ 8 % 8 ∨ v.toNat % 4 = 3 →
      Completes (.feCfgWrite g l v) s fun t =>
        t = s.set (FE.STAT.CFG_ERR g l) 1 ∧
        t.flag (FE.STAT.CFG_ERR g l) = true)

/-- A CONNECT that names another ball, or comes during a change, is ignored and sets CFG_ERR (R740) -/
def Obligations.ConnectOtherBall : Prop :=
  (∀ (g : Octet) (v : Word) (s : State),
      s.modeOf (g / 8) ≠ mOff →
      (s.dcUnit g).link = 1 ∨ (s.dcUnit g).link = 3 ∨ ((s.dcUnit g).link = 2 ∧ (s.dcUnit g).ball ≠ v.field 24 3) →
      Completes (.dcConnectWrite g v) s fun t =>
        t = s.set (DC.STAT.CFG_ERR g) 1 ∧
        t.flag (DC.STAT.CFG_ERR g) = true)

/-- The program of a channel is locked while the channel is not IDLE (R908) -/
def Obligations.ProgramLocked : Prop :=
  (∀ (c : Channel) (hi : Fin 2) (v : Word) (s : State),
      s.awake = true →
      s.chState c ≠ cpIdle →
      Completes (.registerWrite false (BitVec.ofNat 26 (CH.PROG_LO.reg c + 4 * hi)) v) s fun t =>
        t = s.set (CH.STAT.WR_IGNORED c) 1 ∧
        t.flag (CH.STAT.WR_IGNORED c) = true) ∧
  (∀ (c : Channel) (v : Word) (s : State),
      s.awake = true →
      s.chState c ≠ cpIdle →
      v.toNat % 4 ≠ s.get (CH.CTL.PSPACE c) →
      Completes (.registerWrite false (BitVec.ofNat 26 (CH.CTL.reg c)) v) s fun t =>
        t.get (CH.CTL.PSPACE c) = s.get (CH.CTL.PSPACE c) ∧
        t.flag (CH.STAT.WR_IGNORED c) = true)

/-- F0 and F1 sources start no timer and cause no SAFE (R959) -/
def Obligations.NoTimerForF0F1 : Prop :=
  (∀ (n : Source) (stays : Bool) (s : State),
      srcClass n = .f0 ∨ srcClass n = .f1 →
      Completes (.sourceRaise n stays) s fun t =>
        ((∀ i : Source, t.flag (ERR.SRC.PENDING i) = s.flag (ERR.SRC.PENDING i) ∧ t.flag (ERR.SRC.ESCALATED i) = s.flag (ERR.SRC.ESCALATED i))) ∧
        t.err.pendAt = s.err.pendAt ∧
        ((∀ k : Sector, t.rd (SMODE.CTL.reg k) = s.rd (SMODE.CTL.reg k))) ∧
        t.rd DEV.MODE.reg = s.rd DEV.MODE.reg)

/-- A control request written while the halt is deferred is ignored, and the halt stands (R1047) -/
def Obligations.DeferredHaltStands : Prop :=
  (∀ (dap : Bool) (s : State),
      s.dbgGated = false →
      s.flag DEBUG.STATUS.DEFERRED = true →
      Completes (.lecHalt dap) s fun t =>
        t = { s with dbg := { s.dbg with dapStatus := t.dbg.dapStatus } } ∧
        t.flag DEBUG.STATUS.DEFERRED = true) ∧
  (∀ (dap : Bool) (s : State),
      s.dbgGated = false →
      s.flag DEBUG.STATUS.DEFERRED = true →
      Completes (.lecResume dap) s fun t =>
        t = { s with dbg := { s.dbg with dapStatus := t.dbg.dapStatus } } ∧
        t.flag DEBUG.STATUS.DEFERRED = true) ∧
  (∀ (dap : Bool) (s : State),
      s.dbgGated = false →
      s.flag DEBUG.STATUS.DEFERRED = true →
      Completes (.lecDebugRestart dap) s fun t =>
        t = { s with dbg := { s.dbg with dapStatus := t.dbg.dapStatus } } ∧
        t.flag DEBUG.STATUS.DEFERRED = true)
end

