-- ==== Sys2Proof/Laws/Word.lean ====
section
/-! SUPPORT. Reading back a written bit field, and a written table entry. -/

namespace Sys2Proof

theorem Word.field_lt (w : Word) (lo n : Nat) : w.field lo n < 2 ^ n := Nat.mod_lt _ (Nat.two_pow_pos n)

/-- The bits of a field replaced are those of the new value inside it and the old ones outside. -/
theorem withField_toNat (w : Word) (lo n v : Nat) (h : lo + n ≤ 32) :
    (w.withField lo n v).toNat = (w.toNat / 2 ^ (lo + n) * 2 ^ n + v % 2 ^ n) * 2 ^ lo + w.toNat % 2 ^ lo := by
  have hw := w.isLt
  have hv : v % 2 ^ n < 2 ^ n := Nat.mod_lt _ (Nat.two_pow_pos n)
  have hl : w.toNat % 2 ^ lo < 2 ^ lo := Nat.mod_lt _ (Nat.two_pow_pos lo)
  have hq : w.toNat / 2 ^ (lo + n) < 2 ^ (32 - (lo + n)) := by
    rw [Nat.div_lt_iff_lt_mul (Nat.two_pow_pos _), ← Nat.pow_add, Nat.sub_add_cancel h]
    exact hw
  have h1 : w.toNat / 2 ^ (lo + n) * 2 ^ n + v % 2 ^ n < 2 ^ (32 - lo) := by
    have e : 2 ^ (32 - lo) = 2 ^ (32 - (lo + n)) * 2 ^ n := by
      rw [← Nat.pow_add]; congr 1; omega
    calc w.toNat / 2 ^ (lo + n) * 2 ^ n + v % 2 ^ n < (w.toNat / 2 ^ (lo + n) + 1) * 2 ^ n := by
            rw [Nat.add_mul, Nat.one_mul]; omega
      _ ≤ 2 ^ (32 - (lo + n)) * 2 ^ n := Nat.mul_le_mul_right _ hq
      _ = 2 ^ (32 - lo) := e.symm
  have h2 : (w.toNat / 2 ^ (lo + n) * 2 ^ n + v % 2 ^ n) * 2 ^ lo + w.toNat % 2 ^ lo < 2 ^ 32 := by
    have e : 2 ^ 32 = 2 ^ (32 - lo) * 2 ^ lo := by rw [← Nat.pow_add]; congr 1; omega
    calc _ < (w.toNat / 2 ^ (lo + n) * 2 ^ n + v % 2 ^ n + 1) * 2 ^ lo := by
            rw [Nat.add_mul _ 1, Nat.one_mul]; omega
      _ ≤ 2 ^ (32 - lo) * 2 ^ lo := Nat.mul_le_mul_right _ h1
      _ = 2 ^ 32 := e.symm
  simp only [Word.withField, BitVec.toNat_ofNat]
  exact Nat.mod_eq_of_lt h2

/-- Reading the field that was written. -/
theorem field_withField_same (w : Word) (lo n v : Nat) (h : lo + n ≤ 32) : (w.withField lo n v).field lo n = v % 2 ^ n := by
  have hl : w.toNat % 2 ^ lo < 2 ^ lo := Nat.mod_lt _ (Nat.two_pow_pos lo)
  rw [Word.field, withField_toNat w lo n v h, Nat.mul_comm _ (2 ^ lo), Nat.mul_add_div (Nat.two_pow_pos lo),
    Nat.div_eq_of_lt hl, Nat.add_zero, Nat.mul_add_mod_self_right, Nat.mod_mod]

/-- A bit of a word with a field written. -/
theorem testBit_withField (w : Word) (lo n v i : Nat) (h : lo + n ≤ 32) :
    (w.withField lo n v).toNat.testBit i
      = if i < lo then w.toNat.testBit i else if i < lo + n then v.testBit (i - lo) else w.toNat.testBit i := by
  rw [withField_toNat w lo n v h, Nat.mul_comm _ (2 ^ lo), Nat.testBit_two_pow_mul_add _ (Nat.mod_lt _ (Nat.two_pow_pos lo))]
  by_cases h1 : i < lo
  · simp [h1, Nat.testBit_mod_two_pow]
  · rw [if_neg h1, if_neg h1, Nat.mul_comm _ (2 ^ n), Nat.testBit_two_pow_mul_add _ (Nat.mod_lt _ (Nat.two_pow_pos n))]
    by_cases h2 : i < lo + n
    · have h3 : i - lo < n := by omega
      simp [h2, h3, Nat.testBit_mod_two_pow]
    · have h3 : ¬ i - lo < n := by omega
      rw [if_neg h3, if_neg h2, Nat.testBit_div_two_pow]
      congr 1; omega

/-- A bit of a field. -/
theorem testBit_field (w : Word) (lo n i : Nat) : (w.field lo n).testBit i = (decide (i < n) && w.toNat.testBit (lo + i)) := by
  rw [Word.field, Nat.testBit_mod_two_pow, Nat.testBit_div_two_pow]
  congr 2; omega

/-- Reading a field beside the one that was written. -/
theorem field_withField_other (w : Word) (lo n v lo' n' : Nat) (h : lo + n ≤ 32) (hd : lo' + n' ≤ lo ∨ lo + n ≤ lo') :
    (w.withField lo n v).field lo' n' = w.field lo' n' := by
  apply Nat.eq_of_testBit_eq
  intro i
  rw [testBit_field, testBit_field]
  by_cases hi : i < n'
  · rw [testBit_withField w lo n v _ h]
    rcases hd with hd | hd
    · rw [if_pos (by omega)]
    · rw [if_neg (by omega), if_neg (by omega)]
  · simp [hi]

/-! ### Tables -/

variable {α : Type} {d : Nat → α}

theorem Tab.get_erase (t : Tab α) (k k' : Nat) : Tab.get d (t.erase k) k' = if k' = k then d k' else Tab.get d t k' := by
  induction t with
  | nil => simp [Tab.erase, Tab.get]
  | cons e t ih =>
    obtain ⟨j, v⟩ := e
    by_cases h : j = k
    · simp only [Tab.erase, h, if_pos, ih, Tab.get]
      split
      · rfl
      · next hk => rw [if_neg (fun e => hk e.symm)]
    · simp only [Tab.erase, h, if_false, Tab.get, ih]
      by_cases hj : j = k'
      · subst hj; simp [h]
      · simp [hj]

theorem Tab.get_insert (t : Tab α) (k : Nat) (v : α) (k' : Nat) (h : ∀ e ∈ t, e.1 ≠ k) :
    Tab.get d (t.insert k v) k' = if k' = k then v else Tab.get d t k' := by
  induction t with
  | nil =>
    simp only [Tab.insert, Tab.get]
    by_cases hk : k = k'
    · simp [hk]
    · rw [if_neg hk, if_neg (fun e => hk e.symm)]
  | cons e t ih =>
    obtain ⟨j, w⟩ := e
    have hj : j ≠ k := h (j, w) (by simp)
    have ht : ∀ e ∈ t, e.1 ≠ k := fun e he => h e (by simp [he])
    simp only [Tab.insert]
    split
    · rw [Tab.get]
      by_cases hk : k = k'
      · simp [hk]
      · rw [if_neg hk, if_neg (fun e => hk e.symm)]
    · simp only [Tab.get, ih ht]
      by_cases hk : k' = k
      · subst hk; simp [hj]
      · simp [hk]

theorem Tab.mem_erase (t : Tab α) (k : Nat) : ∀ e ∈ t.erase k, e.1 ≠ k ∧ e ∈ t := by
  induction t with
  | nil => simp [Tab.erase]
  | cons e t ih =>
    obtain ⟨j, v⟩ := e
    intro x hx
    by_cases h : j = k
    · simp only [Tab.erase, h, if_pos] at hx
      exact ⟨(ih x hx).1, List.mem_cons_of_mem _ (ih x hx).2⟩
    · simp only [Tab.erase, h, if_false, List.mem_cons] at hx
      rcases hx with rfl | hx
      · exact ⟨h, by simp⟩
      · exact ⟨(ih x hx).1, List.mem_cons_of_mem _ (ih x hx).2⟩

/-- Reading after a write. -/
theorem Tab.get_put [DecidableEq α] (t : Tab α) (k : Nat) (v : α) (k' : Nat) :
    Tab.get d (Tab.put d t k v) k' = if k' = k then v else Tab.get d t k' := by
  unfold Tab.put
  split
  · next h => rw [Tab.get_erase]; split
              · next e => rw [h, e]
              · rfl
  · rw [Tab.get_insert _ _ _ _ (fun e he => (Tab.mem_erase t k e he).1), Tab.get_erase]
    split <;> rfl

/-! ### The canonical form -/

theorem Tab.wfFrom_mono [DecidableEq α] {b b' : Nat} (h : b' ≤ b) (t : Tab α) (hw : Tab.wfFrom d b t = true) : Tab.wfFrom d b' t = true := by
  cases t with
  | nil => rfl
  | cons e t =>
    simp only [Tab.wfFrom, Bool.and_eq_true, decide_eq_true_eq] at hw ⊢
    exact ⟨⟨by omega, hw.1.2⟩, hw.2⟩

theorem Tab.wfFrom_filter [DecidableEq α] {b : Nat} (t : Tab α) (p : Nat × α → Bool) (hw : Tab.wfFrom d b t = true) :
    Tab.wfFrom d b (t.filter p) = true := by
  induction t generalizing b with
  | nil => rfl
  | cons e t ih =>
    simp only [Tab.wfFrom, Bool.and_eq_true, decide_eq_true_eq] at hw
    rw [List.filter_cons]
    split
    · simp only [Tab.wfFrom, Bool.and_eq_true, decide_eq_true_eq]
      exact ⟨hw.1, ih hw.2⟩
    · exact Tab.wfFrom_mono (by omega) _ (ih hw.2)

theorem Tab.erase_eq_filter (t : Tab α) (k : Nat) : t.erase k = t.filter fun e => decide (e.1 ≠ k) := by
  induction t with
  | nil => rfl
  | cons e t ih =>
    obtain ⟨j, v⟩ := e
    by_cases h : j = k <;> simp [Tab.erase, h, ih]

theorem Tab.wfFrom_insert [DecidableEq α] {b : Nat} (t : Tab α) (k : Nat) (v : α) (hk : b ≤ k) (hv : v ≠ d k) (hn : ∀ e ∈ t, e.1 ≠ k)
    (hw : Tab.wfFrom d b t = true) : Tab.wfFrom d b (t.insert k v) = true := by
  induction t generalizing b with
  | nil => simp [Tab.insert, Tab.wfFrom, hk, hv]
  | cons e t ih =>
    obtain ⟨j, w⟩ := e
    have hj : j ≠ k := hn (j, w) (by simp)
    simp only [Tab.wfFrom, Bool.and_eq_true, decide_eq_true_eq] at hw
    simp only [Tab.insert]
    split
    · next h =>
      simp only [Tab.wfFrom, Bool.and_eq_true, decide_eq_true_eq]
      exact ⟨⟨hk, hv⟩, ⟨by omega, hw.1.2⟩, hw.2⟩
    · next h =>
      simp only [Tab.wfFrom, Bool.and_eq_true, decide_eq_true_eq]
      exact ⟨hw.1, ih (by omega) (fun e he => hn e (by simp [he])) hw.2⟩

/-- A write keeps the canonical form. -/
theorem Tab.wf_put [DecidableEq α] (t : Tab α) (k : Nat) (v : α) (hw : Tab.wf d t = true) : Tab.wf d (Tab.put d t k v) = true := by
  unfold Tab.put
  have he : Tab.wf d (t.erase k) = true := by rw [Tab.erase_eq_filter]; exact Tab.wfFrom_filter t _ hw
  split
  · exact he
  · next h => exact Tab.wfFrom_insert _ _ _ (Nat.zero_le _) h (fun e hm => (Tab.mem_erase t k e hm).1) he

/-- Taking entries out keeps the canonical form. -/
theorem Tab.wf_filter [DecidableEq α] (t : Tab α) (p : Nat × α → Bool) (hw : Tab.wf d t = true) : Tab.wf d (t.filter p) = true :=
  Tab.wfFrom_filter t p hw

theorem Tab.wf_nil [DecidableEq α] : Tab.wf d [] = true := rfl

end Sys2Proof
end

