-- ==== Sys2Proof/Laws/Ops.lean ====
section
/-! SUPPORT. What the operations over registers and memories do: reading back, and what they leave. -/

namespace Sys2Proof.Machine

/-! ### Registers -/

theorem State.rd_wr (s : State) (a : Nat) (v : Word) (b : Nat) : (s.wr a v).rd b = if b = a then v else s.rd b :=
  Tab.get_put s.regs a v b

@[simp] theorem State.rd_wr_same (s : State) (a : Nat) (v : Word) : (s.wr a v).rd a = v := by rw [State.rd_wr, if_pos rfl]

theorem State.rd_wr_ne (s : State) (a : Nat) (v : Word) (b : Nat) (h : b ≠ a) : (s.wr a v).rd b = s.rd b := by
  rw [State.rd_wr, if_neg h]

theorem State.rd_set_ne (s : State) (f : Fld) (v a : Nat) (h : a ≠ f.reg) : (s.set f v).rd a = s.rd a :=
  State.rd_wr_ne s f.reg _ a h

theorem State.rd_set (s : State) (f : Fld) (v : Nat) (a : Nat) :
    (s.set f v).rd a = if a = f.reg then (s.rd f.reg).withField f.lo f.n v else s.rd a :=
  State.rd_wr s f.reg _ a

/-- The field that was set reads the low bits of its value. -/
theorem State.get_set_same (s : State) (f : Fld) (v : Nat) (h : f.lo + f.n ≤ 32) : (s.set f v).get f = v % 2 ^ f.n := by
  rw [State.get, State.rd_set, if_pos rfl, field_withField_same _ _ _ _ h]

/-- A field of another register. -/
theorem State.get_set_reg (s : State) (f g : Fld) (v : Nat) (h : g.reg ≠ f.reg) : (s.set f v).get g = s.get g := by
  rw [State.get, State.rd_set_ne s f v _ h]; rfl

/-- Another field of the same register. -/
theorem State.get_set_beside (s : State) (f g : Fld) (v : Nat) (h : f.lo + f.n ≤ 32) (hd : g.lo + g.n ≤ f.lo ∨ f.lo + f.n ≤ g.lo) :
    (s.set f v).get g = s.get g := by
  by_cases hr : g.reg = f.reg
  · rw [State.get, State.rd_set, if_pos hr, field_withField_other _ _ _ _ _ _ h hd, State.get, hr]
  · exact State.get_set_reg s f g v hr

theorem State.get_lt (s : State) (f : Fld) : s.get f < 2 ^ f.n := Word.field_lt _ _ _

theorem State.get_setB_same (s : State) (f : Fld) (b : Bool) (h : f.lo + f.n ≤ 32) (hn : f.n = 1) : (s.setB f b).flag f = b := by
  rw [State.flag, State.setB, State.get_set_same s f _ h, hn]
  cases b <;> rfl

theorem State.flag_set_one (s : State) (f : Fld) (h : f.lo + f.n ≤ 32) (hn : f.n = 1) : (s.set f 1).flag f = true := by
  rw [State.flag, State.get_set_same s f _ h, hn]; rfl

theorem State.flag_set_zero (s : State) (f : Fld) (h : f.lo + f.n ≤ 32) : (s.set f 0).flag f = false := by
  rw [State.flag, State.get_set_same s f _ h, Nat.zero_mod]; rfl

/-- Registers brought to reset read their reset value, the others as before. -/
theorem Tab.get_filter_key {α : Type} (d : Nat → α) (t : Tab α) (p : Nat → Bool) (a : Nat) :
    Tab.get d (t.filter fun e => !p e.1) a = if p a then d a else Tab.get d t a := by
  induction t with
  | nil => simp [Tab.get]
  | cons e t ih =>
    obtain ⟨j, v⟩ := e
    by_cases hp : p j
    · rw [List.filter_cons_of_neg (by simp [hp]), ih]
      by_cases hj : j = a
      · subst hj; simp [hp]
      · simp [Tab.get, hj]
    · rw [List.filter_cons_of_pos (by simp [hp])]
      by_cases hj : j = a
      · subst hj; simp [Tab.get, hp]
      · simp [Tab.get, hj, ih]

theorem State.rd_resetRegs (s : State) (p : Nat → Bool) (a : Nat) : (s.resetRegs p).rd a = if p a then resetOf a else s.rd a :=
  Tab.get_filter_key resetOf s.regs p a

/-! ### Memories -/

theorem memRd_memWr (m : Tab Byte) (a : Nat) (b : Byte) (c : Nat) : memRd (memWr m a b) c = if c = a then b else memRd m c :=
  Tab.get_put m a b c

/-- Bytes outside a written range read as before. -/
theorem memRd_memWrs_outside (m : Tab Byte) (a : Nat) (bs : List Byte) (c : Nat) (h : c < a ∨ a + bs.length ≤ c) :
    memRd (memWrs m a bs) c = memRd m c := by
  induction bs generalizing m a with
  | nil => rfl
  | cons b t ih =>
    simp only [memWrs, List.length_cons] at h ⊢
    rw [ih _ _ (by omega), memRd_memWr, if_neg (by omega)]

/-- Bytes of a written range read what was written. -/
theorem memRd_memWrs_inside (m : Tab Byte) (a : Nat) (bs : List Byte) (i : Nat) (h : i < bs.length) :
    memRd (memWrs m a bs) (a + i) = bs[i] := by
  induction bs generalizing m a i with
  | nil => simp at h
  | cons b t ih =>
    simp only [memWrs]
    cases i with
    | zero => rw [memRd_memWrs_outside _ _ _ _ (by omega), memRd_memWr]; simp
    | succ j =>
      have := ih (memWr m a b) (a + 1) j (by simpa using h)
      rw [show a + (j + 1) = a + 1 + j by omega, this]; rfl

theorem Memory.wf_nil : Memory.wf [] := rfl

theorem Memory.wf_memWr (m : Tab Byte) (a : Nat) (b : Byte) (h : Memory.wf m) : Memory.wf (memWr m a b) := Tab.wf_put m a b h

/-- Every memory write keeps the canonical form. -/
theorem Memory.wf_memWrs (m : Tab Byte) (a : Nat) (bs : List Byte) (h : Memory.wf m) : Memory.wf (memWrs m a bs) := by
  induction bs generalizing m a with
  | nil => exact h
  | cons b t ih => exact ih _ _ (Memory.wf_memWr m a b h)

/-! ### Repetition and conditions -/

/-- What every step of a repetition keeps, the repetition keeps. -/
theorem State.each_keeps {α : Type} (P : State → Prop) (l : List α) (f : State → α → State) (s : State)
    (hf : ∀ s a, P s → P (f s a)) (hs : P s) : P (s.each l f) := by
  unfold State.each
  induction l generalizing s with
  | nil => exact hs
  | cons a t ih => exact ih (f s a) (hf s a hs)

theorem State.when_keeps (P : State → Prop) (c : Bool) (f : State → State) (s : State) (hf : ∀ s, P s → P (f s)) (hs : P s) :
    P (s.when c f) := by
  unfold State.when; split
  · exact hf s hs
  · exact hs

end Sys2Proof.Machine
end

