-- ==== Sys2Proof/Laws/State.lean ====
section
/-! SUPPORT. The fields of the state after each of its updates. -/

namespace Sys2Proof.Machine

variable (s : State)


/-! ### wr -/

@[simp] theorem State.pending_wr (a : Nat) (v : Word) : (s.wr a v).pending = s.pending := rfl
@[simp] theorem State.latch_wr (a : Nat) (v : Word) : (s.wr a v).latch = s.latch := rfl
@[simp] theorem State.tick_wr (a : Nat) (v : Word) : (s.wr a v).tick = s.tick := rfl
@[simp] theorem State.free_wr (a : Nat) (v : Word) : (s.wr a v).free = s.free := rfl
@[simp] theorem State.answer_wr (a : Nat) (v : Word) : (s.wr a v).answer = s.answer := rfl
@[simp] theorem State.hostMem_wr (a : Nat) (v : Word) : (s.wr a v).hostMem = s.hostMem := rfl
@[simp] theorem State.host_wr (a : Nat) (v : Word) : (s.wr a v).host = s.host := rfl
@[simp] theorem State.lec_wr (a : Nat) (v : Word) : (s.wr a v).lec = s.lec := rfl
@[simp] theorem State.quill_wr (a : Nat) (v : Word) : (s.wr a v).quill = s.quill := rfl
@[simp] theorem State.clk_wr (a : Nat) (v : Word) : (s.wr a v).clk = s.clk := rfl
@[simp] theorem State.rul_wr (a : Nat) (v : Word) : (s.wr a v).rul = s.rul := rfl
@[simp] theorem State.err_wr (a : Nat) (v : Word) : (s.wr a v).err = s.err := rfl
@[simp] theorem State.dbg_wr (a : Nat) (v : Word) : (s.wr a v).dbg = s.dbg := rfl
@[simp] theorem State.vault_wr (a : Nat) (v : Word) : (s.wr a v).vault = s.vault := rfl
@[simp] theorem State.nvm_wr (a : Nat) (v : Word) : (s.wr a v).nvm = s.nvm := rfl
@[simp] theorem State.mem_wr (a : Nat) (v : Word) : (s.wr a v).mem = s.mem := rfl
@[simp] theorem State.ev_wr (a : Nat) (v : Word) : (s.wr a v).ev = s.ev := rfl
@[simp] theorem State.chans_wr (a : Nat) (v : Word) : (s.wr a v).chans = s.chans := rfl
@[simp] theorem State.cpyWait_wr (a : Nat) (v : Word) : (s.wr a v).cpyWait = s.cpyWait := rfl
@[simp] theorem State.scribes_wr (a : Nat) (v : Word) : (s.wr a v).scribes = s.scribes := rfl
@[simp] theorem State.octs_wr (a : Nat) (v : Word) : (s.wr a v).octs = s.octs := rfl
@[simp] theorem State.balls_wr (a : Nat) (v : Word) : (s.wr a v).balls = s.balls := rfl
@[simp] theorem State.dacs_wr (a : Nat) (v : Word) : (s.wr a v).dacs = s.dacs := rfl
@[simp] theorem State.parks_wr (a : Nat) (v : Word) : (s.wr a v).parks = s.parks := rfl
@[simp] theorem State.settled_wr (a : Nat) (v : Word) : (s.wr a v).settled = s.settled := rfl
@[simp] theorem State.sines_wr (a : Nat) (v : Word) : (s.wr a v).sines = s.sines := rfl
@[simp] theorem State.sineAt_wr (a : Nat) (v : Word) : (s.wr a v).sineAt = s.sineAt := rfl
@[simp] theorem State.hairs_wr (a : Nat) (v : Word) : (s.wr a v).hairs = s.hairs := rfl
@[simp] theorem State.tdrs_wr (a : Nat) (v : Word) : (s.wr a v).tdrs = s.tdrs := rfl
@[simp] theorem State.dcs_wr (a : Nat) (v : Word) : (s.wr a v).dcs = s.dcs := rfl
@[simp] theorem State.rots_wr (a : Nat) (v : Word) : (s.wr a v).rots = s.rots := rfl
@[simp] theorem State.cores_wr (a : Nat) (v : Word) : (s.wr a v).cores = s.cores := rfl
@[simp] theorem State.secCals_wr (a : Nat) (v : Word) : (s.wr a v).secCals = s.secCals := rfl
@[simp] theorem State.procs_wr (a : Nat) (v : Word) : (s.wr a v).procs = s.procs := rfl
@[simp] theorem State.margs_wr (a : Nat) (v : Word) : (s.wr a v).margs = s.margs := rfl
@[simp] theorem State.blots_wr (a : Nat) (v : Word) : (s.wr a v).blots = s.blots := rfl

/-! ### set -/

@[simp] theorem State.pending_set (f : Fld) (v : Nat) : (s.set f v).pending = s.pending := rfl
@[simp] theorem State.latch_set (f : Fld) (v : Nat) : (s.set f v).latch = s.latch := rfl
@[simp] theorem State.tick_set (f : Fld) (v : Nat) : (s.set f v).tick = s.tick := rfl
@[simp] theorem State.free_set (f : Fld) (v : Nat) : (s.set f v).free = s.free := rfl
@[simp] theorem State.answer_set (f : Fld) (v : Nat) : (s.set f v).answer = s.answer := rfl
@[simp] theorem State.hostMem_set (f : Fld) (v : Nat) : (s.set f v).hostMem = s.hostMem := rfl
@[simp] theorem State.host_set (f : Fld) (v : Nat) : (s.set f v).host = s.host := rfl
@[simp] theorem State.lec_set (f : Fld) (v : Nat) : (s.set f v).lec = s.lec := rfl
@[simp] theorem State.quill_set (f : Fld) (v : Nat) : (s.set f v).quill = s.quill := rfl
@[simp] theorem State.clk_set (f : Fld) (v : Nat) : (s.set f v).clk = s.clk := rfl
@[simp] theorem State.rul_set (f : Fld) (v : Nat) : (s.set f v).rul = s.rul := rfl
@[simp] theorem State.err_set (f : Fld) (v : Nat) : (s.set f v).err = s.err := rfl
@[simp] theorem State.dbg_set (f : Fld) (v : Nat) : (s.set f v).dbg = s.dbg := rfl
@[simp] theorem State.vault_set (f : Fld) (v : Nat) : (s.set f v).vault = s.vault := rfl
@[simp] theorem State.nvm_set (f : Fld) (v : Nat) : (s.set f v).nvm = s.nvm := rfl
@[simp] theorem State.mem_set (f : Fld) (v : Nat) : (s.set f v).mem = s.mem := rfl
@[simp] theorem State.ev_set (f : Fld) (v : Nat) : (s.set f v).ev = s.ev := rfl
@[simp] theorem State.chans_set (f : Fld) (v : Nat) : (s.set f v).chans = s.chans := rfl
@[simp] theorem State.cpyWait_set (f : Fld) (v : Nat) : (s.set f v).cpyWait = s.cpyWait := rfl
@[simp] theorem State.scribes_set (f : Fld) (v : Nat) : (s.set f v).scribes = s.scribes := rfl
@[simp] theorem State.octs_set (f : Fld) (v : Nat) : (s.set f v).octs = s.octs := rfl
@[simp] theorem State.balls_set (f : Fld) (v : Nat) : (s.set f v).balls = s.balls := rfl
@[simp] theorem State.dacs_set (f : Fld) (v : Nat) : (s.set f v).dacs = s.dacs := rfl
@[simp] theorem State.parks_set (f : Fld) (v : Nat) : (s.set f v).parks = s.parks := rfl
@[simp] theorem State.settled_set (f : Fld) (v : Nat) : (s.set f v).settled = s.settled := rfl
@[simp] theorem State.sines_set (f : Fld) (v : Nat) : (s.set f v).sines = s.sines := rfl
@[simp] theorem State.sineAt_set (f : Fld) (v : Nat) : (s.set f v).sineAt = s.sineAt := rfl
@[simp] theorem State.hairs_set (f : Fld) (v : Nat) : (s.set f v).hairs = s.hairs := rfl
@[simp] theorem State.tdrs_set (f : Fld) (v : Nat) : (s.set f v).tdrs = s.tdrs := rfl
@[simp] theorem State.dcs_set (f : Fld) (v : Nat) : (s.set f v).dcs = s.dcs := rfl
@[simp] theorem State.rots_set (f : Fld) (v : Nat) : (s.set f v).rots = s.rots := rfl
@[simp] theorem State.cores_set (f : Fld) (v : Nat) : (s.set f v).cores = s.cores := rfl
@[simp] theorem State.secCals_set (f : Fld) (v : Nat) : (s.set f v).secCals = s.secCals := rfl
@[simp] theorem State.procs_set (f : Fld) (v : Nat) : (s.set f v).procs = s.procs := rfl
@[simp] theorem State.margs_set (f : Fld) (v : Nat) : (s.set f v).margs = s.margs := rfl
@[simp] theorem State.blots_set (f : Fld) (v : Nat) : (s.set f v).blots = s.blots := rfl

/-! ### setB -/

@[simp] theorem State.pending_setB (f : Fld) (b : Bool) : (s.setB f b).pending = s.pending := rfl
@[simp] theorem State.latch_setB (f : Fld) (b : Bool) : (s.setB f b).latch = s.latch := rfl
@[simp] theorem State.tick_setB (f : Fld) (b : Bool) : (s.setB f b).tick = s.tick := rfl
@[simp] theorem State.free_setB (f : Fld) (b : Bool) : (s.setB f b).free = s.free := rfl
@[simp] theorem State.answer_setB (f : Fld) (b : Bool) : (s.setB f b).answer = s.answer := rfl
@[simp] theorem State.hostMem_setB (f : Fld) (b : Bool) : (s.setB f b).hostMem = s.hostMem := rfl
@[simp] theorem State.host_setB (f : Fld) (b : Bool) : (s.setB f b).host = s.host := rfl
@[simp] theorem State.lec_setB (f : Fld) (b : Bool) : (s.setB f b).lec = s.lec := rfl
@[simp] theorem State.quill_setB (f : Fld) (b : Bool) : (s.setB f b).quill = s.quill := rfl
@[simp] theorem State.clk_setB (f : Fld) (b : Bool) : (s.setB f b).clk = s.clk := rfl
@[simp] theorem State.rul_setB (f : Fld) (b : Bool) : (s.setB f b).rul = s.rul := rfl
@[simp] theorem State.err_setB (f : Fld) (b : Bool) : (s.setB f b).err = s.err := rfl
@[simp] theorem State.dbg_setB (f : Fld) (b : Bool) : (s.setB f b).dbg = s.dbg := rfl
@[simp] theorem State.vault_setB (f : Fld) (b : Bool) : (s.setB f b).vault = s.vault := rfl
@[simp] theorem State.nvm_setB (f : Fld) (b : Bool) : (s.setB f b).nvm = s.nvm := rfl
@[simp] theorem State.mem_setB (f : Fld) (b : Bool) : (s.setB f b).mem = s.mem := rfl
@[simp] theorem State.ev_setB (f : Fld) (b : Bool) : (s.setB f b).ev = s.ev := rfl
@[simp] theorem State.chans_setB (f : Fld) (b : Bool) : (s.setB f b).chans = s.chans := rfl
@[simp] theorem State.cpyWait_setB (f : Fld) (b : Bool) : (s.setB f b).cpyWait = s.cpyWait := rfl
@[simp] theorem State.scribes_setB (f : Fld) (b : Bool) : (s.setB f b).scribes = s.scribes := rfl
@[simp] theorem State.octs_setB (f : Fld) (b : Bool) : (s.setB f b).octs = s.octs := rfl
@[simp] theorem State.balls_setB (f : Fld) (b : Bool) : (s.setB f b).balls = s.balls := rfl
@[simp] theorem State.dacs_setB (f : Fld) (b : Bool) : (s.setB f b).dacs = s.dacs := rfl
@[simp] theorem State.parks_setB (f : Fld) (b : Bool) : (s.setB f b).parks = s.parks := rfl
@[simp] theorem State.settled_setB (f : Fld) (b : Bool) : (s.setB f b).settled = s.settled := rfl
@[simp] theorem State.sines_setB (f : Fld) (b : Bool) : (s.setB f b).sines = s.sines := rfl
@[simp] theorem State.sineAt_setB (f : Fld) (b : Bool) : (s.setB f b).sineAt = s.sineAt := rfl
@[simp] theorem State.hairs_setB (f : Fld) (b : Bool) : (s.setB f b).hairs = s.hairs := rfl
@[simp] theorem State.tdrs_setB (f : Fld) (b : Bool) : (s.setB f b).tdrs = s.tdrs := rfl
@[simp] theorem State.dcs_setB (f : Fld) (b : Bool) : (s.setB f b).dcs = s.dcs := rfl
@[simp] theorem State.rots_setB (f : Fld) (b : Bool) : (s.setB f b).rots = s.rots := rfl
@[simp] theorem State.cores_setB (f : Fld) (b : Bool) : (s.setB f b).cores = s.cores := rfl
@[simp] theorem State.secCals_setB (f : Fld) (b : Bool) : (s.setB f b).secCals = s.secCals := rfl
@[simp] theorem State.procs_setB (f : Fld) (b : Bool) : (s.setB f b).procs = s.procs := rfl
@[simp] theorem State.margs_setB (f : Fld) (b : Bool) : (s.setB f b).margs = s.margs := rfl
@[simp] theorem State.blots_setB (f : Fld) (b : Bool) : (s.setB f b).blots = s.blots := rfl

/-! ### bump -/

@[simp] theorem State.pending_bump (f : Fld) (n : Nat) : (s.bump f n).pending = s.pending := rfl
@[simp] theorem State.latch_bump (f : Fld) (n : Nat) : (s.bump f n).latch = s.latch := rfl
@[simp] theorem State.tick_bump (f : Fld) (n : Nat) : (s.bump f n).tick = s.tick := rfl
@[simp] theorem State.free_bump (f : Fld) (n : Nat) : (s.bump f n).free = s.free := rfl
@[simp] theorem State.answer_bump (f : Fld) (n : Nat) : (s.bump f n).answer = s.answer := rfl
@[simp] theorem State.hostMem_bump (f : Fld) (n : Nat) : (s.bump f n).hostMem = s.hostMem := rfl
@[simp] theorem State.host_bump (f : Fld) (n : Nat) : (s.bump f n).host = s.host := rfl
@[simp] theorem State.lec_bump (f : Fld) (n : Nat) : (s.bump f n).lec = s.lec := rfl
@[simp] theorem State.quill_bump (f : Fld) (n : Nat) : (s.bump f n).quill = s.quill := rfl
@[simp] theorem State.clk_bump (f : Fld) (n : Nat) : (s.bump f n).clk = s.clk := rfl
@[simp] theorem State.rul_bump (f : Fld) (n : Nat) : (s.bump f n).rul = s.rul := rfl
@[simp] theorem State.err_bump (f : Fld) (n : Nat) : (s.bump f n).err = s.err := rfl
@[simp] theorem State.dbg_bump (f : Fld) (n : Nat) : (s.bump f n).dbg = s.dbg := rfl
@[simp] theorem State.vault_bump (f : Fld) (n : Nat) : (s.bump f n).vault = s.vault := rfl
@[simp] theorem State.nvm_bump (f : Fld) (n : Nat) : (s.bump f n).nvm = s.nvm := rfl
@[simp] theorem State.mem_bump (f : Fld) (n : Nat) : (s.bump f n).mem = s.mem := rfl
@[simp] theorem State.ev_bump (f : Fld) (n : Nat) : (s.bump f n).ev = s.ev := rfl
@[simp] theorem State.chans_bump (f : Fld) (n : Nat) : (s.bump f n).chans = s.chans := rfl
@[simp] theorem State.cpyWait_bump (f : Fld) (n : Nat) : (s.bump f n).cpyWait = s.cpyWait := rfl
@[simp] theorem State.scribes_bump (f : Fld) (n : Nat) : (s.bump f n).scribes = s.scribes := rfl
@[simp] theorem State.octs_bump (f : Fld) (n : Nat) : (s.bump f n).octs = s.octs := rfl
@[simp] theorem State.balls_bump (f : Fld) (n : Nat) : (s.bump f n).balls = s.balls := rfl
@[simp] theorem State.dacs_bump (f : Fld) (n : Nat) : (s.bump f n).dacs = s.dacs := rfl
@[simp] theorem State.parks_bump (f : Fld) (n : Nat) : (s.bump f n).parks = s.parks := rfl
@[simp] theorem State.settled_bump (f : Fld) (n : Nat) : (s.bump f n).settled = s.settled := rfl
@[simp] theorem State.sines_bump (f : Fld) (n : Nat) : (s.bump f n).sines = s.sines := rfl
@[simp] theorem State.sineAt_bump (f : Fld) (n : Nat) : (s.bump f n).sineAt = s.sineAt := rfl
@[simp] theorem State.hairs_bump (f : Fld) (n : Nat) : (s.bump f n).hairs = s.hairs := rfl
@[simp] theorem State.tdrs_bump (f : Fld) (n : Nat) : (s.bump f n).tdrs = s.tdrs := rfl
@[simp] theorem State.dcs_bump (f : Fld) (n : Nat) : (s.bump f n).dcs = s.dcs := rfl
@[simp] theorem State.rots_bump (f : Fld) (n : Nat) : (s.bump f n).rots = s.rots := rfl
@[simp] theorem State.cores_bump (f : Fld) (n : Nat) : (s.bump f n).cores = s.cores := rfl
@[simp] theorem State.secCals_bump (f : Fld) (n : Nat) : (s.bump f n).secCals = s.secCals := rfl
@[simp] theorem State.procs_bump (f : Fld) (n : Nat) : (s.bump f n).procs = s.procs := rfl
@[simp] theorem State.margs_bump (f : Fld) (n : Nat) : (s.bump f n).margs = s.margs := rfl
@[simp] theorem State.blots_bump (f : Fld) (n : Nat) : (s.bump f n).blots = s.blots := rfl

/-! ### set64 -/

@[simp] theorem State.pending_set64 (lo hi v : Nat) : (s.set64 lo hi v).pending = s.pending := rfl
@[simp] theorem State.latch_set64 (lo hi v : Nat) : (s.set64 lo hi v).latch = s.latch := rfl
@[simp] theorem State.tick_set64 (lo hi v : Nat) : (s.set64 lo hi v).tick = s.tick := rfl
@[simp] theorem State.free_set64 (lo hi v : Nat) : (s.set64 lo hi v).free = s.free := rfl
@[simp] theorem State.answer_set64 (lo hi v : Nat) : (s.set64 lo hi v).answer = s.answer := rfl
@[simp] theorem State.hostMem_set64 (lo hi v : Nat) : (s.set64 lo hi v).hostMem = s.hostMem := rfl
@[simp] theorem State.host_set64 (lo hi v : Nat) : (s.set64 lo hi v).host = s.host := rfl
@[simp] theorem State.lec_set64 (lo hi v : Nat) : (s.set64 lo hi v).lec = s.lec := rfl
@[simp] theorem State.quill_set64 (lo hi v : Nat) : (s.set64 lo hi v).quill = s.quill := rfl
@[simp] theorem State.clk_set64 (lo hi v : Nat) : (s.set64 lo hi v).clk = s.clk := rfl
@[simp] theorem State.rul_set64 (lo hi v : Nat) : (s.set64 lo hi v).rul = s.rul := rfl
@[simp] theorem State.err_set64 (lo hi v : Nat) : (s.set64 lo hi v).err = s.err := rfl
@[simp] theorem State.dbg_set64 (lo hi v : Nat) : (s.set64 lo hi v).dbg = s.dbg := rfl
@[simp] theorem State.vault_set64 (lo hi v : Nat) : (s.set64 lo hi v).vault = s.vault := rfl
@[simp] theorem State.nvm_set64 (lo hi v : Nat) : (s.set64 lo hi v).nvm = s.nvm := rfl
@[simp] theorem State.mem_set64 (lo hi v : Nat) : (s.set64 lo hi v).mem = s.mem := rfl
@[simp] theorem State.ev_set64 (lo hi v : Nat) : (s.set64 lo hi v).ev = s.ev := rfl
@[simp] theorem State.chans_set64 (lo hi v : Nat) : (s.set64 lo hi v).chans = s.chans := rfl
@[simp] theorem State.cpyWait_set64 (lo hi v : Nat) : (s.set64 lo hi v).cpyWait = s.cpyWait := rfl
@[simp] theorem State.scribes_set64 (lo hi v : Nat) : (s.set64 lo hi v).scribes = s.scribes := rfl
@[simp] theorem State.octs_set64 (lo hi v : Nat) : (s.set64 lo hi v).octs = s.octs := rfl
@[simp] theorem State.balls_set64 (lo hi v : Nat) : (s.set64 lo hi v).balls = s.balls := rfl
@[simp] theorem State.dacs_set64 (lo hi v : Nat) : (s.set64 lo hi v).dacs = s.dacs := rfl
@[simp] theorem State.parks_set64 (lo hi v : Nat) : (s.set64 lo hi v).parks = s.parks := rfl
@[simp] theorem State.settled_set64 (lo hi v : Nat) : (s.set64 lo hi v).settled = s.settled := rfl
@[simp] theorem State.sines_set64 (lo hi v : Nat) : (s.set64 lo hi v).sines = s.sines := rfl
@[simp] theorem State.sineAt_set64 (lo hi v : Nat) : (s.set64 lo hi v).sineAt = s.sineAt := rfl
@[simp] theorem State.hairs_set64 (lo hi v : Nat) : (s.set64 lo hi v).hairs = s.hairs := rfl
@[simp] theorem State.tdrs_set64 (lo hi v : Nat) : (s.set64 lo hi v).tdrs = s.tdrs := rfl
@[simp] theorem State.dcs_set64 (lo hi v : Nat) : (s.set64 lo hi v).dcs = s.dcs := rfl
@[simp] theorem State.rots_set64 (lo hi v : Nat) : (s.set64 lo hi v).rots = s.rots := rfl
@[simp] theorem State.cores_set64 (lo hi v : Nat) : (s.set64 lo hi v).cores = s.cores := rfl
@[simp] theorem State.secCals_set64 (lo hi v : Nat) : (s.set64 lo hi v).secCals = s.secCals := rfl
@[simp] theorem State.procs_set64 (lo hi v : Nat) : (s.set64 lo hi v).procs = s.procs := rfl
@[simp] theorem State.margs_set64 (lo hi v : Nat) : (s.set64 lo hi v).margs = s.margs := rfl
@[simp] theorem State.blots_set64 (lo hi v : Nat) : (s.set64 lo hi v).blots = s.blots := rfl

/-! ### resetRegs -/

@[simp] theorem State.pending_resetRegs (p : Nat → Bool) : (s.resetRegs p).pending = s.pending := rfl
@[simp] theorem State.tick_resetRegs (p : Nat → Bool) : (s.resetRegs p).tick = s.tick := rfl
@[simp] theorem State.free_resetRegs (p : Nat → Bool) : (s.resetRegs p).free = s.free := rfl
@[simp] theorem State.answer_resetRegs (p : Nat → Bool) : (s.resetRegs p).answer = s.answer := rfl
@[simp] theorem State.hostMem_resetRegs (p : Nat → Bool) : (s.resetRegs p).hostMem = s.hostMem := rfl
@[simp] theorem State.host_resetRegs (p : Nat → Bool) : (s.resetRegs p).host = s.host := rfl
@[simp] theorem State.lec_resetRegs (p : Nat → Bool) : (s.resetRegs p).lec = s.lec := rfl
@[simp] theorem State.quill_resetRegs (p : Nat → Bool) : (s.resetRegs p).quill = s.quill := rfl
@[simp] theorem State.clk_resetRegs (p : Nat → Bool) : (s.resetRegs p).clk = s.clk := rfl
@[simp] theorem State.rul_resetRegs (p : Nat → Bool) : (s.resetRegs p).rul = s.rul := rfl
@[simp] theorem State.err_resetRegs (p : Nat → Bool) : (s.resetRegs p).err = s.err := rfl
@[simp] theorem State.dbg_resetRegs (p : Nat → Bool) : (s.resetRegs p).dbg = s.dbg := rfl
@[simp] theorem State.vault_resetRegs (p : Nat → Bool) : (s.resetRegs p).vault = s.vault := rfl
@[simp] theorem State.nvm_resetRegs (p : Nat → Bool) : (s.resetRegs p).nvm = s.nvm := rfl
@[simp] theorem State.mem_resetRegs (p : Nat → Bool) : (s.resetRegs p).mem = s.mem := rfl
@[simp] theorem State.ev_resetRegs (p : Nat → Bool) : (s.resetRegs p).ev = s.ev := rfl
@[simp] theorem State.chans_resetRegs (p : Nat → Bool) : (s.resetRegs p).chans = s.chans := rfl
@[simp] theorem State.cpyWait_resetRegs (p : Nat → Bool) : (s.resetRegs p).cpyWait = s.cpyWait := rfl
@[simp] theorem State.scribes_resetRegs (p : Nat → Bool) : (s.resetRegs p).scribes = s.scribes := rfl
@[simp] theorem State.octs_resetRegs (p : Nat → Bool) : (s.resetRegs p).octs = s.octs := rfl
@[simp] theorem State.balls_resetRegs (p : Nat → Bool) : (s.resetRegs p).balls = s.balls := rfl
@[simp] theorem State.dacs_resetRegs (p : Nat → Bool) : (s.resetRegs p).dacs = s.dacs := rfl
@[simp] theorem State.parks_resetRegs (p : Nat → Bool) : (s.resetRegs p).parks = s.parks := rfl
@[simp] theorem State.settled_resetRegs (p : Nat → Bool) : (s.resetRegs p).settled = s.settled := rfl
@[simp] theorem State.sines_resetRegs (p : Nat → Bool) : (s.resetRegs p).sines = s.sines := rfl
@[simp] theorem State.sineAt_resetRegs (p : Nat → Bool) : (s.resetRegs p).sineAt = s.sineAt := rfl
@[simp] theorem State.hairs_resetRegs (p : Nat → Bool) : (s.resetRegs p).hairs = s.hairs := rfl
@[simp] theorem State.tdrs_resetRegs (p : Nat → Bool) : (s.resetRegs p).tdrs = s.tdrs := rfl
@[simp] theorem State.dcs_resetRegs (p : Nat → Bool) : (s.resetRegs p).dcs = s.dcs := rfl
@[simp] theorem State.rots_resetRegs (p : Nat → Bool) : (s.resetRegs p).rots = s.rots := rfl
@[simp] theorem State.cores_resetRegs (p : Nat → Bool) : (s.resetRegs p).cores = s.cores := rfl
@[simp] theorem State.secCals_resetRegs (p : Nat → Bool) : (s.resetRegs p).secCals = s.secCals := rfl
@[simp] theorem State.procs_resetRegs (p : Nat → Bool) : (s.resetRegs p).procs = s.procs := rfl
@[simp] theorem State.margs_resetRegs (p : Nat → Bool) : (s.resetRegs p).margs = s.margs := rfl
@[simp] theorem State.blots_resetRegs (p : Nat → Bool) : (s.resetRegs p).blots = s.blots := rfl

/-! ### setChan -/

@[simp] theorem State.pending_setChan (c : Nat) (x : Chan) : (s.setChan c x).pending = s.pending := rfl
@[simp] theorem State.regs_setChan (c : Nat) (x : Chan) : (s.setChan c x).regs = s.regs := rfl
@[simp] theorem State.latch_setChan (c : Nat) (x : Chan) : (s.setChan c x).latch = s.latch := rfl
@[simp] theorem State.tick_setChan (c : Nat) (x : Chan) : (s.setChan c x).tick = s.tick := rfl
@[simp] theorem State.free_setChan (c : Nat) (x : Chan) : (s.setChan c x).free = s.free := rfl
@[simp] theorem State.answer_setChan (c : Nat) (x : Chan) : (s.setChan c x).answer = s.answer := rfl
@[simp] theorem State.hostMem_setChan (c : Nat) (x : Chan) : (s.setChan c x).hostMem = s.hostMem := rfl
@[simp] theorem State.host_setChan (c : Nat) (x : Chan) : (s.setChan c x).host = s.host := rfl
@[simp] theorem State.lec_setChan (c : Nat) (x : Chan) : (s.setChan c x).lec = s.lec := rfl
@[simp] theorem State.quill_setChan (c : Nat) (x : Chan) : (s.setChan c x).quill = s.quill := rfl
@[simp] theorem State.clk_setChan (c : Nat) (x : Chan) : (s.setChan c x).clk = s.clk := rfl
@[simp] theorem State.rul_setChan (c : Nat) (x : Chan) : (s.setChan c x).rul = s.rul := rfl
@[simp] theorem State.err_setChan (c : Nat) (x : Chan) : (s.setChan c x).err = s.err := rfl
@[simp] theorem State.dbg_setChan (c : Nat) (x : Chan) : (s.setChan c x).dbg = s.dbg := rfl
@[simp] theorem State.vault_setChan (c : Nat) (x : Chan) : (s.setChan c x).vault = s.vault := rfl
@[simp] theorem State.nvm_setChan (c : Nat) (x : Chan) : (s.setChan c x).nvm = s.nvm := rfl
@[simp] theorem State.mem_setChan (c : Nat) (x : Chan) : (s.setChan c x).mem = s.mem := rfl
@[simp] theorem State.ev_setChan (c : Nat) (x : Chan) : (s.setChan c x).ev = s.ev := rfl
@[simp] theorem State.cpyWait_setChan (c : Nat) (x : Chan) : (s.setChan c x).cpyWait = s.cpyWait := rfl
@[simp] theorem State.scribes_setChan (c : Nat) (x : Chan) : (s.setChan c x).scribes = s.scribes := rfl
@[simp] theorem State.octs_setChan (c : Nat) (x : Chan) : (s.setChan c x).octs = s.octs := rfl
@[simp] theorem State.balls_setChan (c : Nat) (x : Chan) : (s.setChan c x).balls = s.balls := rfl
@[simp] theorem State.dacs_setChan (c : Nat) (x : Chan) : (s.setChan c x).dacs = s.dacs := rfl
@[simp] theorem State.parks_setChan (c : Nat) (x : Chan) : (s.setChan c x).parks = s.parks := rfl
@[simp] theorem State.settled_setChan (c : Nat) (x : Chan) : (s.setChan c x).settled = s.settled := rfl
@[simp] theorem State.sines_setChan (c : Nat) (x : Chan) : (s.setChan c x).sines = s.sines := rfl
@[simp] theorem State.sineAt_setChan (c : Nat) (x : Chan) : (s.setChan c x).sineAt = s.sineAt := rfl
@[simp] theorem State.hairs_setChan (c : Nat) (x : Chan) : (s.setChan c x).hairs = s.hairs := rfl
@[simp] theorem State.tdrs_setChan (c : Nat) (x : Chan) : (s.setChan c x).tdrs = s.tdrs := rfl
@[simp] theorem State.dcs_setChan (c : Nat) (x : Chan) : (s.setChan c x).dcs = s.dcs := rfl
@[simp] theorem State.rots_setChan (c : Nat) (x : Chan) : (s.setChan c x).rots = s.rots := rfl
@[simp] theorem State.cores_setChan (c : Nat) (x : Chan) : (s.setChan c x).cores = s.cores := rfl
@[simp] theorem State.secCals_setChan (c : Nat) (x : Chan) : (s.setChan c x).secCals = s.secCals := rfl
@[simp] theorem State.procs_setChan (c : Nat) (x : Chan) : (s.setChan c x).procs = s.procs := rfl
@[simp] theorem State.margs_setChan (c : Nat) (x : Chan) : (s.setChan c x).margs = s.margs := rfl
@[simp] theorem State.blots_setChan (c : Nat) (x : Chan) : (s.setChan c x).blots = s.blots := rfl
@[simp] theorem State.rd_setChan (c : Nat) (x : Chan) (r : Nat) : (s.setChan c x).rd r = s.rd r := rfl
@[simp] theorem State.get_setChan (c : Nat) (x : Chan) (r : Fld) : (s.setChan c x).get r = s.get r := rfl

/-! ### setScribe -/

@[simp] theorem State.pending_setScribe (k : Nat) (x : Scribe) : (s.setScribe k x).pending = s.pending := rfl
@[simp] theorem State.regs_setScribe (k : Nat) (x : Scribe) : (s.setScribe k x).regs = s.regs := rfl
@[simp] theorem State.latch_setScribe (k : Nat) (x : Scribe) : (s.setScribe k x).latch = s.latch := rfl
@[simp] theorem State.tick_setScribe (k : Nat) (x : Scribe) : (s.setScribe k x).tick = s.tick := rfl
@[simp] theorem State.free_setScribe (k : Nat) (x : Scribe) : (s.setScribe k x).free = s.free := rfl
@[simp] theorem State.answer_setScribe (k : Nat) (x : Scribe) : (s.setScribe k x).answer = s.answer := rfl
@[simp] theorem State.hostMem_setScribe (k : Nat) (x : Scribe) : (s.setScribe k x).hostMem = s.hostMem := rfl
@[simp] theorem State.host_setScribe (k : Nat) (x : Scribe) : (s.setScribe k x).host = s.host := rfl
@[simp] theorem State.lec_setScribe (k : Nat) (x : Scribe) : (s.setScribe k x).lec = s.lec := rfl
@[simp] theorem State.quill_setScribe (k : Nat) (x : Scribe) : (s.setScribe k x).quill = s.quill := rfl
@[simp] theorem State.clk_setScribe (k : Nat) (x : Scribe) : (s.setScribe k x).clk = s.clk := rfl
@[simp] theorem State.rul_setScribe (k : Nat) (x : Scribe) : (s.setScribe k x).rul = s.rul := rfl
@[simp] theorem State.err_setScribe (k : Nat) (x : Scribe) : (s.setScribe k x).err = s.err := rfl
@[simp] theorem State.dbg_setScribe (k : Nat) (x : Scribe) : (s.setScribe k x).dbg = s.dbg := rfl
@[simp] theorem State.vault_setScribe (k : Nat) (x : Scribe) : (s.setScribe k x).vault = s.vault := rfl
@[simp] theorem State.nvm_setScribe (k : Nat) (x : Scribe) : (s.setScribe k x).nvm = s.nvm := rfl
@[simp] theorem State.mem_setScribe (k : Nat) (x : Scribe) : (s.setScribe k x).mem = s.mem := rfl
@[simp] theorem State.ev_setScribe (k : Nat) (x : Scribe) : (s.setScribe k x).ev = s.ev := rfl
@[simp] theorem State.chans_setScribe (k : Nat) (x : Scribe) : (s.setScribe k x).chans = s.chans := rfl
@[simp] theorem State.cpyWait_setScribe (k : Nat) (x : Scribe) : (s.setScribe k x).cpyWait = s.cpyWait := rfl
@[simp] theorem State.octs_setScribe (k : Nat) (x : Scribe) : (s.setScribe k x).octs = s.octs := rfl
@[simp] theorem State.balls_setScribe (k : Nat) (x : Scribe) : (s.setScribe k x).balls = s.balls := rfl
@[simp] theorem State.dacs_setScribe (k : Nat) (x : Scribe) : (s.setScribe k x).dacs = s.dacs := rfl
@[simp] theorem State.parks_setScribe (k : Nat) (x : Scribe) : (s.setScribe k x).parks = s.parks := rfl
@[simp] theorem State.settled_setScribe (k : Nat) (x : Scribe) : (s.setScribe k x).settled = s.settled := rfl
@[simp] theorem State.sines_setScribe (k : Nat) (x : Scribe) : (s.setScribe k x).sines = s.sines := rfl
@[simp] theorem State.sineAt_setScribe (k : Nat) (x : Scribe) : (s.setScribe k x).sineAt = s.sineAt := rfl
@[simp] theorem State.hairs_setScribe (k : Nat) (x : Scribe) : (s.setScribe k x).hairs = s.hairs := rfl
@[simp] theorem State.tdrs_setScribe (k : Nat) (x : Scribe) : (s.setScribe k x).tdrs = s.tdrs := rfl
@[simp] theorem State.dcs_setScribe (k : Nat) (x : Scribe) : (s.setScribe k x).dcs = s.dcs := rfl
@[simp] theorem State.rots_setScribe (k : Nat) (x : Scribe) : (s.setScribe k x).rots = s.rots := rfl
@[simp] theorem State.cores_setScribe (k : Nat) (x : Scribe) : (s.setScribe k x).cores = s.cores := rfl
@[simp] theorem State.secCals_setScribe (k : Nat) (x : Scribe) : (s.setScribe k x).secCals = s.secCals := rfl
@[simp] theorem State.procs_setScribe (k : Nat) (x : Scribe) : (s.setScribe k x).procs = s.procs := rfl
@[simp] theorem State.margs_setScribe (k : Nat) (x : Scribe) : (s.setScribe k x).margs = s.margs := rfl
@[simp] theorem State.blots_setScribe (k : Nat) (x : Scribe) : (s.setScribe k x).blots = s.blots := rfl
@[simp] theorem State.rd_setScribe (k : Nat) (x : Scribe) (r : Nat) : (s.setScribe k x).rd r = s.rd r := rfl
@[simp] theorem State.get_setScribe (k : Nat) (x : Scribe) (r : Fld) : (s.setScribe k x).get r = s.get r := rfl

/-! ### setOct -/

@[simp] theorem State.pending_setOct (g : Nat) (x : OctetRun) : (s.setOct g x).pending = s.pending := rfl
@[simp] theorem State.regs_setOct (g : Nat) (x : OctetRun) : (s.setOct g x).regs = s.regs := rfl
@[simp] theorem State.latch_setOct (g : Nat) (x : OctetRun) : (s.setOct g x).latch = s.latch := rfl
@[simp] theorem State.tick_setOct (g : Nat) (x : OctetRun) : (s.setOct g x).tick = s.tick := rfl
@[simp] theorem State.free_setOct (g : Nat) (x : OctetRun) : (s.setOct g x).free = s.free := rfl
@[simp] theorem State.answer_setOct (g : Nat) (x : OctetRun) : (s.setOct g x).answer = s.answer := rfl
@[simp] theorem State.hostMem_setOct (g : Nat) (x : OctetRun) : (s.setOct g x).hostMem = s.hostMem := rfl
@[simp] theorem State.host_setOct (g : Nat) (x : OctetRun) : (s.setOct g x).host = s.host := rfl
@[simp] theorem State.lec_setOct (g : Nat) (x : OctetRun) : (s.setOct g x).lec = s.lec := rfl
@[simp] theorem State.quill_setOct (g : Nat) (x : OctetRun) : (s.setOct g x).quill = s.quill := rfl
@[simp] theorem State.clk_setOct (g : Nat) (x : OctetRun) : (s.setOct g x).clk = s.clk := rfl
@[simp] theorem State.rul_setOct (g : Nat) (x : OctetRun) : (s.setOct g x).rul = s.rul := rfl
@[simp] theorem State.err_setOct (g : Nat) (x : OctetRun) : (s.setOct g x).err = s.err := rfl
@[simp] theorem State.dbg_setOct (g : Nat) (x : OctetRun) : (s.setOct g x).dbg = s.dbg := rfl
@[simp] theorem State.vault_setOct (g : Nat) (x : OctetRun) : (s.setOct g x).vault = s.vault := rfl
@[simp] theorem State.nvm_setOct (g : Nat) (x : OctetRun) : (s.setOct g x).nvm = s.nvm := rfl
@[simp] theorem State.mem_setOct (g : Nat) (x : OctetRun) : (s.setOct g x).mem = s.mem := rfl
@[simp] theorem State.ev_setOct (g : Nat) (x : OctetRun) : (s.setOct g x).ev = s.ev := rfl
@[simp] theorem State.chans_setOct (g : Nat) (x : OctetRun) : (s.setOct g x).chans = s.chans := rfl
@[simp] theorem State.cpyWait_setOct (g : Nat) (x : OctetRun) : (s.setOct g x).cpyWait = s.cpyWait := rfl
@[simp] theorem State.scribes_setOct (g : Nat) (x : OctetRun) : (s.setOct g x).scribes = s.scribes := rfl
@[simp] theorem State.balls_setOct (g : Nat) (x : OctetRun) : (s.setOct g x).balls = s.balls := rfl
@[simp] theorem State.dacs_setOct (g : Nat) (x : OctetRun) : (s.setOct g x).dacs = s.dacs := rfl
@[simp] theorem State.parks_setOct (g : Nat) (x : OctetRun) : (s.setOct g x).parks = s.parks := rfl
@[simp] theorem State.settled_setOct (g : Nat) (x : OctetRun) : (s.setOct g x).settled = s.settled := rfl
@[simp] theorem State.sines_setOct (g : Nat) (x : OctetRun) : (s.setOct g x).sines = s.sines := rfl
@[simp] theorem State.sineAt_setOct (g : Nat) (x : OctetRun) : (s.setOct g x).sineAt = s.sineAt := rfl
@[simp] theorem State.hairs_setOct (g : Nat) (x : OctetRun) : (s.setOct g x).hairs = s.hairs := rfl
@[simp] theorem State.tdrs_setOct (g : Nat) (x : OctetRun) : (s.setOct g x).tdrs = s.tdrs := rfl
@[simp] theorem State.dcs_setOct (g : Nat) (x : OctetRun) : (s.setOct g x).dcs = s.dcs := rfl
@[simp] theorem State.rots_setOct (g : Nat) (x : OctetRun) : (s.setOct g x).rots = s.rots := rfl
@[simp] theorem State.cores_setOct (g : Nat) (x : OctetRun) : (s.setOct g x).cores = s.cores := rfl
@[simp] theorem State.secCals_setOct (g : Nat) (x : OctetRun) : (s.setOct g x).secCals = s.secCals := rfl
@[simp] theorem State.procs_setOct (g : Nat) (x : OctetRun) : (s.setOct g x).procs = s.procs := rfl
@[simp] theorem State.margs_setOct (g : Nat) (x : OctetRun) : (s.setOct g x).margs = s.margs := rfl
@[simp] theorem State.blots_setOct (g : Nat) (x : OctetRun) : (s.setOct g x).blots = s.blots := rfl
@[simp] theorem State.rd_setOct (g : Nat) (x : OctetRun) (r : Nat) : (s.setOct g x).rd r = s.rd r := rfl
@[simp] theorem State.get_setOct (g : Nat) (x : OctetRun) (r : Fld) : (s.setOct g x).get r = s.get r := rfl

/-! ### setBall -/

@[simp] theorem State.pending_setBall (g l : Nat) (x : Ball) : (s.setBall g l x).pending = s.pending := rfl
@[simp] theorem State.regs_setBall (g l : Nat) (x : Ball) : (s.setBall g l x).regs = s.regs := rfl
@[simp] theorem State.latch_setBall (g l : Nat) (x : Ball) : (s.setBall g l x).latch = s.latch := rfl
@[simp] theorem State.tick_setBall (g l : Nat) (x : Ball) : (s.setBall g l x).tick = s.tick := rfl
@[simp] theorem State.free_setBall (g l : Nat) (x : Ball) : (s.setBall g l x).free = s.free := rfl
@[simp] theorem State.answer_setBall (g l : Nat) (x : Ball) : (s.setBall g l x).answer = s.answer := rfl
@[simp] theorem State.hostMem_setBall (g l : Nat) (x : Ball) : (s.setBall g l x).hostMem = s.hostMem := rfl
@[simp] theorem State.host_setBall (g l : Nat) (x : Ball) : (s.setBall g l x).host = s.host := rfl
@[simp] theorem State.lec_setBall (g l : Nat) (x : Ball) : (s.setBall g l x).lec = s.lec := rfl
@[simp] theorem State.quill_setBall (g l : Nat) (x : Ball) : (s.setBall g l x).quill = s.quill := rfl
@[simp] theorem State.clk_setBall (g l : Nat) (x : Ball) : (s.setBall g l x).clk = s.clk := rfl
@[simp] theorem State.rul_setBall (g l : Nat) (x : Ball) : (s.setBall g l x).rul = s.rul := rfl
@[simp] theorem State.err_setBall (g l : Nat) (x : Ball) : (s.setBall g l x).err = s.err := rfl
@[simp] theorem State.dbg_setBall (g l : Nat) (x : Ball) : (s.setBall g l x).dbg = s.dbg := rfl
@[simp] theorem State.vault_setBall (g l : Nat) (x : Ball) : (s.setBall g l x).vault = s.vault := rfl
@[simp] theorem State.nvm_setBall (g l : Nat) (x : Ball) : (s.setBall g l x).nvm = s.nvm := rfl
@[simp] theorem State.mem_setBall (g l : Nat) (x : Ball) : (s.setBall g l x).mem = s.mem := rfl
@[simp] theorem State.ev_setBall (g l : Nat) (x : Ball) : (s.setBall g l x).ev = s.ev := rfl
@[simp] theorem State.chans_setBall (g l : Nat) (x : Ball) : (s.setBall g l x).chans = s.chans := rfl
@[simp] theorem State.cpyWait_setBall (g l : Nat) (x : Ball) : (s.setBall g l x).cpyWait = s.cpyWait := rfl
@[simp] theorem State.scribes_setBall (g l : Nat) (x : Ball) : (s.setBall g l x).scribes = s.scribes := rfl
@[simp] theorem State.octs_setBall (g l : Nat) (x : Ball) : (s.setBall g l x).octs = s.octs := rfl
@[simp] theorem State.dacs_setBall (g l : Nat) (x : Ball) : (s.setBall g l x).dacs = s.dacs := rfl
@[simp] theorem State.parks_setBall (g l : Nat) (x : Ball) : (s.setBall g l x).parks = s.parks := rfl
@[simp] theorem State.settled_setBall (g l : Nat) (x : Ball) : (s.setBall g l x).settled = s.settled := rfl
@[simp] theorem State.sines_setBall (g l : Nat) (x : Ball) : (s.setBall g l x).sines = s.sines := rfl
@[simp] theorem State.sineAt_setBall (g l : Nat) (x : Ball) : (s.setBall g l x).sineAt = s.sineAt := rfl
@[simp] theorem State.hairs_setBall (g l : Nat) (x : Ball) : (s.setBall g l x).hairs = s.hairs := rfl
@[simp] theorem State.tdrs_setBall (g l : Nat) (x : Ball) : (s.setBall g l x).tdrs = s.tdrs := rfl
@[simp] theorem State.dcs_setBall (g l : Nat) (x : Ball) : (s.setBall g l x).dcs = s.dcs := rfl
@[simp] theorem State.rots_setBall (g l : Nat) (x : Ball) : (s.setBall g l x).rots = s.rots := rfl
@[simp] theorem State.cores_setBall (g l : Nat) (x : Ball) : (s.setBall g l x).cores = s.cores := rfl
@[simp] theorem State.secCals_setBall (g l : Nat) (x : Ball) : (s.setBall g l x).secCals = s.secCals := rfl
@[simp] theorem State.procs_setBall (g l : Nat) (x : Ball) : (s.setBall g l x).procs = s.procs := rfl
@[simp] theorem State.margs_setBall (g l : Nat) (x : Ball) : (s.setBall g l x).margs = s.margs := rfl
@[simp] theorem State.blots_setBall (g l : Nat) (x : Ball) : (s.setBall g l x).blots = s.blots := rfl
@[simp] theorem State.rd_setBall (g l : Nat) (x : Ball) (r : Nat) : (s.setBall g l x).rd r = s.rd r := rfl
@[simp] theorem State.get_setBall (g l : Nat) (x : Ball) (r : Fld) : (s.setBall g l x).get r = s.get r := rfl

/-! ### setDac -/

@[simp] theorem State.pending_setDac (g l k : Nat) (x : Dac) : (s.setDac g l k x).pending = s.pending := rfl
@[simp] theorem State.regs_setDac (g l k : Nat) (x : Dac) : (s.setDac g l k x).regs = s.regs := rfl
@[simp] theorem State.latch_setDac (g l k : Nat) (x : Dac) : (s.setDac g l k x).latch = s.latch := rfl
@[simp] theorem State.tick_setDac (g l k : Nat) (x : Dac) : (s.setDac g l k x).tick = s.tick := rfl
@[simp] theorem State.free_setDac (g l k : Nat) (x : Dac) : (s.setDac g l k x).free = s.free := rfl
@[simp] theorem State.answer_setDac (g l k : Nat) (x : Dac) : (s.setDac g l k x).answer = s.answer := rfl
@[simp] theorem State.hostMem_setDac (g l k : Nat) (x : Dac) : (s.setDac g l k x).hostMem = s.hostMem := rfl
@[simp] theorem State.host_setDac (g l k : Nat) (x : Dac) : (s.setDac g l k x).host = s.host := rfl
@[simp] theorem State.lec_setDac (g l k : Nat) (x : Dac) : (s.setDac g l k x).lec = s.lec := rfl
@[simp] theorem State.quill_setDac (g l k : Nat) (x : Dac) : (s.setDac g l k x).quill = s.quill := rfl
@[simp] theorem State.clk_setDac (g l k : Nat) (x : Dac) : (s.setDac g l k x).clk = s.clk := rfl
@[simp] theorem State.rul_setDac (g l k : Nat) (x : Dac) : (s.setDac g l k x).rul = s.rul := rfl
@[simp] theorem State.err_setDac (g l k : Nat) (x : Dac) : (s.setDac g l k x).err = s.err := rfl
@[simp] theorem State.dbg_setDac (g l k : Nat) (x : Dac) : (s.setDac g l k x).dbg = s.dbg := rfl
@[simp] theorem State.vault_setDac (g l k : Nat) (x : Dac) : (s.setDac g l k x).vault = s.vault := rfl
@[simp] theorem State.nvm_setDac (g l k : Nat) (x : Dac) : (s.setDac g l k x).nvm = s.nvm := rfl
@[simp] theorem State.mem_setDac (g l k : Nat) (x : Dac) : (s.setDac g l k x).mem = s.mem := rfl
@[simp] theorem State.ev_setDac (g l k : Nat) (x : Dac) : (s.setDac g l k x).ev = s.ev := rfl
@[simp] theorem State.chans_setDac (g l k : Nat) (x : Dac) : (s.setDac g l k x).chans = s.chans := rfl
@[simp] theorem State.cpyWait_setDac (g l k : Nat) (x : Dac) : (s.setDac g l k x).cpyWait = s.cpyWait := rfl
@[simp] theorem State.scribes_setDac (g l k : Nat) (x : Dac) : (s.setDac g l k x).scribes = s.scribes := rfl
@[simp] theorem State.octs_setDac (g l k : Nat) (x : Dac) : (s.setDac g l k x).octs = s.octs := rfl
@[simp] theorem State.balls_setDac (g l k : Nat) (x : Dac) : (s.setDac g l k x).balls = s.balls := rfl
@[simp] theorem State.parks_setDac (g l k : Nat) (x : Dac) : (s.setDac g l k x).parks = s.parks := rfl
@[simp] theorem State.settled_setDac (g l k : Nat) (x : Dac) : (s.setDac g l k x).settled = s.settled := rfl
@[simp] theorem State.sines_setDac (g l k : Nat) (x : Dac) : (s.setDac g l k x).sines = s.sines := rfl
@[simp] theorem State.sineAt_setDac (g l k : Nat) (x : Dac) : (s.setDac g l k x).sineAt = s.sineAt := rfl
@[simp] theorem State.hairs_setDac (g l k : Nat) (x : Dac) : (s.setDac g l k x).hairs = s.hairs := rfl
@[simp] theorem State.tdrs_setDac (g l k : Nat) (x : Dac) : (s.setDac g l k x).tdrs = s.tdrs := rfl
@[simp] theorem State.dcs_setDac (g l k : Nat) (x : Dac) : (s.setDac g l k x).dcs = s.dcs := rfl
@[simp] theorem State.rots_setDac (g l k : Nat) (x : Dac) : (s.setDac g l k x).rots = s.rots := rfl
@[simp] theorem State.cores_setDac (g l k : Nat) (x : Dac) : (s.setDac g l k x).cores = s.cores := rfl
@[simp] theorem State.secCals_setDac (g l k : Nat) (x : Dac) : (s.setDac g l k x).secCals = s.secCals := rfl
@[simp] theorem State.procs_setDac (g l k : Nat) (x : Dac) : (s.setDac g l k x).procs = s.procs := rfl
@[simp] theorem State.margs_setDac (g l k : Nat) (x : Dac) : (s.setDac g l k x).margs = s.margs := rfl
@[simp] theorem State.blots_setDac (g l k : Nat) (x : Dac) : (s.setDac g l k x).blots = s.blots := rfl
@[simp] theorem State.rd_setDac (g l k : Nat) (x : Dac) (r : Nat) : (s.setDac g l k x).rd r = s.rd r := rfl
@[simp] theorem State.get_setDac (g l k : Nat) (x : Dac) (r : Fld) : (s.setDac g l k x).get r = s.get r := rfl

/-! ### setSine -/

@[simp] theorem State.pending_setSine (g : Nat) (x : Sine) : (s.setSine g x).pending = s.pending := rfl
@[simp] theorem State.regs_setSine (g : Nat) (x : Sine) : (s.setSine g x).regs = s.regs := rfl
@[simp] theorem State.latch_setSine (g : Nat) (x : Sine) : (s.setSine g x).latch = s.latch := rfl
@[simp] theorem State.tick_setSine (g : Nat) (x : Sine) : (s.setSine g x).tick = s.tick := rfl
@[simp] theorem State.free_setSine (g : Nat) (x : Sine) : (s.setSine g x).free = s.free := rfl
@[simp] theorem State.answer_setSine (g : Nat) (x : Sine) : (s.setSine g x).answer = s.answer := rfl
@[simp] theorem State.hostMem_setSine (g : Nat) (x : Sine) : (s.setSine g x).hostMem = s.hostMem := rfl
@[simp] theorem State.host_setSine (g : Nat) (x : Sine) : (s.setSine g x).host = s.host := rfl
@[simp] theorem State.lec_setSine (g : Nat) (x : Sine) : (s.setSine g x).lec = s.lec := rfl
@[simp] theorem State.quill_setSine (g : Nat) (x : Sine) : (s.setSine g x).quill = s.quill := rfl
@[simp] theorem State.clk_setSine (g : Nat) (x : Sine) : (s.setSine g x).clk = s.clk := rfl
@[simp] theorem State.rul_setSine (g : Nat) (x : Sine) : (s.setSine g x).rul = s.rul := rfl
@[simp] theorem State.err_setSine (g : Nat) (x : Sine) : (s.setSine g x).err = s.err := rfl
@[simp] theorem State.dbg_setSine (g : Nat) (x : Sine) : (s.setSine g x).dbg = s.dbg := rfl
@[simp] theorem State.vault_setSine (g : Nat) (x : Sine) : (s.setSine g x).vault = s.vault := rfl
@[simp] theorem State.nvm_setSine (g : Nat) (x : Sine) : (s.setSine g x).nvm = s.nvm := rfl
@[simp] theorem State.mem_setSine (g : Nat) (x : Sine) : (s.setSine g x).mem = s.mem := rfl
@[simp] theorem State.ev_setSine (g : Nat) (x : Sine) : (s.setSine g x).ev = s.ev := rfl
@[simp] theorem State.chans_setSine (g : Nat) (x : Sine) : (s.setSine g x).chans = s.chans := rfl
@[simp] theorem State.cpyWait_setSine (g : Nat) (x : Sine) : (s.setSine g x).cpyWait = s.cpyWait := rfl
@[simp] theorem State.scribes_setSine (g : Nat) (x : Sine) : (s.setSine g x).scribes = s.scribes := rfl
@[simp] theorem State.octs_setSine (g : Nat) (x : Sine) : (s.setSine g x).octs = s.octs := rfl
@[simp] theorem State.balls_setSine (g : Nat) (x : Sine) : (s.setSine g x).balls = s.balls := rfl
@[simp] theorem State.dacs_setSine (g : Nat) (x : Sine) : (s.setSine g x).dacs = s.dacs := rfl
@[simp] theorem State.parks_setSine (g : Nat) (x : Sine) : (s.setSine g x).parks = s.parks := rfl
@[simp] theorem State.settled_setSine (g : Nat) (x : Sine) : (s.setSine g x).settled = s.settled := rfl
@[simp] theorem State.sineAt_setSine (g : Nat) (x : Sine) : (s.setSine g x).sineAt = s.sineAt := rfl
@[simp] theorem State.hairs_setSine (g : Nat) (x : Sine) : (s.setSine g x).hairs = s.hairs := rfl
@[simp] theorem State.tdrs_setSine (g : Nat) (x : Sine) : (s.setSine g x).tdrs = s.tdrs := rfl
@[simp] theorem State.dcs_setSine (g : Nat) (x : Sine) : (s.setSine g x).dcs = s.dcs := rfl
@[simp] theorem State.rots_setSine (g : Nat) (x : Sine) : (s.setSine g x).rots = s.rots := rfl
@[simp] theorem State.cores_setSine (g : Nat) (x : Sine) : (s.setSine g x).cores = s.cores := rfl
@[simp] theorem State.secCals_setSine (g : Nat) (x : Sine) : (s.setSine g x).secCals = s.secCals := rfl
@[simp] theorem State.procs_setSine (g : Nat) (x : Sine) : (s.setSine g x).procs = s.procs := rfl
@[simp] theorem State.margs_setSine (g : Nat) (x : Sine) : (s.setSine g x).margs = s.margs := rfl
@[simp] theorem State.blots_setSine (g : Nat) (x : Sine) : (s.setSine g x).blots = s.blots := rfl
@[simp] theorem State.rd_setSine (g : Nat) (x : Sine) (r : Nat) : (s.setSine g x).rd r = s.rd r := rfl
@[simp] theorem State.get_setSine (g : Nat) (x : Sine) (r : Fld) : (s.setSine g x).get r = s.get r := rfl

/-! ### setHair -/

@[simp] theorem State.pending_setHair (g : Nat) (x : Hair) : (s.setHair g x).pending = s.pending := rfl
@[simp] theorem State.regs_setHair (g : Nat) (x : Hair) : (s.setHair g x).regs = s.regs := rfl
@[simp] theorem State.latch_setHair (g : Nat) (x : Hair) : (s.setHair g x).latch = s.latch := rfl
@[simp] theorem State.tick_setHair (g : Nat) (x : Hair) : (s.setHair g x).tick = s.tick := rfl
@[simp] theorem State.free_setHair (g : Nat) (x : Hair) : (s.setHair g x).free = s.free := rfl
@[simp] theorem State.answer_setHair (g : Nat) (x : Hair) : (s.setHair g x).answer = s.answer := rfl
@[simp] theorem State.hostMem_setHair (g : Nat) (x : Hair) : (s.setHair g x).hostMem = s.hostMem := rfl
@[simp] theorem State.host_setHair (g : Nat) (x : Hair) : (s.setHair g x).host = s.host := rfl
@[simp] theorem State.lec_setHair (g : Nat) (x : Hair) : (s.setHair g x).lec = s.lec := rfl
@[simp] theorem State.quill_setHair (g : Nat) (x : Hair) : (s.setHair g x).quill = s.quill := rfl
@[simp] theorem State.clk_setHair (g : Nat) (x : Hair) : (s.setHair g x).clk = s.clk := rfl
@[simp] theorem State.rul_setHair (g : Nat) (x : Hair) : (s.setHair g x).rul = s.rul := rfl
@[simp] theorem State.err_setHair (g : Nat) (x : Hair) : (s.setHair g x).err = s.err := rfl
@[simp] theorem State.dbg_setHair (g : Nat) (x : Hair) : (s.setHair g x).dbg = s.dbg := rfl
@[simp] theorem State.vault_setHair (g : Nat) (x : Hair) : (s.setHair g x).vault = s.vault := rfl
@[simp] theorem State.nvm_setHair (g : Nat) (x : Hair) : (s.setHair g x).nvm = s.nvm := rfl
@[simp] theorem State.mem_setHair (g : Nat) (x : Hair) : (s.setHair g x).mem = s.mem := rfl
@[simp] theorem State.ev_setHair (g : Nat) (x : Hair) : (s.setHair g x).ev = s.ev := rfl
@[simp] theorem State.chans_setHair (g : Nat) (x : Hair) : (s.setHair g x).chans = s.chans := rfl
@[simp] theorem State.cpyWait_setHair (g : Nat) (x : Hair) : (s.setHair g x).cpyWait = s.cpyWait := rfl
@[simp] theorem State.scribes_setHair (g : Nat) (x : Hair) : (s.setHair g x).scribes = s.scribes := rfl
@[simp] theorem State.octs_setHair (g : Nat) (x : Hair) : (s.setHair g x).octs = s.octs := rfl
@[simp] theorem State.balls_setHair (g : Nat) (x : Hair) : (s.setHair g x).balls = s.balls := rfl
@[simp] theorem State.dacs_setHair (g : Nat) (x : Hair) : (s.setHair g x).dacs = s.dacs := rfl
@[simp] theorem State.parks_setHair (g : Nat) (x : Hair) : (s.setHair g x).parks = s.parks := rfl
@[simp] theorem State.settled_setHair (g : Nat) (x : Hair) : (s.setHair g x).settled = s.settled := rfl
@[simp] theorem State.sines_setHair (g : Nat) (x : Hair) : (s.setHair g x).sines = s.sines := rfl
@[simp] theorem State.sineAt_setHair (g : Nat) (x : Hair) : (s.setHair g x).sineAt = s.sineAt := rfl
@[simp] theorem State.tdrs_setHair (g : Nat) (x : Hair) : (s.setHair g x).tdrs = s.tdrs := rfl
@[simp] theorem State.dcs_setHair (g : Nat) (x : Hair) : (s.setHair g x).dcs = s.dcs := rfl
@[simp] theorem State.rots_setHair (g : Nat) (x : Hair) : (s.setHair g x).rots = s.rots := rfl
@[simp] theorem State.cores_setHair (g : Nat) (x : Hair) : (s.setHair g x).cores = s.cores := rfl
@[simp] theorem State.secCals_setHair (g : Nat) (x : Hair) : (s.setHair g x).secCals = s.secCals := rfl
@[simp] theorem State.procs_setHair (g : Nat) (x : Hair) : (s.setHair g x).procs = s.procs := rfl
@[simp] theorem State.margs_setHair (g : Nat) (x : Hair) : (s.setHair g x).margs = s.margs := rfl
@[simp] theorem State.blots_setHair (g : Nat) (x : Hair) : (s.setHair g x).blots = s.blots := rfl
@[simp] theorem State.rd_setHair (g : Nat) (x : Hair) (r : Nat) : (s.setHair g x).rd r = s.rd r := rfl
@[simp] theorem State.get_setHair (g : Nat) (x : Hair) (r : Fld) : (s.setHair g x).get r = s.get r := rfl

/-! ### setTdr -/

@[simp] theorem State.pending_setTdr (g : Nat) (x : Tdr) : (s.setTdr g x).pending = s.pending := rfl
@[simp] theorem State.regs_setTdr (g : Nat) (x : Tdr) : (s.setTdr g x).regs = s.regs := rfl
@[simp] theorem State.latch_setTdr (g : Nat) (x : Tdr) : (s.setTdr g x).latch = s.latch := rfl
@[simp] theorem State.tick_setTdr (g : Nat) (x : Tdr) : (s.setTdr g x).tick = s.tick := rfl
@[simp] theorem State.free_setTdr (g : Nat) (x : Tdr) : (s.setTdr g x).free = s.free := rfl
@[simp] theorem State.answer_setTdr (g : Nat) (x : Tdr) : (s.setTdr g x).answer = s.answer := rfl
@[simp] theorem State.hostMem_setTdr (g : Nat) (x : Tdr) : (s.setTdr g x).hostMem = s.hostMem := rfl
@[simp] theorem State.host_setTdr (g : Nat) (x : Tdr) : (s.setTdr g x).host = s.host := rfl
@[simp] theorem State.lec_setTdr (g : Nat) (x : Tdr) : (s.setTdr g x).lec = s.lec := rfl
@[simp] theorem State.quill_setTdr (g : Nat) (x : Tdr) : (s.setTdr g x).quill = s.quill := rfl
@[simp] theorem State.clk_setTdr (g : Nat) (x : Tdr) : (s.setTdr g x).clk = s.clk := rfl
@[simp] theorem State.rul_setTdr (g : Nat) (x : Tdr) : (s.setTdr g x).rul = s.rul := rfl
@[simp] theorem State.err_setTdr (g : Nat) (x : Tdr) : (s.setTdr g x).err = s.err := rfl
@[simp] theorem State.dbg_setTdr (g : Nat) (x : Tdr) : (s.setTdr g x).dbg = s.dbg := rfl
@[simp] theorem State.vault_setTdr (g : Nat) (x : Tdr) : (s.setTdr g x).vault = s.vault := rfl
@[simp] theorem State.nvm_setTdr (g : Nat) (x : Tdr) : (s.setTdr g x).nvm = s.nvm := rfl
@[simp] theorem State.mem_setTdr (g : Nat) (x : Tdr) : (s.setTdr g x).mem = s.mem := rfl
@[simp] theorem State.ev_setTdr (g : Nat) (x : Tdr) : (s.setTdr g x).ev = s.ev := rfl
@[simp] theorem State.chans_setTdr (g : Nat) (x : Tdr) : (s.setTdr g x).chans = s.chans := rfl
@[simp] theorem State.cpyWait_setTdr (g : Nat) (x : Tdr) : (s.setTdr g x).cpyWait = s.cpyWait := rfl
@[simp] theorem State.scribes_setTdr (g : Nat) (x : Tdr) : (s.setTdr g x).scribes = s.scribes := rfl
@[simp] theorem State.octs_setTdr (g : Nat) (x : Tdr) : (s.setTdr g x).octs = s.octs := rfl
@[simp] theorem State.balls_setTdr (g : Nat) (x : Tdr) : (s.setTdr g x).balls = s.balls := rfl
@[simp] theorem State.dacs_setTdr (g : Nat) (x : Tdr) : (s.setTdr g x).dacs = s.dacs := rfl
@[simp] theorem State.parks_setTdr (g : Nat) (x : Tdr) : (s.setTdr g x).parks = s.parks := rfl
@[simp] theorem State.settled_setTdr (g : Nat) (x : Tdr) : (s.setTdr g x).settled = s.settled := rfl
@[simp] theorem State.sines_setTdr (g : Nat) (x : Tdr) : (s.setTdr g x).sines = s.sines := rfl
@[simp] theorem State.sineAt_setTdr (g : Nat) (x : Tdr) : (s.setTdr g x).sineAt = s.sineAt := rfl
@[simp] theorem State.hairs_setTdr (g : Nat) (x : Tdr) : (s.setTdr g x).hairs = s.hairs := rfl
@[simp] theorem State.dcs_setTdr (g : Nat) (x : Tdr) : (s.setTdr g x).dcs = s.dcs := rfl
@[simp] theorem State.rots_setTdr (g : Nat) (x : Tdr) : (s.setTdr g x).rots = s.rots := rfl
@[simp] theorem State.cores_setTdr (g : Nat) (x : Tdr) : (s.setTdr g x).cores = s.cores := rfl
@[simp] theorem State.secCals_setTdr (g : Nat) (x : Tdr) : (s.setTdr g x).secCals = s.secCals := rfl
@[simp] theorem State.procs_setTdr (g : Nat) (x : Tdr) : (s.setTdr g x).procs = s.procs := rfl
@[simp] theorem State.margs_setTdr (g : Nat) (x : Tdr) : (s.setTdr g x).margs = s.margs := rfl
@[simp] theorem State.blots_setTdr (g : Nat) (x : Tdr) : (s.setTdr g x).blots = s.blots := rfl
@[simp] theorem State.rd_setTdr (g : Nat) (x : Tdr) (r : Nat) : (s.setTdr g x).rd r = s.rd r := rfl
@[simp] theorem State.get_setTdr (g : Nat) (x : Tdr) (r : Fld) : (s.setTdr g x).get r = s.get r := rfl

/-! ### setDc -/

@[simp] theorem State.pending_setDc (g : Nat) (x : DcUnit) : (s.setDc g x).pending = s.pending := rfl
@[simp] theorem State.regs_setDc (g : Nat) (x : DcUnit) : (s.setDc g x).regs = s.regs := rfl
@[simp] theorem State.latch_setDc (g : Nat) (x : DcUnit) : (s.setDc g x).latch = s.latch := rfl
@[simp] theorem State.tick_setDc (g : Nat) (x : DcUnit) : (s.setDc g x).tick = s.tick := rfl
@[simp] theorem State.free_setDc (g : Nat) (x : DcUnit) : (s.setDc g x).free = s.free := rfl
@[simp] theorem State.answer_setDc (g : Nat) (x : DcUnit) : (s.setDc g x).answer = s.answer := rfl
@[simp] theorem State.hostMem_setDc (g : Nat) (x : DcUnit) : (s.setDc g x).hostMem = s.hostMem := rfl
@[simp] theorem State.host_setDc (g : Nat) (x : DcUnit) : (s.setDc g x).host = s.host := rfl
@[simp] theorem State.lec_setDc (g : Nat) (x : DcUnit) : (s.setDc g x).lec = s.lec := rfl
@[simp] theorem State.quill_setDc (g : Nat) (x : DcUnit) : (s.setDc g x).quill = s.quill := rfl
@[simp] theorem State.clk_setDc (g : Nat) (x : DcUnit) : (s.setDc g x).clk = s.clk := rfl
@[simp] theorem State.rul_setDc (g : Nat) (x : DcUnit) : (s.setDc g x).rul = s.rul := rfl
@[simp] theorem State.err_setDc (g : Nat) (x : DcUnit) : (s.setDc g x).err = s.err := rfl
@[simp] theorem State.dbg_setDc (g : Nat) (x : DcUnit) : (s.setDc g x).dbg = s.dbg := rfl
@[simp] theorem State.vault_setDc (g : Nat) (x : DcUnit) : (s.setDc g x).vault = s.vault := rfl
@[simp] theorem State.nvm_setDc (g : Nat) (x : DcUnit) : (s.setDc g x).nvm = s.nvm := rfl
@[simp] theorem State.mem_setDc (g : Nat) (x : DcUnit) : (s.setDc g x).mem = s.mem := rfl
@[simp] theorem State.ev_setDc (g : Nat) (x : DcUnit) : (s.setDc g x).ev = s.ev := rfl
@[simp] theorem State.chans_setDc (g : Nat) (x : DcUnit) : (s.setDc g x).chans = s.chans := rfl
@[simp] theorem State.cpyWait_setDc (g : Nat) (x : DcUnit) : (s.setDc g x).cpyWait = s.cpyWait := rfl
@[simp] theorem State.scribes_setDc (g : Nat) (x : DcUnit) : (s.setDc g x).scribes = s.scribes := rfl
@[simp] theorem State.octs_setDc (g : Nat) (x : DcUnit) : (s.setDc g x).octs = s.octs := rfl
@[simp] theorem State.balls_setDc (g : Nat) (x : DcUnit) : (s.setDc g x).balls = s.balls := rfl
@[simp] theorem State.dacs_setDc (g : Nat) (x : DcUnit) : (s.setDc g x).dacs = s.dacs := rfl
@[simp] theorem State.parks_setDc (g : Nat) (x : DcUnit) : (s.setDc g x).parks = s.parks := rfl
@[simp] theorem State.settled_setDc (g : Nat) (x : DcUnit) : (s.setDc g x).settled = s.settled := rfl
@[simp] theorem State.sines_setDc (g : Nat) (x : DcUnit) : (s.setDc g x).sines = s.sines := rfl
@[simp] theorem State.sineAt_setDc (g : Nat) (x : DcUnit) : (s.setDc g x).sineAt = s.sineAt := rfl
@[simp] theorem State.hairs_setDc (g : Nat) (x : DcUnit) : (s.setDc g x).hairs = s.hairs := rfl
@[simp] theorem State.tdrs_setDc (g : Nat) (x : DcUnit) : (s.setDc g x).tdrs = s.tdrs := rfl
@[simp] theorem State.rots_setDc (g : Nat) (x : DcUnit) : (s.setDc g x).rots = s.rots := rfl
@[simp] theorem State.cores_setDc (g : Nat) (x : DcUnit) : (s.setDc g x).cores = s.cores := rfl
@[simp] theorem State.secCals_setDc (g : Nat) (x : DcUnit) : (s.setDc g x).secCals = s.secCals := rfl
@[simp] theorem State.procs_setDc (g : Nat) (x : DcUnit) : (s.setDc g x).procs = s.procs := rfl
@[simp] theorem State.margs_setDc (g : Nat) (x : DcUnit) : (s.setDc g x).margs = s.margs := rfl
@[simp] theorem State.blots_setDc (g : Nat) (x : DcUnit) : (s.setDc g x).blots = s.blots := rfl
@[simp] theorem State.rd_setDc (g : Nat) (x : DcUnit) (r : Nat) : (s.setDc g x).rd r = s.rd r := rfl
@[simp] theorem State.get_setDc (g : Nat) (x : DcUnit) (r : Fld) : (s.setDc g x).get r = s.get r := rfl

/-! ### setRot -/

@[simp] theorem State.pending_setRot (g : Nat) (x : Rot) : (s.setRot g x).pending = s.pending := rfl
@[simp] theorem State.regs_setRot (g : Nat) (x : Rot) : (s.setRot g x).regs = s.regs := rfl
@[simp] theorem State.latch_setRot (g : Nat) (x : Rot) : (s.setRot g x).latch = s.latch := rfl
@[simp] theorem State.tick_setRot (g : Nat) (x : Rot) : (s.setRot g x).tick = s.tick := rfl
@[simp] theorem State.free_setRot (g : Nat) (x : Rot) : (s.setRot g x).free = s.free := rfl
@[simp] theorem State.answer_setRot (g : Nat) (x : Rot) : (s.setRot g x).answer = s.answer := rfl
@[simp] theorem State.hostMem_setRot (g : Nat) (x : Rot) : (s.setRot g x).hostMem = s.hostMem := rfl
@[simp] theorem State.host_setRot (g : Nat) (x : Rot) : (s.setRot g x).host = s.host := rfl
@[simp] theorem State.lec_setRot (g : Nat) (x : Rot) : (s.setRot g x).lec = s.lec := rfl
@[simp] theorem State.quill_setRot (g : Nat) (x : Rot) : (s.setRot g x).quill = s.quill := rfl
@[simp] theorem State.clk_setRot (g : Nat) (x : Rot) : (s.setRot g x).clk = s.clk := rfl
@[simp] theorem State.rul_setRot (g : Nat) (x : Rot) : (s.setRot g x).rul = s.rul := rfl
@[simp] theorem State.err_setRot (g : Nat) (x : Rot) : (s.setRot g x).err = s.err := rfl
@[simp] theorem State.dbg_setRot (g : Nat) (x : Rot) : (s.setRot g x).dbg = s.dbg := rfl
@[simp] theorem State.vault_setRot (g : Nat) (x : Rot) : (s.setRot g x).vault = s.vault := rfl
@[simp] theorem State.nvm_setRot (g : Nat) (x : Rot) : (s.setRot g x).nvm = s.nvm := rfl
@[simp] theorem State.mem_setRot (g : Nat) (x : Rot) : (s.setRot g x).mem = s.mem := rfl
@[simp] theorem State.ev_setRot (g : Nat) (x : Rot) : (s.setRot g x).ev = s.ev := rfl
@[simp] theorem State.chans_setRot (g : Nat) (x : Rot) : (s.setRot g x).chans = s.chans := rfl
@[simp] theorem State.cpyWait_setRot (g : Nat) (x : Rot) : (s.setRot g x).cpyWait = s.cpyWait := rfl
@[simp] theorem State.scribes_setRot (g : Nat) (x : Rot) : (s.setRot g x).scribes = s.scribes := rfl
@[simp] theorem State.octs_setRot (g : Nat) (x : Rot) : (s.setRot g x).octs = s.octs := rfl
@[simp] theorem State.balls_setRot (g : Nat) (x : Rot) : (s.setRot g x).balls = s.balls := rfl
@[simp] theorem State.dacs_setRot (g : Nat) (x : Rot) : (s.setRot g x).dacs = s.dacs := rfl
@[simp] theorem State.parks_setRot (g : Nat) (x : Rot) : (s.setRot g x).parks = s.parks := rfl
@[simp] theorem State.settled_setRot (g : Nat) (x : Rot) : (s.setRot g x).settled = s.settled := rfl
@[simp] theorem State.sines_setRot (g : Nat) (x : Rot) : (s.setRot g x).sines = s.sines := rfl
@[simp] theorem State.sineAt_setRot (g : Nat) (x : Rot) : (s.setRot g x).sineAt = s.sineAt := rfl
@[simp] theorem State.hairs_setRot (g : Nat) (x : Rot) : (s.setRot g x).hairs = s.hairs := rfl
@[simp] theorem State.tdrs_setRot (g : Nat) (x : Rot) : (s.setRot g x).tdrs = s.tdrs := rfl
@[simp] theorem State.dcs_setRot (g : Nat) (x : Rot) : (s.setRot g x).dcs = s.dcs := rfl
@[simp] theorem State.cores_setRot (g : Nat) (x : Rot) : (s.setRot g x).cores = s.cores := rfl
@[simp] theorem State.secCals_setRot (g : Nat) (x : Rot) : (s.setRot g x).secCals = s.secCals := rfl
@[simp] theorem State.procs_setRot (g : Nat) (x : Rot) : (s.setRot g x).procs = s.procs := rfl
@[simp] theorem State.margs_setRot (g : Nat) (x : Rot) : (s.setRot g x).margs = s.margs := rfl
@[simp] theorem State.blots_setRot (g : Nat) (x : Rot) : (s.setRot g x).blots = s.blots := rfl
@[simp] theorem State.rd_setRot (g : Nat) (x : Rot) (r : Nat) : (s.setRot g x).rd r = s.rd r := rfl
@[simp] theorem State.get_setRot (g : Nat) (x : Rot) (r : Fld) : (s.setRot g x).get r = s.get r := rfl

/-! ### setCore -/

@[simp] theorem State.pending_setCore (g c : Nat) (x : CoreCal) : (s.setCore g c x).pending = s.pending := rfl
@[simp] theorem State.regs_setCore (g c : Nat) (x : CoreCal) : (s.setCore g c x).regs = s.regs := rfl
@[simp] theorem State.latch_setCore (g c : Nat) (x : CoreCal) : (s.setCore g c x).latch = s.latch := rfl
@[simp] theorem State.tick_setCore (g c : Nat) (x : CoreCal) : (s.setCore g c x).tick = s.tick := rfl
@[simp] theorem State.free_setCore (g c : Nat) (x : CoreCal) : (s.setCore g c x).free = s.free := rfl
@[simp] theorem State.answer_setCore (g c : Nat) (x : CoreCal) : (s.setCore g c x).answer = s.answer := rfl
@[simp] theorem State.hostMem_setCore (g c : Nat) (x : CoreCal) : (s.setCore g c x).hostMem = s.hostMem := rfl
@[simp] theorem State.host_setCore (g c : Nat) (x : CoreCal) : (s.setCore g c x).host = s.host := rfl
@[simp] theorem State.lec_setCore (g c : Nat) (x : CoreCal) : (s.setCore g c x).lec = s.lec := rfl
@[simp] theorem State.quill_setCore (g c : Nat) (x : CoreCal) : (s.setCore g c x).quill = s.quill := rfl
@[simp] theorem State.clk_setCore (g c : Nat) (x : CoreCal) : (s.setCore g c x).clk = s.clk := rfl
@[simp] theorem State.rul_setCore (g c : Nat) (x : CoreCal) : (s.setCore g c x).rul = s.rul := rfl
@[simp] theorem State.err_setCore (g c : Nat) (x : CoreCal) : (s.setCore g c x).err = s.err := rfl
@[simp] theorem State.dbg_setCore (g c : Nat) (x : CoreCal) : (s.setCore g c x).dbg = s.dbg := rfl
@[simp] theorem State.vault_setCore (g c : Nat) (x : CoreCal) : (s.setCore g c x).vault = s.vault := rfl
@[simp] theorem State.nvm_setCore (g c : Nat) (x : CoreCal) : (s.setCore g c x).nvm = s.nvm := rfl
@[simp] theorem State.mem_setCore (g c : Nat) (x : CoreCal) : (s.setCore g c x).mem = s.mem := rfl
@[simp] theorem State.ev_setCore (g c : Nat) (x : CoreCal) : (s.setCore g c x).ev = s.ev := rfl
@[simp] theorem State.chans_setCore (g c : Nat) (x : CoreCal) : (s.setCore g c x).chans = s.chans := rfl
@[simp] theorem State.cpyWait_setCore (g c : Nat) (x : CoreCal) : (s.setCore g c x).cpyWait = s.cpyWait := rfl
@[simp] theorem State.scribes_setCore (g c : Nat) (x : CoreCal) : (s.setCore g c x).scribes = s.scribes := rfl
@[simp] theorem State.octs_setCore (g c : Nat) (x : CoreCal) : (s.setCore g c x).octs = s.octs := rfl
@[simp] theorem State.balls_setCore (g c : Nat) (x : CoreCal) : (s.setCore g c x).balls = s.balls := rfl
@[simp] theorem State.dacs_setCore (g c : Nat) (x : CoreCal) : (s.setCore g c x).dacs = s.dacs := rfl
@[simp] theorem State.parks_setCore (g c : Nat) (x : CoreCal) : (s.setCore g c x).parks = s.parks := rfl
@[simp] theorem State.settled_setCore (g c : Nat) (x : CoreCal) : (s.setCore g c x).settled = s.settled := rfl
@[simp] theorem State.sines_setCore (g c : Nat) (x : CoreCal) : (s.setCore g c x).sines = s.sines := rfl
@[simp] theorem State.sineAt_setCore (g c : Nat) (x : CoreCal) : (s.setCore g c x).sineAt = s.sineAt := rfl
@[simp] theorem State.hairs_setCore (g c : Nat) (x : CoreCal) : (s.setCore g c x).hairs = s.hairs := rfl
@[simp] theorem State.tdrs_setCore (g c : Nat) (x : CoreCal) : (s.setCore g c x).tdrs = s.tdrs := rfl
@[simp] theorem State.dcs_setCore (g c : Nat) (x : CoreCal) : (s.setCore g c x).dcs = s.dcs := rfl
@[simp] theorem State.rots_setCore (g c : Nat) (x : CoreCal) : (s.setCore g c x).rots = s.rots := rfl
@[simp] theorem State.secCals_setCore (g c : Nat) (x : CoreCal) : (s.setCore g c x).secCals = s.secCals := rfl
@[simp] theorem State.procs_setCore (g c : Nat) (x : CoreCal) : (s.setCore g c x).procs = s.procs := rfl
@[simp] theorem State.margs_setCore (g c : Nat) (x : CoreCal) : (s.setCore g c x).margs = s.margs := rfl
@[simp] theorem State.blots_setCore (g c : Nat) (x : CoreCal) : (s.setCore g c x).blots = s.blots := rfl
@[simp] theorem State.rd_setCore (g c : Nat) (x : CoreCal) (r : Nat) : (s.setCore g c x).rd r = s.rd r := rfl
@[simp] theorem State.get_setCore (g c : Nat) (x : CoreCal) (r : Fld) : (s.setCore g c x).get r = s.get r := rfl

/-! ### setSecCal -/

@[simp] theorem State.pending_setSecCal (k : Nat) (x : SecCal) : (s.setSecCal k x).pending = s.pending := rfl
@[simp] theorem State.regs_setSecCal (k : Nat) (x : SecCal) : (s.setSecCal k x).regs = s.regs := rfl
@[simp] theorem State.latch_setSecCal (k : Nat) (x : SecCal) : (s.setSecCal k x).latch = s.latch := rfl
@[simp] theorem State.tick_setSecCal (k : Nat) (x : SecCal) : (s.setSecCal k x).tick = s.tick := rfl
@[simp] theorem State.free_setSecCal (k : Nat) (x : SecCal) : (s.setSecCal k x).free = s.free := rfl
@[simp] theorem State.answer_setSecCal (k : Nat) (x : SecCal) : (s.setSecCal k x).answer = s.answer := rfl
@[simp] theorem State.hostMem_setSecCal (k : Nat) (x : SecCal) : (s.setSecCal k x).hostMem = s.hostMem := rfl
@[simp] theorem State.host_setSecCal (k : Nat) (x : SecCal) : (s.setSecCal k x).host = s.host := rfl
@[simp] theorem State.lec_setSecCal (k : Nat) (x : SecCal) : (s.setSecCal k x).lec = s.lec := rfl
@[simp] theorem State.quill_setSecCal (k : Nat) (x : SecCal) : (s.setSecCal k x).quill = s.quill := rfl
@[simp] theorem State.clk_setSecCal (k : Nat) (x : SecCal) : (s.setSecCal k x).clk = s.clk := rfl
@[simp] theorem State.rul_setSecCal (k : Nat) (x : SecCal) : (s.setSecCal k x).rul = s.rul := rfl
@[simp] theorem State.err_setSecCal (k : Nat) (x : SecCal) : (s.setSecCal k x).err = s.err := rfl
@[simp] theorem State.dbg_setSecCal (k : Nat) (x : SecCal) : (s.setSecCal k x).dbg = s.dbg := rfl
@[simp] theorem State.vault_setSecCal (k : Nat) (x : SecCal) : (s.setSecCal k x).vault = s.vault := rfl
@[simp] theorem State.nvm_setSecCal (k : Nat) (x : SecCal) : (s.setSecCal k x).nvm = s.nvm := rfl
@[simp] theorem State.mem_setSecCal (k : Nat) (x : SecCal) : (s.setSecCal k x).mem = s.mem := rfl
@[simp] theorem State.ev_setSecCal (k : Nat) (x : SecCal) : (s.setSecCal k x).ev = s.ev := rfl
@[simp] theorem State.chans_setSecCal (k : Nat) (x : SecCal) : (s.setSecCal k x).chans = s.chans := rfl
@[simp] theorem State.cpyWait_setSecCal (k : Nat) (x : SecCal) : (s.setSecCal k x).cpyWait = s.cpyWait := rfl
@[simp] theorem State.scribes_setSecCal (k : Nat) (x : SecCal) : (s.setSecCal k x).scribes = s.scribes := rfl
@[simp] theorem State.octs_setSecCal (k : Nat) (x : SecCal) : (s.setSecCal k x).octs = s.octs := rfl
@[simp] theorem State.balls_setSecCal (k : Nat) (x : SecCal) : (s.setSecCal k x).balls = s.balls := rfl
@[simp] theorem State.dacs_setSecCal (k : Nat) (x : SecCal) : (s.setSecCal k x).dacs = s.dacs := rfl
@[simp] theorem State.parks_setSecCal (k : Nat) (x : SecCal) : (s.setSecCal k x).parks = s.parks := rfl
@[simp] theorem State.settled_setSecCal (k : Nat) (x : SecCal) : (s.setSecCal k x).settled = s.settled := rfl
@[simp] theorem State.sines_setSecCal (k : Nat) (x : SecCal) : (s.setSecCal k x).sines = s.sines := rfl
@[simp] theorem State.sineAt_setSecCal (k : Nat) (x : SecCal) : (s.setSecCal k x).sineAt = s.sineAt := rfl
@[simp] theorem State.hairs_setSecCal (k : Nat) (x : SecCal) : (s.setSecCal k x).hairs = s.hairs := rfl
@[simp] theorem State.tdrs_setSecCal (k : Nat) (x : SecCal) : (s.setSecCal k x).tdrs = s.tdrs := rfl
@[simp] theorem State.dcs_setSecCal (k : Nat) (x : SecCal) : (s.setSecCal k x).dcs = s.dcs := rfl
@[simp] theorem State.rots_setSecCal (k : Nat) (x : SecCal) : (s.setSecCal k x).rots = s.rots := rfl
@[simp] theorem State.cores_setSecCal (k : Nat) (x : SecCal) : (s.setSecCal k x).cores = s.cores := rfl
@[simp] theorem State.procs_setSecCal (k : Nat) (x : SecCal) : (s.setSecCal k x).procs = s.procs := rfl
@[simp] theorem State.margs_setSecCal (k : Nat) (x : SecCal) : (s.setSecCal k x).margs = s.margs := rfl
@[simp] theorem State.blots_setSecCal (k : Nat) (x : SecCal) : (s.setSecCal k x).blots = s.blots := rfl
@[simp] theorem State.rd_setSecCal (k : Nat) (x : SecCal) (r : Nat) : (s.setSecCal k x).rd r = s.rd r := rfl
@[simp] theorem State.get_setSecCal (k : Nat) (x : SecCal) (r : Fld) : (s.setSecCal k x).get r = s.get r := rfl

/-! ### setProc -/

@[simp] theorem State.pending_setProc (k : Nat) (x : Proc) : (s.setProc k x).pending = s.pending := rfl
@[simp] theorem State.regs_setProc (k : Nat) (x : Proc) : (s.setProc k x).regs = s.regs := rfl
@[simp] theorem State.latch_setProc (k : Nat) (x : Proc) : (s.setProc k x).latch = s.latch := rfl
@[simp] theorem State.tick_setProc (k : Nat) (x : Proc) : (s.setProc k x).tick = s.tick := rfl
@[simp] theorem State.free_setProc (k : Nat) (x : Proc) : (s.setProc k x).free = s.free := rfl
@[simp] theorem State.answer_setProc (k : Nat) (x : Proc) : (s.setProc k x).answer = s.answer := rfl
@[simp] theorem State.hostMem_setProc (k : Nat) (x : Proc) : (s.setProc k x).hostMem = s.hostMem := rfl
@[simp] theorem State.host_setProc (k : Nat) (x : Proc) : (s.setProc k x).host = s.host := rfl
@[simp] theorem State.lec_setProc (k : Nat) (x : Proc) : (s.setProc k x).lec = s.lec := rfl
@[simp] theorem State.quill_setProc (k : Nat) (x : Proc) : (s.setProc k x).quill = s.quill := rfl
@[simp] theorem State.clk_setProc (k : Nat) (x : Proc) : (s.setProc k x).clk = s.clk := rfl
@[simp] theorem State.rul_setProc (k : Nat) (x : Proc) : (s.setProc k x).rul = s.rul := rfl
@[simp] theorem State.err_setProc (k : Nat) (x : Proc) : (s.setProc k x).err = s.err := rfl
@[simp] theorem State.dbg_setProc (k : Nat) (x : Proc) : (s.setProc k x).dbg = s.dbg := rfl
@[simp] theorem State.vault_setProc (k : Nat) (x : Proc) : (s.setProc k x).vault = s.vault := rfl
@[simp] theorem State.nvm_setProc (k : Nat) (x : Proc) : (s.setProc k x).nvm = s.nvm := rfl
@[simp] theorem State.mem_setProc (k : Nat) (x : Proc) : (s.setProc k x).mem = s.mem := rfl
@[simp] theorem State.ev_setProc (k : Nat) (x : Proc) : (s.setProc k x).ev = s.ev := rfl
@[simp] theorem State.chans_setProc (k : Nat) (x : Proc) : (s.setProc k x).chans = s.chans := rfl
@[simp] theorem State.cpyWait_setProc (k : Nat) (x : Proc) : (s.setProc k x).cpyWait = s.cpyWait := rfl
@[simp] theorem State.scribes_setProc (k : Nat) (x : Proc) : (s.setProc k x).scribes = s.scribes := rfl
@[simp] theorem State.octs_setProc (k : Nat) (x : Proc) : (s.setProc k x).octs = s.octs := rfl
@[simp] theorem State.balls_setProc (k : Nat) (x : Proc) : (s.setProc k x).balls = s.balls := rfl
@[simp] theorem State.dacs_setProc (k : Nat) (x : Proc) : (s.setProc k x).dacs = s.dacs := rfl
@[simp] theorem State.parks_setProc (k : Nat) (x : Proc) : (s.setProc k x).parks = s.parks := rfl
@[simp] theorem State.settled_setProc (k : Nat) (x : Proc) : (s.setProc k x).settled = s.settled := rfl
@[simp] theorem State.sines_setProc (k : Nat) (x : Proc) : (s.setProc k x).sines = s.sines := rfl
@[simp] theorem State.sineAt_setProc (k : Nat) (x : Proc) : (s.setProc k x).sineAt = s.sineAt := rfl
@[simp] theorem State.hairs_setProc (k : Nat) (x : Proc) : (s.setProc k x).hairs = s.hairs := rfl
@[simp] theorem State.tdrs_setProc (k : Nat) (x : Proc) : (s.setProc k x).tdrs = s.tdrs := rfl
@[simp] theorem State.dcs_setProc (k : Nat) (x : Proc) : (s.setProc k x).dcs = s.dcs := rfl
@[simp] theorem State.rots_setProc (k : Nat) (x : Proc) : (s.setProc k x).rots = s.rots := rfl
@[simp] theorem State.cores_setProc (k : Nat) (x : Proc) : (s.setProc k x).cores = s.cores := rfl
@[simp] theorem State.secCals_setProc (k : Nat) (x : Proc) : (s.setProc k x).secCals = s.secCals := rfl
@[simp] theorem State.margs_setProc (k : Nat) (x : Proc) : (s.setProc k x).margs = s.margs := rfl
@[simp] theorem State.blots_setProc (k : Nat) (x : Proc) : (s.setProc k x).blots = s.blots := rfl
@[simp] theorem State.rd_setProc (k : Nat) (x : Proc) (r : Nat) : (s.setProc k x).rd r = s.rd r := rfl
@[simp] theorem State.get_setProc (k : Nat) (x : Proc) (r : Fld) : (s.setProc k x).get r = s.get r := rfl

/-! ### setMarg -/

@[simp] theorem State.pending_setMarg (k : Nat) (x : Marg) : (s.setMarg k x).pending = s.pending := rfl
@[simp] theorem State.regs_setMarg (k : Nat) (x : Marg) : (s.setMarg k x).regs = s.regs := rfl
@[simp] theorem State.latch_setMarg (k : Nat) (x : Marg) : (s.setMarg k x).latch = s.latch := rfl
@[simp] theorem State.tick_setMarg (k : Nat) (x : Marg) : (s.setMarg k x).tick = s.tick := rfl
@[simp] theorem State.free_setMarg (k : Nat) (x : Marg) : (s.setMarg k x).free = s.free := rfl
@[simp] theorem State.answer_setMarg (k : Nat) (x : Marg) : (s.setMarg k x).answer = s.answer := rfl
@[simp] theorem State.hostMem_setMarg (k : Nat) (x : Marg) : (s.setMarg k x).hostMem = s.hostMem := rfl
@[simp] theorem State.host_setMarg (k : Nat) (x : Marg) : (s.setMarg k x).host = s.host := rfl
@[simp] theorem State.lec_setMarg (k : Nat) (x : Marg) : (s.setMarg k x).lec = s.lec := rfl
@[simp] theorem State.quill_setMarg (k : Nat) (x : Marg) : (s.setMarg k x).quill = s.quill := rfl
@[simp] theorem State.clk_setMarg (k : Nat) (x : Marg) : (s.setMarg k x).clk = s.clk := rfl
@[simp] theorem State.rul_setMarg (k : Nat) (x : Marg) : (s.setMarg k x).rul = s.rul := rfl
@[simp] theorem State.err_setMarg (k : Nat) (x : Marg) : (s.setMarg k x).err = s.err := rfl
@[simp] theorem State.dbg_setMarg (k : Nat) (x : Marg) : (s.setMarg k x).dbg = s.dbg := rfl
@[simp] theorem State.vault_setMarg (k : Nat) (x : Marg) : (s.setMarg k x).vault = s.vault := rfl
@[simp] theorem State.nvm_setMarg (k : Nat) (x : Marg) : (s.setMarg k x).nvm = s.nvm := rfl
@[simp] theorem State.mem_setMarg (k : Nat) (x : Marg) : (s.setMarg k x).mem = s.mem := rfl
@[simp] theorem State.ev_setMarg (k : Nat) (x : Marg) : (s.setMarg k x).ev = s.ev := rfl
@[simp] theorem State.chans_setMarg (k : Nat) (x : Marg) : (s.setMarg k x).chans = s.chans := rfl
@[simp] theorem State.cpyWait_setMarg (k : Nat) (x : Marg) : (s.setMarg k x).cpyWait = s.cpyWait := rfl
@[simp] theorem State.scribes_setMarg (k : Nat) (x : Marg) : (s.setMarg k x).scribes = s.scribes := rfl
@[simp] theorem State.octs_setMarg (k : Nat) (x : Marg) : (s.setMarg k x).octs = s.octs := rfl
@[simp] theorem State.balls_setMarg (k : Nat) (x : Marg) : (s.setMarg k x).balls = s.balls := rfl
@[simp] theorem State.dacs_setMarg (k : Nat) (x : Marg) : (s.setMarg k x).dacs = s.dacs := rfl
@[simp] theorem State.parks_setMarg (k : Nat) (x : Marg) : (s.setMarg k x).parks = s.parks := rfl
@[simp] theorem State.settled_setMarg (k : Nat) (x : Marg) : (s.setMarg k x).settled = s.settled := rfl
@[simp] theorem State.sines_setMarg (k : Nat) (x : Marg) : (s.setMarg k x).sines = s.sines := rfl
@[simp] theorem State.sineAt_setMarg (k : Nat) (x : Marg) : (s.setMarg k x).sineAt = s.sineAt := rfl
@[simp] theorem State.hairs_setMarg (k : Nat) (x : Marg) : (s.setMarg k x).hairs = s.hairs := rfl
@[simp] theorem State.tdrs_setMarg (k : Nat) (x : Marg) : (s.setMarg k x).tdrs = s.tdrs := rfl
@[simp] theorem State.dcs_setMarg (k : Nat) (x : Marg) : (s.setMarg k x).dcs = s.dcs := rfl
@[simp] theorem State.rots_setMarg (k : Nat) (x : Marg) : (s.setMarg k x).rots = s.rots := rfl
@[simp] theorem State.cores_setMarg (k : Nat) (x : Marg) : (s.setMarg k x).cores = s.cores := rfl
@[simp] theorem State.secCals_setMarg (k : Nat) (x : Marg) : (s.setMarg k x).secCals = s.secCals := rfl
@[simp] theorem State.procs_setMarg (k : Nat) (x : Marg) : (s.setMarg k x).procs = s.procs := rfl
@[simp] theorem State.blots_setMarg (k : Nat) (x : Marg) : (s.setMarg k x).blots = s.blots := rfl
@[simp] theorem State.rd_setMarg (k : Nat) (x : Marg) (r : Nat) : (s.setMarg k x).rd r = s.rd r := rfl
@[simp] theorem State.get_setMarg (k : Nat) (x : Marg) (r : Fld) : (s.setMarg k x).get r = s.get r := rfl

/-! ### setBlot -/

@[simp] theorem State.pending_setBlot (k : Nat) (x : Blot) : (s.setBlot k x).pending = s.pending := rfl
@[simp] theorem State.regs_setBlot (k : Nat) (x : Blot) : (s.setBlot k x).regs = s.regs := rfl
@[simp] theorem State.latch_setBlot (k : Nat) (x : Blot) : (s.setBlot k x).latch = s.latch := rfl
@[simp] theorem State.tick_setBlot (k : Nat) (x : Blot) : (s.setBlot k x).tick = s.tick := rfl
@[simp] theorem State.free_setBlot (k : Nat) (x : Blot) : (s.setBlot k x).free = s.free := rfl
@[simp] theorem State.answer_setBlot (k : Nat) (x : Blot) : (s.setBlot k x).answer = s.answer := rfl
@[simp] theorem State.hostMem_setBlot (k : Nat) (x : Blot) : (s.setBlot k x).hostMem = s.hostMem := rfl
@[simp] theorem State.host_setBlot (k : Nat) (x : Blot) : (s.setBlot k x).host = s.host := rfl
@[simp] theorem State.lec_setBlot (k : Nat) (x : Blot) : (s.setBlot k x).lec = s.lec := rfl
@[simp] theorem State.quill_setBlot (k : Nat) (x : Blot) : (s.setBlot k x).quill = s.quill := rfl
@[simp] theorem State.clk_setBlot (k : Nat) (x : Blot) : (s.setBlot k x).clk = s.clk := rfl
@[simp] theorem State.rul_setBlot (k : Nat) (x : Blot) : (s.setBlot k x).rul = s.rul := rfl
@[simp] theorem State.err_setBlot (k : Nat) (x : Blot) : (s.setBlot k x).err = s.err := rfl
@[simp] theorem State.dbg_setBlot (k : Nat) (x : Blot) : (s.setBlot k x).dbg = s.dbg := rfl
@[simp] theorem State.vault_setBlot (k : Nat) (x : Blot) : (s.setBlot k x).vault = s.vault := rfl
@[simp] theorem State.nvm_setBlot (k : Nat) (x : Blot) : (s.setBlot k x).nvm = s.nvm := rfl
@[simp] theorem State.mem_setBlot (k : Nat) (x : Blot) : (s.setBlot k x).mem = s.mem := rfl
@[simp] theorem State.ev_setBlot (k : Nat) (x : Blot) : (s.setBlot k x).ev = s.ev := rfl
@[simp] theorem State.chans_setBlot (k : Nat) (x : Blot) : (s.setBlot k x).chans = s.chans := rfl
@[simp] theorem State.cpyWait_setBlot (k : Nat) (x : Blot) : (s.setBlot k x).cpyWait = s.cpyWait := rfl
@[simp] theorem State.scribes_setBlot (k : Nat) (x : Blot) : (s.setBlot k x).scribes = s.scribes := rfl
@[simp] theorem State.octs_setBlot (k : Nat) (x : Blot) : (s.setBlot k x).octs = s.octs := rfl
@[simp] theorem State.balls_setBlot (k : Nat) (x : Blot) : (s.setBlot k x).balls = s.balls := rfl
@[simp] theorem State.dacs_setBlot (k : Nat) (x : Blot) : (s.setBlot k x).dacs = s.dacs := rfl
@[simp] theorem State.parks_setBlot (k : Nat) (x : Blot) : (s.setBlot k x).parks = s.parks := rfl
@[simp] theorem State.settled_setBlot (k : Nat) (x : Blot) : (s.setBlot k x).settled = s.settled := rfl
@[simp] theorem State.sines_setBlot (k : Nat) (x : Blot) : (s.setBlot k x).sines = s.sines := rfl
@[simp] theorem State.sineAt_setBlot (k : Nat) (x : Blot) : (s.setBlot k x).sineAt = s.sineAt := rfl
@[simp] theorem State.hairs_setBlot (k : Nat) (x : Blot) : (s.setBlot k x).hairs = s.hairs := rfl
@[simp] theorem State.tdrs_setBlot (k : Nat) (x : Blot) : (s.setBlot k x).tdrs = s.tdrs := rfl
@[simp] theorem State.dcs_setBlot (k : Nat) (x : Blot) : (s.setBlot k x).dcs = s.dcs := rfl
@[simp] theorem State.rots_setBlot (k : Nat) (x : Blot) : (s.setBlot k x).rots = s.rots := rfl
@[simp] theorem State.cores_setBlot (k : Nat) (x : Blot) : (s.setBlot k x).cores = s.cores := rfl
@[simp] theorem State.secCals_setBlot (k : Nat) (x : Blot) : (s.setBlot k x).secCals = s.secCals := rfl
@[simp] theorem State.procs_setBlot (k : Nat) (x : Blot) : (s.setBlot k x).procs = s.procs := rfl
@[simp] theorem State.margs_setBlot (k : Nat) (x : Blot) : (s.setBlot k x).margs = s.margs := rfl
@[simp] theorem State.rd_setBlot (k : Nat) (x : Blot) (r : Nat) : (s.setBlot k x).rd r = s.rd r := rfl
@[simp] theorem State.get_setBlot (k : Nat) (x : Blot) (r : Fld) : (s.setBlot k x).get r = s.get r := rfl

/-! ### toHost -/

@[simp] theorem State.pending_toHost (a : Nat) (bs : List Byte) : (s.toHost a bs).pending = s.pending := rfl
@[simp] theorem State.regs_toHost (a : Nat) (bs : List Byte) : (s.toHost a bs).regs = s.regs := rfl
@[simp] theorem State.latch_toHost (a : Nat) (bs : List Byte) : (s.toHost a bs).latch = s.latch := rfl
@[simp] theorem State.tick_toHost (a : Nat) (bs : List Byte) : (s.toHost a bs).tick = s.tick := rfl
@[simp] theorem State.free_toHost (a : Nat) (bs : List Byte) : (s.toHost a bs).free = s.free := rfl
@[simp] theorem State.answer_toHost (a : Nat) (bs : List Byte) : (s.toHost a bs).answer = s.answer := rfl
@[simp] theorem State.host_toHost (a : Nat) (bs : List Byte) : (s.toHost a bs).host = s.host := rfl
@[simp] theorem State.lec_toHost (a : Nat) (bs : List Byte) : (s.toHost a bs).lec = s.lec := rfl
@[simp] theorem State.quill_toHost (a : Nat) (bs : List Byte) : (s.toHost a bs).quill = s.quill := rfl
@[simp] theorem State.clk_toHost (a : Nat) (bs : List Byte) : (s.toHost a bs).clk = s.clk := rfl
@[simp] theorem State.rul_toHost (a : Nat) (bs : List Byte) : (s.toHost a bs).rul = s.rul := rfl
@[simp] theorem State.err_toHost (a : Nat) (bs : List Byte) : (s.toHost a bs).err = s.err := rfl
@[simp] theorem State.dbg_toHost (a : Nat) (bs : List Byte) : (s.toHost a bs).dbg = s.dbg := rfl
@[simp] theorem State.vault_toHost (a : Nat) (bs : List Byte) : (s.toHost a bs).vault = s.vault := rfl
@[simp] theorem State.nvm_toHost (a : Nat) (bs : List Byte) : (s.toHost a bs).nvm = s.nvm := rfl
@[simp] theorem State.mem_toHost (a : Nat) (bs : List Byte) : (s.toHost a bs).mem = s.mem := rfl
@[simp] theorem State.ev_toHost (a : Nat) (bs : List Byte) : (s.toHost a bs).ev = s.ev := rfl
@[simp] theorem State.chans_toHost (a : Nat) (bs : List Byte) : (s.toHost a bs).chans = s.chans := rfl
@[simp] theorem State.cpyWait_toHost (a : Nat) (bs : List Byte) : (s.toHost a bs).cpyWait = s.cpyWait := rfl
@[simp] theorem State.scribes_toHost (a : Nat) (bs : List Byte) : (s.toHost a bs).scribes = s.scribes := rfl
@[simp] theorem State.octs_toHost (a : Nat) (bs : List Byte) : (s.toHost a bs).octs = s.octs := rfl
@[simp] theorem State.balls_toHost (a : Nat) (bs : List Byte) : (s.toHost a bs).balls = s.balls := rfl
@[simp] theorem State.dacs_toHost (a : Nat) (bs : List Byte) : (s.toHost a bs).dacs = s.dacs := rfl
@[simp] theorem State.parks_toHost (a : Nat) (bs : List Byte) : (s.toHost a bs).parks = s.parks := rfl
@[simp] theorem State.settled_toHost (a : Nat) (bs : List Byte) : (s.toHost a bs).settled = s.settled := rfl
@[simp] theorem State.sines_toHost (a : Nat) (bs : List Byte) : (s.toHost a bs).sines = s.sines := rfl
@[simp] theorem State.sineAt_toHost (a : Nat) (bs : List Byte) : (s.toHost a bs).sineAt = s.sineAt := rfl
@[simp] theorem State.hairs_toHost (a : Nat) (bs : List Byte) : (s.toHost a bs).hairs = s.hairs := rfl
@[simp] theorem State.tdrs_toHost (a : Nat) (bs : List Byte) : (s.toHost a bs).tdrs = s.tdrs := rfl
@[simp] theorem State.dcs_toHost (a : Nat) (bs : List Byte) : (s.toHost a bs).dcs = s.dcs := rfl
@[simp] theorem State.rots_toHost (a : Nat) (bs : List Byte) : (s.toHost a bs).rots = s.rots := rfl
@[simp] theorem State.cores_toHost (a : Nat) (bs : List Byte) : (s.toHost a bs).cores = s.cores := rfl
@[simp] theorem State.secCals_toHost (a : Nat) (bs : List Byte) : (s.toHost a bs).secCals = s.secCals := rfl
@[simp] theorem State.procs_toHost (a : Nat) (bs : List Byte) : (s.toHost a bs).procs = s.procs := rfl
@[simp] theorem State.margs_toHost (a : Nat) (bs : List Byte) : (s.toHost a bs).margs = s.margs := rfl
@[simp] theorem State.blots_toHost (a : Nat) (bs : List Byte) : (s.toHost a bs).blots = s.blots := rfl
@[simp] theorem State.rd_toHost (a : Nat) (bs : List Byte) (r : Nat) : (s.toHost a bs).rd r = s.rd r := rfl
@[simp] theorem State.get_toHost (a : Nat) (bs : List Byte) (r : Fld) : (s.toHost a bs).get r = s.get r := rfl

/-! ### answers -/

@[simp] theorem State.pending_answers (ws : List Word) : (s.answers ws).pending = s.pending := rfl
@[simp] theorem State.regs_answers (ws : List Word) : (s.answers ws).regs = s.regs := rfl
@[simp] theorem State.latch_answers (ws : List Word) : (s.answers ws).latch = s.latch := rfl
@[simp] theorem State.tick_answers (ws : List Word) : (s.answers ws).tick = s.tick := rfl
@[simp] theorem State.free_answers (ws : List Word) : (s.answers ws).free = s.free := rfl
@[simp] theorem State.hostMem_answers (ws : List Word) : (s.answers ws).hostMem = s.hostMem := rfl
@[simp] theorem State.host_answers (ws : List Word) : (s.answers ws).host = s.host := rfl
@[simp] theorem State.lec_answers (ws : List Word) : (s.answers ws).lec = s.lec := rfl
@[simp] theorem State.quill_answers (ws : List Word) : (s.answers ws).quill = s.quill := rfl
@[simp] theorem State.clk_answers (ws : List Word) : (s.answers ws).clk = s.clk := rfl
@[simp] theorem State.rul_answers (ws : List Word) : (s.answers ws).rul = s.rul := rfl
@[simp] theorem State.err_answers (ws : List Word) : (s.answers ws).err = s.err := rfl
@[simp] theorem State.dbg_answers (ws : List Word) : (s.answers ws).dbg = s.dbg := rfl
@[simp] theorem State.vault_answers (ws : List Word) : (s.answers ws).vault = s.vault := rfl
@[simp] theorem State.nvm_answers (ws : List Word) : (s.answers ws).nvm = s.nvm := rfl
@[simp] theorem State.mem_answers (ws : List Word) : (s.answers ws).mem = s.mem := rfl
@[simp] theorem State.ev_answers (ws : List Word) : (s.answers ws).ev = s.ev := rfl
@[simp] theorem State.chans_answers (ws : List Word) : (s.answers ws).chans = s.chans := rfl
@[simp] theorem State.cpyWait_answers (ws : List Word) : (s.answers ws).cpyWait = s.cpyWait := rfl
@[simp] theorem State.scribes_answers (ws : List Word) : (s.answers ws).scribes = s.scribes := rfl
@[simp] theorem State.octs_answers (ws : List Word) : (s.answers ws).octs = s.octs := rfl
@[simp] theorem State.balls_answers (ws : List Word) : (s.answers ws).balls = s.balls := rfl
@[simp] theorem State.dacs_answers (ws : List Word) : (s.answers ws).dacs = s.dacs := rfl
@[simp] theorem State.parks_answers (ws : List Word) : (s.answers ws).parks = s.parks := rfl
@[simp] theorem State.settled_answers (ws : List Word) : (s.answers ws).settled = s.settled := rfl
@[simp] theorem State.sines_answers (ws : List Word) : (s.answers ws).sines = s.sines := rfl
@[simp] theorem State.sineAt_answers (ws : List Word) : (s.answers ws).sineAt = s.sineAt := rfl
@[simp] theorem State.hairs_answers (ws : List Word) : (s.answers ws).hairs = s.hairs := rfl
@[simp] theorem State.tdrs_answers (ws : List Word) : (s.answers ws).tdrs = s.tdrs := rfl
@[simp] theorem State.dcs_answers (ws : List Word) : (s.answers ws).dcs = s.dcs := rfl
@[simp] theorem State.rots_answers (ws : List Word) : (s.answers ws).rots = s.rots := rfl
@[simp] theorem State.cores_answers (ws : List Word) : (s.answers ws).cores = s.cores := rfl
@[simp] theorem State.secCals_answers (ws : List Word) : (s.answers ws).secCals = s.secCals := rfl
@[simp] theorem State.procs_answers (ws : List Word) : (s.answers ws).procs = s.procs := rfl
@[simp] theorem State.margs_answers (ws : List Word) : (s.answers ws).margs = s.margs := rfl
@[simp] theorem State.blots_answers (ws : List Word) : (s.answers ws).blots = s.blots := rfl
@[simp] theorem State.rd_answers (ws : List Word) (r : Nat) : (s.answers ws).rd r = s.rd r := rfl
@[simp] theorem State.get_answers (ws : List Word) (r : Fld) : (s.answers ws).get r = s.get r := rfl

/-! ### answersBytes -/

@[simp] theorem State.pending_answersBytes (bs : List Byte) : (s.answersBytes bs).pending = s.pending := rfl
@[simp] theorem State.regs_answersBytes (bs : List Byte) : (s.answersBytes bs).regs = s.regs := rfl
@[simp] theorem State.latch_answersBytes (bs : List Byte) : (s.answersBytes bs).latch = s.latch := rfl
@[simp] theorem State.tick_answersBytes (bs : List Byte) : (s.answersBytes bs).tick = s.tick := rfl
@[simp] theorem State.free_answersBytes (bs : List Byte) : (s.answersBytes bs).free = s.free := rfl
@[simp] theorem State.hostMem_answersBytes (bs : List Byte) : (s.answersBytes bs).hostMem = s.hostMem := rfl
@[simp] theorem State.host_answersBytes (bs : List Byte) : (s.answersBytes bs).host = s.host := rfl
@[simp] theorem State.lec_answersBytes (bs : List Byte) : (s.answersBytes bs).lec = s.lec := rfl
@[simp] theorem State.quill_answersBytes (bs : List Byte) : (s.answersBytes bs).quill = s.quill := rfl
@[simp] theorem State.clk_answersBytes (bs : List Byte) : (s.answersBytes bs).clk = s.clk := rfl
@[simp] theorem State.rul_answersBytes (bs : List Byte) : (s.answersBytes bs).rul = s.rul := rfl
@[simp] theorem State.err_answersBytes (bs : List Byte) : (s.answersBytes bs).err = s.err := rfl
@[simp] theorem State.dbg_answersBytes (bs : List Byte) : (s.answersBytes bs).dbg = s.dbg := rfl
@[simp] theorem State.vault_answersBytes (bs : List Byte) : (s.answersBytes bs).vault = s.vault := rfl
@[simp] theorem State.nvm_answersBytes (bs : List Byte) : (s.answersBytes bs).nvm = s.nvm := rfl
@[simp] theorem State.mem_answersBytes (bs : List Byte) : (s.answersBytes bs).mem = s.mem := rfl
@[simp] theorem State.ev_answersBytes (bs : List Byte) : (s.answersBytes bs).ev = s.ev := rfl
@[simp] theorem State.chans_answersBytes (bs : List Byte) : (s.answersBytes bs).chans = s.chans := rfl
@[simp] theorem State.cpyWait_answersBytes (bs : List Byte) : (s.answersBytes bs).cpyWait = s.cpyWait := rfl
@[simp] theorem State.scribes_answersBytes (bs : List Byte) : (s.answersBytes bs).scribes = s.scribes := rfl
@[simp] theorem State.octs_answersBytes (bs : List Byte) : (s.answersBytes bs).octs = s.octs := rfl
@[simp] theorem State.balls_answersBytes (bs : List Byte) : (s.answersBytes bs).balls = s.balls := rfl
@[simp] theorem State.dacs_answersBytes (bs : List Byte) : (s.answersBytes bs).dacs = s.dacs := rfl
@[simp] theorem State.parks_answersBytes (bs : List Byte) : (s.answersBytes bs).parks = s.parks := rfl
@[simp] theorem State.settled_answersBytes (bs : List Byte) : (s.answersBytes bs).settled = s.settled := rfl
@[simp] theorem State.sines_answersBytes (bs : List Byte) : (s.answersBytes bs).sines = s.sines := rfl
@[simp] theorem State.sineAt_answersBytes (bs : List Byte) : (s.answersBytes bs).sineAt = s.sineAt := rfl
@[simp] theorem State.hairs_answersBytes (bs : List Byte) : (s.answersBytes bs).hairs = s.hairs := rfl
@[simp] theorem State.tdrs_answersBytes (bs : List Byte) : (s.answersBytes bs).tdrs = s.tdrs := rfl
@[simp] theorem State.dcs_answersBytes (bs : List Byte) : (s.answersBytes bs).dcs = s.dcs := rfl
@[simp] theorem State.rots_answersBytes (bs : List Byte) : (s.answersBytes bs).rots = s.rots := rfl
@[simp] theorem State.cores_answersBytes (bs : List Byte) : (s.answersBytes bs).cores = s.cores := rfl
@[simp] theorem State.secCals_answersBytes (bs : List Byte) : (s.answersBytes bs).secCals = s.secCals := rfl
@[simp] theorem State.procs_answersBytes (bs : List Byte) : (s.answersBytes bs).procs = s.procs := rfl
@[simp] theorem State.margs_answersBytes (bs : List Byte) : (s.answersBytes bs).margs = s.margs := rfl
@[simp] theorem State.blots_answersBytes (bs : List Byte) : (s.answersBytes bs).blots = s.blots := rfl
@[simp] theorem State.rd_answersBytes (bs : List Byte) (r : Nat) : (s.answersBytes bs).rd r = s.rd r := rfl
@[simp] theorem State.get_answersBytes (bs : List Byte) (r : Fld) : (s.answersBytes bs).get r = s.get r := rfl

/-! ### Units read back -/

theorem State.chan_setChan (c : Nat) (x : Chan) (j : Nat) : (s.setChan c x).chan j = if j = c then x else s.chan j := Tab.get_put _ _ _ _
@[simp] theorem State.chan_setChan_same (c : Nat) (x : Chan) : (s.setChan c x).chan c = x := by rw [State.chan_setChan, if_pos rfl]
theorem State.scribe_setScribe (k : Nat) (x : Scribe) (j : Nat) : (s.setScribe k x).scribe j = if j = k then x else s.scribe j := Tab.get_put _ _ _ _
@[simp] theorem State.scribe_setScribe_same (k : Nat) (x : Scribe) : (s.setScribe k x).scribe k = x := by rw [State.scribe_setScribe, if_pos rfl]
theorem State.oct_setOct (g : Nat) (x : OctetRun) (j : Nat) : (s.setOct g x).oct j = if j = g then x else s.oct j := Tab.get_put _ _ _ _
@[simp] theorem State.oct_setOct_same (g : Nat) (x : OctetRun) : (s.setOct g x).oct g = x := by rw [State.oct_setOct, if_pos rfl]
theorem State.sine_setSine (g : Nat) (x : Sine) (j : Nat) : (s.setSine g x).sine j = if j = g then x else s.sine j := Tab.get_put _ _ _ _
@[simp] theorem State.sine_setSine_same (g : Nat) (x : Sine) : (s.setSine g x).sine g = x := by rw [State.sine_setSine, if_pos rfl]
theorem State.hair_setHair (g : Nat) (x : Hair) (j : Nat) : (s.setHair g x).hair j = if j = g then x else s.hair j := Tab.get_put _ _ _ _
@[simp] theorem State.hair_setHair_same (g : Nat) (x : Hair) : (s.setHair g x).hair g = x := by rw [State.hair_setHair, if_pos rfl]
theorem State.tdr_setTdr (g : Nat) (x : Tdr) (j : Nat) : (s.setTdr g x).tdr j = if j = g then x else s.tdr j := Tab.get_put _ _ _ _
@[simp] theorem State.tdr_setTdr_same (g : Nat) (x : Tdr) : (s.setTdr g x).tdr g = x := by rw [State.tdr_setTdr, if_pos rfl]
theorem State.dcUnit_setDc (g : Nat) (x : DcUnit) (j : Nat) : (s.setDc g x).dcUnit j = if j = g then x else s.dcUnit j := Tab.get_put _ _ _ _
@[simp] theorem State.dcUnit_setDc_same (g : Nat) (x : DcUnit) : (s.setDc g x).dcUnit g = x := by rw [State.dcUnit_setDc, if_pos rfl]
theorem State.rot_setRot (g : Nat) (x : Rot) (j : Nat) : (s.setRot g x).rot j = if j = g then x else s.rot j := Tab.get_put _ _ _ _
@[simp] theorem State.rot_setRot_same (g : Nat) (x : Rot) : (s.setRot g x).rot g = x := by rw [State.rot_setRot, if_pos rfl]
theorem State.secCal_setSecCal (k : Nat) (x : SecCal) (j : Nat) : (s.setSecCal k x).secCal j = if j = k then x else s.secCal j := Tab.get_put _ _ _ _
@[simp] theorem State.secCal_setSecCal_same (k : Nat) (x : SecCal) : (s.setSecCal k x).secCal k = x := by rw [State.secCal_setSecCal, if_pos rfl]
theorem State.proc_setProc (k : Nat) (x : Proc) (j : Nat) : (s.setProc k x).proc j = if j = k then x else s.proc j := Tab.get_put _ _ _ _
@[simp] theorem State.proc_setProc_same (k : Nat) (x : Proc) : (s.setProc k x).proc k = x := by rw [State.proc_setProc, if_pos rfl]
theorem State.marg_setMarg (k : Nat) (x : Marg) (j : Nat) : (s.setMarg k x).marg j = if j = k then x else s.marg j := Tab.get_put _ _ _ _
@[simp] theorem State.marg_setMarg_same (k : Nat) (x : Marg) : (s.setMarg k x).marg k = x := by rw [State.marg_setMarg, if_pos rfl]
theorem State.blot_setBlot (k : Nat) (x : Blot) (j : Nat) : (s.setBlot k x).blot j = if j = k then x else s.blot j := Tab.get_put _ _ _ _
@[simp] theorem State.blot_setBlot_same (k : Nat) (x : Blot) : (s.setBlot k x).blot k = x := by rw [State.blot_setBlot, if_pos rfl]
theorem State.ball_setBall (g l : Nat) (x : Ball) (a b : Nat) :
    (s.setBall g l x).ball a b = if 8 * a + b = 8 * g + l then x else s.ball a b := Tab.get_put _ _ _ _
@[simp] theorem State.ball_setBall_same (g l : Nat) (x : Ball) : (s.setBall g l x).ball g l = x := by rw [State.ball_setBall, if_pos rfl]
theorem State.dac_setDac (g l k : Nat) (x : Dac) (a b e : Nat) :
    (s.setDac g l k x).dac a b e = if 72 * a + 8 * b + e = 72 * g + 8 * l + k then x else s.dac a b e := Tab.get_put _ _ _ _
@[simp] theorem State.dac_setDac_same (g l k : Nat) (x : Dac) : (s.setDac g l k x).dac g l k = x := by rw [State.dac_setDac, if_pos rfl]
theorem State.core_setCore (g c : Nat) (x : CoreCal) (a b : Nat) :
    (s.setCore g c x).core a b = if 9 * a + b = 9 * g + c then x else s.core a b := Tab.get_put _ _ _ _
@[simp] theorem State.core_setCore_same (g c : Nat) (x : CoreCal) : (s.setCore g c x).core g c = x := by rw [State.core_setCore, if_pos rfl]

end Sys2Proof.Machine
end

