-- ==== Sys2Proof/Laws/After.lean ====
section
/-! SUPPORT. What every operation keeps: the canonical form, the queue, the tick counter but for a reset of the device, and
a count of free values that never falls. -/

namespace Sys2Proof.Machine

/-- A state that an operation may leave behind: canonical if the old one was, with the same queue, the same tick counter or
the one of a reset, and no fewer free values taken. -/
structure State.After (s t : State) : Prop where
  canonical : s.Canonical → t.Canonical
  queue : t.pending = s.pending
  tick : t.tick = s.tick ∨ t.tick = 0
  free : s.free ≤ t.free

theorem State.After.refl (s : State) : s.After s := ⟨id, rfl, .inl rfl, Nat.le_refl _⟩

theorem State.After.trans {r s t : State} (h : r.After s) (k : s.After t) : r.After t :=
  ⟨fun c => k.canonical (h.canonical c), k.queue.trans h.queue,
    k.tick.elim (fun e => h.tick.imp (e.trans ·) (e.trans ·)) .inr, Nat.le_trans h.free k.free⟩

/-- Fields that the relation does not speak of may change. -/
theorem State.After.same {r s t : State} (h : r.After s) (hp : t.pending = s.pending) (hr : t.regs = s.regs) (ht : t.tick = s.tick)
    (hf : t.free = s.free) (hh : t.hostMem = s.hostMem) (hm : t.mem.mem = s.mem.mem) (hw : t.host.window = s.host.window)
    (hv : t.vault.sram = s.vault.sram) (hn : t.nvm.flash = s.nvm.flash) : r.After t where
  canonical c := by
    have k := h.canonical c
    exact ⟨hr ▸ k.regs, by rw [hh]; exact k.hostMem, by rw [hm]; exact k.stores, by rw [hw]; exact k.window,
      by rw [hv]; exact k.sram, by rw [hn]; exact k.flash⟩
  queue := hp.trans h.queue
  tick := ht ▸ h.tick
  free := hf ▸ h.free

/-- The fields of a record update that the relation speaks of. -/
structure Upd (r : State) (pending : List Instr) (regs : Tab Word) (tick free : Nat) (hostMem : Tab Byte) (host : HostPort)
    (vault : Vault) (nvm : Nvm) (mem : Stores) : Prop where
  after : r.After { pending, regs, tick, free, hostMem, host, vault, nvm, mem }

theorem State.After.mk_eq {r : State} {pending regs latch tick free answer hostMem host lec quill clk rul err dbg vault nvm mem ev chans
    cpyWait scribes octs balls dacs parks settled sines sineAt hairs tdrs dcs rots cores secCals procs margs blots} :
    r.After (.mk pending regs latch tick free answer hostMem host lec quill clk rul err dbg vault nvm mem ev chans cpyWait scribes octs
      balls dacs parks settled sines sineAt hairs tdrs dcs rots cores secCals procs margs blots)
      = Upd r pending regs tick free hostMem host vault nvm mem :=
  propext ⟨fun h => ⟨h.same rfl rfl rfl rfl rfl rfl rfl rfl rfl⟩, fun h => h.after.same rfl rfl rfl rfl rfl rfl rfl rfl rfl⟩

/-- A table stays in canonical form. -/
structure Tab.Keeps {α : Type} [DecidableEq α] (d : Nat → α) (m m' : Tab α) : Prop where
  wf : Tab.wf d m = true → Tab.wf d m' = true

section
variable {α : Type} [DecidableEq α] {d : Nat → α} {m m' : Tab α}

theorem Tab.Keeps.same : Tab.Keeps d m m := ⟨id⟩
theorem Tab.Keeps.nil : Tab.Keeps d m [] := ⟨fun _ => rfl⟩
theorem Tab.Keeps.put (h : Tab.Keeps d m m') (a : Nat) (v : α) : Tab.Keeps d m (Tab.put d m' a v) := ⟨fun w => Tab.wf_put _ _ _ (h.wf w)⟩
theorem Tab.Keeps.filter (h : Tab.Keeps d m m') (p : Nat × α → Bool) : Tab.Keeps d m (m'.filter p) := ⟨fun w => Tab.wf_filter _ _ (h.wf w)⟩
theorem Tab.Keeps.foldl {β : Type} (h : Tab.Keeps d m m') (l : List β) (f : Tab α → β → Tab α)
    (hf : ∀ t b, Tab.Keeps d m t → Tab.Keeps d m (f t b)) : Tab.Keeps d m (l.foldl f m') := by
  induction l generalizing m' with
  | nil => exact h
  | cons b t ih => exact ih (hf _ b h)

end

theorem Memory.keeps_memWr {m m' : Tab Byte} (h : Tab.Keeps memDefault m m') (a : Nat) (b : Byte) :
    Tab.Keeps memDefault m (memWr m' a b) := h.put a b

theorem Memory.keeps_memWrs {m m' : Tab Byte} (h : Tab.Keeps memDefault m m') (a : Nat) (bs : List Byte) :
    Tab.Keeps memDefault m (memWrs m' a bs) := ⟨fun w => Memory.wf_memWrs _ _ _ (h.wf w)⟩

/-- A record update that keeps the memories canonical. -/
theorem Upd.of {r s : State} {host : HostPort} {vault : Vault} {nvm : Nvm} {mem : Stores} (h : r.After s)
    (hm : Tab.Keeps memDefault s.mem.mem mem.mem) (hw : Tab.Keeps memDefault s.host.window host.window)
    (hv : Tab.Keeps memDefault s.vault.sram vault.sram) (hn : Tab.Keeps flashDefault s.nvm.flash nvm.flash) :
    Upd r s.pending s.regs s.tick s.free s.hostMem host vault nvm mem where
  after :=
    { canonical := fun c => by
        have k := h.canonical c
        exact ⟨k.regs, k.hostMem, hm.wf k.stores, hw.wf k.window, hv.wf k.sram, hn.wf k.flash⟩
      queue := h.queue
      tick := h.tick
      free := h.free }

/-- A reset of the device: the tick counter returns to 0. -/
theorem Upd.restart {r s : State} {regs : Tab Word} {host : HostPort} {vault : Vault} {nvm : Nvm} {mem : Stores} (h : r.After s)
    (hr : Tab.Keeps resetOf s.regs regs) (hm : Tab.Keeps memDefault s.mem.mem mem.mem) (hw : Tab.Keeps memDefault s.host.window host.window)
    (hv : Tab.Keeps memDefault s.vault.sram vault.sram) (hn : Tab.Keeps flashDefault s.nvm.flash nvm.flash) :
    Upd r s.pending regs 0 s.free s.hostMem host vault nvm mem where
  after :=
    { canonical := fun c => by
        have k := h.canonical c
        exact ⟨hr.wf k.regs, k.hostMem, hm.wf k.stores, hw.wf k.window, hv.wf k.sram, hn.wf k.flash⟩
      queue := h.queue
      tick := .inr rfl
      free := h.free }

/-- A change of the registers that keeps their canonical form. -/
theorem State.After.regs {r s : State} (h : r.After s) (l : Tab Word) (latch : Tab Nat)
    (hl : Tab.wf resetOf s.regs = true → Tab.wf resetOf l = true) : r.After { s with regs := l, latch := latch } where
  canonical c := by
    have k := h.canonical c
    exact ⟨hl k.regs, k.hostMem, k.stores, k.window, k.sram, k.flash⟩
  queue := h.queue
  tick := h.tick
  free := h.free

variable {r s : State}

theorem State.wr_after (h : r.After s) (a : Nat) (v : Word) : r.After (s.wr a v) := h.regs _ _ (Tab.wf_put _ _ _)

theorem State.set_after (h : r.After s) (f : Fld) (v : Nat) : r.After (s.set f v) := State.wr_after h _ _

theorem State.setB_after (h : r.After s) (f : Fld) (b : Bool) : r.After (s.setB f b) := State.set_after h _ _

theorem State.bump_after (h : r.After s) (f : Fld) (n : Nat) : r.After (s.bump f n) := State.set_after h _ _

theorem State.set64_after (h : r.After s) (lo hi v : Nat) : r.After (s.set64 lo hi v) := State.wr_after (State.wr_after h _ _) _ _

theorem State.resetRegs_after (h : r.After s) (p : Nat → Bool) : r.After (s.resetRegs p) := h.regs _ _ (Tab.wf_filter _ _)

theorem State.when_after (h : r.After s) (c : Bool) (f : State → State) (hf : ∀ u, r.After u → r.After (f u)) :
    r.After (s.when c f) := State.when_keeps _ _ _ _ hf h

theorem State.each_after {α : Type} (h : r.After s) (l : List α) (f : State → α → State)
    (hf : ∀ u a, r.After u → r.After (f u a)) : r.After (s.each l f) := State.each_keeps _ _ _ _ hf h

theorem State.After.ite {c : Prop} [Decidable c] {t u : State} (h : r.After t) (k : r.After u) : r.After (if c then t else u) := by
  split
  · exact h
  · exact k

theorem State.After.ite_fst {β : Type} {c : Prop} [Decidable c] {t u : State × β} (h : r.After t.1) (k : r.After u.1) :
    r.After (if c then t else u).1 := by
  split
  · exact h
  · exact k

theorem State.After.ite_snd {β : Type} {c : Prop} [Decidable c] {t u : β × State} (h : r.After t.2) (k : r.After u.2) :
    r.After (if c then t else u).2 := by
  split
  · exact h
  · exact k

theorem foldl_after {α : Type} (h : r.After s) (l : List α) (f : State → α → State) (hf : ∀ u a, r.After u → r.After (f u a)) :
    r.After (l.foldl f s) := State.each_after h l f hf

/-- A repetition that carries a value beside the state. -/
theorem foldl_snd_after {α β : Type} {p : β × State} (h : r.After p.2) (l : List α) (f : β × State → α → β × State)
    (hf : ∀ p a, r.After p.2 → r.After (f p a).2) : r.After (l.foldl f p).2 := by
  induction l generalizing p with
  | nil => exact h
  | cons a t ih => exact ih (hf p a h)

theorem foldl_fst_after {α β : Type} {p : State × β} (h : r.After p.1) (l : List α) (f : State × β → α → State × β)
    (hf : ∀ p a, r.After p.1 → r.After (f p a).1) : r.After (l.foldl f p).1 := by
  induction l generalizing p with
  | nil => exact h
  | cons a t ih => exact ih (hf p a h)

theorem State.fresh_after (h : r.After s) : r.After s.fresh.2 :=
  ⟨fun c => ⟨(h.canonical c).regs, (h.canonical c).hostMem, (h.canonical c).stores, (h.canonical c).window,
    (h.canonical c).sram, (h.canonical c).flash⟩, h.queue, h.tick, Nat.le_succ_of_le h.free⟩

theorem State.toHost_after (h : r.After s) (a : Nat) (bs : List Byte) : r.After (s.toHost a bs) :=
  ⟨fun c => ⟨(h.canonical c).regs, Memory.wf_memWrs _ _ _ (h.canonical c).hostMem, (h.canonical c).stores, (h.canonical c).window,
    (h.canonical c).sram, (h.canonical c).flash⟩, h.queue, h.tick, h.free⟩

/-- An outcome is a next state that an operation may leave behind. -/
structure Gives (r : State) (o : Host.Outcome State Fault Refusal) : Prop where
  after : ∃ t, o = .next t ∧ r.After t

theorem Gives.next {r t : State} (h : r.After t) : Gives r (.next t) := ⟨t, rfl, h⟩

theorem Gives.ite {r : State} {c : Prop} [Decidable c] {o p : Host.Outcome State Fault Refusal} (h : Gives r o) (k : Gives r p) :
    Gives r (if c then o else p) := by
  split
  · exact h
  · exact k

end Sys2Proof.Machine
end

