-- ==== Sys2Proof/Laws/AfterUnits.lean ====
section
/-! SUPPORT. That the registers, units and shared services leave behind what an operation may. -/

namespace Sys2Proof.Machine
open Reg

variable {s₀ s : State}

/-! ### Ops -/

theorem State.signal_after (h : s₀.After s) (v : Nat) : s₀.After (State.signal s v) := by
  unfold State.signal
  try dsimp only
  with_reducible repeat' first
    | assumption | apply Tab.Keeps.same | apply State.After.ite | simp only [State.After.mk_eq] | apply Upd.of

theorem State.setSignal_after (h : s₀.After s) (f : Fld) (v : Nat) : s₀.After (State.setSignal s f v) := by
  unfold State.setSignal
  try dsimp only
  with_reducible repeat' first | assumption | apply State.After.ite | apply State.set_after | apply State.signal_after

theorem State.answers_after (h : s₀.After s) (ws : List Word) : s₀.After (State.answers s ws) := by
  unfold State.answers
  try dsimp only
  with_reducible repeat' first | assumption | apply Tab.Keeps.same | simp only [State.After.mk_eq] | apply Upd.of

theorem State.answersBytes_after (h : s₀.After s) (bs : List Byte) : s₀.After (State.answersBytes s bs) := by
  unfold State.answersBytes
  try dsimp only
  with_reducible repeat' first | assumption | apply Tab.Keeps.same | simp only [State.After.mk_eq] | apply Upd.of

/-! ### LecternOps -/

theorem State.setJobs_after (h : s₀.After s) (js : List Job) : s₀.After (State.setJobs s js) := by
  unfold State.setJobs
  try dsimp only
  with_reducible repeat' first
    | assumption | apply Tab.Keeps.same | apply State.set_after | simp only [State.After.mk_eq] | apply Upd.of

theorem State.start_after (h : s₀.After s) (op : Nat) {p : Packet} {t : State} (e : s.start op = some (p, t)) :
    s₀.After t := by
  unfold State.start at e
  dsimp only at e
  repeat' split at e
  all_goals cases e
  all_goals
    simp only [State.After.mk_eq]
    with_reducible apply Upd.of <;> first | exact .same | assumption

theorem State.replyJob_after (h : s₀.After s) (j : Job) (status : Nat) (result : List Word) :
    s₀.After (State.replyJob s j status result) := by
  unfold State.replyJob
  try dsimp only
  with_reducible repeat' first | assumption | apply Tab.Keeps.same | simp only [State.After.mk_eq] | apply Upd.of

theorem State.reply_after (h : s₀.After s) (p : Packet) (status : Nat) (fields : List (Nat × Nat)) :
    s₀.After (State.reply s p status fields) := by
  unfold State.reply
  try dsimp only
  with_reducible repeat' first | assumption | apply State.replyJob_after

theorem State.addJob_after (h : s₀.After s) (p : Packet) (mask aux : Nat) :
    s₀.After (State.addJob s p mask aux) := by
  unfold State.addJob
  try dsimp only
  with_reducible repeat' first | assumption | apply State.setJobs_after

theorem State.endJob_after (h : s₀.After s) (j : Job) (status : Nat) (fields : List (Nat × Nat)) :
    s₀.After (State.endJob s j status fields) := by
  unfold State.endJob
  try dsimp only
  with_reducible repeat' first | assumption | apply State.setJobs_after | apply State.replyJob_after

theorem State.updateJob_after (h : s₀.After s) (j j' : Job) : s₀.After (State.updateJob s j j') := by
  unfold State.updateJob
  try dsimp only
  with_reducible repeat' first | assumption | apply State.setJobs_after

theorem State.resetJobs_after (h : s₀.After s) (q : Job → Bool) : s₀.After (State.resetJobs s q) := by
  unfold State.resetJobs
  try dsimp only
  with_reducible repeat' first | assumption | intro _ | apply State.each_after | apply State.endJob_after

/-! ### ErrataOps -/

theorem State.setStat_after (h : s₀.After s) (n : Nat) (b : Bool) : s₀.After (State.setStat s n b) := by
  unfold State.setStat
  try dsimp only
  with_reducible repeat' first
    | assumption | apply Tab.Keeps.same | apply State.After.ite | apply State.setB_after
    | simp only [State.After.mk_eq] | apply Upd.of

theorem State.setReaction_after (h : s₀.After s) (n : Nat) (pending escalated : Bool) :
    s₀.After (State.setReaction s n pending escalated) := by
  unfold State.setReaction
  try dsimp only
  with_reducible repeat' first | assumption | apply State.setB_after

theorem State.irqHi_after (h : s₀.After s) : s₀.After (State.irqHi s) := by
  unfold State.irqHi
  try dsimp only
  with_reducible repeat' first | assumption | apply State.setSignal_after

theorem State.irqLo_after (h : s₀.After s) : s₀.After (State.irqLo s) := by
  unfold State.irqLo
  try dsimp only
  with_reducible repeat' first | assumption | apply State.setSignal_after

theorem State.refreshActive_after (h : s₀.After s) (n : Nat) : s₀.After (State.refreshActive s n) := by
  unfold State.refreshActive
  try dsimp only
  with_reducible repeat' first | assumption | apply State.setB_after

theorem State.record_after (h : s₀.After s) (n : Nat) (forced : Bool) : s₀.After (State.record s n forced) := by
  unfold State.record
  try dsimp only
  with_reducible repeat' first
    | assumption | apply Tab.Keeps.same | intro _ | apply State.After.ite | apply State.setStat_after
    | apply State.bump_after | apply State.setB_after | apply State.set_after | apply State.when_after
    | apply State.irqLo_after | apply State.irqHi_after | apply State.setReaction_after
    | simp only [State.After.mk_eq] | apply Upd.of | split

theorem State.notice_after (h : s₀.After s) (n : Nat) : s₀.After (State.notice s n) := by
  unfold State.notice
  try dsimp only
  with_reducible repeat' first | assumption | apply State.After.ite | apply State.record_after

theorem State.noticeHeld_after (h : s₀.After s) (n : Nat) : s₀.After (State.noticeHeld s n) := by
  unfold State.noticeHeld
  try dsimp only
  with_reducible repeat' first
    | assumption | apply Tab.Keeps.same | apply State.After.ite | apply State.notice_after
    | apply State.refreshActive_after | simp only [State.After.mk_eq] | apply Upd.of

theorem State.quiet_after (h : s₀.After s) (n : Nat) : s₀.After (State.quiet s n) := by
  unfold State.quiet
  try dsimp only
  with_reducible repeat' first
    | assumption | apply Tab.Keeps.same | apply State.refreshActive_after | simp only [State.After.mk_eq]
    | apply Upd.of

theorem State.hostAccess_after (h : s₀.After s) (bar kind offset : Nat) :
    s₀.After (State.hostAccess s bar kind offset) := by
  unfold State.hostAccess
  try dsimp only
  with_reducible repeat' first | assumption | apply State.wr_after | apply State.set_after | apply State.notice_after

theorem State.announce_after (h : s₀.After s) (d : Nat) : s₀.After (State.announce s d) := by
  unfold State.announce
  try dsimp only
  with_reducible repeat' first | assumption | apply Tab.Keeps.same | simp only [State.After.mk_eq] | apply Upd.of

theorem State.acceptReset_after (h : s₀.After s) (d : Nat) : s₀.After (State.acceptReset s d) := by
  unfold State.acceptReset
  try dsimp only
  with_reducible repeat' first
    | assumption | apply Tab.Keeps.same | apply State.set_after | apply State.bump_after
    | simp only [State.After.mk_eq] | apply Upd.of

theorem State.endReset_after (h : s₀.After s) (d : Nat) : s₀.After (State.endReset s d) := by
  unfold State.endReset
  try dsimp only
  with_reducible repeat' first
    | assumption | apply Tab.Keeps.same | apply State.After.ite | apply State.set_after
    | simp only [State.After.mk_eq] | apply Upd.of

theorem State.whileOn_after (h : s₀.After s) (k reg : Nat) (f : State → State) (h_f : ∀ u, s₀.After u → s₀.After (f u)) :
    s₀.After (State.whileOn s k reg f) := by
  unfold State.whileOn
  try dsimp only
  with_reducible repeat' first | assumption | apply State.After.ite | apply h_f | apply State.hostAccess_after

/-! ### RunState -/

theorem State.setScribe_after (h : s₀.After s) (k : Nat) (c : Scribe) : s₀.After (State.setScribe s k c) := by
  unfold State.setScribe
  try dsimp only
  with_reducible repeat' first | assumption | apply Tab.Keeps.same | simp only [State.After.mk_eq] | apply Upd.of

theorem State.onScribe_after (h : s₀.After s) (k : Nat) (f : Scribe → Scribe) : s₀.After (State.onScribe s k f) := by
  unfold State.onScribe
  try dsimp only
  with_reducible repeat' first | assumption | apply State.setScribe_after

theorem State.setOct_after (h : s₀.After s) (g : Nat) (o : OctetRun) : s₀.After (State.setOct s g o) := by
  unfold State.setOct
  try dsimp only
  with_reducible repeat' first | assumption | apply Tab.Keeps.same | simp only [State.After.mk_eq] | apply Upd.of

theorem State.onOct_after (h : s₀.After s) (g : Nat) (f : OctetRun → OctetRun) : s₀.After (State.onOct s g f) := by
  unfold State.onOct
  try dsimp only
  with_reducible repeat' first | assumption | apply State.setOct_after

theorem State.setBall_after (h : s₀.After s) (g l : Nat) (b : Ball) : s₀.After (State.setBall s g l b) := by
  unfold State.setBall
  try dsimp only
  with_reducible repeat' first | assumption | apply Tab.Keeps.same | simp only [State.After.mk_eq] | apply Upd.of

theorem State.onBall_after (h : s₀.After s) (g l : Nat) (f : Ball → Ball) : s₀.After (State.onBall s g l f) := by
  unfold State.onBall
  try dsimp only
  with_reducible repeat' first | assumption | apply State.setBall_after

theorem State.setDac_after (h : s₀.After s) (g l k : Nat) (d : Dac) : s₀.After (State.setDac s g l k d) := by
  unfold State.setDac
  try dsimp only
  with_reducible repeat' first | assumption | apply Tab.Keeps.same | simp only [State.After.mk_eq] | apply Upd.of

theorem State.onDac_after (h : s₀.After s) (g l k : Nat) (f : Dac → Dac) : s₀.After (State.onDac s g l k f) := by
  unfold State.onDac
  try dsimp only
  with_reducible repeat' first | assumption | apply State.setDac_after

theorem State.setSine_after (h : s₀.After s) (g : Nat) (x : Sine) : s₀.After (State.setSine s g x) := by
  unfold State.setSine
  try dsimp only
  with_reducible repeat' first | assumption | apply Tab.Keeps.same | simp only [State.After.mk_eq] | apply Upd.of

theorem State.setHair_after (h : s₀.After s) (g : Nat) (x : Hair) : s₀.After (State.setHair s g x) := by
  unfold State.setHair
  try dsimp only
  with_reducible repeat' first | assumption | apply Tab.Keeps.same | simp only [State.After.mk_eq] | apply Upd.of

theorem State.onHair_after (h : s₀.After s) (g : Nat) (f : Hair → Hair) : s₀.After (State.onHair s g f) := by
  unfold State.onHair
  try dsimp only
  with_reducible repeat' first | assumption | apply State.setHair_after

theorem State.setTdr_after (h : s₀.After s) (g : Nat) (x : Tdr) : s₀.After (State.setTdr s g x) := by
  unfold State.setTdr
  try dsimp only
  with_reducible repeat' first | assumption | apply Tab.Keeps.same | simp only [State.After.mk_eq] | apply Upd.of

theorem State.setDc_after (h : s₀.After s) (g : Nat) (x : DcUnit) : s₀.After (State.setDc s g x) := by
  unfold State.setDc
  try dsimp only
  with_reducible repeat' first | assumption | apply Tab.Keeps.same | simp only [State.After.mk_eq] | apply Upd.of

theorem State.onDc_after (h : s₀.After s) (g : Nat) (f : DcUnit → DcUnit) : s₀.After (State.onDc s g f) := by
  unfold State.onDc
  try dsimp only
  with_reducible repeat' first | assumption | apply State.setDc_after

theorem State.setRot_after (h : s₀.After s) (g : Nat) (x : Rot) : s₀.After (State.setRot s g x) := by
  unfold State.setRot
  try dsimp only
  with_reducible repeat' first | assumption | apply Tab.Keeps.same | simp only [State.After.mk_eq] | apply Upd.of

theorem State.onRot_after (h : s₀.After s) (g : Nat) (f : Rot → Rot) : s₀.After (State.onRot s g f) := by
  unfold State.onRot
  try dsimp only
  with_reducible repeat' first | assumption | apply State.setRot_after

theorem State.setCore_after (h : s₀.After s) (g c : Nat) (x : CoreCal) : s₀.After (State.setCore s g c x) := by
  unfold State.setCore
  try dsimp only
  with_reducible repeat' first | assumption | apply Tab.Keeps.same | simp only [State.After.mk_eq] | apply Upd.of

theorem State.onCore_after (h : s₀.After s) (g c : Nat) (f : CoreCal → CoreCal) :
    s₀.After (State.onCore s g c f) := by
  unfold State.onCore
  try dsimp only
  with_reducible repeat' first | assumption | apply State.setCore_after

theorem State.setSecCal_after (h : s₀.After s) (k : Nat) (x : SecCal) : s₀.After (State.setSecCal s k x) := by
  unfold State.setSecCal
  try dsimp only
  with_reducible repeat' first | assumption | apply Tab.Keeps.same | simp only [State.After.mk_eq] | apply Upd.of

theorem State.onSecCal_after (h : s₀.After s) (k : Nat) (f : SecCal → SecCal) : s₀.After (State.onSecCal s k f) := by
  unfold State.onSecCal
  try dsimp only
  with_reducible repeat' first | assumption | apply State.setSecCal_after

theorem State.setProc_after (h : s₀.After s) (k : Nat) (x : Proc) : s₀.After (State.setProc s k x) := by
  unfold State.setProc
  try dsimp only
  with_reducible repeat' first | assumption | apply Tab.Keeps.same | simp only [State.After.mk_eq] | apply Upd.of

theorem State.setMarg_after (h : s₀.After s) (k : Nat) (m : Marg) : s₀.After (State.setMarg s k m) := by
  unfold State.setMarg
  try dsimp only
  with_reducible repeat' first | assumption | apply Tab.Keeps.same | simp only [State.After.mk_eq] | apply Upd.of

theorem State.onMarg_after (h : s₀.After s) (k : Nat) (f : Marg → Marg) : s₀.After (State.onMarg s k f) := by
  unfold State.onMarg
  try dsimp only
  with_reducible repeat' first | assumption | apply State.setMarg_after

theorem State.setBlot_after (h : s₀.After s) (k : Nat) (b : Blot) : s₀.After (State.setBlot s k b) := by
  unfold State.setBlot
  try dsimp only
  with_reducible repeat' first | assumption | apply Tab.Keeps.same | simp only [State.After.mk_eq] | apply Upd.of

theorem State.onBlot_after (h : s₀.After s) (k : Nat) (f : Blot → Blot) : s₀.After (State.onBlot s k f) := by
  unfold State.onBlot
  try dsimp only
  with_reducible repeat' first | assumption | apply State.setBlot_after

theorem State.onInked_after (h : s₀.After s) (k idx : Nat) (f : Inked → Inked) :
    s₀.After (State.onInked s k idx f) := by
  unfold State.onInked
  try dsimp only
  with_reducible repeat' first | assumption | apply State.onScribe_after

theorem State.askStop_after (h : s₀.After s) (k cause at_ : Nat) : s₀.After (State.askStop s k cause at_) := by
  unfold State.askStop
  try dsimp only
  with_reducible repeat' first | assumption | apply State.After.ite | apply State.onScribe_after

/-! ### FrontOps -/

theorem State.showBall_after (h : s₀.After s) (g l st : Nat) : s₀.After (State.showBall s g l st) := by
  unfold State.showBall
  try dsimp only
  with_reducible repeat' first | assumption | apply State.set_after | apply State.setB_after

theorem State.refreshBall_after (h : s₀.After s) (g l : Nat) : s₀.After (State.refreshBall s g l) := by
  unfold State.refreshBall
  try dsimp only
  with_reducible repeat' first | assumption | apply State.After.ite | apply State.showBall_after

theorem State.refreshOctet_after (h : s₀.After s) (g : Nat) : s₀.After (State.refreshOctet s g) := by
  unfold State.refreshOctet
  try dsimp only
  with_reducible repeat' first | assumption | intro _ | apply State.each_after | apply State.refreshBall_after

theorem State.refreshBalls_after (h : s₀.After s) (k : Nat) : s₀.After (State.refreshBalls s k) := by
  unfold State.refreshBalls
  try dsimp only
  with_reducible repeat' first | assumption | intro _ | apply State.each_after | apply State.refreshOctet_after

theorem State.releaseBall_after (h : s₀.After s) (g l : Nat) : s₀.After (State.releaseBall s g l) := by
  unfold State.releaseBall
  try dsimp only
  with_reducible repeat' first
    | assumption | apply State.After.ite | apply State.onOct_after | apply State.refreshBall_after

theorem State.slotWrite_after (h : s₀.After s) (g l : Nat) (f : State → Nat → State) (h_f : ∀ u a0, s₀.After u → s₀.After (f u a0)) :
    s₀.After (State.slotWrite s g l f) := by
  unfold State.slotWrite
  try dsimp only
  with_reducible repeat' first | assumption | apply State.After.ite | apply h_f | apply State.set_after

theorem State.eachSlot_after (h : s₀.After s) (g : Nat) (f : State → Nat → State) (h_f : ∀ u a0, s₀.After u → s₀.After (f u a0)) :
    s₀.After (State.eachSlot s g f) := by
  unfold State.eachSlot
  try dsimp only
  with_reducible repeat' first | assumption | intro _ | apply State.each_after | apply State.slotWrite_after

/-! ### DacOps -/

theorem State.dacUpdate_after (h : s₀.After s) (g l k code : Nat) : s₀.After (State.dacUpdate s g l k code) := by
  unfold State.dacUpdate
  try dsimp only
  with_reducible repeat' first
    | assumption | apply State.After.ite | apply State.setDac_after | apply State.setB_after

theorem State.dacFollow_after (h : s₀.After s) (g l k : Nat) : s₀.After (State.dacFollow s g l k) := by
  unfold State.dacFollow
  try dsimp only
  with_reducible repeat' first
    | assumption | apply State.After.ite | apply State.set_after | apply State.dacUpdate_after

theorem State.setBase_after (h : s₀.After s) (g l k code : Nat) : s₀.After (State.setBase s g l k code) := by
  unfold State.setBase
  try dsimp only
  with_reducible repeat' first | assumption | apply State.set_after | apply State.dacFollow_after

theorem State.rebase_after (h : s₀.After s) (g l k code : Nat) : s₀.After (State.rebase s g l k code) := by
  unfold State.rebase
  try dsimp only
  with_reducible repeat' first
    | assumption | apply State.After.ite | apply State.setBase_after | apply State.set_after

theorem State.refreshDac_after (h : s₀.After s) (g l k : Nat) : s₀.After (State.refreshDac s g l k) := by
  unfold State.refreshDac
  try dsimp only
  with_reducible repeat' first
    | assumption | apply State.After.ite | apply State.set_after | apply State.onDac_after | apply State.setBase_after

theorem State.eachDac_after (h : s₀.After s) (g : Nat) (f : State → Nat → Nat → State) (h_f : ∀ u a0 a1, s₀.After u → s₀.After (f u a0 a1)) :
    s₀.After (State.eachDac s g f) := by
  unfold State.eachDac
  try dsimp only
  with_reducible repeat' first | assumption | intro _ | apply h_f | apply State.each_after

theorem State.refreshDacs_after (h : s₀.After s) (k : Nat) : s₀.After (State.refreshDacs s k) := by
  unfold State.refreshDacs
  try dsimp only
  with_reducible repeat' first
    | assumption | intro _ | apply State.each_after | apply State.eachDac_after | apply State.refreshDac_after

theorem State.program_after (h : s₀.After s) (g l k code : Nat) : s₀.After (State.program s g l k code) := by
  unfold State.program
  try dsimp only
  with_reducible repeat' first
    | assumption | apply State.After.ite | apply State.set_after | apply State.rebase_after | apply State.onDac_after

theorem State.rebaseCore_after (h : s₀.After s) (g l : Nat) : s₀.After (State.rebaseCore s g l) := by
  unfold State.rebaseCore
  try dsimp only
  with_reducible repeat' first | assumption | intro _ | apply State.each_after | apply State.rebase_after

theorem State.levelApply_after (h : s₀.After s) (g : Nat) (codes : List (Nat × Nat)) :
    s₀.After (State.levelApply s g codes) := by
  unfold State.levelApply
  try dsimp only
  with_reducible repeat' first | assumption | intro _ | apply State.each_after | apply State.program_after

theorem State.applyBatches_after (h : s₀.After s) (g : Nat) : s₀.After (State.applyBatches s g) := by
  unfold State.applyBatches
  try dsimp only
  with_reducible repeat' first
    | assumption | apply State.After.ite | apply State.onOct_after | apply State.levelApply_after

theorem State.levelEnd_after (h : s₀.After s) (g : Nat) : s₀.After (State.levelEnd s g) := by
  unfold State.levelEnd
  try dsimp only
  with_reducible repeat' first
    | assumption | apply State.After.ite | apply State.onOct_after | apply State.levelApply_after

theorem State.setPend_after (h : s₀.After s) (g l k : Nat) (b : Bool) : s₀.After (State.setPend s g l k b) := by
  unfold State.setPend
  try dsimp only
  with_reducible repeat' first | assumption | apply State.setB_after

theorem State.levelTake_after (h : s₀.After s) (k : Nat) : s₀.After (State.levelTake s k) := by
  unfold State.levelTake
  try dsimp only
  with_reducible repeat' first
    | assumption | intro _ | apply State.After.ite | dsimp only | apply State.set_after | apply State.each_after
    | apply State.setPend_after | apply State.onOct_after | apply State.bump_after | apply foldl_snd_after
    | apply State.After.ite_snd

theorem State.levelFlush_after (h : s₀.After s) (k : Nat) : s₀.After (State.levelFlush s k) := by
  unfold State.levelFlush
  try dsimp only
  with_reducible repeat' first | assumption | intro _ | apply State.each_after | apply State.levelEnd_after

theorem State.feBoundary_after (h : s₀.After s) (g : Nat) : s₀.After (State.feBoundary s g) := by
  unfold State.feBoundary
  try dsimp only
  with_reducible repeat' first
    | assumption | intro _ | apply State.onOct_after | apply State.each_after | apply State.onDac_after
    | apply State.program_after | apply State.refreshOctet_after | split

theorem State.parkSlot_after (h : s₀.After s) (g l : Nat) : s₀.After (State.parkSlot s g l) := by
  unfold State.parkSlot
  try dsimp only
  with_reducible repeat' first
    | assumption | apply Tab.Keeps.same | intro _ | apply State.After.ite | apply State.each_after
    | apply State.setBase_after | simp only [State.After.mk_eq] | apply Upd.of

theorem State.parkDacs_after (h : s₀.After s) (k : Nat) (interlock : Bool) :
    s₀.After (State.parkDacs s k interlock) := by
  unfold State.parkDacs
  try dsimp only
  with_reducible repeat' first
    | assumption | apply Tab.Keeps.same | intro _ | apply State.refreshDacs_after | apply State.each_after
    | apply State.parkSlot_after | simp only [State.After.mk_eq] | apply Upd.of

theorem State.unparkDacs_after (h : s₀.After s) (k : Nat) : s₀.After (State.unparkDacs s k) := by
  unfold State.unparkDacs
  try dsimp only
  with_reducible repeat' first
    | assumption | apply Tab.Keeps.same | apply State.refreshDacs_after | simp only [State.After.mk_eq] | apply Upd.of

theorem State.clearSamples_after (h : s₀.After s) (g : Nat) : s₀.After (State.clearSamples s g) := by
  unfold State.clearSamples
  try dsimp only
  with_reducible repeat' first
    | assumption | intro _ | apply State.After.ite | apply State.eachDac_after | apply State.setDac_after
    | apply State.dacFollow_after

theorem State.stopSines_after (h : s₀.After s) (k : Nat) : s₀.After (State.stopSines s k) := by
  unfold State.stopSines
  try dsimp only
  with_reducible repeat' first
    | assumption | intro _ | apply State.After.ite | apply State.each_after | apply State.set_after
    | apply State.setSine_after | apply State.clearSamples_after

theorem State.spreadSample_after (h : s₀.After s) (g : Nat) (uv : Int) : s₀.After (State.spreadSample s g uv) := by
  unfold State.spreadSample
  try dsimp only
  with_reducible repeat' first
    | assumption | intro _ | apply State.After.ite | apply State.eachDac_after | apply State.setDac_after
    | apply State.dacFollow_after

/-! ### MeasOps -/

theorem State.roundOpen_after (h : s₀.After s) (num den : Nat) : s₀.After (State.roundOpen s num den).2 := by
  unfold State.roundOpen
  try dsimp only
  with_reducible repeat' first | assumption | dsimp only | apply State.fresh_after | apply State.After.ite_snd

theorem State.setDone_after (h : s₀.After s) (g : Nat) (f : Fld) : s₀.After (State.setDone s g f) := by
  unfold State.setDone
  try dsimp only
  with_reducible repeat' first | assumption | apply State.After.ite | apply State.set_after | apply State.signal_after

theorem State.hlReply_after (h : s₀.After s) (g : Nat) (calFail abandoned : Bool) :
    s₀.After (State.hlReply s g calFail abandoned) := by
  unfold State.hlReply
  try dsimp only
  with_reducible repeat' first | assumption | apply State.endJob_after | split

theorem State.hlFinish_after (h : s₀.After s) (g : Nat) (calFail : Bool) :
    s₀.After (State.hlFinish s g calFail) := by
  unfold State.hlFinish
  try dsimp only
  with_reducible repeat' first
    | assumption | apply State.After.ite | apply State.set_after | apply State.onHair_after
    | apply State.setDone_after | apply State.hlReply_after

theorem State.hlAbandon_after (h : s₀.After s) (g : Nat) : s₀.After (State.hlAbandon s g) := by
  unfold State.hlAbandon
  try dsimp only
  with_reducible repeat' first
    | assumption | apply State.After.ite | apply State.set_after | apply State.onHair_after
    | apply State.hlReply_after

theorem State.tdrReply_after (h : s₀.After s) (g : Nat) : s₀.After (State.tdrReply s g) := by
  unfold State.tdrReply
  try dsimp only
  with_reducible repeat' first
    | assumption | apply State.After.ite | apply State.updateJob_after | apply State.endJob_after | split

theorem State.tdrRelease_after (h : s₀.After s) (g : Nat) : s₀.After (State.tdrRelease s g) := by
  unfold State.tdrRelease
  try dsimp only
  with_reducible repeat' first
    | assumption | apply State.setTdr_after | apply State.set_after | apply State.refreshOctet_after

theorem State.tdrAbandon_after (h : s₀.After s) (g : Nat) : s₀.After (State.tdrAbandon s g) := by
  unfold State.tdrAbandon
  try dsimp only
  with_reducible repeat' first
    | assumption | apply State.wr_after | apply State.set_after | apply State.tdrRelease_after
    | apply State.tdrReply_after | split

theorem State.dcReply_after (h : s₀.After s) (g : Nat) (abandoned : Bool) :
    s₀.After (State.dcReply s g abandoned) := by
  unfold State.dcReply
  try dsimp only
  with_reducible repeat' first | assumption | apply State.endJob_after | split

theorem State.dcAbandon_after (h : s₀.After s) (g : Nat) : s₀.After (State.dcAbandon s g) := by
  unfold State.dcAbandon
  try dsimp only
  with_reducible repeat' first
    | assumption | apply State.After.ite | apply State.set_after | apply State.dcReply_after

theorem State.dcOpened_after (h : s₀.After s) (g : Nat) : s₀.After (State.dcOpened s g) := by
  unfold State.dcOpened
  try dsimp only
  with_reducible repeat' first
    | assumption | apply State.set_after | apply State.onDc_after | apply State.refreshBall_after
    | apply State.endJob_after | split

theorem State.dcBreak_after (h : s₀.After s) (g : Nat) : s₀.After (State.dcBreak s g) := by
  unfold State.dcBreak
  try dsimp only
  with_reducible repeat' first
    | assumption | apply State.After.ite | apply State.onDc_after | apply State.set_after
    | apply State.dcAbandon_after | apply State.dcOpened_after

theorem State.setRotState_after (h : s₀.After s) (g st : Nat) : s₀.After (State.setRotState s g st) := by
  unfold State.setRotState
  try dsimp only
  with_reducible repeat' first
    | assumption | apply State.After.ite | apply State.set_after | apply State.onSecCal_after

theorem State.rotTo_after (h : s₀.After s) (g st lane : Nat) : s₀.After (State.rotTo s g st lane) := by
  unfold State.rotTo
  try dsimp only
  with_reducible repeat' first
    | assumption | apply State.setRotState_after | apply State.set_after | apply State.onRot_after

theorem State.setCause_after (h : s₀.After s) (g c cause : Nat) : s₀.After (State.setCause s g c cause) := by
  unfold State.setCause
  try dsimp only
  with_reducible repeat' first | assumption | apply State.After.ite | apply State.set_after

theorem State.rotIdle_after (h : s₀.After s) (g : Nat) : s₀.After (State.rotIdle s g) := by
  unfold State.rotIdle
  try dsimp only
  with_reducible repeat' first
    | assumption | intro _ | apply State.After.ite | apply State.rotTo_after | apply State.onRot_after
    | apply State.each_after | apply State.onCore_after

theorem State.rotStop_after (h : s₀.After s) (g : Nat) : s₀.After (State.rotStop s g) := by
  unfold State.rotStop
  try dsimp only
  with_reducible repeat' first
    | assumption | apply State.After.ite | apply State.setCause_after | apply State.rotIdle_after | split

theorem State.rotJudge_after (h : s₀.After s) (g : Nat) : s₀.After (State.rotJudge s g) := by
  unfold State.rotJudge
  try dsimp only
  with_reducible repeat' first | assumption | apply State.After.ite | apply State.rotStop_after

/-! ### BlotOps -/

theorem State.setStaging_after (h : s₀.After s) (k : Nat) (l : List BlotRec) :
    s₀.After (State.setStaging s k l) := by
  unfold State.setStaging
  try dsimp only
  with_reducible repeat' first | assumption | apply State.set_after | apply State.onBlot_after

theorem State.blotDrop_after (h : s₀.After s) (k tag octs : Nat) : s₀.After (State.blotDrop s k tag octs) := by
  unfold State.blotDrop
  try dsimp only
  with_reducible repeat' first | assumption | apply State.onBlot_after

theorem State.blotStage_after (h : s₀.After s) (k : Nat) (r : BlotRec) : s₀.After (State.blotStage s k r) := by
  unfold State.blotStage
  try dsimp only
  with_reducible repeat' first
    | assumption | apply State.After.ite | apply State.blotDrop_after | apply State.setStaging_after

theorem State.blotGapEnd_after (h : s₀.After s) (k tag : Nat) : s₀.After (State.blotGapEnd s k tag) := by
  unfold State.blotGapEnd
  try dsimp only
  with_reducible repeat' first
    | assumption | apply State.blotStage_after | apply State.onBlot_after | apply State.set_after
    | apply State.bump_after | apply State.notice_after

theorem State.blotEnd_after (h : s₀.After s) (k cause tag : Nat) : s₀.After (State.blotEnd s k cause tag) := by
  unfold State.blotEnd
  try dsimp only
  with_reducible repeat' first
    | assumption | apply State.After.ite | apply State.blotGapEnd_after | apply State.blotStage_after
    | apply State.set_after | apply State.onBlot_after

theorem State.blotCounted_after (h : s₀.After s) (k tag : Nat) : s₀.After (State.blotCounted s k tag) := by
  unfold State.blotCounted
  try dsimp only
  with_reducible repeat' first
    | assumption | apply State.After.ite | apply State.set_after | apply State.blotEnd_after
    | apply State.onBlot_after | split

theorem State.blotAdd_after (h : s₀.After s) (k : Nat) (r : BlotRec) : s₀.After (State.blotAdd s k r) := by
  unfold State.blotAdd
  try dsimp only
  with_reducible repeat' first | assumption | apply State.blotStage_after | apply State.blotCounted_after

theorem State.blotMark_after (h : s₀.After s) (k rank kind flags mid tag high : Nat) :
    s₀.After (State.blotMark s k rank kind flags mid tag high) := by
  unfold State.blotMark
  try dsimp only
  with_reducible repeat' first | assumption | apply State.After.ite | apply State.blotAdd_after

theorem State.blotCapture_after (h : s₀.After s) (k tag : Nat) : s₀.After (State.blotCapture s k tag) := by
  unfold State.blotCapture
  try dsimp only
  with_reducible repeat' first
    | assumption | apply State.After.ite | apply State.onBlot_after | apply State.set_after
    | apply State.blotMark_after

theorem State.setTrig_after (h : s₀.After s) (k j : Nat) (t : TrigRun) : s₀.After (State.setTrig s k j t) := by
  unfold State.setTrig
  try dsimp only
  with_reducible repeat' first | assumption | apply State.onBlot_after

theorem State.setMask_after (h : s₀.After s) (k m : Nat) (t : MaskRun) : s₀.After (State.setMask s k m t) := by
  unfold State.setMask
  try dsimp only
  with_reducible repeat' first | assumption | apply State.onBlot_after

theorem State.blotLive_after (h : s₀.After s) (k tag : Nat) : s₀.After (State.blotLive s k tag) := by
  unfold State.blotLive
  try dsimp only
  with_reducible repeat' first
    | assumption | intro _ | apply State.After.ite | apply State.onBlot_after | apply State.each_after
    | apply State.setTrig_after | apply State.blotCapture_after

theorem State.blotOver_after (h : s₀.After s) (k tag : Nat) : s₀.After (State.blotOver s k tag) := by
  unfold State.blotOver
  try dsimp only
  with_reducible repeat' first | assumption | apply State.After.ite | apply State.onBlot_after

theorem State.blotStart_after (h : s₀.After s) (k : Nat) (measure : Bool) :
    s₀.After (State.blotStart s k measure) := by
  unfold State.blotStart
  try dsimp only
  with_reducible repeat' first | assumption | apply State.onBlot_after

theorem State.blotPattern_after (h : s₀.After s) (k tag flags code value pen index : Nat) :
    s₀.After (State.blotPattern s k tag flags code value pen index) := by
  unfold State.blotPattern
  try dsimp only
  with_reducible repeat' first | assumption | apply State.blotMark_after

theorem State.blotFate_after (h : s₀.After s) (k : Nat) (ink : Bool) (pen n at_ : Nat) :
    s₀.After (State.blotFate s k ink pen n at_) := by
  unfold State.blotFate
  try dsimp only
  with_reducible repeat' first | assumption | apply State.blotMark_after

theorem State.blotSafe_after (h : s₀.After s) (k : Nat) : s₀.After (State.blotSafe s k) := by
  unfold State.blotSafe
  try dsimp only
  with_reducible repeat' first
    | assumption | apply State.After.ite | apply State.onBlot_after | apply State.blotMark_after

theorem State.blotData_after (h : s₀.After s) (k o : Nat) (r : BlotRec) : s₀.After (State.blotData s k o r) := by
  unfold State.blotData
  try dsimp only
  with_reducible repeat' first
    | assumption | apply State.After.ite | apply State.blotDrop_after | apply State.blotAdd_after

theorem State.blotSample_after (h : s₀.After s) (g : Nat) (w : WSet) : s₀.After (State.blotSample s g w) := by
  unfold State.blotSample
  try dsimp only
  with_reducible repeat' first | assumption | apply State.After.ite | apply State.blotData_after

theorem State.wTaken_after (h : s₀.After s) (g vec : Nat) (f : WSet → WSet) : s₀.After (State.wTaken s g vec f) := by
  unfold State.wTaken
  try dsimp only
  with_reducible repeat' first
    | assumption | apply State.After.ite | apply State.onOct_after | apply State.blotSample_after | split

/-! ### Safe -/

theorem State.modeJob_after (h : s₀.After s) (k : Nat) : s₀.After (State.modeJob s k) := by
  unfold State.modeJob
  try dsimp only
  with_reducible repeat' first
    | assumption | apply State.After.ite | apply State.updateJob_after | apply State.endJob_after | split

theorem State.dropTransition_after (h : s₀.After s) (k : Nat) : s₀.After (State.dropTransition s k) := by
  unfold State.dropTransition
  try dsimp only
  with_reducible repeat' first
    | assumption | apply Tab.Keeps.same | apply State.After.ite | apply State.set_after | apply State.endReset_after
    | apply State.refreshDacs_after | apply State.modeJob_after | simp only [State.After.mk_eq] | apply Upd.of

theorem State.safeBlocks_after (h : s₀.After s) (k cause : Nat) : s₀.After (State.safeBlocks s k cause) := by
  unfold State.safeBlocks
  try dsimp only
  with_reducible repeat' first
    | assumption | intro _ | apply State.askStop_after | apply State.refreshBalls_after | apply State.parkDacs_after
    | apply State.stopSines_after | apply State.each_after | apply State.hlAbandon_after
    | apply State.tdrAbandon_after | apply State.dcBreak_after | apply State.rotStop_after
    | apply State.blotSafe_after | apply State.setProc_after | apply State.dropTransition_after

theorem State.sectorSafe_after (h : s₀.After s) (k cause : Nat) : s₀.After (State.sectorSafe s k cause) := by
  unfold State.sectorSafe
  try dsimp only
  with_reducible repeat' first
    | assumption | apply State.After.ite | apply State.set_after | apply State.notice_after
    | apply State.safeBlocks_after

theorem State.safeMask_after (h : s₀.After s) (mask cause : Nat) : s₀.After (State.safeMask s mask cause) := by
  unfold State.safeMask
  try dsimp only
  with_reducible repeat' first | assumption | intro _ | apply State.each_after | apply State.sectorSafe_after

theorem State.deviceSafe_after (h : s₀.After s) (n : Nat) : s₀.After (State.deviceSafe s n) := by
  unfold State.deviceSafe
  try dsimp only
  with_reducible repeat' first
    | assumption | apply State.After.ite | apply State.set_after | apply State.safeMask_after

theorem State.raise_after (h : s₀.After s) (n : Nat) : s₀.After (State.raise s n) := by
  unfold State.raise
  try dsimp only
  with_reducible repeat' first | assumption | apply State.notice_after | apply State.deviceSafe_after

end Sys2Proof.Machine
end

