-- ==== Sys2Proof/Laws/AfterRuling.lean ====
section
/-! SUPPORT. That the clock, the Ruling, the vault, channels and events leave behind what an operation may. -/

namespace Sys2Proof.Machine
open Reg

variable {s₀ s : State}

/-! ### Clock -/

theorem State.adopt_after (h : s₀.After s) (k a : Nat) : s₀.After (State.adopt s k a) := by
  unfold State.adopt
  try dsimp only
  with_reducible repeat' first
    | assumption | apply Tab.Keeps.same | intro _ | apply State.set_after | apply State.each_after
    | apply State.set64_after | simp only [State.After.mk_eq] | apply Upd.of

theorem State.adoptIfIdle_after (h : s₀.After s) (k : Nat) : s₀.After (State.adoptIfIdle s k) := by
  unfold State.adoptIfIdle
  try dsimp only
  with_reducible repeat' first | assumption | apply State.After.ite | apply State.adopt_after

theorem State.offerAnchor_after (h : s₀.After s) (a : Nat) : s₀.After (State.offerAnchor s a) := by
  unfold State.offerAnchor
  try dsimp only
  with_reducible repeat' first
    | assumption | apply Tab.Keeps.same | intro _ | apply State.After.ite | apply State.each_after
    | apply State.adoptIfIdle_after | apply State.set_after | simp only [State.After.mk_eq] | apply Upd.of

theorem State.unlockTll_after (h : s₀.After s) (k : Nat) : s₀.After (State.unlockTll s k) := by
  unfold State.unlockTll
  try dsimp only
  with_reducible repeat' first
    | assumption | apply Tab.Keeps.same | apply State.set_after | simp only [State.After.mk_eq] | apply Upd.of

theorem State.enterAcquire_after (h : s₀.After s) : s₀.After (State.enterAcquire s) := by
  unfold State.enterAcquire
  try dsimp only
  with_reducible repeat' first
    | assumption | apply Tab.Keeps.same | intro _ | apply State.set_after | apply State.each_after
    | apply State.unlockTll_after | simp only [State.After.mk_eq] | apply Upd.of

theorem State.tryEntries_after (h : s₀.After s) (tries : List Nat) (failFlag : Fld) :
    s₀.After (State.tryEntries s tries failFlag) := by
  unfold State.tryEntries
  try dsimp only
  with_reducible repeat' first
    | assumption | apply Tab.Keeps.same | apply State.set_after | apply State.raise_after
    | simp only [State.After.mk_eq] | apply Upd.of | split

theorem State.replyPllRestart_after (h : s₀.After s) : s₀.After (State.replyPllRestart s) := by
  unfold State.replyPllRestart
  try dsimp only
  with_reducible repeat' first | assumption | apply State.endJob_after | split

theorem State.loseLock_after (h : s₀.After s) (seen : Fld) (frozen : Nat) :
    s₀.After (State.loseLock s seen frozen) := by
  unfold State.loseLock
  try dsimp only
  with_reducible repeat' first
    | assumption | apply Tab.Keeps.same | apply State.After.ite | apply State.set_after | apply State.raise_after
    | simp only [State.After.mk_eq] | apply Upd.of

theorem State.enterRelock_after (h : s₀.After s) : s₀.After (State.enterRelock s) := by
  unfold State.enterRelock
  try dsimp only
  with_reducible repeat' first | assumption | apply State.set_after

theorem State.relockWrite_after (h : s₀.After s) : s₀.After (State.relockWrite s) := by
  unfold State.relockWrite
  try dsimp only
  with_reducible repeat' first | assumption | apply State.After.ite | apply State.enterRelock_after

theorem State.restartWrite_after (h : s₀.After s) : s₀.After (State.restartWrite s) := by
  unfold State.restartWrite
  try dsimp only
  with_reducible repeat' first
    | assumption | apply State.After.ite | apply State.set_after | apply State.enterAcquire_after

theorem State.plainWrite_after (h : s₀.After s) (a v : Nat) : s₀.After (State.plainWrite s a v) := by
  unfold State.plainWrite
  try dsimp only
  with_reducible repeat' first | assumption | apply State.wr_after | split

theorem State.bandWrite_after (h : s₀.After s) (k w v : Nat) : s₀.After (State.bandWrite s k w v) := by
  unfold State.bandWrite
  try dsimp only
  with_reducible repeat' first
    | assumption | apply State.After.ite | apply State.set_after | apply State.plainWrite_after

theorem State.tllStep_after (h : s₀.After s) (k : Nat) (e : Int) (up : Option Bool) :
    s₀.After (State.tllStep s k e up) := by
  unfold State.tllStep
  try dsimp only
  with_reducible repeat' first
    | assumption | apply Tab.Keeps.same | apply State.After.ite | apply State.set_after | apply State.noticeHeld_after
    | apply State.quiet_after | simp only [State.After.mk_eq] | apply Upd.of

theorem State.outGo_after (h : s₀.After s) : s₀.After (State.outGo s) := by
  unfold State.outGo
  try dsimp only
  with_reducible repeat' first
    | assumption | apply Tab.Keeps.same | apply State.After.ite | apply State.set_after
    | simp only [State.After.mk_eq] | apply Upd.of

theorem execRefMeasDone_after (h : s₀.After s) (fkHz : BitVec 18) : Gives s₀ (execRefMeasDone fkHz s) := by
  unfold execRefMeasDone
  try dsimp only
  with_reducible repeat' first
    | assumption | apply Gives.next | apply Gives.ite | apply State.set_after | apply State.tryEntries_after

theorem execPllLockDeclared_after (h : s₀.After s) (ahead : Nat) : Gives s₀ (execPllLockDeclared ahead s) := by
  unfold execPllLockDeclared
  try dsimp only
  with_reducible repeat' first
    | assumption | apply Gives.next | apply Gives.ite | apply Tab.Keeps.same | intro _ | apply State.After.ite
    | apply State.set64_after | apply State.set_after | apply State.each_after | apply State.adopt_after
    | apply State.offerAnchor_after | apply State.replyPllRestart_after | simp only [State.After.mk_eq] | apply Upd.of

theorem execPllEntryTimeout_after (h : s₀.After s)  : Gives s₀ (execPllEntryTimeout s) := by
  unfold execPllEntryTimeout
  try dsimp only
  with_reducible repeat' first | assumption | apply Gives.next | apply Gives.ite | apply State.tryEntries_after

theorem execLossOfReference_after (h : s₀.After s) (mean : BitVec 16) : Gives s₀ (execLossOfReference mean s) := by
  unfold execLossOfReference
  try dsimp only
  with_reducible repeat' first | assumption | apply Gives.next | apply State.loseLock_after

theorem execLossOfLock_after (h : s₀.After s) (mean : BitVec 16) : Gives s₀ (execLossOfLock mean s) := by
  unfold execLossOfLock
  try dsimp only
  with_reducible repeat' first | assumption | apply Gives.next | apply State.loseLock_after

theorem execBandMargin_after (h : s₀.After s) (w : BitVec 16) : Gives s₀ (execBandMargin w s) := by
  unfold execBandMargin
  try dsimp only
  with_reducible repeat' first
    | assumption | apply Gives.next | apply Gives.ite | apply State.set_after | apply State.raise_after

theorem execAutoReband_after (h : s₀.After s)  : Gives s₀ (execAutoReband s) := by
  unfold execAutoReband
  try dsimp only
  with_reducible repeat' first | assumption | apply Gives.next | apply Gives.ite | apply State.enterAcquire_after

theorem execCoastLimitExpire_after (h : s₀.After s)  : Gives s₀ (execCoastLimitExpire s) := by
  unfold execCoastLimitExpire
  try dsimp only
  with_reducible repeat' first
    | assumption | apply Gives.next | apply Gives.ite | apply State.set_after | apply State.raise_after

theorem execRefclkQualified_after (h : s₀.After s)  : Gives s₀ (execRefclkQualified s) := by
  unfold execRefclkQualified
  try dsimp only
  with_reducible repeat' first
    | assumption | apply Gives.next | apply Gives.ite | apply Tab.Keeps.same | apply State.After.ite
    | apply State.enterRelock_after | simp only [State.After.mk_eq] | apply Upd.of

theorem execRelockTimeout_after (h : s₀.After s)  : Gives s₀ (execRelockTimeout s) := by
  unfold execRelockTimeout
  try dsimp only
  with_reducible repeat' first | assumption | apply Gives.next | apply Gives.ite | apply State.set_after

theorem execRelockWrite_after (h : s₀.After s)  : Gives s₀ (execRelockWrite s) := by
  unfold execRelockWrite
  try dsimp only
  with_reducible repeat' first | assumption | apply Gives.next | apply State.relockWrite_after

theorem execPllRestartWrite_after (h : s₀.After s)  : Gives s₀ (execPllRestartWrite s) := by
  unfold execPllRestartWrite
  try dsimp only
  with_reducible repeat' first | assumption | apply Gives.next | apply State.restartWrite_after

theorem execBandEntryWrite_after (h : s₀.After s) (k : Fin 16) (w : Fin 4) (v : Word) : Gives s₀ (execBandEntryWrite k w v s) := by
  unfold execBandEntryWrite
  try dsimp only
  with_reducible repeat' first | assumption | apply Gives.next | apply State.bandWrite_after

theorem execAnchorAdopt_after (h : s₀.After s) (k : Sector) : Gives s₀ (execAnchorAdopt k s) := by
  unfold execAnchorAdopt
  try dsimp only
  with_reducible repeat' first
    | assumption | apply Gives.next | intro _ | apply State.each_after | apply State.adoptIfIdle_after

theorem execTllUpdate_after (h : s₀.After s) (k : Sector) (e : Int) (up : Option Bool) : Gives s₀ (execTllUpdate k e up s) := by
  unfold execTllUpdate
  try dsimp only
  with_reducible repeat' first | assumption | apply Gives.next | apply Gives.ite | apply State.tllStep_after

theorem execClkoutGo_after (h : s₀.After s) (align : Bool) : Gives s₀ (execClkoutGo align s) := by
  unfold execClkoutGo
  try dsimp only
  with_reducible repeat' first | assumption | apply Gives.next | apply State.setB_after | apply State.outGo_after

theorem execClkoutCycleEnd_after (h : s₀.After s) (n : Fin 4) : Gives s₀ (execClkoutCycleEnd n s) := by
  unfold execClkoutCycleEnd
  try dsimp only
  with_reducible repeat' first
    | assumption | apply Gives.next | apply Gives.ite | apply Tab.Keeps.same | simp only [State.After.mk_eq]
    | apply Upd.of

theorem execClkoutUpdateInstant_after (h : s₀.After s)  : Gives s₀ (execClkoutUpdateInstant s) := by
  unfold execClkoutUpdateInstant
  try dsimp only
  with_reducible repeat' first
    | assumption | apply Gives.next | apply Gives.ite | apply Tab.Keeps.same | intro _ | apply State.set_after
    | apply State.each_after | apply State.wr_after | apply State.setB_after | apply State.endJob_after
    | simp only [State.After.mk_eq] | apply Upd.of | split

theorem execClkoutSet_after (h : s₀.After s)  : Gives s₀ (execClkoutSet s) := by
  unfold execClkoutSet
  try dsimp only
  with_reducible repeat' first
    | assumption | apply Gives.next | apply Gives.ite | intro _ | apply State.After.ite
    | refine State.start_after ?_ _ (by assumption) | apply State.reply_after | apply State.each_after
    | apply State.wr_after | apply State.set_after | apply State.setB_after | apply State.outGo_after
    | apply State.addJob_after | split

theorem execPllBand_after (h : s₀.After s)  : Gives s₀ (execPllBand s) := by
  unfold execPllBand
  try dsimp only
  with_reducible repeat' first
    | assumption | apply Gives.next | apply Gives.ite | intro _ | refine State.start_after ?_ _ (by assumption)
    | apply State.reply_after | apply State.each_after | apply State.bandWrite_after | split

theorem execPllRestart_after (h : s₀.After s)  : Gives s₀ (execPllRestart s) := by
  unfold execPllRestart
  try dsimp only
  with_reducible repeat' first
    | assumption | apply Gives.next | apply Gives.ite | refine State.start_after ?_ _ (by assumption)
    | apply State.reply_after | apply State.addJob_after | apply State.restartWrite_after | split

/-! ### Ruling -/

theorem State.replyRole_after (h : s₀.After s) : s₀.After (State.replyRole s) := by
  unfold State.replyRole
  try dsimp only
  with_reducible repeat' first | assumption | apply State.After.ite | apply State.endJob_after | split

theorem State.setChain_after (h : s₀.After s) (st : Nat) : s₀.After (State.setChain s st) := by
  unfold State.setChain
  try dsimp only
  with_reducible repeat' first
    | assumption | apply State.After.ite | apply State.set_after | apply State.signal_after
    | apply State.replyRole_after

theorem State.enqueue_after (h : s₀.After s) (kind payload : Nat) : s₀.After (State.enqueue s kind payload) := by
  unfold State.enqueue
  try dsimp only
  with_reducible repeat' first
    | assumption | apply Tab.Keeps.same | apply State.After.ite | apply State.set_after
    | simp only [State.After.mk_eq] | apply Upd.of

theorem State.schedule_after (h : s₀.After s) (k : RuledKind) (instant : Nat) :
    s₀.After (State.schedule s k instant) := by
  unfold State.schedule
  try dsimp only
  with_reducible repeat' first | assumption | apply Tab.Keeps.same | simp only [State.After.mk_eq] | apply Upd.of

theorem State.sendHalt_after (h : s₀.After s) (ens : Nat) : s₀.After (State.sendHalt s ens) := by
  unfold State.sendHalt
  try dsimp only
  with_reducible repeat' first
    | assumption | apply State.After.ite | apply State.enqueue_after | apply State.schedule_after

theorem State.haltForReport_after (h : s₀.After s) (ens : Option Nat) : s₀.After (State.haltForReport s ens) := by
  unfold State.haltForReport
  try dsimp only
  with_reducible repeat' first | assumption | intro _ | apply State.sendHalt_after | apply State.each_after | split

theorem State.report_after (h : s₀.After s) (cause : Nat) (ens : Option Nat) :
    s₀.After (State.report s cause ens) := by
  unfold State.report
  try dsimp only
  with_reducible repeat' first
    | assumption | apply State.After.ite | apply State.enqueue_after | apply State.haltForReport_after

theorem State.enterBroken_after (h : s₀.After s) (at_ : Nat) : s₀.After (State.enterBroken s at_) := by
  unfold State.enterBroken
  try dsimp only
  with_reducible repeat' first
    | assumption | apply Tab.Keeps.same | apply State.set_after | apply State.setChain_after | apply State.raise_after
    | simp only [State.After.mk_eq] | apply Upd.of

theorem State.enterTrain_after (h : s₀.After s) : s₀.After (State.enterTrain s) := by
  unfold State.enterTrain
  try dsimp only
  with_reducible repeat' first
    | assumption | apply Tab.Keeps.same | apply State.setChain_after | simp only [State.After.mk_eq] | apply Upd.of

theorem State.enterRuling_after (h : s₀.After s) : s₀.After (State.enterRuling s) := by
  unfold State.enterRuling
  try dsimp only
  with_reducible repeat' first
    | assumption | apply Tab.Keeps.same | apply State.setChain_after | simp only [State.After.mk_eq] | apply Upd.of

theorem State.roleWrite_after (h : s₀.After s) (role : Nat) : s₀.After (State.roleWrite s role) := by
  unfold State.roleWrite
  try dsimp only
  with_reducible repeat' first
    | assumption | apply Tab.Keeps.same | apply State.After.ite | apply State.set_after | apply State.setChain_after
    | apply State.enterTrain_after | simp only [State.After.mk_eq] | apply Upd.of

theorem State.replyDeskew_after (h : s₀.After s) : s₀.After (State.replyDeskew s) := by
  unfold State.replyDeskew
  try dsimp only
  with_reducible repeat' first | assumption | apply State.endJob_after | split

theorem State.judgeRuled_after (h : s₀.After s) : s₀.After (State.judgeRuled s) := by
  unfold State.judgeRuled
  try dsimp only
  with_reducible repeat' first
    | assumption | apply State.After.ite | apply State.set_after | apply State.setChain_after

theorem State.onFrame_after (h : s₀.After s) (f : Frame) (arrive : Nat) : s₀.After (State.onFrame s f arrive) := by
  unfold State.onFrame
  try dsimp only
  with_reducible repeat' first
    | assumption | apply Tab.Keeps.same | apply State.After.ite | apply State.set_after | apply State.quiet_after
    | apply State.noticeHeld_after | apply State.judgeRuled_after | apply State.set64_after
    | simp only [State.After.mk_eq] | apply Upd.of

theorem State.keep_after (h : s₀.After s) (f : Frame) : s₀.After (State.keep s f) := by
  unfold State.keep
  try dsimp only
  with_reducible repeat' first
    | assumption | apply Tab.Keeps.same | apply State.After.ite | simp only [State.After.mk_eq] | apply Upd.of

theorem State.rebroadcast_after (h : s₀.After s) (f : Frame) : s₀.After (State.rebroadcast s f) := by
  unfold State.rebroadcast
  try dsimp only
  with_reducible repeat' first
    | assumption | apply Tab.Keeps.same | apply State.After.ite | simp only [State.After.mk_eq] | apply Upd.of

theorem State.lateFrame_after (h : s₀.After s) (ens : Option Nat) : s₀.After (State.lateFrame s ens) := by
  unfold State.lateFrame
  try dsimp only
  with_reducible repeat' first
    | assumption | apply State.set_after | apply State.raise_after | apply State.report_after

theorem State.anchorFrame_after (h : s₀.After s) (f : Frame) : s₀.After (State.anchorFrame s f) := by
  unfold State.anchorFrame
  try dsimp only
  with_reducible repeat' first
    | assumption | apply Tab.Keeps.same | apply State.After.ite | apply State.keep_after
    | simp only [State.After.mk_eq] | apply Upd.of

theorem State.deskewFrame_after (h : s₀.After s) (f : Frame) (arrive : Nat) :
    s₀.After (State.deskewFrame s f arrive) := by
  unfold State.deskewFrame
  try dsimp only
  with_reducible repeat' first
    | assumption | apply State.After.ite | apply State.keep_after | apply State.lateFrame_after
    | apply State.schedule_after

theorem State.hopvalFrame_after (h : s₀.After s) (f : Frame) : s₀.After (State.hopvalFrame s f) := by
  unfold State.hopvalFrame
  try dsimp only
  with_reducible repeat' first | assumption | apply State.setB_after | apply State.set_after

theorem State.faultFrame_after (h : s₀.After s) (f : Frame) : s₀.After (State.faultFrame s f) := by
  unfold State.faultFrame
  try dsimp only
  with_reducible repeat' first
    | assumption | apply State.After.ite | apply State.enterBroken_after | apply State.keep_after
    | apply State.rebroadcast_after | apply State.haltForReport_after

theorem State.measFrame_after (h : s₀.After s) (f : Frame) (arrive : Nat) :
    s₀.After (State.measFrame s f arrive) := by
  unfold State.measFrame
  try dsimp only
  with_reducible repeat' first | assumption | apply State.After.ite | apply State.wr_after | apply State.keep_after

theorem State.badFrame_after (h : s₀.After s) (reserved : Bool) : s₀.After (State.badFrame s reserved) := by
  unfold State.badFrame
  try dsimp only
  with_reducible repeat' first
    | assumption | apply Tab.Keeps.same | apply State.After.ite | apply State.bump_after | apply State.set_after
    | simp only [State.After.mk_eq] | apply Upd.of

theorem State.deskewGo_after (h : s₀.After s) : s₀.After (State.deskewGo s) := by
  unfold State.deskewGo
  try dsimp only
  with_reducible repeat' first
    | assumption | apply State.After.ite | apply State.enqueue_after | apply State.schedule_after
    | apply State.set_after

theorem State.deskewDue_after (h : s₀.After s) : s₀.After (State.deskewDue s) := by
  unfold State.deskewDue
  try dsimp only
  with_reducible repeat' first
    | assumption | apply Tab.Keeps.same | apply State.After.ite | apply State.setChain_after
    | simp only [State.After.mk_eq] | apply Upd.of

theorem State.rulEnsWrite_after (h : s₀.After s) (k v : Nat) : s₀.After (State.rulEnsWrite s k v) := by
  unfold State.rulEnsWrite
  try dsimp only
  with_reducible repeat' first
    | assumption | apply State.After.ite | apply State.set_after | apply State.plainWrite_after

theorem execRulRoleWrite_after (h : s₀.After s) (role : Fin 4) : Gives s₀ (execRulRoleWrite role s) := by
  unfold execRulRoleWrite
  try dsimp only
  with_reducible repeat' first | assumption | apply Gives.next | apply State.roleWrite_after

theorem execRulTrained_after (h : s₀.After s) (hops : Fin 32) : Gives s₀ (execRulTrained hops s) := by
  unfold execRulTrained
  try dsimp only
  with_reducible repeat' first
    | assumption | apply Gives.next | apply Gives.ite | apply Tab.Keeps.same | apply State.set_after
    | apply State.enterRuling_after | apply State.enqueue_after | apply State.replyDeskew_after
    | simp only [State.After.mk_eq] | apply Upd.of

theorem execRulTrainTimeout_after (h : s₀.After s)  : Gives s₀ (execRulTrainTimeout s) := by
  unfold execRulTrainTimeout
  try dsimp only
  with_reducible repeat' first
    | assumption | apply Gives.next | apply Gives.ite | apply State.set_after | apply State.enterBroken_after

theorem execRulLinkLost_after (h : s₀.After s)  : Gives s₀ (execRulLinkLost s) := by
  unfold execRulLinkLost
  try dsimp only
  with_reducible repeat' first
    | assumption | apply Gives.next | apply Gives.ite | apply Tab.Keeps.same | apply State.set_after
    | apply State.enterBroken_after | simp only [State.After.mk_eq] | apply Upd.of

theorem execRulBrokenRecover_after (h : s₀.After s)  : Gives s₀ (execRulBrokenRecover s) := by
  unfold execRulBrokenRecover
  try dsimp only
  with_reducible repeat' first | assumption | apply Gives.next | apply Gives.ite | apply State.enterRuling_after

theorem execRulFrameForward_after (h : s₀.After s)  : Gives s₀ (execRulFrameForward s) := by
  unfold execRulFrameForward
  try dsimp only
  with_reducible repeat' first
    | assumption | apply Gives.next | apply Tab.Keeps.same | simp only [State.After.mk_eq] | apply Upd.of | split

theorem execRulFrameSend_after (h : s₀.After s) (mark : Nat) : Gives s₀ (execRulFrameSend mark s) := by
  unfold execRulFrameSend
  try dsimp only
  with_reducible repeat' first
    | assumption | apply Gives.next | apply Gives.ite | apply Tab.Keeps.same | apply State.After.ite
    | simp only [State.After.mk_eq] | apply Upd.of | split

theorem execRulMeasSend_after (h : s₀.After s)  : Gives s₀ (execRulMeasSend s) := by
  unfold execRulMeasSend
  try dsimp only
  with_reducible repeat' first
    | assumption | apply Gives.next | apply Gives.ite | apply Tab.Keeps.same | apply State.enqueue_after
    | simp only [State.After.mk_eq] | apply Upd.of

theorem execRulAnchorSend_after (h : s₀.After s)  : Gives s₀ (execRulAnchorSend s) := by
  unfold execRulAnchorSend
  try dsimp only
  with_reducible repeat' first
    | assumption | apply Gives.next | apply Gives.ite | apply Tab.Keeps.same | apply State.enqueue_after
    | simp only [State.After.mk_eq] | apply Upd.of

theorem execDeskewGo_after (h : s₀.After s)  : Gives s₀ (execDeskewGo s) := by
  unfold execDeskewGo
  try dsimp only
  with_reducible repeat' first | assumption | apply Gives.next | apply State.deskewGo_after

theorem execRulDeskewEnd_after (h : s₀.After s) (dots : BitVec 16) (cause : Fin 5) : Gives s₀ (execRulDeskewEnd dots cause s) := by
  unfold execRulDeskewEnd
  try dsimp only
  with_reducible repeat' first
    | assumption | apply Gives.next | apply Gives.ite | apply Tab.Keeps.same | apply State.deskewDue_after
    | apply State.setB_after | apply State.set_after | apply State.enterTrain_after | simp only [State.After.mk_eq]
    | apply Upd.of

theorem execRulRole_after (h : s₀.After s)  : Gives s₀ (execRulRole s) := by
  unfold execRulRole
  try dsimp only
  with_reducible repeat' first
    | assumption | apply Gives.next | apply Gives.ite | refine State.start_after ?_ _ (by assumption)
    | apply State.reply_after | apply State.replyRole_after | apply State.roleWrite_after | apply State.addJob_after
    | split

theorem execRulRoleReplyTimeout_after (h : s₀.After s)  : Gives s₀ (execRulRoleReplyTimeout s) := by
  unfold execRulRoleReplyTimeout
  try dsimp only
  with_reducible repeat' first | assumption | apply Gives.next | apply Gives.ite | apply State.endJob_after | split

theorem execRulDeskew_after (h : s₀.After s)  : Gives s₀ (execRulDeskew s) := by
  unfold execRulDeskew
  try dsimp only
  with_reducible repeat' first
    | assumption | apply Gives.next | apply Gives.ite | refine State.start_after ?_ _ (by assumption)
    | apply State.addJob_after | apply State.reply_after | apply State.deskewGo_after | split

theorem execRulEns_after (h : s₀.After s)  : Gives s₀ (execRulEns s) := by
  unfold execRulEns
  try dsimp only
  with_reducible repeat' first
    | assumption | apply Gives.next | apply Gives.ite | refine State.start_after ?_ _ (by assumption)
    | apply State.reply_after | apply State.rulEnsWrite_after | apply State.plainWrite_after | split

theorem execRulHop_after (h : s₀.After s)  : Gives s₀ (execRulHop s) := by
  unfold execRulHop
  try dsimp only
  with_reducible repeat' first
    | assumption | apply Gives.next | refine State.start_after ?_ _ (by assumption) | apply State.set_after
    | apply State.reply_after | split

theorem execRulStatus_after (h : s₀.After s)  : Gives s₀ (execRulStatus s) := by
  unfold execRulStatus
  try dsimp only
  with_reducible repeat' first
    | assumption | apply Gives.next | refine State.start_after ?_ _ (by assumption) | apply State.reply_after | split

/-! ### VaultOps -/

theorem State.showVault_after (h : s₀.After s) : s₀.After (State.showVault s) := by
  unfold State.showVault
  try dsimp only
  with_reducible repeat' first
    | assumption | intro _ | apply State.After.ite | apply State.set_after | apply State.setB_after
    | apply State.each_after | apply State.noticeHeld_after | apply State.quiet_after
  all_goals first | exact Tab.Keeps.same | exact Tab.Keeps.nil

theorem State.setVault_after (h : s₀.After s) (v : Vault) (hv : Tab.Keeps memDefault s.vault.sram v.sram) :
    s₀.After (s.setVault v) := by
  unfold State.setVault
  apply State.showVault_after
  simp only [State.After.mk_eq]
  exact Upd.of h .same .same hv .same

theorem State.append_after (h : s₀.After s) (kind origin payload : Nat) :
    s₀.After (State.append s kind origin payload) := by
  unfold State.append
  try dsimp only
  with_reducible repeat' first
    | assumption | apply State.After.ite | apply State.setVault_after | apply State.showVault_after
  all_goals first | exact Tab.Keeps.same | exact Tab.Keeps.nil

theorem State.wear_after (h : s₀.After s) (f : Ledger → Ledger) : s₀.After (State.wear s f) := by
  unfold State.wear
  try dsimp only
  with_reducible repeat' first | assumption | apply Tab.Keeps.same | simp only [State.After.mk_eq] | apply Upd.of
  all_goals first | exact Tab.Keeps.same | exact Tab.Keeps.nil

theorem State.openTx_after (h : s₀.After s) (act : TxAct) (opcode origin : Nat) :
    s₀.After (State.openTx s act opcode origin) := by
  unfold State.openTx
  try dsimp only
  with_reducible repeat' first
    | assumption | apply Tab.Keeps.same | apply State.After.ite | simp only [State.After.mk_eq] | apply Upd.of
  all_goals first | exact Tab.Keeps.same | exact Tab.Keeps.nil

theorem State.discardTxs_after (h : s₀.After s) : s₀.After (State.discardTxs s) := by
  unfold State.discardTxs
  try dsimp only
  with_reducible repeat' first | assumption | apply Tab.Keeps.same | simp only [State.After.mk_eq] | apply Upd.of
  all_goals first | exact Tab.Keeps.same | exact Tab.Keeps.nil

theorem State.sealedChange_after (h : s₀.After s) (item index : Nat) (before : List Byte) (opcode : Nat) :
    s₀.After (State.sealedChange s item index before opcode) := by
  unfold State.sealedChange
  try dsimp only
  with_reducible repeat' first
    | assumption | apply Tab.Keeps.same | apply State.After.ite | apply State.openTx_after
    | simp only [State.After.mk_eq] | apply Upd.of
  all_goals first | exact Tab.Keeps.same | exact Tab.Keeps.nil

/-! ### DebugOps -/

theorem State.strike_after (h : s₀.After s) (link : Nat) : s₀.After (State.strike s link).2 := by
  unfold State.strike
  try dsimp only
  with_reducible repeat' first
    | assumption | apply Tab.Keeps.same | intro _ | dsimp only | apply State.bump_after | apply foldl_snd_after
    | simp only [State.After.mk_eq] | apply Upd.of | apply State.After.ite_snd

theorem State.transfer_after (h : s₀.After s) (link : Nat) : s₀.After (State.transfer s link).2 := by
  unfold State.transfer
  try dsimp only
  with_reducible repeat' first
    | assumption | apply Tab.Keeps.same | dsimp only | apply State.strike_after | simp only [State.After.mk_eq]
    | apply Upd.of | apply State.After.ite_snd

/-! ### StoreOps -/

theorem State.bar2Put_after (h : s₀.After s) (off : Nat) (b : Byte) : s₀.After (State.bar2Put s off b) := by
  unfold State.bar2Put
  try dsimp only
  with_reducible repeat' first
    | assumption | apply Tab.Keeps.same | dsimp only | apply Memory.keeps_memWr | simp only [State.After.mk_eq]
    | apply Upd.of

theorem State.bar2Puts_after (h : s₀.After s) (off : Nat) (l : List (Option Byte)) : s₀.After (s.bar2Puts off l) := by
  induction l generalizing s off with
  | nil => exact h
  | cons a t ih => cases a with
    | none => exact ih h _
    | some b => exact ih (State.bar2Put_after h off b) _

theorem State.freshWord_after (h : s₀.After s) (word : Nat) : s₀.After (State.freshWord s word) := by
  unfold State.freshWord
  try dsimp only
  with_reducible repeat' first | assumption | apply Tab.Keeps.same | simp only [State.After.mk_eq] | apply Upd.of

theorem State.rowCandidate_after (h : s₀.After s) (w row : Nat) : s₀.After (State.rowCandidate s w row) := by
  unfold State.rowCandidate
  try dsimp only
  with_reducible repeat' first | assumption | apply State.After.ite | apply State.wear_after | apply State.set_after
  all_goals first | exact Tab.Keeps.same | exact Tab.Keeps.nil

theorem State.psCorrected_after (h : s₀.After s) (w addr : Nat) : s₀.After (State.psCorrected s w addr) := by
  unfold State.psCorrected
  try dsimp only
  with_reducible repeat' first
    | assumption | apply Tab.Keeps.same | apply State.After.ite | apply State.bump_after
    | apply State.rowCandidate_after | apply State.set_after | apply State.raise_after | simp only [State.After.mk_eq]
    | apply Upd.of

theorem State.psUncorrectable_after (h : s₀.After s) (w addr : Nat) : s₀.After (State.psUncorrectable s w addr) := by
  unfold State.psUncorrectable
  try dsimp only
  with_reducible repeat' first
    | assumption | apply Tab.Keeps.same | apply State.bump_after | apply State.set_after | apply State.set64_after
    | apply State.rowCandidate_after | apply State.raise_after | simp only [State.After.mk_eq] | apply Upd.of

theorem State.colCandidate_after (h : s₀.After s) (k b col cause : Nat) :
    s₀.After (State.colCandidate s k b col cause) := by
  unfold State.colCandidate
  try dsimp only
  with_reducible repeat' first | assumption | apply State.After.ite | apply State.wear_after | apply State.set_after
  all_goals first | exact Tab.Keeps.same | exact Tab.Keeps.nil

theorem State.ssCorrected_after (h : s₀.After s) (k b col : Nat) : s₀.After (State.ssCorrected s k b col) := by
  unfold State.ssCorrected
  try dsimp only
  with_reducible repeat' first
    | assumption | apply Tab.Keeps.same | apply State.After.ite | apply State.bump_after
    | apply State.colCandidate_after | apply State.set_after | apply State.raise_after | simp only [State.After.mk_eq]
    | apply Upd.of

theorem State.ssUncorrectable_after (h : s₀.After s) (k b byte col : Nat) :
    s₀.After (State.ssUncorrectable s k b byte col) := by
  unfold State.ssUncorrectable
  try dsimp only
  with_reducible repeat' first
    | assumption | apply State.bump_after | apply State.set_after | apply State.colCandidate_after
    | apply State.raise_after

theorem State.memError_after (h : s₀.After s) (e : MemErr) : s₀.After (State.memError s e) := by
  unfold State.memError
  try dsimp only
  with_reducible repeat' first
    | assumption | apply State.psCorrected_after | apply State.ssCorrected_after | apply State.psUncorrectable_after
    | apply State.ssUncorrectable_after | split

theorem State.poisonRead_after (h : s₀.After s) (off n : Nat) (e : MemErr) :
    s₀.After (State.poisonRead s off n e) := by
  unfold State.poisonRead
  try dsimp only
  with_reducible repeat' first | assumption | apply State.memError_after | apply State.psUncorrectable_after | split

theorem State.stackWordWrite_after (h : s₀.After s) (off : Nat) (data : List (Option Byte)) (e : MemErr) :
    s₀.After (State.stackWordWrite s off data e) := by
  unfold State.stackWordWrite
  try dsimp only
  with_reducible repeat' first
    | assumption | apply Tab.Keeps.same | apply State.After.ite | apply State.bar2Puts_after
    | apply State.freshWord_after | apply State.memError_after | simp only [State.After.mk_eq] | apply Upd.of

theorem State.haltNow_after (h : s₀.After s) : s₀.After (State.haltNow s) := by
  unfold State.haltNow
  try dsimp only
  with_reducible repeat' first | assumption | apply State.set_after

theorem State.haltDue_after (h : s₀.After s) : s₀.After (State.haltDue s) := by
  unfold State.haltDue
  try dsimp only
  with_reducible repeat' first | assumption | apply State.After.ite | apply State.haltNow_after

theorem State.passBank_after (h : s₀.After s) (k b o : Nat) : s₀.After (State.passBank s k b o) := by
  unfold State.passBank
  try dsimp only
  with_reducible repeat' first
    | assumption | apply Tab.Keeps.same | apply State.set_after | simp only [State.After.mk_eq] | apply Upd.of

theorem State.releaseBank_after (h : s₀.After s) (k b o : Nat) : s₀.After (State.releaseBank s k b o) := by
  unfold State.releaseBank
  try dsimp only
  with_reducible repeat' first | assumption | apply State.After.ite | apply State.passBank_after

theorem State.renameBanks_after (h : s₀.After s) (k o old new : Nat) {t : State} (e : State.renameBanks s k o old new = some t) :
    s₀.After t := by
  unfold State.renameBanks at e
  try dsimp only at e
  repeat' split at e
  all_goals cases e
  all_goals with_reducible repeat' first
      | assumption | intro _ | apply State.each_after | apply State.passBank_after | apply State.releaseBank_after

theorem State.banksToLectern_after (h : s₀.After s) (k o : Nat) : s₀.After (State.banksToLectern s k o) := by
  unfold State.banksToLectern
  try dsimp only
  with_reducible repeat' first
    | assumption | apply Tab.Keeps.same | intro _ | apply State.After.ite | apply State.each_after
    | apply State.set_after | simp only [State.After.mk_eq] | apply Upd.of

theorem State.discardWrite_after (h : s₀.After s) (off : Nat) : s₀.After (State.discardWrite s off) := by
  unfold State.discardWrite
  try dsimp only
  with_reducible repeat' first
    | assumption | apply State.set_after | apply State.bump_after | apply State.set64_after
    | apply State.hostAccess_after

theorem State.serveHeld_after (h : s₀.After s) (w : HeldWrite) {t : State} (e : State.serveHeld s w = some t) :
    s₀.After t := by
  unfold State.serveHeld at e
  try dsimp only at e
  repeat' split at e
  all_goals cases e
  all_goals with_reducible repeat' first | assumption | apply State.bar2Puts_after

theorem State.flushHeld_after (h : s₀.After s) : s₀.After (State.flushHeld s) := by
  unfold State.flushHeld
  try dsimp only
  with_reducible repeat' first
    | assumption | apply Tab.Keeps.same | intro _ | dsimp only | refine State.serveHeld_after ?_ _ (by assumption)
    | apply foldl_fst_after | simp only [State.After.mk_eq] | apply Upd.of | split

/-! ### ChanOps -/

theorem State.setChan_after (h : s₀.After s) (c : Nat) (x : Chan) : s₀.After (State.setChan s c x) := by
  unfold State.setChan
  try dsimp only
  with_reducible repeat' first | assumption | apply Tab.Keeps.same | simp only [State.After.mk_eq] | apply Upd.of

theorem State.onChan_after (h : s₀.After s) (c : Nat) (f : Chan → Chan) : s₀.After (State.onChan s c f) := by
  unfold State.onChan
  try dsimp only
  with_reducible repeat' first | assumption | apply State.setChan_after

theorem State.setChState_after (h : s₀.After s) (c st : Nat) : s₀.After (State.setChState s c st) := by
  unfold State.setChState
  try dsimp only
  with_reducible repeat' first | assumption | apply State.set_after

theorem State.endDesc_after (h : s₀.After s) (c status : Nat) : s₀.After (State.endDesc s c status) := by
  unfold State.endDesc
  try dsimp only
  with_reducible repeat' first | assumption | apply State.onChan_after

theorem State.cpyNotify_after (h : s₀.After s) (f : State → State) (h_f : ∀ u, s₀.After u → s₀.After (f u)) :
    s₀.After (State.cpyNotify s f) := by
  unfold State.cpyNotify
  try dsimp only
  with_reducible repeat' first | assumption | apply State.After.ite | apply h_f | apply State.signal_after

theorem State.endWaits_after (h : s₀.After s) (code : Nat) : s₀.After (State.endWaits s code) := by
  unfold State.endWaits
  try dsimp only
  with_reducible repeat' first
    | assumption | intro _ | apply State.After.ite | apply State.each_after | apply State.onChan_after
    | apply State.endDesc_after | apply State.setB_after

theorem State.cpyEvent_after (h : s₀.After s) (code : Nat) : s₀.After (State.cpyEvent s code) := by
  unfold State.cpyEvent
  try dsimp only
  with_reducible repeat' first | assumption | apply State.setB_after | apply State.endWaits_after

/-! ### EventOps -/

theorem State.post_after (h : s₀.After s) (code source at_ : Nat) (io : Bool) :
    s₀.After (State.post s code source at_ io) := by
  unfold State.post
  try dsimp only
  with_reducible repeat' first
    | assumption | apply Tab.Keeps.same | apply State.After.ite | apply State.set_after | apply State.enqueue_after
    | simp only [State.After.mk_eq] | apply Upd.of

theorem State.showFifo_after (h : s₀.After s) : s₀.After (State.showFifo s) := by
  unfold State.showFifo
  try dsimp only
  with_reducible repeat' first | assumption | apply State.set_after | split

theorem State.fifoPush_after (h : s₀.After s) (source code : Nat) : s₀.After (State.fifoPush s source code) := by
  unfold State.fifoPush
  try dsimp only
  with_reducible repeat' first
    | assumption | apply Tab.Keeps.same | apply State.After.ite | apply State.set_after | apply State.showFifo_after
    | apply State.signal_after | simp only [State.After.mk_eq] | apply Upd.of

theorem State.setPending_after (h : s₀.After s) (k code : Nat) (b : Bool) :
    s₀.After (State.setPending s k code b) := by
  unfold State.setPending
  try dsimp only
  with_reducible repeat' first | assumption | apply State.setB_after

theorem State.oweEdges_after (h : s₀.After s) (mask ref : Nat) : s₀.After (State.oweEdges s mask ref) := by
  unfold State.oweEdges
  try dsimp only
  with_reducible repeat' first | assumption | apply Tab.Keeps.same | simp only [State.After.mk_eq] | apply Upd.of

theorem State.deliver_after (h : s₀.After s) (p : Posted) (at_ : Nat) : s₀.After (State.deliver s p at_) := by
  unfold State.deliver
  try dsimp only
  with_reducible repeat' first
    | assumption | intro _ | apply State.After.ite | apply State.each_after | apply State.setPending_after
    | apply State.onScribe_after | apply State.cpyEvent_after | apply State.fifoPush_after
    | apply State.oweEdges_after

theorem State.driveIo_after (h : s₀.After s) (n : Nat) (b : Bool) : s₀.After (State.driveIo s n b) := by
  unfold State.driveIo
  try dsimp only
  with_reducible repeat' first | assumption | apply Tab.Keeps.same | simp only [State.After.mk_eq] | apply Upd.of

theorem State.endPulse_after (h : s₀.After s) (n : Nat) : s₀.After (State.endPulse s n) := by
  unfold State.endPulse
  try dsimp only
  with_reducible repeat' first
    | assumption | apply Tab.Keeps.same | apply State.After.ite | apply State.driveIo_after
    | simp only [State.After.mk_eq] | apply Upd.of

theorem State.evtioWrite_after (h : s₀.After s) (n v : Nat) : s₀.After (State.evtioWrite s n v) := by
  unfold State.evtioWrite
  try dsimp only
  with_reducible repeat' first
    | assumption | apply State.After.ite | apply State.plainWrite_after | apply State.endPulse_after

theorem State.fifoRead_after (h : s₀.After s) : s₀.After (State.fifoRead s) := by
  unfold State.fifoRead
  try dsimp only
  with_reducible repeat' first
    | assumption | apply Tab.Keeps.same | apply State.answers_after | apply State.showFifo_after
    | simp only [State.After.mk_eq] | apply Upd.of

theorem execEvtPost_after (h : s₀.After s) (code : BitVec 8) : Gives s₀ (execEvtPost code s) := by
  unfold execEvtPost
  try dsimp only
  with_reducible repeat' first | assumption | apply Gives.next | apply State.post_after

theorem execEvtioInputEdge_after (h : s₀.After s) (n : Fin 8) (level : Bool) : Gives s₀ (execEvtioInputEdge n level s) := by
  unfold execEvtioInputEdge
  try dsimp only
  with_reducible repeat' first
    | assumption | apply Gives.next | apply Gives.ite | apply Tab.Keeps.same | apply State.post_after
    | simp only [State.After.mk_eq] | apply Upd.of

theorem execEventDeliver_after (h : s₀.After s)  : Gives s₀ (execEventDeliver s) := by
  unfold execEventDeliver
  try dsimp only
  with_reducible repeat' first
    | assumption | apply Gives.next | apply Tab.Keeps.same | apply State.deliver_after | simp only [State.After.mk_eq]
    | apply Upd.of | split

theorem execEvtioOutputEdge_after (h : s₀.After s) (n : Fin 8) : Gives s₀ (execEvtioOutputEdge n s) := by
  unfold execEvtioOutputEdge
  try dsimp only
  with_reducible repeat' first
    | assumption | apply Gives.next | apply Gives.ite | apply Tab.Keeps.same | apply State.driveIo_after
    | simp only [State.After.mk_eq] | apply Upd.of | split

theorem execEvtioPulseEnd_after (h : s₀.After s) (n : Fin 8) : Gives s₀ (execEvtioPulseEnd n s) := by
  unfold execEvtioPulseEnd
  try dsimp only
  with_reducible repeat' first | assumption | apply Gives.next | apply Gives.ite | apply State.endPulse_after

theorem execEvtFifoRead_after (h : s₀.After s)  : Gives s₀ (execEvtFifoRead s) := by
  unfold execEvtFifoRead
  try dsimp only
  with_reducible repeat' first | assumption | apply Gives.next | apply State.fifoRead_after

end Sys2Proof.Machine
end

