-- ==== Sys2Proof/Laws/AfterScribe.lean ====
section
/-! SUPPORT. That the balls, the pattern stores, the Scribes, their chains and pencils leave behind what an operation may. -/

namespace Sys2Proof.Machine
open Reg

variable {s₀ s : State}

/-! ### MargOps -/

theorem State.setMargRes_after (h : s₀.After s) (k : Nat) (m : Marg) : s₀.After (State.setMargRes s k m) := by
  unfold State.setMargRes
  try dsimp only
  with_reducible repeat' first | assumption | apply State.setMarg_after | apply State.set_after

theorem State.margPen_after (h : s₀.After s) (k fails marks : Nat) : s₀.After (State.margPen s k fails marks) := by
  unfold State.margPen
  try dsimp only
  with_reducible repeat' first | assumption | apply State.set_after

theorem State.margTrip_after (h : s₀.After s) (k why at_ : Nat) (stops : Bool) :
    s₀.After (State.margTrip s k why at_ stops) := by
  unfold State.margTrip
  try dsimp only
  with_reducible repeat' first
    | assumption | apply State.After.ite | apply State.set_after | apply State.setMarg_after
    | apply State.askStop_after

theorem State.margStopRecording_after (h : s₀.After s) (k : Nat) : s₀.After (State.margStopRecording s k) := by
  unfold State.margStopRecording
  try dsimp only
  with_reducible repeat' first
    | assumption | apply State.set_after | apply State.bump_after | apply State.setMargRes_after

theorem State.margBoundary_after (h : s₀.After s) (k bd : Nat) : s₀.After (State.margBoundary s k bd) := by
  unfold State.margBoundary
  try dsimp only
  with_reducible repeat' first
    | assumption | apply State.After.ite | apply State.setMarg_after | apply State.setB_after | apply State.set_after
    | apply State.margTrip_after | apply State.margStopRecording_after

theorem State.margInkLine_after (h : s₀.After s) (k idx w : Nat) : s₀.After (State.margInkLine s k idx w) := by
  unfold State.margInkLine
  try dsimp only
  with_reducible repeat' first | assumption | apply State.After.ite | apply State.setMargRes_after

theorem State.margOwe_after (h : s₀.After s) (k v vidx : Nat) (r : MargRec) (flags : Nat) :
    s₀.After (State.margOwe s k v vidx r flags) := by
  unfold State.margOwe
  try dsimp only
  with_reducible repeat' first | assumption | apply State.setMarg_after

theorem State.margBegin_after (h : s₀.After s) (k v : Nat) : s₀.After (State.margBegin s k v) := by
  unfold State.margBegin
  try dsimp only
  with_reducible repeat' first | assumption | apply State.After.ite | apply State.setMarg_after

theorem State.margMark_after (h : s₀.After s) (k : Nat) (e : Inked) (flags : Nat) :
    s₀.After (State.margMark s k e flags) := by
  unfold State.margMark
  try dsimp only
  with_reducible repeat' first
    | assumption | apply State.After.ite | apply State.setMargRes_after | apply State.margOwe_after

theorem State.margAged_after (h : s₀.After s) (k pins : Nat) : s₀.After (State.margAged s k pins) := by
  unfold State.margAged
  try dsimp only
  with_reducible repeat' first | assumption | apply State.After.ite | apply State.set_after

theorem State.margPair_after (h : s₀.After s) (k : Nat) (a : MargHalf) (b : Option MargHalf) :
    s₀.After (State.margPair s k a b) := by
  unfold State.margPair
  try dsimp only
  with_reducible repeat' first
    | assumption | apply State.After.ite | apply State.setMarg_after | apply State.setMargRes_after
    | apply State.set_after | apply State.bump_after | apply State.margAged_after | apply State.margOwe_after

theorem State.count64_after (h : s₀.After s) (lo hi : Nat) : s₀.After (State.count64 s lo hi) := by
  unfold State.count64
  try dsimp only
  with_reducible repeat' first | assumption | apply State.set64_after

theorem State.margPin_after (h : s₀.After s) (k idx : Nat) (firsts : List FirstFail) (pin : Nat) :
    s₀.After (State.margPin s k idx firsts pin) := by
  unfold State.margPin
  try dsimp only
  with_reducible repeat' first
    | assumption | apply State.After.ite | apply State.bump_after | apply State.set_after | apply State.setB_after

theorem State.margCount_after (h : s₀.After s) (k : Nat) (e : Inked) (fail at_ : Nat) :
    s₀.After (State.margCount s k e fail at_) := by
  unfold State.margCount
  try dsimp only
  with_reducible repeat' first
    | assumption | intro _ | apply State.After.ite | apply State.count64_after | apply State.set_after
    | apply State.each_after | apply State.margPin_after | apply State.margTrip_after

theorem State.margResolve_after (h : s₀.After s) (k : Nat) (e : Inked) (at_ : Nat) :
    s₀.After (State.margResolve s k e at_) := by
  unfold State.margResolve
  try dsimp only
  with_reducible repeat' first
    | assumption | apply State.After.ite | apply State.margCount_after | apply State.margAged_after
    | apply State.margMark_after | apply State.setMarg_after | apply State.margPair_after

theorem State.margWrite_after (h : s₀.After s) (k : Nat) (r : MargRec) : s₀.After (State.margWrite s k r) := by
  unfold State.margWrite
  try dsimp only
  with_reducible repeat' first
    | assumption | apply State.After.ite | apply State.stackWordWrite_after | apply State.set_after
    | apply State.bump_after | apply State.setMargRes_after

theorem State.margClosed_after (h : s₀.After s) (k : Nat) : s₀.After (State.margClosed s k) := by
  unfold State.margClosed
  try dsimp only
  with_reducible repeat' first | assumption | apply State.set_after | apply State.setMargRes_after

theorem State.margForm_after (h : s₀.After s) (k : Nat) (e : MargStop) : s₀.After (State.margForm s k e) := by
  unfold State.margForm
  try dsimp only
  with_reducible repeat' first
    | assumption | apply State.After.ite | apply State.margBegin_after | apply State.margPair_after
    | apply State.setMarg_after | apply State.margOwe_after | split

theorem State.margStart_after (h : s₀.After s) (k : Nat) : s₀.After (State.margStart s k) := by
  unfold State.margStart
  try dsimp only
  with_reducible repeat' first | assumption | apply State.onMarg_after

theorem State.margEnd_after (h : s₀.After s) (k : Nat) : s₀.After (State.margEnd s k) := by
  unfold State.margEnd
  try dsimp only
  with_reducible repeat' first | assumption | apply State.onMarg_after

/-! ### NibOps -/

theorem State.formLane_after (h : s₀.After s) (g l : Nat) (t : Taken) : s₀.After (State.formLane s g l t).2 := by
  unfold State.formLane
  try dsimp only
  with_reducible repeat' first
    | assumption | apply State.After.ite | apply State.setBall_after | apply State.setB_after | apply State.set_after

theorem State.formVector_after (h : s₀.After s) (g : Nat) (t : Taken) : s₀.After (State.formVector s g t) := by
  unfold State.formVector
  try dsimp only
  with_reducible repeat' first
    | assumption | intro _ | dsimp only | apply State.formLane_after | apply State.onOct_after
    | apply State.onInked_after | apply foldl_snd_after | split

theorem State.showNibSum_after (h : s₀.After s) (g : Nat) : s₀.After (State.showNibSum s g) := by
  unfold State.showNibSum
  try dsimp only
  with_reducible repeat' first | assumption | apply State.set_after

theorem State.judgeNibDrop_after (h : s₀.After s) (g : Nat) : s₀.After (State.judgeNibDrop s g) := by
  unfold State.judgeNibDrop
  try dsimp only
  with_reducible repeat' first
    | assumption | apply State.After.ite | apply State.showNibSum_after | apply State.noticeHeld_after
    | apply State.quiet_after

theorem State.countDrop_after (h : s₀.After s) (g l : Nat) (p : Pulse) (range : Bool) :
    s₀.After (State.countDrop s g l p range) := by
  unfold State.countDrop
  try dsimp only
  with_reducible repeat' first
    | assumption | apply State.After.ite | apply State.set_after | apply State.bump_after
    | apply State.judgeNibDrop_after

theorem State.strobeGone_after (h : s₀.After s) (g : Nat) (p : Pulse) : s₀.After (State.strobeGone s g p) := by
  unfold State.strobeGone
  try dsimp only
  with_reducible repeat' first
    | assumption | apply State.After.ite | apply State.wTaken_after | apply State.onInked_after | split

theorem State.strobeResult_after (h : s₀.After s) (g l : Nat) (p : Pulse) (pass : Bool) (code : Nat) (drop : Bool) :
    s₀.After (State.strobeResult s g l p pass code drop) := by
  unfold State.strobeResult
  try dsimp only
  with_reducible repeat' first
    | assumption | apply State.After.ite | apply State.strobeGone_after | apply State.onInked_after
    | apply State.bump_after | split

theorem State.settleOne_after (h : s₀.After s) (g l begun : Nat) (p : Pulse) :
    s₀.After (State.settleOne s g l begun p) := by
  unfold State.settleOne
  try dsimp only
  with_reducible repeat' first
    | assumption | apply State.After.ite | apply State.setBall_after | apply State.countDrop_after
    | apply State.set_after | apply State.strobeResult_after

theorem State.settleLane_after (h : s₀.After s) (g l begun till n : Nat) :
    s₀.After (s.settleLane g l begun till n) := by
  induction n generalizing s with
  | zero => exact h
  | succ n ih =>
    unfold State.settleLane
    repeat' first
      | with_reducible assumption | with_reducible apply ih | with_reducible apply State.settleOne_after | split

theorem State.settle_after (h : s₀.After s) (g begun till : Nat) : s₀.After (State.settle s g begun till) := by
  unfold State.settle
  try dsimp only
  with_reducible repeat' first | assumption | intro _ | apply State.each_after | apply State.settleLane_after

theorem State.discardTail_after (h : s₀.After s) (g : Nat) : s₀.After (State.discardTail s g) := by
  unfold State.discardTail
  try dsimp only
  with_reducible repeat' first
    | assumption | intro _ | apply State.After.ite | apply State.each_after | apply State.setBall_after
    | apply State.set_after | apply State.strobeGone_after

theorem State.beginLine_after (h : s₀.After s) (k i v : Nat) : s₀.After (State.beginLine s k i v) := by
  unfold State.beginLine
  try dsimp only
  with_reducible repeat' first
    | assumption | apply State.After.ite | apply State.onInked_after | apply State.margBegin_after
    | apply State.blotLive_after | apply State.oweEdges_after | apply State.onScribe_after
    | apply State.blotPattern_after | split

theorem State.beginVector_after (h : s₀.After s) (g n b : Nat) : s₀.After (State.beginVector s g n b) := by
  unfold State.beginVector
  try dsimp only
  with_reducible repeat' first
    | assumption | intro _ | apply State.After.ite | apply State.each_after | apply State.onBall_after
    | apply State.onInked_after | apply State.onOct_after | apply State.beginLine_after | split

theorem State.endVector_after (h : s₀.After s) (g n b : Nat) : s₀.After (State.endVector s g n b) := by
  unfold State.endVector
  try dsimp only
  with_reducible repeat' first
    | assumption | apply State.onOct_after | apply State.onMarg_after | apply State.onInked_after
    | apply State.onScribe_after | split

theorem State.nextBoundary_after (h : s₀.After s) (g begun b : Nat) : s₀.After (State.nextBoundary s g begun b) := by
  unfold State.nextBoundary
  try dsimp only
  with_reducible repeat' first | assumption | apply State.onOct_after | split

theorem State.octetStep_after (h : s₀.After s) (g : Nat) (line : Option Taken) :
    s₀.After (State.octetStep s g line) := by
  unfold State.octetStep
  try dsimp only
  with_reducible repeat' first
    | assumption | apply State.After.ite | apply State.applyBatches_after | apply State.onOct_after
    | apply State.formVector_after | apply State.endVector_after | apply State.beginVector_after
    | apply State.discardTail_after | apply State.levelEnd_after | apply State.set_after
    | apply State.feBoundary_after | apply State.nextBoundary_after | apply State.settle_after | split

/-! ### QuillOps -/

theorem State.event_after (h : s₀.After s) (kind group data0 data1 : Nat) (ruleAlert : Bool) :
    s₀.After (State.event s kind group data0 data1 ruleAlert) := by
  unfold State.event
  try dsimp only
  with_reducible repeat' first
    | assumption | apply Tab.Keeps.same | intro _ | apply State.After.ite | apply State.each_after
    | apply State.set_after | apply State.setSignal_after | simp only [State.After.mk_eq] | apply Upd.of

theorem State.disarm_after (h : s₀.After s) : s₀.After (State.disarm s) := by
  unfold State.disarm
  try dsimp only
  with_reducible repeat' first
    | assumption | apply Tab.Keeps.same | apply State.set_after | simp only [State.After.mk_eq] | apply Upd.of

theorem State.mainReset_after (h : s₀.After s) : s₀.After (State.mainReset s) := by
  unfold State.mainReset
  try dsimp only
  with_reducible repeat' first
    | assumption | apply Tab.Keeps.same | intro _ | apply State.After.ite | dsimp only | apply State.set_after
    | apply State.each_after | apply State.setB_after | apply Tab.Keeps.filter | apply Tab.Keeps.nil
    | apply Upd.restart | simp only [State.After.mk_eq]
  all_goals first | exact Tab.Keeps.same | exact Tab.Keeps.nil

theorem State.powerCycled_after (h : s₀.After s) : s₀.After (State.powerCycled s) := by
  unfold State.powerCycled
  try dsimp only
  with_reducible repeat' first | assumption | apply Tab.Keeps.same | simp only [State.After.mk_eq] | apply Upd.of
  all_goals first | exact Tab.Keeps.same | exact Tab.Keeps.nil

theorem State.orderDown_after (h : s₀.After s) (c : DownCause) (safe : Bool) :
    s₀.After (State.orderDown s c safe) := by
  unfold State.orderDown
  try dsimp only
  with_reducible repeat' first
    | assumption | apply Tab.Keeps.same | apply State.After.ite | apply State.safeMask_after
    | apply State.disarm_after | apply State.set_after | simp only [State.After.mk_eq] | apply Upd.of

theorem State.beginWake_after (h : s₀.After s) (c depth : Nat) : s₀.After (State.beginWake s c depth) := by
  unfold State.beginWake
  try dsimp only
  with_reducible repeat' first
    | assumption | apply Tab.Keeps.same | apply State.After.ite | apply State.set_after | apply State.event_after
    | apply State.disarm_after | simp only [State.After.mk_eq] | apply Upd.of

theorem State.wake_after (h : s₀.After s) (c : Nat) : s₀.After (State.wake s c) := by
  unfold State.wake
  try dsimp only
  with_reducible repeat' first
    | assumption | apply Tab.Keeps.same | apply State.After.ite | apply State.set_after | apply State.event_after
    | apply State.beginWake_after | simp only [State.After.mk_eq] | apply Upd.of

theorem State.reachDormant_after (h : s₀.After s) : s₀.After (State.reachDormant s) := by
  unfold State.reachDormant
  try dsimp only
  with_reducible repeat' first
    | assumption | apply Tab.Keeps.same | apply State.set_after | apply State.beginWake_after
    | simp only [State.After.mk_eq] | apply Upd.of | split

theorem State.lowerGroup_after (h : s₀.After s) (n : Nat) : s₀.After (State.lowerGroup s n) := by
  unfold State.lowerGroup
  try dsimp only
  with_reducible repeat' first
    | assumption | apply Tab.Keeps.same | apply State.After.ite | apply State.mainReset_after
    | simp only [State.After.mk_eq] | apply Upd.of

theorem State.fireRule_after (h : s₀.After s) (k : Nat) (v : Int) : s₀.After (State.fireRule s k v) := by
  unfold State.fireRule
  try dsimp only
  with_reducible repeat' first
    | assumption | apply State.After.ite | apply State.set_after | apply State.event_after
    | apply State.safeMask_after | apply State.orderDown_after

theorem State.runRules_after (h : s₀.After s) (vals : List (Nat × Int)) : s₀.After (State.runRules s vals) := by
  unfold State.runRules
  try dsimp only
  with_reducible repeat' first
    | assumption | apply Tab.Keeps.same | intro _ | apply State.After.ite | apply State.each_after
    | apply State.fireRule_after | apply State.event_after | apply State.wake_after | simp only [State.After.mk_eq]
    | apply Upd.of | split

theorem State.ilkHold_after (h : s₀.After s) : s₀.After (State.ilkHold s) := by
  unfold State.ilkHold
  try dsimp only
  with_reducible repeat' first | assumption | apply State.After.ite | apply State.safeMask_after

theorem State.ilkTo_after (h : s₀.After s) (st count : Nat) : s₀.After (State.ilkTo s st count) := by
  unfold State.ilkTo
  try dsimp only
  with_reducible repeat' first | assumption | apply State.set_after

theorem State.ilkTick_after (h : s₀.After s) (a b : Bool) : s₀.After (State.ilkTick s a b) := by
  unfold State.ilkTick
  try dsimp only
  with_reducible repeat' first
    | assumption | apply Tab.Keeps.same | apply State.After.ite | apply State.setB_after | apply State.ilkTo_after
    | apply State.event_after | apply State.notice_after | simp only [State.After.mk_eq] | apply Upd.of | split

theorem State.ilkArm_after (h : s₀.After s) : s₀.After (State.ilkArm s) := by
  unfold State.ilkArm
  try dsimp only
  with_reducible repeat' first
    | assumption | apply State.After.ite | apply State.ilkTo_after | apply State.event_after | apply State.set_after

theorem State.ilkCtlWrite_after (h : s₀.After s) (v : Nat) : s₀.After (State.ilkCtlWrite s v) := by
  unfold State.ilkCtlWrite
  try dsimp only
  with_reducible repeat' first | assumption | apply State.After.ite | apply State.set_after | apply State.ilkArm_after

theorem State.pcycle_after (h : s₀.After s) : s₀.After (State.pcycle s) := by
  unfold State.pcycle
  try dsimp only
  with_reducible repeat' first
    | assumption | apply Tab.Keeps.same | apply State.set_after | apply State.orderDown_after
    | simp only [State.After.mk_eq] | apply Upd.of | split

theorem State.hrdWrite_after (h : s₀.After s) (v : Nat) : s₀.After (State.hrdWrite s v) := by
  unfold State.hrdWrite
  try dsimp only
  with_reducible repeat' first
    | assumption | apply Tab.Keeps.same | apply State.set_after | simp only [State.After.mk_eq] | apply Upd.of

theorem State.tamperHit_after (h : s₀.After s) (cause : Nat) : s₀.After (State.tamperHit s cause) := by
  unfold State.tamperHit
  try dsimp only
  with_reducible repeat' first | assumption | apply Tab.Keeps.same | simp only [State.After.mk_eq] | apply Upd.of

/-! ### Store -/

theorem State.bar2Answer_after (h : s₀.After s) (off n : Nat) (poisoned : Bool) :
    s₀.After (State.bar2Answer s off n poisoned) := by
  unfold State.bar2Answer
  try dsimp only
  with_reducible repeat' first | assumption | apply Tab.Keeps.same | simp only [State.After.mk_eq] | apply Upd.of

theorem State.freeBytes_after (h : s₀.After s) (n : Nat) (poisoned : Bool) :
    s₀.After (State.freeBytes s n poisoned) := by
  unfold State.freeBytes
  try dsimp only
  with_reducible repeat' first
    | assumption | apply Tab.Keeps.same | apply State.fresh_after | simp only [State.After.mk_eq] | apply Upd.of

theorem State.storeRead_after (h : s₀.After s) (k b off n : Nat) (e : MemErr) (m : Meeting) :
    s₀.After (State.storeRead s k b off n e m) := by
  unfold State.storeRead
  try dsimp only
  with_reducible repeat' first
    | assumption | apply Tab.Keeps.same | apply State.After.ite | apply State.hostAccess_after
    | apply State.freeBytes_after | apply State.set_after | apply State.bar2Answer_after | apply State.raise_after
    | apply State.memError_after | simp only [State.After.mk_eq] | apply Upd.of

theorem State.storeWrite_after (h : s₀.After s) (k b off : Nat) (data : List (Option Byte)) (m : Meeting) :
    s₀.After (State.storeWrite s k b off data m) := by
  unfold State.storeWrite
  try dsimp only
  with_reducible repeat' first
    | assumption | apply Tab.Keeps.same | apply State.After.ite | apply State.discardWrite_after
    | apply State.set_after | apply State.bar2Puts_after | apply State.raise_after | simp only [State.After.mk_eq]
    | apply Upd.of

theorem State.bar2Write_after (h : s₀.After s) (off : Nat) (data : List (Option Byte)) (e : MemErr) (m : Meeting) :
    s₀.After (State.bar2Write s off data e m) := by
  unfold State.bar2Write
  try dsimp only
  with_reducible repeat' first
    | assumption | intro _ | apply State.each_after | apply State.hostAccess_after | apply State.set_after
    | apply State.stackWordWrite_after | apply State.storeWrite_after | split

theorem State.setWindow_after (h : s₀.After s) (k i : Nat) (w : Nat × Nat) : s₀.After (State.setWindow s k i w) := by
  unfold State.setWindow
  try dsimp only
  with_reducible repeat' first | assumption | apply State.set_after | split

theorem State.windowWrite_after (h : s₀.After s) (k i v : Nat) : s₀.After (State.windowWrite s k i v) := by
  unfold State.windowWrite
  try dsimp only
  with_reducible repeat' first
    | assumption | apply State.After.ite | apply State.set_after | apply State.setWindow_after

theorem State.raCfgWrite_after (h : s₀.After s) (k v : Nat) : s₀.After (State.raCfgWrite s k v) := by
  unfold State.raCfgWrite
  try dsimp only
  with_reducible repeat' first
    | assumption | apply State.After.ite | apply State.set_after
    | refine State.renameBanks_after ?_ _ _ _ _ (by assumption) | split

theorem State.setCache_after (h : s₀.After s) (k : Nat) (c : Cache) : s₀.After (State.setCache s k c) := by
  unfold State.setCache
  try dsimp only
  with_reducible repeat' first
    | assumption | apply Tab.Keeps.same | apply State.set_after | simp only [State.After.mk_eq] | apply Upd.of

theorem State.releaseResv_after (h : s₀.After s) (k : Nat) : s₀.After (State.releaseResv s k) := by
  unfold State.releaseResv
  try dsimp only
  with_reducible repeat' first
    | assumption | apply Tab.Keeps.same | apply State.After.ite | apply State.set_after | apply State.wr_after
    | simp only [State.After.mk_eq] | apply Upd.of

theorem State.bankWrite_after (h : s₀.After s) (k b code : Nat) : s₀.After (State.bankWrite s k b code) := by
  unfold State.bankWrite
  try dsimp only
  with_reducible repeat' first
    | assumption | apply State.After.ite | apply State.passBank_after | apply State.set_after

theorem State.guestWrite_after (h : s₀.After s) (k code : Nat) : s₀.After (State.guestWrite s k code) := by
  unfold State.guestWrite
  try dsimp only
  with_reducible repeat' first | assumption | apply State.After.ite | apply State.set_after

theorem State.failBank_after (h : s₀.After s) (k b : Nat) : s₀.After (State.failBank s k b) := by
  unfold State.failBank
  try dsimp only
  with_reducible repeat' first
    | assumption | apply Tab.Keeps.same | apply State.After.ite | apply State.set_after | apply State.wear_after
    | apply State.raise_after | simp only [State.After.mk_eq] | apply Upd.of

theorem State.showRepair_after (h : s₀.After s) (k b : Nat) : s₀.After (State.showRepair s k b) := by
  unfold State.showRepair
  try dsimp only
  with_reducible repeat' first | assumption | apply State.set_after
  all_goals first | exact Tab.Keeps.same | exact Tab.Keeps.nil

theorem State.repairColumn_after (h : s₀.After s) (k b e : Nat) : s₀.After (State.repairColumn s k b e) := by
  unfold State.repairColumn
  try dsimp only
  with_reducible repeat' first
    | assumption | apply State.After.ite | apply State.wear_after | apply State.showRepair_after
    | apply State.append_after | apply State.set_after
  all_goals first | exact Tab.Keeps.same | exact Tab.Keeps.nil

theorem State.clearBank_after (h : s₀.After s) (k b : Nat) : s₀.After (State.clearBank s k b) := by
  unfold State.clearBank
  try dsimp only
  with_reducible repeat' first
    | assumption | apply Tab.Keeps.same | dsimp only | apply Tab.Keeps.filter | simp only [State.After.mk_eq]
    | apply Upd.of

theorem State.setBist_after (h : s₀.After s) (k : Nat) (t : Bist) : s₀.After (State.setBist s k t) := by
  unfold State.setBist
  try dsimp only
  with_reducible repeat' first
    | assumption | apply Tab.Keeps.same | apply State.set_after | simp only [State.After.mk_eq] | apply Upd.of

theorem State.startBist_after (h : s₀.After s) (k mask : Nat) (owners : List (Nat × Nat)) (job : Bool) :
    s₀.After (State.startBist s k mask owners job) := by
  unfold State.startBist
  try dsimp only
  with_reducible repeat' first
    | assumption | apply Tab.Keeps.same | intro _ | apply State.each_after | apply State.set_after
    | apply State.setBist_after | simp only [State.After.mk_eq] | apply Upd.of
  all_goals first | exact Tab.Keeps.same | exact Tab.Keeps.nil

theorem State.endBankTest_after (h : s₀.After s) (k b : Nat) : s₀.After (State.endBankTest s k b) := by
  unfold State.endBankTest
  try dsimp only
  with_reducible repeat' first
    | assumption | apply State.clearBank_after | apply State.wear_after | apply State.set_after
    | apply State.setBist_after

theorem State.repairBank_after (h : s₀.After s) (k b : Nat) : s₀.After (State.repairBank s k b) := by
  unfold State.repairBank
  try dsimp only
  with_reducible repeat' first
    | assumption | intro _ | apply State.After.ite | apply State.each_after | apply State.repairColumn_after
    | apply State.setBist_after | apply State.failBank_after
  all_goals first | exact Tab.Keeps.same | exact Tab.Keeps.nil

theorem State.endBist_after (h : s₀.After s) (k : Nat) : s₀.After (State.endBist s k) := by
  unfold State.endBist
  try dsimp only
  with_reducible repeat' first
    | assumption | apply State.After.ite | apply State.setBist_after | apply State.endJob_after | split

theorem execBar2Read_after (h : s₀.After s) (off : BitVec 36) (n : BitVec 13) (e : MemErr) (m : Meeting) : Gives s₀ (execBar2Read off n e m s) := by
  unfold execBar2Read
  try dsimp only
  with_reducible repeat' first
    | assumption | apply Gives.next | apply Gives.ite | apply Tab.Keeps.same | apply State.wake_after
    | apply State.hostAccess_after | apply State.poisonRead_after | apply State.bar2Answer_after
    | apply State.storeRead_after | simp only [State.After.mk_eq] | apply Upd.of | split

theorem execBar2Write_after (h : s₀.After s) (off : BitVec 36) (data : List (Option Byte)) (e : MemErr) (m : Meeting) : Gives s₀ (execBar2Write off data e m s) := by
  unfold execBar2Write
  try dsimp only
  with_reducible repeat' first
    | assumption | apply Gives.next | apply Gives.ite | apply State.wake_after | apply State.bar2Write_after

theorem execPsWindowWrite_after (h : s₀.After s) (k : Sector) (i : Fin 3) (v : Word) : Gives s₀ (execPsWindowWrite k i v s) := by
  unfold execPsWindowWrite
  try dsimp only
  with_reducible repeat' first
    | assumption | apply Gives.next | intro _ | apply State.whileOn_after | apply State.windowWrite_after

theorem execRaCfgWrite_after (h : s₀.After s) (k : Sector) (v : Word) : Gives s₀ (execRaCfgWrite k v s) := by
  unfold execRaCfgWrite
  try dsimp only
  with_reducible repeat' first
    | assumption | apply Gives.next | intro _ | apply State.whileOn_after | apply State.raCfgWrite_after

theorem execFetchIssue_after (h : s₀.After s) (k : Sector) (g : Nat) (body : Option Nat) (again : MemErr) : Gives s₀ (execFetchIssue k g body again s) := by
  unfold execFetchIssue
  try dsimp only
  with_reducible repeat' first
    | assumption | apply Gives.next | apply Gives.ite | apply State.memError_after | apply State.setCache_after
    | split

theorem execFetchComplete_after (h : s₀.After s) (k : Sector) (g : Nat) (e : MemErr) : Gives s₀ (execFetchComplete k g e s) := by
  unfold execFetchComplete
  try dsimp only
  with_reducible repeat' first
    | assumption | apply Gives.next | apply Gives.ite | apply State.transfer_after | apply State.poisonRead_after
    | apply State.setCache_after | split

theorem execStackTempRead_after (h : s₀.After s) (w : Wing) (t : BitVec 8) : Gives s₀ (execStackTempRead w t s) := by
  unfold execStackTempRead
  try dsimp only
  with_reducible repeat' first
    | assumption | apply Gives.next | apply Gives.ite | apply State.set_after | apply State.setB_after
    | apply State.noticeHeld_after | apply State.quiet_after

theorem execPatAdmit_after (h : s₀.After s)  : Gives s₀ (execPatAdmit s) := by
  unfold execPatAdmit
  try dsimp only
  with_reducible repeat' first
    | assumption | apply Gives.next | apply Gives.ite | apply Tab.Keeps.same
    | refine State.start_after ?_ _ (by assumption) | apply State.reply_after | apply State.set_after
    | apply State.setB_after | simp only [State.After.mk_eq] | apply Upd.of | split

theorem execPatRelease_after (h : s₀.After s)  : Gives s₀ (execPatRelease s) := by
  unfold execPatRelease
  try dsimp only
  with_reducible repeat' first
    | assumption | apply Gives.next | apply Gives.ite | refine State.start_after ?_ _ (by assumption)
    | apply State.reply_after | apply State.releaseResv_after | split

theorem execPsHostRes_after (h : s₀.After s)  : Gives s₀ (execPsHostRes s) := by
  unfold execPsHostRes
  try dsimp only
  with_reducible repeat' first
    | assumption | apply Gives.next | apply Gives.ite | refine State.start_after ?_ _ (by assumption)
    | apply State.reply_after | apply State.set_after | split

theorem execPsWindows_after (h : s₀.After s)  : Gives s₀ (execPsWindows s) := by
  unfold execPsWindows
  try dsimp only
  with_reducible repeat' first
    | assumption | apply Gives.next | apply Gives.ite | intro _ | refine State.start_after ?_ _ (by assumption)
    | apply State.reply_after | apply State.setWindow_after | apply foldl_after | split

theorem execPsStatus_after (h : s₀.After s)  : Gives s₀ (execPsStatus s) := by
  unfold execPsStatus
  try dsimp only
  with_reducible repeat' first
    | assumption | apply Gives.next | apply Gives.ite | refine State.start_after ?_ _ (by assumption)
    | apply State.reply_after | split

theorem execSsBankWrite_after (h : s₀.After s) (k : Sector) (b : Fin 16) (code : BitVec 8) : Gives s₀ (execSsBankWrite k b code s) := by
  unfold execSsBankWrite
  try dsimp only
  with_reducible repeat' first
    | assumption | apply Gives.next | intro _ | apply State.whileOn_after | apply State.bankWrite_after

theorem execSsGuestWrite_after (h : s₀.After s) (k : Sector) (code : BitVec 8) : Gives s₀ (execSsGuestWrite k code s) := by
  unfold execSsGuestWrite
  try dsimp only
  with_reducible repeat' first
    | assumption | apply Gives.next | intro _ | apply State.whileOn_after | apply State.guestWrite_after

theorem execBankHandoverDone_after (h : s₀.After s) (k : Sector) (b : Fin 16) : Gives s₀ (execBankHandoverDone k b s) := by
  unfold execBankHandoverDone
  try dsimp only
  with_reducible repeat' first
    | assumption | apply Gives.next | apply Gives.ite | apply Tab.Keeps.same | apply State.set_after
    | apply State.haltDue_after | apply State.flushHeld_after | simp only [State.After.mk_eq] | apply Upd.of

theorem execHostWriteHoldTimeout_after (h : s₀.After s)  : Gives s₀ (execHostWriteHoldTimeout s) := by
  unfold execHostWriteHoldTimeout
  try dsimp only
  with_reducible repeat' first
    | assumption | apply Gives.next | apply Gives.ite | apply Tab.Keeps.same | apply State.flushHeld_after
    | apply State.discardWrite_after | simp only [State.After.mk_eq] | apply Upd.of | split

theorem execBistPassEnd_after (h : s₀.After s) (k : Sector) (fails : List (Fin 16 × BitVec 9)) : Gives s₀ (execBistPassEnd k fails s) := by
  unfold execBistPassEnd
  try dsimp only
  with_reducible repeat' first
    | assumption | apply Gives.next | apply Gives.ite | intro _ | apply State.After.ite | apply State.each_after
    | apply State.colCandidate_after | apply State.setBist_after | apply State.endBankTest_after
    | apply State.repairBank_after | apply State.endBist_after | apply State.failBank_after
  all_goals first | exact Tab.Keeps.same | exact Tab.Keeps.nil

theorem execStoreBist_after (h : s₀.After s)  : Gives s₀ (execStoreBist s) := by
  unfold execStoreBist
  try dsimp only
  with_reducible repeat' first
    | assumption | apply Gives.next | apply Gives.ite | refine State.start_after ?_ _ (by assumption)
    | apply State.reply_after | apply State.endBist_after | apply State.addJob_after | apply State.startBist_after
    | split

theorem execRequestUrgent_after (h : s₀.After s) (cls : Fin 6) (who : Requester) : Gives s₀ (execRequestUrgent cls who s) := by
  unfold execRequestUrgent
  try dsimp only
  with_reducible repeat' first
    | assumption | apply Gives.next | apply Gives.ite | apply State.updateJob_after | apply State.bump_after | split

/-! ### Pencil -/

theorem State.showPen_after (h : s₀.After s) (k : Nat) : s₀.After (State.showPen s k) := by
  unfold State.showPen
  try dsimp only
  with_reducible repeat' first | assumption | apply State.setB_after | apply State.set_after

theorem State.setPen_after (h : s₀.After s) (k : Nat) (p : Pencil) : s₀.After (State.setPen s k p) := by
  unfold State.setPen
  try dsimp only
  with_reducible repeat' first | assumption | apply State.onScribe_after | apply State.showPen_after

theorem State.showHeld_after (h : s₀.After s) (k : Nat) : s₀.After (State.showHeld s k) := by
  unfold State.showHeld
  try dsimp only
  with_reducible repeat' first | assumption | intro _ | apply State.each_after | apply State.set_after

theorem State.refreshHolders_after (h : s₀.After s) (k : Nat) : s₀.After (State.refreshHolders s k) := by
  unfold State.refreshHolders
  try dsimp only
  with_reducible repeat' first
    | assumption | intro _ | apply State.margPen_after | apply State.each_after | apply State.showHeld_after

theorem State.announceLine_after (h : s₀.After s) (k tag at_ : Nat) (l : Staged) :
    s₀.After (State.announceLine s k tag at_ l).1 := by
  unfold State.announceLine
  try dsimp only
  with_reducible repeat' first
    | assumption | dsimp only | apply State.blotPattern_after | apply State.onScribe_after | apply State.After.ite_fst

theorem State.judgeFate_after (h : s₀.After s) (k tag at_ : Nat) : s₀.After (State.judgeFate s k tag at_) := by
  unfold State.judgeFate
  try dsimp only
  with_reducible repeat' first
    | assumption | apply State.After.ite | apply State.onScribe_after | apply State.blotFate_after | split

theorem State.closeTag_after (h : s₀.After s) (k tag at_ : Nat) : s₀.After (State.closeTag s k tag at_) := by
  unfold State.closeTag
  try dsimp only
  with_reducible repeat' first | assumption | apply State.onScribe_after | apply State.judgeFate_after

theorem State.earlyInked_after (h : s₀.After s) (k tag at_ : Nat) : s₀.After (State.earlyInked s k tag at_) := by
  unfold State.earlyInked
  try dsimp only
  with_reducible repeat' first | assumption | apply State.onScribe_after | apply State.judgeFate_after

theorem State.eraseLines_after (h : s₀.After s) (k at_ : Nat) (ls : List Staged) :
    s₀.After (State.eraseLines s k at_ ls) := by
  unfold State.eraseLines
  try dsimp only
  with_reducible repeat' first
    | assumption | intro _ | apply State.bump_after | apply State.each_after | apply State.onScribe_after
    | apply State.blotFate_after | apply State.refreshHolders_after | split

theorem State.eraseMain_after (h : s₀.After s) (k at_ : Nat) : s₀.After (State.eraseMain s k at_) := by
  unfold State.eraseMain
  try dsimp only
  with_reducible repeat' first | assumption | apply State.onScribe_after | apply State.eraseLines_after

theorem State.erasePencil_after (h : s₀.After s) (k at_ : Nat) : s₀.After (State.erasePencil s k at_) := by
  unfold State.erasePencil
  try dsimp only
  with_reducible repeat' first | assumption | apply State.setPen_after | apply State.eraseLines_after

theorem State.stageAlt_after (h : s₀.After s) (k : Nat) (p : Pencil) (w : Nat) :
    s₀.After (State.stageAlt s k p w) := by
  unfold State.stageAlt
  try dsimp only
  with_reducible repeat' first
    | assumption | apply State.announceLine_after | apply State.setPen_after | apply State.refreshHolders_after
    | apply State.After.ite_fst

theorem State.stagePencil_after (h : s₀.After s) (k : Nat) : s₀.After (State.stagePencil s k) := by
  unfold State.stagePencil
  try dsimp only
  with_reducible repeat' first
    | assumption | apply State.After.ite | apply State.setPen_after | apply State.stageAlt_after | split

theorem State.stageInline_after (h : s₀.After s) (k : Nat) (f : Flow) (w : Nat) :
    s₀.After (State.stageInline s k f w) := by
  unfold State.stageInline
  try dsimp only
  with_reducible repeat' first
    | assumption | apply State.announceLine_after | apply State.onScribe_after | apply State.refreshHolders_after
    | apply State.After.ite_fst

theorem State.stageMain_after (h : s₀.After s) (k : Nat) : s₀.After (State.stageMain s k) := by
  unfold State.stageMain
  try dsimp only
  with_reducible repeat' first | assumption | apply State.After.ite | apply State.stageInline_after | split

theorem State.releaseInline_after (h : s₀.After s) (k at_ : Nat) : s₀.After (State.releaseInline s k at_) := by
  unfold State.releaseInline
  try dsimp only
  with_reducible repeat' first
    | assumption | apply State.After.ite | apply State.closeTag_after | apply State.setPen_after
    | apply State.erasePencil_after | split

theorem State.takeAlternative_after (h : s₀.After s) (k at_ : Nat) : s₀.After (State.takeAlternative s k at_) := by
  unfold State.takeAlternative
  try dsimp only
  with_reducible repeat' first
    | assumption | apply State.After.ite | apply State.eraseMain_after | apply State.onScribe_after
    | apply State.setPen_after | apply State.closeTag_after | apply State.refreshHolders_after | split

theorem State.unstage_after (h : s₀.After s) (k pc at_ : Nat) : s₀.After (State.unstage s k pc at_) := by
  unfold State.unstage
  try dsimp only
  with_reducible repeat' first
    | assumption | apply State.After.ite | apply State.onScribe_after | apply State.earlyInked_after
    | apply State.refreshHolders_after | apply State.eraseMain_after | split

theorem execPencilSlotAssign_after (h : s₀.After s) (k : Sector) : Gives s₀ (execPencilSlotAssign k s) := by
  unfold execPencilSlotAssign
  try dsimp only
  with_reducible repeat' first | assumption | apply Gives.next | apply Gives.ite | apply State.setPen_after | split

theorem execPencilLineStaged_after (h : s₀.After s) (k : Sector) (pencilled : Bool) : Gives s₀ (execPencilLineStaged k pencilled s) := by
  unfold execPencilLineStaged
  try dsimp only
  with_reducible repeat' first
    | assumption | apply Gives.next | apply Gives.ite | apply State.After.ite | apply State.stagePencil_after
    | apply State.stageMain_after

/-! ### ModeReq -/

theorem State.setMode_after (h : s₀.After s) (k m : Nat) : s₀.After (State.setMode s k m) := by
  unfold State.setMode
  try dsimp only
  with_reducible repeat' first | assumption | apply State.set_after

theorem State.stopWrite_after (h : s₀.After s) (k : Nat) : s₀.After (State.stopWrite s k) := by
  unfold State.stopWrite
  try dsimp only
  with_reducible repeat' first | assumption | apply State.After.ite | apply State.askStop_after

theorem State.modeRefuse_after (h : s₀.After s) (k cause : Nat) : s₀.After (State.modeRefuse s k cause) := by
  unfold State.modeRefuse
  try dsimp only
  with_reducible repeat' first
    | assumption | apply State.set_after | apply State.updateJob_after | apply State.modeJob_after | split

theorem State.beginMode_after (h : s₀.After s) (k tgt : Nat) : s₀.After (State.beginMode s k tgt) := by
  unfold State.beginMode
  try dsimp only
  with_reducible repeat' first
    | assumption | apply State.After.ite | apply State.set_after | apply State.announce_after
    | apply State.refreshDacs_after

theorem State.modeJudge_after (h : s₀.After s) (k req : Nat) : s₀.After (State.modeJudge s k req) := by
  unfold State.modeJudge
  try dsimp only
  with_reducible repeat' first
    | assumption | apply State.After.ite | apply State.set_after | apply State.stopWrite_after
    | apply State.modeRefuse_after | apply State.beginMode_after

theorem State.modeRequest_after (h : s₀.After s) (k req : Nat) : s₀.After (State.modeRequest s k req) := by
  unfold State.modeRequest
  try dsimp only
  with_reducible repeat' first
    | assumption | apply Tab.Keeps.same | apply State.After.ite | apply State.modeRefuse_after | apply State.set_after
    | apply State.wake_after | apply State.beginWake_after | apply State.modeJudge_after
    | simp only [State.After.mk_eq] | apply Upd.of

theorem State.modeHeld_after (h : s₀.After s) (k : Nat) : s₀.After (State.modeHeld s k) := by
  unfold State.modeHeld
  try dsimp only
  with_reducible repeat' first
    | assumption | apply State.After.ite | apply State.set_after | apply State.updateJob_after
    | apply State.modeRequest_after | split

theorem State.modeEnds_after (h : s₀.After s) (k : Nat) : s₀.After (State.modeEnds s k) := by
  unfold State.modeEnds
  try dsimp only
  with_reducible repeat' first
    | assumption | apply State.After.ite | apply State.modeJob_after | apply State.modeHeld_after

/-! ### ScribeOps -/

theorem State.refuseStart_after (h : s₀.After s) (k cause : Nat) : s₀.After (State.refuseStart s k cause) := by
  unfold State.refuseStart
  try dsimp only
  with_reducible repeat' first | assumption | apply State.set_after

theorem State.showFlow_after (h : s₀.After s) (k : Nat) : s₀.After (State.showFlow s k) := by
  unfold State.showFlow
  try dsimp only
  with_reducible repeat' first
    | assumption | intro _ | apply State.each_after | apply State.set_after | apply State.setB_after

theorem State.beginPriming_after (h : s₀.After s) (k : Nat) (chain : Option (Nat × Nat)) :
    s₀.After (State.beginPriming s k chain) := by
  unfold State.beginPriming
  try dsimp only
  with_reducible repeat' first
    | assumption | intro _ | apply State.setMode_after | apply State.set_after | apply State.setCache_after
    | apply State.each_after | apply State.wr_after | apply State.setScribe_after | apply State.showFlow_after
    | apply State.showPen_after | apply State.margStart_after | apply State.blotStart_after
    | apply State.refreshBalls_after

theorem State.startOctets_after (h : s₀.After s) (k : Nat) (m : Int) : s₀.After (State.startOctets s k m) := by
  unfold State.startOctets
  try dsimp only
  with_reducible repeat' first
    | assumption | intro _ | apply State.each_after | apply State.set_after | apply State.onOct_after

theorem State.beginRunning_after (h : s₀.After s) (k S : Nat) : s₀.After (State.beginRunning s k S) := by
  unfold State.beginRunning
  try dsimp only
  with_reducible repeat' first
    | assumption | apply State.set_after | apply State.onScribe_after | apply State.startOctets_after

theorem State.stopFellows_after (h : s₀.After s) (k at_ : Nat) : s₀.After (State.stopFellows s k at_) := by
  unfold State.stopFellows
  try dsimp only
  with_reducible repeat' first
    | assumption | intro _ | apply State.After.ite | apply State.each_after | apply State.onScribe_after

theorem State.endRun_after (h : s₀.After s) (k : Nat) : s₀.After (State.endRun s k) := by
  unfold State.endRun
  try dsimp only
  with_reducible repeat' first
    | assumption | apply State.After.ite | apply State.set_after | apply State.setSignal_after
    | apply State.setMode_after | apply State.sendHalt_after | apply State.margEnd_after | apply State.blotOver_after
    | apply State.stopSines_after | apply State.refreshBalls_after | apply State.modeEnds_after | split

theorem State.stopAtBoundary_after (h : s₀.After s) (k cause bd : Nat) :
    s₀.After (State.stopAtBoundary s k cause bd) := by
  unfold State.stopAtBoundary
  try dsimp only
  with_reducible repeat' first
    | assumption | intro _ | apply State.After.ite | apply State.set_after | apply State.onScribe_after
    | apply State.eraseMain_after | apply State.erasePencil_after | apply State.each_after | apply State.onOct_after
    | apply State.stopFellows_after

theorem State.scribeFault_after (h : s₀.After s) (k pc : Nat) : s₀.After (State.scribeFault s k pc) := by
  unfold State.scribeFault
  try dsimp only
  with_reducible repeat' first | assumption | apply State.set_after | apply State.raise_after

theorem State.lineStop_after (h : s₀.After s) (k cause : Nat) : s₀.After (State.lineStop s k cause) := by
  unfold State.lineStop
  try dsimp only
  with_reducible repeat' first
    | assumption | apply State.After.ite | apply State.set_after | apply State.scribeFault_after
    | apply State.raise_after | split

theorem State.onDecision_after (h : s₀.After s) (k seq : Nat) (f : Decision → Decision) :
    s₀.After (State.onDecision s k seq f) := by
  unfold State.onDecision
  try dsimp only
  with_reducible repeat' first | assumption | apply State.onScribe_after

theorem State.matchFalse_after (h : s₀.After s) (k n : Nat) : s₀.After (State.matchFalse s k n).2 := by
  unfold State.matchFalse
  try dsimp only
  with_reducible repeat' first
    | assumption | dsimp only | apply State.onScribe_after | apply State.set_after | apply State.After.ite_snd

theorem State.finish_after (h : s₀.After s) (k seq at_ : Nat) (outcome : Bool) :
    s₀.After (State.finish s k seq at_ outcome) := by
  unfold State.finish
  try dsimp only
  with_reducible repeat' first
    | assumption | apply State.After.ite | apply State.matchFalse_after | apply State.onDecision_after | split

theorem State.applyOutcome_after (h : s₀.After s) (e seq : Nat) (outcome : Bool) (instant : Nat) :
    s₀.After (State.applyOutcome s e seq outcome instant) := by
  unfold State.applyOutcome
  try dsimp only
  with_reducible repeat' first | assumption | intro _ | apply State.each_after | apply State.finish_after | split

theorem State.sendDecide_after (h : s₀.After s) (d : ChainDecision) (outcome degraded : Bool) :
    s₀.After (State.sendDecide s d outcome degraded) := by
  unfold State.sendDecide
  try dsimp only
  with_reducible repeat' first
    | assumption | apply Tab.Keeps.same | apply State.enqueue_after | apply State.applyOutcome_after
    | simp only [State.After.mk_eq] | apply Upd.of

theorem State.judgeDecide_after (h : s₀.After s) : s₀.After (State.judgeDecide s) := by
  unfold State.judgeDecide
  try dsimp only
  with_reducible repeat' first
    | assumption | intro _ | apply State.After.ite | apply State.each_after | apply State.sendDecide_after

theorem State.combine_after (h : s₀.After s) (k seq : Nat) : s₀.After (State.combine s k seq) := by
  unfold State.combine
  try dsimp only
  with_reducible repeat' first
    | assumption | intro _ | apply State.After.ite | apply State.each_after | apply State.finish_after

theorem State.combineChain_after (h : s₀.After s) (k seq cs : Nat) : s₀.After (State.combineChain s k seq cs) := by
  unfold State.combineChain
  try dsimp only
  with_reducible repeat' first
    | assumption | apply Tab.Keeps.same | apply State.After.ite | apply State.judgeDecide_after
    | apply State.enqueue_after | simp only [State.After.mk_eq] | apply Upd.of | split

theorem State.resolved_after (h : s₀.After s) (k : Nat) (d : Decision) (o : Nat × Bool) :
    s₀.After (State.resolved s k d o) := by
  unfold State.resolved
  try dsimp only
  with_reducible repeat' first
    | assumption | apply State.After.ite | apply State.onDecision_after | apply State.combineChain_after
    | apply State.combine_after | apply State.finish_after | split

theorem State.release_after (h : s₀.After s) (k code : Nat) : s₀.After (State.release s k code) := by
  unfold State.release
  try dsimp only
  with_reducible repeat' first
    | assumption | intro _ | apply State.After.ite | apply State.each_after | apply State.onScribe_after
    | apply State.finish_after | split

theorem State.launch_after (h : s₀.After s) (k pc w : Nat) (lastRep : Bool) :
    s₀.After (State.launch s k pc w lastRep) := by
  simp only [State.launch]
  try dsimp only
  with_reducible repeat' first
    | assumption | apply Tab.Keeps.same | apply State.After.ite | apply State.onScribe_after | apply State.set_after
    | simp only [State.After.mk_eq] | apply Upd.of | split

theorem State.endSpans_after (h : s₀.After s) (k w : Nat) : s₀.After (State.endSpans s k w) := by
  unfold State.endSpans
  try dsimp only
  with_reducible repeat' first | assumption | apply State.After.ite | apply State.onScribe_after

theorem State.trimFinals_after (h : s₀.After s) (k : Nat) : s₀.After (State.trimFinals s k) := by
  unfold State.trimFinals
  try dsimp only
  with_reducible repeat' first | assumption | apply State.onScribe_after

theorem State.timeoutFlag_after (h : s₀.After s) (k : Nat) : s₀.After (State.timeoutFlag s k) := by
  unfold State.timeoutFlag
  try dsimp only
  with_reducible repeat' first | assumption | apply State.set_after | apply State.raise_after

theorem State.land_after (h : s₀.After s) (k bd : Nat) (d : Decision) : s₀.After (State.land s k bd d) := by
  unfold State.land
  try dsimp only
  with_reducible repeat' first
    | assumption | apply State.After.ite | apply State.onScribe_after | apply State.set_after
    | apply State.timeoutFlag_after | apply State.askStop_after | apply State.bump_after
    | apply State.setPending_after | apply State.takeAlternative_after | apply State.raise_after
    | apply State.releaseInline_after

theorem State.fixChanges_after (h : s₀.After s) (k : Nat) : s₀.After (State.fixChanges s k) := by
  unfold State.fixChanges
  try dsimp only
  with_reducible repeat' first
    | assumption | intro _ | apply State.After.ite | apply State.onScribe_after | apply State.each_after
    | apply State.set_after | apply State.onOct_after

theorem State.causeEffects_after (h : s₀.After s) (k cause bd : Nat) :
    s₀.After (State.causeEffects s k cause bd) := by
  unfold State.causeEffects
  try dsimp only
  with_reducible repeat' first
    | assumption | apply State.After.ite | apply State.set_after | apply State.raise_after
    | apply State.erasePencil_after | apply State.lineStop_after

theorem State.leaveGroup_after (h : s₀.After s) (k g : Nat) : s₀.After (State.leaveGroup s k g) := by
  unfold State.leaveGroup
  try dsimp only
  with_reducible repeat' first | assumption | apply State.After.ite | apply State.setCache_after | split

theorem State.dropBody_after (h : s₀.After s) (k start : Nat) : s₀.After (State.dropBody s k start) := by
  unfold State.dropBody
  try dsimp only
  with_reducible repeat' first | assumption | apply State.setCache_after

theorem State.inkLine_after (h : s₀.After s) (k b : Nat) : s₀.After (State.inkLine s k b) := by
  unfold State.inkLine
  try dsimp only
  with_reducible repeat' first
    | assumption | apply State.After.ite | apply State.unstage_after | apply State.onScribe_after
    | apply State.set_after | apply State.set64_after | apply State.setCache_after | apply State.levelTake_after
    | apply State.margInkLine_after | apply State.octetStep_after

theorem State.goOn_after (h : s₀.After s) (k w : Nat) : s₀.After (State.goOn s k w) := by
  unfold State.goOn
  try dsimp only
  with_reducible repeat' first
    | assumption | apply State.After.ite | apply State.onScribe_after | apply State.leaveGroup_after
    | apply State.showFlow_after

theorem State.goTo_after (h : s₀.After s) (k pc : Nat) : s₀.After (State.goTo s k pc) := by
  unfold State.goTo
  try dsimp only
  with_reducible repeat' first
    | assumption | apply State.After.ite | apply State.onScribe_after | apply State.leaveGroup_after
    | apply State.showFlow_after

/-! ### Scribe -/

theorem State.chainStart_after (h : s₀.After s) (k e : Nat) : s₀.After (State.chainStart s k e) := by
  unfold State.chainStart
  try dsimp only
  with_reducible repeat' first
    | assumption | apply State.After.ite | apply State.set_after | apply State.refuseStart_after
    | apply State.enqueue_after | apply State.schedule_after | split

theorem State.chainPrime_after (h : s₀.After s) (e gen t : Nat) : s₀.After (State.chainPrime s e gen t) := by
  unfold State.chainPrime
  try dsimp only
  with_reducible repeat' first
    | assumption | apply Tab.Keeps.same | intro _ | apply State.each_after | apply State.set64_after
    | apply State.beginPriming_after | simp only [State.After.mk_eq] | apply Upd.of | split

theorem State.startWrite_after (h : s₀.After s) (k : Nat) : s₀.After (State.startWrite s k) := by
  unfold State.startWrite
  try dsimp only
  with_reducible repeat' first
    | assumption | intro _ | apply State.After.ite | dsimp only | apply State.refuseStart_after
    | apply State.each_after | apply State.set_after | apply State.chainStart_after | apply State.chainPrime_after
    | apply State.beginPriming_after | split

theorem State.matchPass_after (h : s₀.After s) (k pc w : Nat) : s₀.After (State.matchPass s k pc w) := by
  unfold State.matchPass
  try dsimp only
  with_reducible repeat' first
    | assumption | apply State.After.ite | apply State.matchFalse_after | apply State.timeoutFlag_after
    | apply State.askStop_after | apply State.goTo_after

theorem State.ensWrite_after (h : s₀.After s) (k v : Nat) : s₀.After (State.ensWrite s k v) := by
  unfold State.ensWrite
  try dsimp only
  with_reducible repeat' first | assumption | apply State.After.ite | apply State.set_after | apply State.setB_after

theorem execScribeStart_after (h : s₀.After s) (k : Sector) : Gives s₀ (execScribeStart k s) := by
  unfold execScribeStart
  try dsimp only
  with_reducible repeat' first
    | assumption | apply Gives.next | intro _ | apply State.whileOn_after | apply State.startWrite_after

theorem execScribeStop_after (h : s₀.After s) (k : Sector) : Gives s₀ (execScribeStop k s) := by
  unfold execScribeStop
  try dsimp only
  with_reducible repeat' first
    | assumption | apply Gives.next | intro _ | apply State.whileOn_after | apply State.stopWrite_after

theorem execPrimingDone_after (h : s₀.After s) (k : Sector) : Gives s₀ (execPrimingDone k s) := by
  unfold execPrimingDone
  try dsimp only
  with_reducible repeat' first
    | assumption | apply Gives.next | apply Gives.ite | intro _ | apply State.onScribe_after
    | apply State.beginRunning_after | apply State.each_after

theorem execPrimingStop_after (h : s₀.After s) (k : Sector) : Gives s₀ (execPrimingStop k s) := by
  unfold execPrimingStop
  try dsimp only
  with_reducible repeat' first
    | assumption | apply Gives.next | apply Gives.ite | apply State.set_after | apply State.onScribe_after
    | apply State.eraseMain_after | apply State.erasePencil_after | apply State.stopFellows_after
    | apply State.endRun_after | split

theorem execPaceBoundary_after (h : s₀.After s) (k : Sector) : Gives s₀ (execPaceBoundary k s) := by
  unfold execPaceBoundary
  try dsimp only
  with_reducible repeat' first
    | assumption | apply Gives.next | apply Gives.ite | apply State.fixChanges_after | apply State.margBoundary_after
    | apply State.causeEffects_after | apply State.stopAtBoundary_after | apply State.octetStep_after
    | apply State.inkLine_after | split

theorem execNextLine_after (h : s₀.After s) (k : Sector) : Gives s₀ (execNextLine k s) := by
  unfold execNextLine
  try dsimp only
  with_reducible repeat' first | assumption | apply Gives.next | apply State.goOn_after | split

theorem execRptLine_after (h : s₀.After s) (k : Sector) : Gives s₀ (execRptLine k s) := by
  unfold execRptLine
  try dsimp only
  with_reducible repeat' first | assumption | apply Gives.next | apply State.goOn_after | split

theorem execLoopLine_after (h : s₀.After s) (k : Sector) : Gives s₀ (execLoopLine k s) := by
  unfold execLoopLine
  try dsimp only
  with_reducible repeat' first | assumption | apply Gives.next | apply State.goOn_after | split

theorem execEndlLine_after (h : s₀.After s) (k : Sector) : Gives s₀ (execEndlLine k s) := by
  unfold execEndlLine
  try dsimp only
  with_reducible repeat' first
    | assumption | apply Gives.next | apply State.After.ite | apply State.goOn_after | apply State.dropBody_after
    | split

theorem execJmpLine_after (h : s₀.After s) (k : Sector) : Gives s₀ (execJmpLine k s) := by
  unfold execJmpLine
  try dsimp only
  with_reducible repeat' first | assumption | apply Gives.next | apply State.goOn_after | split

theorem execCallLine_after (h : s₀.After s) (k : Sector) : Gives s₀ (execCallLine k s) := by
  unfold execCallLine
  try dsimp only
  with_reducible repeat' first | assumption | apply Gives.next | apply State.goOn_after | split

theorem execRetLine_after (h : s₀.After s) (k : Sector) : Gives s₀ (execRetLine k s) := by
  unfold execRetLine
  try dsimp only
  with_reducible repeat' first | assumption | apply Gives.next | apply State.goOn_after | split

theorem execMatchLine_after (h : s₀.After s) (k : Sector) : Gives s₀ (execMatchLine k s) := by
  unfold execMatchLine
  try dsimp only
  with_reducible repeat' first
    | assumption | apply Gives.next | apply Gives.ite | apply State.goTo_after | apply State.matchPass_after
    | apply State.launch_after | apply State.endSpans_after | apply State.goOn_after | split

theorem execBrLine_after (h : s₀.After s) (k : Sector) : Gives s₀ (execBrLine k s) := by
  unfold execBrLine
  try dsimp only
  with_reducible repeat' first
    | assumption | apply Gives.next | apply Gives.ite | apply State.goOn_after | apply State.launch_after
    | apply State.endSpans_after | split

theorem execSigLine_after (h : s₀.After s) (k : Sector) : Gives s₀ (execSigLine k s) := by
  unfold execSigLine
  try dsimp only
  with_reducible repeat' first
    | assumption | apply Gives.next | apply State.After.ite | apply State.post_after | apply State.onScribe_after
    | apply State.goOn_after | split

theorem execWaitsLine_after (h : s₀.After s) (k : Sector) : Gives s₀ (execWaitsLine k s) := by
  unfold execWaitsLine
  try dsimp only
  with_reducible repeat' first
    | assumption | apply Gives.next | apply State.onScribe_after | apply State.launch_after | apply State.goOn_after
    | split

theorem execSetpLine_after (h : s₀.After s) (k : Sector) : Gives s₀ (execSetpLine k s) := by
  unfold execSetpLine
  try dsimp only
  with_reducible repeat' first
    | assumption | apply Gives.next | intro _ | apply State.After.ite | apply State.each_after | apply State.set_after
    | apply State.onScribe_after | apply State.goOn_after | split

theorem execMarkLine_after (h : s₀.After s) (k : Sector) : Gives s₀ (execMarkLine k s) := by
  unfold execMarkLine
  try dsimp only
  with_reducible repeat' first | assumption | apply Gives.next | apply State.goOn_after | split

theorem execHaltLine_after (h : s₀.After s) (k : Sector) : Gives s₀ (execHaltLine k s) := by
  unfold execHaltLine
  try dsimp only
  with_reducible repeat' first
    | assumption | apply Gives.next | apply State.After.ite | apply State.set_after | apply State.onScribe_after
    | apply State.showFlow_after | split

theorem execIdxjLine_after (h : s₀.After s) (k : Sector) : Gives s₀ (execIdxjLine k s) := by
  unfold execIdxjLine
  try dsimp only
  with_reducible repeat' first | assumption | apply Gives.next | apply State.goOn_after | split

theorem execLdcntLine_after (h : s₀.After s) (k : Sector) : Gives s₀ (execLdcntLine k s) := by
  unfold execLdcntLine
  try dsimp only
  with_reducible repeat' first | assumption | apply Gives.next | apply State.goOn_after | split

theorem execDecbrLine_after (h : s₀.After s) (k : Sector) : Gives s₀ (execDecbrLine k s) := by
  unfold execDecbrLine
  try dsimp only
  with_reducible repeat' first
    | assumption | apply Gives.next | apply State.After.ite | apply State.launch_after | apply State.endSpans_after
    | apply State.goOn_after | split

theorem execEnsyncLine_after (h : s₀.After s) (k : Sector) : Gives s₀ (execEnsyncLine k s) := by
  unfold execEnsyncLine
  try dsimp only
  with_reducible repeat' first
    | assumption | apply Gives.next | apply Gives.ite | apply State.After.ite | apply State.goOn_after
    | apply State.onScribe_after | apply State.launch_after | apply State.release_after | apply State.onDecision_after
    | split

theorem execDecisionResolve_after (h : s₀.After s) (k : Sector) : Gives s₀ (execDecisionResolve k s) := by
  unfold execDecisionResolve
  try dsimp only
  with_reducible repeat' first
    | assumption | apply Gives.next | apply State.resolved_after | apply State.trimFinals_after | split

theorem execDecisionLanding_after (h : s₀.After s) (k : Sector) : Gives s₀ (execDecisionLanding k s) := by
  unfold execDecisionLanding
  try dsimp only
  with_reducible repeat' first
    | assumption | apply Gives.next | apply Gives.ite | apply State.land_after | apply State.trimFinals_after | split

theorem execDrainEnd_after (h : s₀.After s) (k : Sector) : Gives s₀ (execDrainEnd k s) := by
  unfold execDrainEnd
  try dsimp only
  with_reducible repeat' first
    | assumption | apply Gives.next | apply Gives.ite | apply State.levelFlush_after | apply State.endRun_after

theorem execEnsembleStop_after (h : s₀.After s) (k : Sector) : Gives s₀ (execEnsembleStop k s) := by
  unfold execEnsembleStop
  try dsimp only
  with_reducible repeat' first
    | assumption | apply Gives.next | apply Gives.ite | apply State.onScribe_after | apply State.askStop_after | split

theorem execEnsWrite_after (h : s₀.After s) (k : Fin 4) (v : Word) : Gives s₀ (execEnsWrite k v s) := by
  unfold execEnsWrite
  try dsimp only
  with_reducible repeat' first | assumption | apply Gives.next | apply State.ensWrite_after

/-! ### Chain -/

theorem State.startFrame_after (h : s₀.After s) (f : Frame) (arrive : Nat) :
    s₀.After (State.startFrame s f arrive) := by
  unfold State.startFrame
  try dsimp only
  with_reducible repeat' first
    | assumption | apply State.After.ite | apply State.keep_after | apply State.lateFrame_after
    | apply State.report_after | apply State.chainPrime_after | apply State.schedule_after

theorem State.eventFrame_after (h : s₀.After s) (f : Frame) (arrive : Nat) :
    s₀.After (State.eventFrame s f arrive) := by
  unfold State.eventFrame
  try dsimp only
  with_reducible repeat' first
    | assumption | apply Tab.Keeps.same | apply State.After.ite | apply State.keep_after
    | apply State.rebroadcast_after | apply State.lateFrame_after | simp only [State.After.mk_eq] | apply Upd.of

theorem State.condFrame_after (h : s₀.After s) (f : Frame) : s₀.After (State.condFrame s f) := by
  unfold State.condFrame
  try dsimp only
  with_reducible repeat' first
    | assumption | apply Tab.Keeps.same | apply State.After.ite | apply State.judgeDecide_after
    | apply State.keep_after | simp only [State.After.mk_eq] | apply Upd.of

theorem State.decideFrame_after (h : s₀.After s) (f : Frame) (arrive : Nat) :
    s₀.After (State.decideFrame s f arrive) := by
  unfold State.decideFrame
  try dsimp only
  with_reducible repeat' first
    | assumption | apply State.After.ite | apply State.keep_after | apply State.lateFrame_after
    | apply State.applyOutcome_after

theorem State.haltFrame_after (h : s₀.After s) (f : Frame) (arrive : Nat) :
    s₀.After (State.haltFrame s f arrive) := by
  unfold State.haltFrame
  try dsimp only
  with_reducible repeat' first
    | assumption | apply State.After.ite | apply State.keep_after | apply State.rebroadcast_after
    | apply State.lateFrame_after | apply State.schedule_after

theorem State.frameActs_after (h : s₀.After s) (f : Frame) (arrive : Nat) :
    s₀.After (State.frameActs s f arrive) := by
  unfold State.frameActs
  try dsimp only
  with_reducible repeat' first
    | assumption | apply State.After.ite | apply State.onFrame_after | apply State.anchorFrame_after
    | apply State.startFrame_after | apply State.eventFrame_after | apply State.condFrame_after
    | apply State.decideFrame_after | apply State.haltFrame_after | apply State.deskewFrame_after
    | apply State.hopvalFrame_after | apply State.faultFrame_after | apply State.measFrame_after

theorem State.releaseFrames_after (h : s₀.After s) (arrive : Nat) : s₀.After (State.releaseFrames s arrive) := by
  unfold State.releaseFrames
  try dsimp only
  with_reducible repeat' first
    | assumption | apply Tab.Keeps.same | intro _ | apply State.each_after | apply State.frameActs_after
    | simp only [State.After.mk_eq] | apply Upd.of

theorem State.receive_after (h : s₀.After s) (f : Frame) (arrive : Nat) : s₀.After (State.receive s f arrive) := by
  unfold State.receive
  try dsimp only
  with_reducible repeat' first
    | assumption | apply Tab.Keeps.same | apply State.After.ite | apply State.strike_after
    | apply State.badFrame_after | apply State.frameActs_after | apply State.releaseFrames_after
    | simp only [State.After.mk_eq] | apply Upd.of

theorem State.takeAction_after (h : s₀.After s) (p : RuledKind → Bool) {v} {t : State} (e : State.takeAction s p = some (v, t)) :
    s₀.After t := by
  unfold State.takeAction at e
  try dsimp only at e
  repeat' split at e
  all_goals cases e
  all_goals with_reducible repeat' first | assumption | apply Tab.Keeps.same | simp only [State.After.mk_eq] | apply Upd.of

theorem execRulFrameIdle_after (h : s₀.After s) (f : Frame) (arrive : Nat) : Gives s₀ (execRulFrameIdle f arrive s) := by
  unfold execRulFrameIdle
  try dsimp only
  with_reducible repeat' first | assumption | apply Gives.next | apply State.After.ite | apply State.receive_after

theorem execRulFrameAnchor_after (h : s₀.After s) (f : Frame) (arrive : Nat) : Gives s₀ (execRulFrameAnchor f arrive s) := by
  unfold execRulFrameAnchor
  try dsimp only
  with_reducible repeat' first | assumption | apply Gives.next | apply State.After.ite | apply State.receive_after

theorem execRulFrameStart_after (h : s₀.After s) (f : Frame) (arrive : Nat) : Gives s₀ (execRulFrameStart f arrive s) := by
  unfold execRulFrameStart
  try dsimp only
  with_reducible repeat' first | assumption | apply Gives.next | apply State.After.ite | apply State.receive_after

theorem execRulFrameEvent_after (h : s₀.After s) (f : Frame) (arrive : Nat) : Gives s₀ (execRulFrameEvent f arrive s) := by
  unfold execRulFrameEvent
  try dsimp only
  with_reducible repeat' first | assumption | apply Gives.next | apply State.After.ite | apply State.receive_after

theorem execRulFrameCond_after (h : s₀.After s) (f : Frame) (arrive : Nat) : Gives s₀ (execRulFrameCond f arrive s) := by
  unfold execRulFrameCond
  try dsimp only
  with_reducible repeat' first | assumption | apply Gives.next | apply State.After.ite | apply State.receive_after

theorem execRulFrameDecide_after (h : s₀.After s) (f : Frame) (arrive : Nat) : Gives s₀ (execRulFrameDecide f arrive s) := by
  unfold execRulFrameDecide
  try dsimp only
  with_reducible repeat' first | assumption | apply Gives.next | apply State.After.ite | apply State.receive_after

theorem execRulFrameHalt_after (h : s₀.After s) (f : Frame) (arrive : Nat) : Gives s₀ (execRulFrameHalt f arrive s) := by
  unfold execRulFrameHalt
  try dsimp only
  with_reducible repeat' first | assumption | apply Gives.next | apply State.After.ite | apply State.receive_after

theorem execRulFrameDeskew_after (h : s₀.After s) (f : Frame) (arrive : Nat) : Gives s₀ (execRulFrameDeskew f arrive s) := by
  unfold execRulFrameDeskew
  try dsimp only
  with_reducible repeat' first | assumption | apply Gives.next | apply State.After.ite | apply State.receive_after

theorem execRulFrameHopval_after (h : s₀.After s) (f : Frame) (arrive : Nat) : Gives s₀ (execRulFrameHopval f arrive s) := by
  unfold execRulFrameHopval
  try dsimp only
  with_reducible repeat' first | assumption | apply Gives.next | apply State.After.ite | apply State.receive_after

theorem execRulFrameFault_after (h : s₀.After s) (f : Frame) (arrive : Nat) : Gives s₀ (execRulFrameFault f arrive s) := by
  unfold execRulFrameFault
  try dsimp only
  with_reducible repeat' first | assumption | apply Gives.next | apply State.After.ite | apply State.receive_after

theorem execRulFrameMeas_after (h : s₀.After s) (f : Frame) (arrive : Nat) : Gives s₀ (execRulFrameMeas f arrive s) := by
  unfold execRulFrameMeas
  try dsimp only
  with_reducible repeat' first | assumption | apply Gives.next | apply State.After.ite | apply State.receive_after

theorem execRulFrameBad_after (h : s₀.After s) (reserved : Bool) : Gives s₀ (execRulFrameBad reserved s) := by
  unfold execRulFrameBad
  try dsimp only
  with_reducible repeat' first
    | assumption | apply Gives.next | apply State.After.ite | apply State.strike_after | apply State.badFrame_after

theorem execChainStartInstant_after (h : s₀.After s)  : Gives s₀ (execChainStartInstant s) := by
  unfold execChainStartInstant
  try dsimp only
  with_reducible repeat' first
    | assumption | apply Gives.next | apply Gives.ite | intro _ | refine State.takeAction_after ?_ _ (by assumption)
    | apply State.each_after | apply State.askStop_after | apply State.report_after | split

theorem execChainEventDeliver_after (h : s₀.After s)  : Gives s₀ (execChainEventDeliver s) := by
  unfold execChainEventDeliver
  try dsimp only
  with_reducible repeat' first
    | assumption | apply Gives.next | apply Tab.Keeps.same | apply State.deliver_after | simp only [State.After.mk_eq]
    | apply Upd.of | split

theorem execChainHaltInstant_after (h : s₀.After s)  : Gives s₀ (execChainHaltInstant s) := by
  unfold execChainHaltInstant
  try dsimp only
  with_reducible repeat' first
    | assumption | apply Gives.next | intro _ | refine State.takeAction_after ?_ _ (by assumption)
    | apply State.each_after | apply State.askStop_after | split

theorem execDecideDegraded_after (h : s₀.After s)  : Gives s₀ (execDecideDegraded s) := by
  unfold execDecideDegraded
  try dsimp only
  with_reducible repeat' first
    | assumption | apply Gives.next | apply Gives.ite | apply State.judgeDecide_after | apply State.sendDecide_after
    | apply State.raise_after | split

/-! ### Period -/

theorem State.ptCommit_after (h : s₀.After s) (g e p : Nat) : s₀.After (State.ptCommit s g e p).2 := by
  unfold State.ptCommit
  try dsimp only
  with_reducible repeat' first
    | assumption | dsimp only | apply State.onOct_after | apply State.set_after | apply State.hostAccess_after
    | apply State.wr_after | apply State.After.ite_snd

theorem State.ptLoWrite_after (h : s₀.After s) (g e v : Nat) : s₀.After (State.ptLoWrite s g e v) := by
  unfold State.ptLoWrite
  try dsimp only
  with_reducible repeat' first | assumption | apply State.After.ite | apply State.set_after | apply State.onOct_after

theorem State.ptHiWrite_after (h : s₀.After s) (g e v : Nat) : s₀.After (State.ptHiWrite s g e v) := by
  unfold State.ptHiWrite
  try dsimp only
  with_reducible repeat' first | assumption | apply State.ptCommit_after

theorem execPtHiCommit_after (h : s₀.After s) (g : Octet) (e : Fin 16) (v : Word) : Gives s₀ (execPtHiCommit g e v s) := by
  unfold execPtHiCommit
  try dsimp only
  with_reducible repeat' first
    | assumption | apply Gives.next | apply Gives.ite | apply State.hostAccess_after | apply State.ptHiWrite_after

theorem execPeriodChangeEffect_after (h : s₀.After s) (g : Octet) : Gives s₀ (execPeriodChangeEffect g s) := by
  unfold execPeriodChangeEffect
  try dsimp only
  with_reducible repeat' first
    | assumption | apply Gives.next | apply Gives.ite | apply State.After.ite | apply State.onOct_after
    | apply State.set_after | apply State.set64_after | split

/-! ### Nib -/

theorem State.driveActs_after (h : s₀.After s) (g l : Nat) (p : Pulse) : s₀.After (State.driveActs s g l p) := by
  unfold State.driveActs
  try dsimp only
  with_reducible repeat' first
    | assumption | apply State.After.ite | apply State.setBall_after | apply State.onBall_after
    | apply State.set_after | apply State.setB_after | apply State.refreshBall_after | split

theorem State.tsStage_after (h : s₀.After s) (g l w v : Nat) : s₀.After (State.tsStage s g l w v) := by
  unfold State.tsStage
  try dsimp only
  with_reducible repeat' first | assumption | apply State.After.ite | apply State.set_after | apply State.onOct_after

theorem State.tsPut_after (h : s₀.After s) (g l t : Nat) (ws : List Word) : s₀.After (State.tsPut s g l t ws).2 := by
  unfold State.tsPut
  try dsimp only
  with_reducible repeat' first
    | assumption | intro _ | dsimp only | apply State.set_after | apply State.showNibSum_after
    | apply State.each_after | apply State.wr_after | apply State.After.ite_snd

theorem State.tsCommit_after (h : s₀.After s) (g l t v : Nat) : s₀.After (State.tsCommit s g l t v) := by
  unfold State.tsCommit
  try dsimp only
  with_reducible repeat' first | assumption | apply State.After.ite | apply State.set_after | apply State.tsPut_after

theorem State.strokeWrite_after (h : s₀.After s) (g l k v : Nat) : s₀.After (State.strokeWrite s g l k v) := by
  unfold State.strokeWrite
  try dsimp only
  with_reducible repeat' first
    | assumption | apply State.After.ite | apply State.set_after | apply State.plainWrite_after

theorem State.altWrite_after (h : s₀.After s) (g l m i v : Nat) : s₀.After (State.altWrite s g l m i v) := by
  unfold State.altWrite
  try dsimp only
  with_reducible repeat' first
    | assumption | apply State.After.ite | apply State.set_after | apply State.plainWrite_after

theorem State.nibCtlWrite_after (h : s₀.After s) (g l a v : Nat) : s₀.After (State.nibCtlWrite s g l a v) := by
  unfold State.nibCtlWrite
  try dsimp only
  with_reducible repeat' first
    | assumption | apply State.After.ite | apply State.set_after | apply State.plainWrite_after

theorem execDriveInstant_after (h : s₀.After s) (g : Octet) (l : Lane) : Gives s₀ (execDriveInstant g l s) := by
  unfold execDriveInstant
  try dsimp only
  with_reducible repeat' first | assumption | apply Gives.next | apply Gives.ite | apply State.driveActs_after | split

theorem execStrobeInstant_after (h : s₀.After s) (g : Octet) (l : Lane) (i : Fin 2) (codes : List (Fin 4)) : Gives s₀ (execStrobeInstant g l i codes s) := by
  unfold execStrobeInstant
  try dsimp only
  with_reducible repeat' first
    | assumption | apply Gives.next | apply Gives.ite | apply State.onBall_after | apply State.wTaken_after
    | apply State.strobeResult_after | split

theorem execTsStageWrite_after (h : s₀.After s) (g : Octet) (l : Slot) (t : Fin 64) (w : Fin 5) (v : Word) : Gives s₀ (execTsStageWrite g l t w v s) := by
  unfold execTsStageWrite
  try dsimp only
  with_reducible repeat' first
    | assumption | apply Gives.next | intro _ | apply State.whileOn_after | apply State.slotWrite_after
    | apply State.tsStage_after

theorem execTsCommit_after (h : s₀.After s) (g : Octet) (l : Slot) (t : Fin 64) (v : Word) : Gives s₀ (execTsCommit g l t v s) := by
  unfold execTsCommit
  try dsimp only
  with_reducible repeat' first
    | assumption | apply Gives.next | intro _ | apply State.whileOn_after | apply State.slotWrite_after
    | apply State.tsCommit_after

theorem execCorrectionSetApply_after (h : s₀.After s) (g : Octet) (l : Slot) : Gives s₀ (execCorrectionSetApply g l s) := by
  unfold execCorrectionSetApply
  try dsimp only
  with_reducible repeat' first
    | assumption | apply Gives.next | apply Gives.ite | apply State.set_after | apply State.onCore_after | split

/-! ### Front -/

theorem State.unqueue_after (h : s₀.After s) (g l : Nat) : s₀.After (State.unqueue s g l) := by
  unfold State.unqueue
  try dsimp only
  with_reducible repeat' first | assumption | apply State.onOct_after

theorem State.ocClear_after (h : s₀.After s) (g l : Nat) : s₀.After (State.ocClear s g l) := by
  unfold State.ocClear
  try dsimp only
  with_reducible repeat' first
    | assumption | apply State.After.ite | apply State.set_after | apply State.releaseBall_after

theorem State.ovClear_after (h : s₀.After s) (g mask : Nat) : s₀.After (State.ovClear s g mask) := by
  unfold State.ovClear
  try dsimp only
  with_reducible repeat' first
    | assumption | intro _ | apply State.set_after | apply State.each_after | apply State.releaseBall_after

theorem State.forceIso_after (h : s₀.After s) (g v : Nat) : s₀.After (State.forceIso s g v) := by
  unfold State.forceIso
  try dsimp only
  with_reducible repeat' first
    | assumption | intro _ | apply State.After.ite | apply State.set_after | apply State.each_after
    | apply State.unqueue_after | apply State.refreshBall_after | apply State.releaseBall_after

theorem State.feCfgSlot_after (h : s₀.After s) (g l v : Nat) : s₀.After (State.feCfgSlot s g l v) := by
  unfold State.feCfgSlot
  try dsimp only
  with_reducible repeat' first
    | assumption | apply State.After.ite | apply State.set_after | apply State.setOct_after
    | apply State.plainWrite_after | apply State.refreshBall_after

theorem execOvercurrentTrip_after (h : s₀.After s) (g : Octet) (l : Lane) : Gives s₀ (execOvercurrentTrip g l s) := by
  unfold execOvercurrentTrip
  try dsimp only
  with_reducible repeat' first
    | assumption | apply Gives.next | apply Gives.ite | apply State.set_after | apply State.unqueue_after
    | apply State.refreshBall_after | apply State.raise_after

theorem execOcShutdownFail_after (h : s₀.After s) (g : Octet) (l : Lane) : Gives s₀ (execOcShutdownFail g l s) := by
  unfold execOcShutdownFail
  try dsimp only
  with_reducible repeat' first
    | assumption | apply Gives.next | apply Gives.ite | apply State.set_after | apply State.refreshBall_after
    | apply State.raise_after

theorem execOcClear_after (h : s₀.After s) (g : Octet) (l : Lane) : Gives s₀ (execOcClear g l s) := by
  unfold execOcClear
  try dsimp only
  with_reducible repeat' first
    | assumption | apply Gives.next | intro _ | apply State.whileOn_after | apply State.ocClear_after

theorem execOverVoltage_after (h : s₀.After s) (g : Octet) (l : Lane) : Gives s₀ (execOverVoltage g l s) := by
  unfold execOverVoltage
  try dsimp only
  with_reducible repeat' first
    | assumption | apply Gives.next | apply Gives.ite | apply State.After.ite | apply State.set_after
    | apply State.dcBreak_after | apply State.unqueue_after | apply State.refreshBall_after | apply State.raise_after

theorem execOvClear_after (h : s₀.After s) (g : Octet) (l : Lane) : Gives s₀ (execOvClear g l s) := by
  unfold execOvClear
  try dsimp only
  with_reducible repeat' first
    | assumption | apply Gives.next | intro _ | apply State.whileOn_after | apply State.ovClear_after

theorem execLoadCompliance_after (h : s₀.After s) (g : Octet) (l : Lane) : Gives s₀ (execLoadCompliance g l s) := by
  unfold execLoadCompliance
  try dsimp only
  with_reducible repeat' first
    | assumption | apply Gives.next | apply Gives.ite | apply State.set_after | apply State.raise_after

theorem execForceIsoWrite_after (h : s₀.After s) (g : Octet) (v : Word) : Gives s₀ (execForceIsoWrite g v s) := by
  unfold execForceIsoWrite
  try dsimp only
  with_reducible repeat' first
    | assumption | apply Gives.next | intro _ | apply State.whileOn_after | apply State.forceIso_after

theorem execFeCfgWrite_after (h : s₀.After s) (g : Octet) (l : Slot) (v : Word) : Gives s₀ (execFeCfgWrite g l v s) := by
  unfold execFeCfgWrite
  try dsimp only
  with_reducible repeat' first
    | assumption | apply Gives.next | intro _ | apply State.whileOn_after | apply State.slotWrite_after
    | apply State.feCfgSlot_after

end Sys2Proof.Machine
end

