-- ==== Sys2Proof/Laws/AfterMeasure.lean ====
section
/-! SUPPORT. That the DACs, the capture and the measurement units leave behind what an operation may. -/

namespace Sys2Proof.Machine
open Reg

variable {s₀ s : State}

/-! ### RotOps -/

theorem State.showAges_after (h : s₀.After s) (g : Nat) : s₀.After (State.showAges s g) := by
  unfold State.showAges
  try dsimp only
  with_reducible repeat' first
    | assumption | intro _ | apply State.After.ite | apply State.each_after | apply State.onSecCal_after
    | apply State.set_after | apply State.notice_after

theorem State.showCal_after (h : s₀.After s) : s₀.After (State.showCal s) := by
  unfold State.showCal
  try dsimp only
  with_reducible repeat' first | assumption | apply State.set_after | apply State.setB_after

theorem State.showClasses_after (h : s₀.After s) (g : Nat) : s₀.After (State.showClasses s g) := by
  unfold State.showClasses
  try dsimp only
  with_reducible repeat' first | assumption | apply State.set_after | apply State.showCal_after

theorem State.calEntry_after (h : s₀.After s) (kind k payload : Nat) :
    s₀.After (State.calEntry s kind k payload) := by
  unfold State.calEntry
  try dsimp only
  with_reducible repeat' first | assumption | apply State.append_after

theorem State.rotSummary_after (h : s₀.After s) (k : Nat) : s₀.After (State.rotSummary s k) := by
  unfold State.rotSummary
  try dsimp only
  with_reducible repeat' first
    | assumption | apply Tab.Keeps.same | apply State.calEntry_after | apply State.setSecCal_after
    | simp only [State.After.mk_eq] | apply Upd.of
  all_goals first | exact Tab.Keeps.same | exact Tab.Keeps.nil

theorem State.ballDead_after (h : s₀.After s) (g l : Nat) : s₀.After (State.ballDead s g l) := by
  unfold State.ballDead
  try dsimp only
  with_reducible repeat' first
    | assumption | apply State.set_after | apply State.calEntry_after | apply State.refreshBall_after
    | apply State.showClasses_after

theorem State.coreRetires_after (h : s₀.After s) (g c : Nat) : s₀.After (State.coreRetires s g c) := by
  unfold State.coreRetires
  try dsimp only
  with_reducible repeat' first
    | assumption | apply State.After.ite | apply State.set_after | apply State.rotIdle_after
    | apply State.rotStop_after | apply State.onRot_after | apply State.ballDead_after | split

theorem State.retire_after (h : s₀.After s) (g c cause : Nat) : s₀.After (State.retire s g c cause) := by
  unfold State.retire
  try dsimp only
  with_reducible repeat' first
    | assumption | apply State.After.ite | apply State.set_after | apply State.wear_after | apply State.calEntry_after
    | apply State.notice_after | apply State.coreRetires_after
  all_goals first | exact Tab.Keeps.same | exact Tab.Keeps.nil

theorem State.failRun_after (h : s₀.After s) (g c cause : Nat) : s₀.After (State.failRun s g c cause) := by
  unfold State.failRun
  try dsimp only
  with_reducible repeat' first
    | assumption | apply State.After.ite | apply State.setCause_after | apply State.onSecCal_after
    | apply State.set_after | apply State.onCore_after | apply State.retire_after

theorem State.commitRun_after (h : s₀.After s) (g c : Nat) (p : Provision) : s₀.After (State.commitRun s g c p) := by
  unfold State.commitRun
  try dsimp only
  with_reducible repeat' first
    | assumption | apply State.onCore_after | apply State.showAges_after | apply State.showClasses_after

theorem State.tapCandidates_after (h : s₀.After s) (g c : Nat) (taps : List (Nat × Nat)) :
    s₀.After (State.tapCandidates s g c taps) := by
  unfold State.tapCandidates
  try dsimp only
  with_reducible repeat' first
    | assumption | intro _ | apply State.After.ite | apply State.each_after | apply State.wear_after
    | apply State.calEntry_after
  all_goals first | exact Tab.Keeps.same | exact Tab.Keeps.nil

theorem State.copyRegs_after (h : s₀.After s) (from_ to_ len : Nat) : s₀.After (State.copyRegs s from_ to_ len) := by
  unfold State.copyRegs
  try dsimp only
  with_reducible repeat' first
    | assumption | intro _ | apply State.resetRegs_after | apply State.each_after | apply State.wr_after

theorem State.swapRegs_after (h : s₀.After s) (a b len : Nat) : s₀.After (State.swapRegs s a b len) := by
  unfold State.swapRegs
  try dsimp only
  with_reducible repeat' first
    | assumption | intro _ | apply State.resetRegs_after | apply State.each_after | apply State.wr_after

theorem State.swapSlots_after (h : s₀.After s) (g l : Nat) : s₀.After (State.swapSlots s g l) := by
  unfold State.swapSlots
  try dsimp only
  with_reducible repeat' first
    | assumption | apply Tab.Keeps.same | apply State.swapRegs_after | simp only [State.After.mk_eq] | apply Upd.of

theorem State.mirror_after (h : s₀.After s) (g l : Nat) : s₀.After (State.mirror s g l) := by
  unfold State.mirror
  try dsimp only
  with_reducible repeat' first
    | assumption | intro _ | apply State.copyRegs_after | apply State.wr_after | apply State.each_after
    | apply State.set_after | apply State.setPend_after | apply State.program_after | apply State.setB_after

theorem State.handOver_after (h : s₀.After s) (g l : Nat) (toSpare : Bool) :
    s₀.After (State.handOver s g l toSpare) := by
  unfold State.handOver
  try dsimp only
  with_reducible repeat' first
    | assumption | apply State.swapSlots_after | apply State.set_after | apply State.refreshBall_after
    | apply State.showAges_after | apply State.showClasses_after

/-! ### Dac -/

theorem State.codeWrite_after (h : s₀.After s) (g l k code : Nat) : s₀.After (State.codeWrite s g l k code) := by
  unfold State.codeWrite
  try dsimp only
  with_reducible repeat' first
    | assumption | apply State.After.ite | apply State.set_after | apply State.onDac_after | apply State.program_after

theorem State.stageWrite_after (h : s₀.After s) (g l k v : Nat) : s₀.After (State.stageWrite s g l k v) := by
  unfold State.stageWrite
  try dsimp only
  with_reducible repeat' first
    | assumption | apply State.After.ite | apply State.set_after | apply State.setPend_after

theorem State.modWrite_after (h : s₀.After s) (g l v : Nat) : s₀.After (State.modWrite s g l v) := by
  unfold State.modWrite
  try dsimp only
  with_reducible repeat' first
    | assumption | apply State.After.ite | apply State.set_after | apply State.plainWrite_after

theorem State.spanWrite_after (h : s₀.After s) (g l k span : Nat) : s₀.After (State.spanWrite s g l k span) := by
  unfold State.spanWrite
  try dsimp only
  with_reducible repeat' first
    | assumption | apply State.After.ite | apply State.set_after | apply State.onDac_after | apply State.rebase_after
    | apply State.refreshBall_after

theorem State.spanStep_after (h : s₀.After s) (g l k : Nat) : s₀.After (State.spanStep s g l k) := by
  unfold State.spanStep
  try dsimp only
  with_reducible repeat' first
    | assumption | apply State.After.ite | apply State.set_after | apply State.setPend_after | apply State.onDac_after
    | apply State.rebaseCore_after | split

theorem State.spanSteps_after (h : s₀.After s) : s₀.After (State.spanSteps s) := by
  unfold State.spanSteps
  try dsimp only
  with_reducible repeat' first | assumption | intro _ | apply State.each_after | apply State.spanStep_after

theorem State.lvlSpanDone_after (h : s₀.After s) (g l : Nat) : s₀.After (State.lvlSpanDone s g l) := by
  unfold State.lvlSpanDone
  try dsimp only
  with_reducible repeat' first
    | assumption | apply State.After.ite | apply State.stageWrite_after | apply State.endJob_after
    | apply State.updateJob_after | split

theorem State.dacFaultCore_after (h : s₀.After s) (g c : Nat) : s₀.After (State.dacFaultCore s g c) := by
  unfold State.dacFaultCore
  try dsimp only
  with_reducible repeat' first
    | assumption | apply State.After.ite | apply State.onCore_after | apply State.onRot_after
    | apply State.retire_after

theorem State.faultClear_after (h : s₀.After s) (g l mask : Nat) : s₀.After (State.faultClear s g l mask) := by
  unfold State.faultClear
  try dsimp only
  with_reducible repeat' first
    | assumption | intro _ | apply State.set_after | apply State.each_after | apply State.refreshDac_after

theorem State.sineGo_after (h : s₀.After s) : s₀.After (State.sineGo s) := by
  unfold State.sineGo
  try dsimp only
  with_reducible repeat' first
    | assumption | apply Tab.Keeps.same | apply State.After.ite | apply State.set_after
    | simp only [State.After.mk_eq] | apply Upd.of

theorem State.sineStop_after (h : s₀.After s) (g : Nat) : s₀.After (State.sineStop s g) := by
  unfold State.sineStop
  try dsimp only
  with_reducible repeat' first | assumption | apply State.After.ite | apply State.setSine_after

theorem State.sineCtlWrite_after (h : s₀.After s) (g v : Nat) : s₀.After (State.sineCtlWrite s g v) := by
  unfold State.sineCtlWrite
  try dsimp only
  with_reducible repeat' first
    | assumption | apply State.After.ite | apply State.sineStop_after | apply State.set_after
    | apply State.plainWrite_after

theorem State.sineFtwWrite_after (h : s₀.After s) (g v : Nat) : s₀.After (State.sineFtwWrite s g v) := by
  unfold State.sineFtwWrite
  try dsimp only
  with_reducible repeat' first
    | assumption | apply State.After.ite | apply State.set_after | apply State.plainWrite_after

theorem execDacCodeWrite_after (h : s₀.After s) (g : Octet) (l : Slot) (k : DacIdx) (code : BitVec 16) : Gives s₀ (execDacCodeWrite g l k code s) := by
  unfold execDacCodeWrite
  try dsimp only
  with_reducible repeat' first
    | assumption | apply Gives.next | intro _ | apply State.whileOn_after | apply State.slotWrite_after
    | apply State.codeWrite_after

theorem execDacStageWrite_after (h : s₀.After s) (g : Octet) (l : Slot) (k : DacIdx) (v : Word) : Gives s₀ (execDacStageWrite g l k v s) := by
  unfold execDacStageWrite
  try dsimp only
  with_reducible repeat' first
    | assumption | apply Gives.next | intro _ | apply State.whileOn_after | apply State.slotWrite_after
    | apply State.stageWrite_after

theorem execLevelBatchApply_after (h : s₀.After s) (g : Octet) : Gives s₀ (execLevelBatchApply g s) := by
  unfold execLevelBatchApply
  try dsimp only
  with_reducible repeat' first | assumption | apply Gives.next | apply State.applyBatches_after

theorem execDacSpanWrite_after (h : s₀.After s) (g : Octet) (l : Slot) (k : DacIdx) (span : Fin 2) : Gives s₀ (execDacSpanWrite g l k span s) := by
  unfold execDacSpanWrite
  try dsimp only
  with_reducible repeat' first
    | assumption | apply Gives.next | intro _ | apply State.whileOn_after | apply State.slotWrite_after
    | apply State.spanWrite_after

theorem execSpanChangeDone_after (h : s₀.After s) (g : Octet) (l : Slot) : Gives s₀ (execSpanChangeDone g l s) := by
  unfold execSpanChangeDone
  try dsimp only
  with_reducible repeat' first
    | assumption | apply Gives.next | apply Gives.ite | intro _ | apply State.After.ite | apply State.each_after
    | apply State.spanStep_after | apply State.onDac_after | apply State.rebaseCore_after | apply State.set_after
    | apply State.refreshBall_after | apply State.lvlSpanDone_after | split

theorem execDacHoldEnd_after (h : s₀.After s) (g : Octet) (l : Slot) (k : DacIdx) : Gives s₀ (execDacHoldEnd g l k s) := by
  unfold execDacHoldEnd
  try dsimp only
  with_reducible repeat' first
    | assumption | apply Gives.next | apply Gives.ite | apply State.After.ite | apply State.set_after
    | apply State.setDac_after | apply State.dacFollow_after | split

theorem execDacParkStart_after (h : s₀.After s) (g : Octet) (l : Slot) : Gives s₀ (execDacParkStart g l s) := by
  unfold execDacParkStart
  try dsimp only
  with_reducible repeat' first | assumption | apply Gives.next | apply Gives.ite | apply State.parkSlot_after

theorem execDacMonitorFault_after (h : s₀.After s) (g : Octet) (l : Slot) (k : DacIdx) : Gives s₀ (execDacMonitorFault g l k s) := by
  unfold execDacMonitorFault
  try dsimp only
  with_reducible repeat' first
    | assumption | apply Gives.next | apply Gives.ite | apply State.After.ite | apply State.set_after
    | apply State.refreshDac_after | apply State.refreshBall_after | apply State.raise_after
    | apply State.dacFaultCore_after

theorem execSineGo_after (h : s₀.After s)  : Gives s₀ (execSineGo s) := by
  unfold execSineGo
  try dsimp only
  with_reducible repeat' first | assumption | apply Gives.next | apply State.sineGo_after

theorem execSineStart_after (h : s₀.After s)  : Gives s₀ (execSineStart s) := by
  unfold execSineStart
  try dsimp only
  with_reducible repeat' first
    | assumption | apply Gives.next | apply Gives.ite | apply Tab.Keeps.same | intro _ | apply State.After.ite
    | apply State.set_after | apply State.each_after | apply State.setSine_after | simp only [State.After.mk_eq]
    | apply Upd.of | split

theorem execSineSample_after (h : s₀.After s) (g : Octet) : Gives s₀ (execSineSample g s) := by
  unfold execSineSample
  try dsimp only
  with_reducible repeat' first
    | assumption | apply Gives.next | apply Gives.ite | apply State.After.ite | apply State.set_after
    | apply State.setSine_after | apply State.clearSamples_after | apply State.spreadSample_after

theorem execSineStopWrite_after (h : s₀.After s) (g : Octet) : Gives s₀ (execSineStopWrite g s) := by
  unfold execSineStopWrite
  try dsimp only
  with_reducible repeat' first
    | assumption | apply Gives.next | intro _ | apply State.whileOn_after | apply State.sineStop_after

theorem execLvlWrite_after (h : s₀.After s)  : Gives s₀ (execLvlWrite s) := by
  unfold execLvlWrite
  try dsimp only
  with_reducible repeat' first
    | assumption | apply Gives.next | apply Gives.ite | intro _ | apply State.After.ite
    | refine State.start_after ?_ _ (by assumption) | apply State.reply_after | apply State.each_after
    | apply State.slotWrite_after | apply State.spanWrite_after | apply State.codeWrite_after
    | apply State.stageWrite_after | apply State.addJob_after | split

/-! ### Marginalia -/

theorem State.margRecordWrite_after (h : s₀.After s) (k : Nat) : s₀.After (State.margRecordWrite s k) := by
  unfold State.margRecordWrite
  try dsimp only
  with_reducible repeat' first
    | assumption | apply State.After.ite | apply State.transfer_after | apply State.margWrite_after
    | apply State.margClosed_after | split

theorem State.margClearCounts_after (h : s₀.After s) (k : Nat) : s₀.After (State.margClearCounts s k) := by
  unfold State.margClearCounts
  try dsimp only
  with_reducible repeat' first | assumption | apply State.resetRegs_after

theorem State.margOpen_after (h : s₀.After s) (k : Nat) (q : MargStart) : s₀.After (State.margOpen s k q) := by
  unfold State.margOpen
  try dsimp only
  with_reducible repeat' first
    | assumption | apply State.After.ite | apply State.set_after | apply State.margClearCounts_after
    | apply State.wr_after | apply State.setMargRes_after

theorem State.margFlush_after (h : s₀.After s) (k n : Nat) : s₀.After (s.margFlush k n) := by
  induction n generalizing s with
  | zero => exact h
  | succ n ih =>
    unfold State.margFlush
    try dsimp only
    repeat' first
      | with_reducible assumption | with_reducible apply ih | with_reducible apply State.margRecordWrite_after | split

theorem State.margRptrWrite_after (h : s₀.After s) (k : Nat) (v : Word) : s₀.After (State.margRptrWrite s k v) := by
  unfold State.margRptrWrite
  try dsimp only
  with_reducible repeat' first
    | assumption | apply State.After.ite | apply State.set_after | apply State.wr_after | apply State.onMarg_after

theorem State.margClrWrite_after (h : s₀.After s) (k : Nat) (v : Word) : s₀.After (State.margClrWrite s k v) := by
  unfold State.margClrWrite
  try dsimp only
  with_reducible repeat' first
    | assumption | apply State.After.ite | apply State.set_after | apply State.margClearCounts_after
    | apply State.wr_after | apply State.onMarg_after

theorem State.margConfigWrite_after (h : s₀.After s) (k off : Nat) (v : Word) :
    s₀.After (State.margConfigWrite s k off v) := by
  unfold State.margConfigWrite
  try dsimp only
  with_reducible repeat' first
    | assumption | apply State.After.ite | apply State.set_after
    | refine State.renameBanks_after ?_ _ _ _ _ (by assumption) | apply State.plainWrite_after | split

theorem execVectorResolve_after (h : s₀.After s) (k : Sector) : Gives s₀ (execVectorResolve k s) := by
  unfold execVectorResolve
  try dsimp only
  with_reducible repeat' first
    | assumption | apply Gives.next | apply Gives.ite | apply State.onScribe_after | apply State.margResolve_after
    | apply State.trimFinals_after | split

theorem execMargRecordWrite_after (h : s₀.After s) (k : Sector) : Gives s₀ (execMargRecordWrite k s) := by
  unfold execMargRecordWrite
  try dsimp only
  with_reducible repeat' first | assumption | apply Gives.next | apply State.margRecordWrite_after

theorem execMargRunOpen_after (h : s₀.After s) (k : Sector) : Gives s₀ (execMargRunOpen k s) := by
  unfold execMargRunOpen
  try dsimp only
  with_reducible repeat' first | assumption | apply Gives.next | apply Gives.ite | apply State.margOpen_after | split

theorem execMargRunClose_after (h : s₀.After s) (k : Sector) : Gives s₀ (execMargRunClose k s) := by
  unfold execMargRunClose
  try dsimp only
  with_reducible repeat' first
    | assumption | apply Gives.next | apply Gives.ite | apply State.After.ite | apply State.margForm_after
    | apply State.margClosed_after | apply State.margFlush_after | split

theorem execMargRptrWrite_after (h : s₀.After s) (k : Sector) (v : Word) : Gives s₀ (execMargRptrWrite k v s) := by
  unfold execMargRptrWrite
  try dsimp only
  with_reducible repeat' first
    | assumption | apply Gives.next | intro _ | apply State.whileOn_after | apply State.margRptrWrite_after

theorem execMargClr_after (h : s₀.After s) (k : Sector) : Gives s₀ (execMargClr k s) := by
  unfold execMargClr
  try dsimp only
  with_reducible repeat' first
    | assumption | apply Gives.next | intro _ | apply State.whileOn_after | apply State.margClrWrite_after

/-! ### Blotter -/

theorem State.blotForm_after (h : s₀.After s) (k o p : Nat) (samples : List Nat) :
    s₀.After (State.blotForm s k o p samples) := by
  unfold State.blotForm
  try dsimp only
  with_reducible repeat' first
    | assumption | apply State.After.ite | apply State.blotData_after | apply State.onBlot_after | split

theorem State.blotDetect_after (h : s₀.After s) (k tag : Nat) : s₀.After (State.blotDetect s k tag) := by
  unfold State.blotDetect
  try dsimp only
  with_reducible repeat' first | assumption | apply State.fresh_after | apply State.onScribe_after

theorem State.blotIrq_after (h : s₀.After s) (k : Nat) : s₀.After (State.blotIrq s k) := by
  unfold State.blotIrq
  try dsimp only
  with_reducible repeat' first | assumption | apply State.signal_after

theorem State.trigMark_after (h : s₀.After s) (k tag tbits mbits act pin : Nat) (stops : Bool) :
    s₀.After (State.trigMark s k tag tbits mbits act pin stops) := by
  unfold State.trigMark
  try dsimp only
  with_reducible repeat' first
    | assumption | apply State.After.ite | apply State.setStaging_after | apply State.blotDrop_after
    | apply State.blotAdd_after | split

theorem State.blotStop_after (h : s₀.After s) (k tag : Nat) (mark : Bool → State → State) (h_mark : ∀ b u, s₀.After u → s₀.After (mark b u)) :
    s₀.After (State.blotStop s k tag mark) := by
  unfold State.blotStop
  try dsimp only
  with_reducible repeat' first
    | assumption | apply State.After.ite | apply h_mark | apply State.set_after | apply State.blotEnd_after
    | apply State.onBlot_after

theorem State.trigSample_after (h : s₀.After s) (k p codes : Nat) : s₀.After (State.trigSample s k p codes) := by
  unfold State.trigSample
  try dsimp only
  with_reducible repeat' first
    | assumption | intro _ | apply State.After.ite | apply State.each_after | apply State.setTrig_after
    | apply State.bump_after | apply State.blotDetect_after | apply State.blotIrq_after | apply State.set_after
    | apply State.trigMark_after | apply State.blotCapture_after | apply State.blotStop_after | split

theorem State.maskWindow_after (h : s₀.After s) (k m pin j back : Nat) (codes : List Nat) :
    s₀.After (State.maskWindow s k m pin j back codes) := by
  unfold State.maskWindow
  try dsimp only
  with_reducible repeat' first
    | assumption | intro _ | apply State.After.ite | apply State.set_after | apply State.bump_after
    | apply State.blotIrq_after | apply State.setMask_after | apply State.trigMark_after
    | apply State.blotDetect_after | apply State.blotStop_after | split

theorem State.blotResolve_after (h : s₀.After s) (k res : Nat) : s₀.After (State.blotResolve s k res) := by
  unfold State.blotResolve
  try dsimp only
  with_reducible repeat' first
    | assumption | apply State.set_after | apply State.onBlot_after | apply State.blotMark_after

theorem State.blotWrite_after (h : s₀.After s) (k : Nat) (r : BlotRec) : s₀.After (State.blotWrite s k r) := by
  unfold State.blotWrite
  try dsimp only
  with_reducible repeat' first
    | assumption | apply State.After.ite | apply State.stackWordWrite_after | apply State.toHost_after
    | apply State.set_after | apply State.bump_after | apply State.onBlot_after | apply State.setStaging_after

theorem State.blotRptrWrite_after (h : s₀.After s) (k : Nat) (v : Word) : s₀.After (State.blotRptrWrite s k v) := by
  unfold State.blotRptrWrite
  try dsimp only
  with_reducible repeat' first
    | assumption | apply State.After.ite | apply State.set_after | apply State.wr_after | apply State.onBlot_after

theorem State.maskCommit_after (h : s₀.After s) (k m : Nat) (v : Word) : s₀.After (State.maskCommit s k m v) := by
  unfold State.maskCommit
  try dsimp only
  with_reducible repeat' first
    | assumption | apply State.After.ite | apply State.set_after | apply State.plainWrite_after
    | apply State.setMask_after

theorem State.blotConfigWrite_after (h : s₀.After s) (k off : Nat) (v : Word) :
    s₀.After (State.blotConfigWrite s k off v) := by
  unfold State.blotConfigWrite
  try dsimp only
  with_reducible repeat' first
    | assumption | apply State.After.ite | apply State.set_after | apply State.plainWrite_after

theorem State.blotClear_after (h : s₀.After s) (k : Nat) : s₀.After (State.blotClear s k) := by
  unfold State.blotClear
  try dsimp only
  with_reducible repeat' first
    | assumption | intro _ | apply State.wr_after | apply State.set_after | apply State.each_after

theorem State.blotOpen_after (h : s₀.After s) (k : Nat) : s₀.After (State.blotOpen s k) := by
  unfold State.blotOpen
  try dsimp only
  with_reducible repeat' first
    | assumption | apply State.blotClear_after | apply State.setB_after | apply State.setBlot_after
    | apply State.setStaging_after

theorem State.blotEnter_after (h : s₀.After s) (k : Nat) : s₀.After (State.blotEnter s k) := by
  unfold State.blotEnter
  try dsimp only
  with_reducible repeat' first | assumption | apply State.After.ite | apply State.blotLive_after

theorem execBlotRecordForm_after (h : s₀.After s) (k : Sector) (o : Fin 8) (p : Fin 8) (samples : List (BitVec 16)) : Gives s₀ (execBlotRecordForm k o p samples s) := by
  unfold execBlotRecordForm
  try dsimp only
  with_reducible repeat' first | assumption | apply Gives.next | apply State.blotForm_after

theorem execTriggerFire_after (h : s₀.After s) (k : Sector) (p : Fin 8) (codes : BitVec 128) : Gives s₀ (execTriggerFire k p codes s) := by
  unfold execTriggerFire
  try dsimp only
  with_reducible repeat' first | assumption | apply Gives.next | apply State.trigSample_after

theorem execMaskViolation_after (h : s₀.After s) (k : Sector) (m : Fin 4) (pin : Fin 64) (j : Fin 16) (back : Fin 16) (codes : List (Fin 4)) : Gives s₀ (execMaskViolation k m pin j back codes s) := by
  unfold execMaskViolation
  try dsimp only
  with_reducible repeat' first | assumption | apply Gives.next | apply State.maskWindow_after

theorem execFolioMark_after (h : s₀.After s) (k : Sector) : Gives s₀ (execFolioMark k s) := by
  unfold execFolioMark
  try dsimp only
  with_reducible repeat' first | assumption | apply Gives.next | apply Gives.ite | apply State.blotMark_after

theorem execBlotResolutionChange_after (h : s₀.After s) (k : Sector) : Gives s₀ (execBlotResolutionChange k s) := by
  unfold execBlotResolutionChange
  try dsimp only
  with_reducible repeat' first | assumption | apply Gives.next | apply Gives.ite | apply State.blotResolve_after

theorem execBlotDecimationStart_after (h : s₀.After s) (k : Sector) : Gives s₀ (execBlotDecimationStart k s) := by
  unfold execBlotDecimationStart
  try dsimp only
  with_reducible repeat' first | assumption | apply Gives.next | apply Gives.ite | apply State.onBlot_after

theorem execBlotDecimationEnd_after (h : s₀.After s) (k : Sector) (p : Fin 8) : Gives s₀ (execBlotDecimationEnd k p s) := by
  unfold execBlotDecimationEnd
  try dsimp only
  with_reducible repeat' first
    | assumption | apply Gives.next | apply Gives.ite | apply State.blotGapEnd_after | apply State.blotCounted_after

theorem execBlotRecordDrain_after (h : s₀.After s) (k : Sector) : Gives s₀ (execBlotRecordDrain k s) := by
  unfold execBlotRecordDrain
  try dsimp only
  with_reducible repeat' first
    | assumption | apply Gives.next | apply Gives.ite | apply State.transfer_after | apply State.blotWrite_after
    | split

theorem execBlotCaptureEnd_after (h : s₀.After s) (k : Sector) : Gives s₀ (execBlotCaptureEnd k s) := by
  unfold execBlotCaptureEnd
  try dsimp only
  with_reducible repeat' first | assumption | apply Gives.next | apply State.blotEnd_after | split

theorem execBlotDisarm_after (h : s₀.After s) (k : Sector) : Gives s₀ (execBlotDisarm k s) := by
  unfold execBlotDisarm
  try dsimp only
  with_reducible repeat' first
    | assumption | apply Gives.next | intro _ | apply State.whileOn_after | apply State.blotEnd_after

theorem execBlotRptrWrite_after (h : s₀.After s) (k : Sector) (v : Word) : Gives s₀ (execBlotRptrWrite k v s) := by
  unfold execBlotRptrWrite
  try dsimp only
  with_reducible repeat' first
    | assumption | apply Gives.next | intro _ | apply State.whileOn_after | apply State.blotRptrWrite_after

theorem execMaskCommit_after (h : s₀.After s) (k : Sector) (m : Fin 4) (v : Word) : Gives s₀ (execMaskCommit k m v s) := by
  unfold execMaskCommit
  try dsimp only
  with_reducible repeat' first
    | assumption | apply Gives.next | intro _ | apply State.whileOn_after | apply State.maskCommit_after

theorem execBlotRunOpen_after (h : s₀.After s) (k : Sector) : Gives s₀ (execBlotRunOpen k s) := by
  unfold execBlotRunOpen
  try dsimp only
  with_reducible repeat' first
    | assumption | apply Gives.next | apply Gives.ite | apply State.blotOpen_after | apply State.blotLive_after

/-! ### Measure -/

theorem State.startStimulus_after (h : s₀.After s) (g : Nat) : s₀.After (State.startStimulus s g) := by
  unfold State.startStimulus
  try dsimp only
  with_reducible repeat' first
    | assumption | intro _ | apply State.set_after | apply State.each_after | apply State.setBall_after
    | apply State.setB_after | apply State.onOct_after

theorem State.stopStimulus_after (h : s₀.After s) (g : Nat) : s₀.After (State.stopStimulus s g) := by
  unfold State.stopStimulus
  try dsimp only
  with_reducible repeat' first
    | assumption | intro _ | apply State.After.ite | apply State.each_after | apply State.setBall_after
    | apply State.onOct_after | apply State.set_after | apply State.feBoundary_after

theorem State.stimulusStep_after (h : s₀.After s) (g : Nat) : s₀.After (State.stimulusStep s g) := by
  unfold State.stimulusStep
  try dsimp only
  with_reducible repeat' first
    | assumption | apply State.After.ite | apply State.octetStep_after | apply State.onOct_after

theorem State.hlStart_after (h : s₀.After s) (g : Nat) : s₀.After (State.hlStart s g) := by
  unfold State.hlStart
  try dsimp only
  with_reducible repeat' first | assumption | apply State.set_after | apply State.onHair_after

theorem State.hlCtlWrite_after (h : s₀.After s) (g : Nat) (v : Word) : s₀.After (State.hlCtlWrite s g v) := by
  unfold State.hlCtlWrite
  try dsimp only
  with_reducible repeat' first
    | assumption | apply State.After.ite | apply State.hlAbandon_after | apply State.set_after
    | apply State.plainWrite_after | apply State.hlStart_after

theorem State.hlConfigWrite_after (h : s₀.After s) (g a : Nat) (v : Word) :
    s₀.After (State.hlConfigWrite s g a v) := by
  unfold State.hlConfigWrite
  try dsimp only
  with_reducible repeat' first
    | assumption | apply State.After.ite | apply State.set_after | apply State.plainWrite_after

theorem State.rootOpen_after (h : s₀.After s) (v n : Nat) : s₀.After (State.rootOpen s v n).2 := by
  unfold State.rootOpen
  try dsimp only
  with_reducible repeat' first | assumption | dsimp only | apply State.fresh_after | apply State.After.ite_snd

theorem State.meanSpread_after (h : s₀.After s) (l : List Nat) : s₀.After (State.meanSpread s l).2.2 := by
  unfold State.meanSpread
  try dsimp only
  with_reducible repeat' first
    | assumption | dsimp only | apply State.roundOpen_after | apply State.rootOpen_after | split

theorem State.hlReport_after (h : s₀.After s) (g : Nat) : s₀.After (State.hlReport s g) := by
  unfold State.hlReport
  try dsimp only
  with_reducible repeat' first
    | assumption | intro _ | apply State.set64_after | apply State.each_after | apply State.set_after
    | apply State.meanSpread_after | apply State.hlFinish_after

theorem State.tdrThreshold_after (h : s₀.After s) (g l k percent : Nat) :
    s₀.After (State.tdrThreshold s g l k percent) := by
  unfold State.tdrThreshold
  try dsimp only
  with_reducible repeat' first
    | assumption | apply State.After.ite | apply State.roundOpen_after | apply State.setBase_after

theorem State.tdrLevels_after (h : s₀.After s) (g l : Nat) (quiet : Bool) :
    s₀.After (State.tdrLevels s g l quiet) := by
  unfold State.tdrLevels
  try dsimp only
  with_reducible repeat' first | assumption | apply State.tdrThreshold_after

theorem State.tdrLevelsBack_after (h : s₀.After s) (g l : Nat) : s₀.After (State.tdrLevelsBack s g l) := by
  unfold State.tdrLevelsBack
  try dsimp only
  with_reducible repeat' first
    | assumption | intro _ | apply State.After.ite | apply State.each_after | apply State.setBase_after

theorem State.tdrLane_after (h : s₀.After s) (g : Nat) : s₀.After (State.tdrLane s g) := by
  unfold State.tdrLane
  try dsimp only
  with_reducible repeat' first
    | assumption | apply State.setTdr_after | apply State.tdrLevels_after | apply State.refreshOctet_after | split

theorem State.tdrApply_after (h : s₀.After s) (g : Nat) (t : Tdr) : s₀.After (State.tdrApply s g t) := by
  unfold State.tdrApply
  try dsimp only
  with_reducible repeat' first
    | assumption | intro _ | apply State.each_after | apply State.slotWrite_after | apply State.set_after

theorem State.tdrNext_after (h : s₀.After s) (g : Nat) : s₀.After (State.tdrNext s g) := by
  unfold State.tdrNext
  try dsimp only
  with_reducible repeat' first
    | assumption | apply State.After.ite | apply State.tdrLevelsBack_after | apply State.tdrApply_after
    | apply State.tdrRelease_after | apply State.setDone_after | apply State.tdrReply_after | apply State.setTdr_after
    | apply State.tdrLane_after | split

theorem State.tdrStart_after (h : s₀.After s) (g lanes : Nat) (apply : Bool) (ref : Nat) :
    s₀.After (State.tdrStart s g lanes apply ref) := by
  unfold State.tdrStart
  try dsimp only
  with_reducible repeat' first
    | assumption | intro _ | apply State.After.ite | apply State.each_after | apply State.wr_after
    | apply State.setDone_after | apply State.tdrReply_after | apply State.setTdr_after | apply State.set_after
    | apply State.tdrLane_after

theorem State.tdrCtlWrite_after (h : s₀.After s) (g : Nat) (v : Word) : s₀.After (State.tdrCtlWrite s g v) := by
  unfold State.tdrCtlWrite
  try dsimp only
  with_reducible repeat' first
    | assumption | apply State.After.ite | apply State.set_after | apply State.plainWrite_after
    | apply State.tdrStart_after

theorem State.tdrEnds_after (h : s₀.After s) (g l sig : Nat) : s₀.After (State.tdrEnds s g l sig) := by
  unfold State.tdrEnds
  try dsimp only
  with_reducible repeat' first | assumption | apply State.set_after | apply State.tdrNext_after

theorem State.tdrBoth_after (h : s₀.After s) (g l : Nat) (b : List Nat) : s₀.After (State.tdrBoth s g l b) := by
  unfold State.tdrBoth
  try dsimp only
  with_reducible repeat' first
    | assumption | apply State.After.ite | dsimp only | apply State.tdrEnds_after | apply State.setTdr_after
    | apply State.meanSpread_after | apply State.fresh_after | apply State.set_after | apply State.After.ite_snd

theorem State.dcConnect_after (h : s₀.After s) (g : Nat) (v : Word) : s₀.After (State.dcConnect s g v) := by
  unfold State.dcConnect
  try dsimp only
  with_reducible repeat' first
    | assumption | apply State.After.ite | apply State.plainWrite_after | apply State.rotStop_after
    | apply State.onDc_after | apply State.refreshBall_after

theorem State.dcDisconnect_after (h : s₀.After s) (g : Nat) (v : Word) : s₀.After (State.dcDisconnect s g v) := by
  unfold State.dcDisconnect
  try dsimp only
  with_reducible repeat' first
    | assumption | apply State.After.ite | apply State.plainWrite_after | apply State.set_after
    | apply State.dcAbandon_after | apply State.onDc_after | apply State.refreshBall_after

theorem State.dcRefuse_after (h : s₀.After s) (g cause : Nat) : s₀.After (State.dcRefuse s g cause) := by
  unfold State.dcRefuse
  try dsimp only
  with_reducible repeat' first | assumption | apply State.set_after

theorem State.dcQueue_after (h : s₀.After s) (g : Nat) (q : DcRequest) : s₀.After (State.dcQueue s g q) := by
  unfold State.dcQueue
  try dsimp only
  with_reducible repeat' first | assumption | apply State.set_after | apply State.onDc_after

theorem State.dcCtlWrite_after (h : s₀.After s) (g : Nat) (v : Word) : s₀.After (State.dcCtlWrite s g v) := by
  unfold State.dcCtlWrite
  try dsimp only
  with_reducible repeat' first
    | assumption | apply State.After.ite | apply State.set_after | apply State.dcRefuse_after
    | apply State.dcDisconnect_after | apply State.dcQueue_after | apply State.dcConnect_after | split

theorem State.dcForceWrite_after (h : s₀.After s) (g : Nat) (v : Word) : s₀.After (State.dcForceWrite s g v) := by
  unfold State.dcForceWrite
  try dsimp only
  with_reducible repeat' first
    | assumption | apply State.After.ite | apply State.set_after | apply State.plainWrite_after

theorem State.dcMeasure_after (h : s₀.After s) (g : Nat) (v : Word) : s₀.After (State.dcMeasure s g v) := by
  unfold State.dcMeasure
  try dsimp only
  with_reducible repeat' first
    | assumption | apply State.After.ite | apply State.plainWrite_after | apply State.set_after
    | apply State.onDc_after

theorem State.dcMcfgWrite_after (h : s₀.After s) (g : Nat) (v : Word) : s₀.After (State.dcMcfgWrite s g v) := by
  unfold State.dcMcfgWrite
  try dsimp only
  with_reducible repeat' first
    | assumption | apply State.After.ite | apply State.set_after | apply State.plainWrite_after
    | apply State.dcQueue_after | apply State.dcMeasure_after

theorem State.meanCode_after (h : s₀.After s) (l : List Int) : s₀.After (State.meanCode s l).2 := by
  unfold State.meanCode
  try dsimp only
  with_reducible repeat' first | assumption | dsimp only | apply State.fresh_after | apply State.After.ite_snd

theorem State.dcTest_after (h : s₀.After s) (g : Nat) : s₀.After (State.dcTest s g) := by
  unfold State.dcTest
  try dsimp only
  with_reducible repeat' first | assumption | apply State.After.ite | apply State.set_after

theorem State.dcStWrite_after (h : s₀.After s) (g : Nat) (v : Word) : s₀.After (State.dcStWrite s g v) := by
  unfold State.dcStWrite
  try dsimp only
  with_reducible repeat' first
    | assumption | apply State.After.ite | apply State.plainWrite_after | apply State.dcTest_after
    | apply State.set_after

theorem State.dcExpire_after (h : s₀.After s) (g : Nat) : s₀.After (State.dcExpire s g) := by
  unfold State.dcExpire
  try dsimp only
  with_reducible repeat' first
    | assumption | apply State.fresh_after | apply State.set_after | apply State.dcRefuse_after
    | apply State.onDc_after | apply State.endJob_after | split

theorem State.hlCommand_after (h : s₀.After s) (p : Packet) (g : Nat) (ctl src win freq : Word) (writes : List (Nat × Word)) (bad : Bool) :
    s₀.After (State.hlCommand s p g ctl src win freq writes bad) := by
  unfold State.hlCommand
  try dsimp only
  with_reducible repeat' first
    | assumption | intro _ | apply State.After.ite | apply State.reply_after | apply State.each_after
    | apply State.plainWrite_after | apply State.addJob_after | apply State.hlCtlWrite_after

theorem execOctetVectorBoundary_after (h : s₀.After s) (g : Octet) : Gives s₀ (execOctetVectorBoundary g s) := by
  unfold execOctetVectorBoundary
  try dsimp only
  with_reducible repeat' first
    | assumption | apply Gives.next | apply Gives.ite | apply State.stimulusStep_after | apply State.octetStep_after

theorem execHlGo_after (h : s₀.After s) (g : Octet) (v : Word) : Gives s₀ (execHlGo g v s) := by
  unfold execHlGo
  try dsimp only
  with_reducible repeat' first
    | assumption | apply Gives.next | intro _ | apply State.whileOn_after | apply State.hlCtlWrite_after

theorem execHlAbort_after (h : s₀.After s) (g : Octet) : Gives s₀ (execHlAbort g s) := by
  unfold execHlAbort
  try dsimp only
  with_reducible repeat' first
    | assumption | apply Gives.next | intro _ | apply State.After.ite | apply State.whileOn_after
    | apply State.hlAbandon_after

theorem execHlCalDone_after (h : s₀.After s) (g : Octet) (one : BitVec 32) (two : BitVec 32) : Gives s₀ (execHlCalDone g one two s) := by
  unfold execHlCalDone
  try dsimp only
  with_reducible repeat' first
    | assumption | apply Gives.next | apply Gives.ite | apply State.After.ite | apply State.set_after
    | apply State.raise_after | apply State.hlFinish_after | apply State.onHair_after

theorem execHlShotEnd_after (h : s₀.After s) (g : Octet) (start : BitVec 64) (stops : List (BitVec 32)) : Gives s₀ (execHlShotEnd g start stops s) := by
  unfold execHlShotEnd
  try dsimp only
  with_reducible repeat' first
    | assumption | apply Gives.next | apply Gives.ite | apply State.After.ite | apply State.bump_after
    | apply State.set_after | apply State.onHair_after | apply State.hlReport_after

theorem execHlStartTimeout_after (h : s₀.After s) (g : Octet) : Gives s₀ (execHlStartTimeout g s) := by
  unfold execHlStartTimeout
  try dsimp only
  with_reducible repeat' first
    | assumption | apply Gives.next | apply Gives.ite | apply State.set_after | apply State.hlReport_after

theorem execHlFreqGateEnd_after (h : s₀.After s) (g : Octet) (n : BitVec 32) (dt : BitVec 64) (near : Bool) : Gives s₀ (execHlFreqGateEnd g n dt near s) := by
  unfold execHlFreqGateEnd
  try dsimp only
  with_reducible repeat' first
    | assumption | apply Gives.next | apply Gives.ite | apply State.After.ite | dsimp only | apply State.set_after
    | apply State.set64_after | apply State.fresh_after | apply State.hlFinish_after | apply State.After.ite_snd

theorem execHlSelfcheckStart_after (h : s₀.After s) (g : Octet) : Gives s₀ (execHlSelfcheckStart g s) := by
  unfold execHlSelfcheckStart
  try dsimp only
  with_reducible repeat' first | assumption | apply Gives.next | apply Gives.ite | apply State.set_after

theorem execHlSelfcheckEnd_after (h : s₀.After s) (g : Octet) (pass : Bool) : Gives s₀ (execHlSelfcheckEnd g pass s) := by
  unfold execHlSelfcheckEnd
  try dsimp only
  with_reducible repeat' first
    | assumption | apply Gives.next | apply Gives.ite | apply State.After.ite | apply State.set_after
    | apply State.onHair_after | apply State.raise_after | apply State.hlStart_after

theorem execTdrGo_after (h : s₀.After s) (g : Octet) (v : Word) : Gives s₀ (execTdrGo g v s) := by
  unfold execTdrGo
  try dsimp only
  with_reducible repeat' first
    | assumption | apply Gives.next | intro _ | apply State.whileOn_after | apply State.tdrCtlWrite_after

theorem execTdrPhaseEnd_after (h : s₀.After s) (g : Octet) (ph : TdrPhase) : Gives s₀ (execTdrPhaseEnd g ph s) := by
  unfold execTdrPhaseEnd
  try dsimp only
  with_reducible repeat' first
    | assumption | apply Gives.next | apply Gives.ite | apply State.tdrEnds_after | apply State.setTdr_after
    | apply State.tdrLevels_after | apply State.refreshOctet_after | apply State.tdrBoth_after | split

theorem execDcConnectWrite_after (h : s₀.After s) (g : Octet) (v : Word) : Gives s₀ (execDcConnectWrite g v s) := by
  unfold execDcConnectWrite
  try dsimp only
  with_reducible repeat' first
    | assumption | apply Gives.next | intro _ | apply State.whileOn_after | apply State.dcCtlWrite_after

theorem execDcPathClosed_after (h : s₀.After s) (g : Octet) : Gives s₀ (execDcPathClosed g s) := by
  unfold execDcPathClosed
  try dsimp only
  with_reducible repeat' first
    | assumption | apply Gives.next | apply Gives.ite | apply State.onDc_after | apply State.set_after
    | apply State.refreshBall_after | apply State.endJob_after | split

theorem execDcDisconnectWrite_after (h : s₀.After s) (g : Octet) (v : Word) : Gives s₀ (execDcDisconnectWrite g v s) := by
  unfold execDcDisconnectWrite
  try dsimp only
  with_reducible repeat' first
    | assumption | apply Gives.next | intro _ | apply State.whileOn_after | apply State.dcCtlWrite_after

theorem execDcPathOpened_after (h : s₀.After s) (g : Octet) : Gives s₀ (execDcPathOpened g s) := by
  unfold execDcPathOpened
  try dsimp only
  with_reducible repeat' first | assumption | apply Gives.next | apply Gives.ite | apply State.dcOpened_after

theorem execDcMeasureGo_after (h : s₀.After s) (g : Octet) (v : Word) : Gives s₀ (execDcMeasureGo g v s) := by
  unfold execDcMeasureGo
  try dsimp only
  with_reducible repeat' first
    | assumption | apply Gives.next | intro _ | apply State.whileOn_after | apply State.dcMcfgWrite_after

theorem execDcMeasureDone_after (h : s₀.After s) (g : Octet) (volts : List Int) (amps : List Int) : Gives s₀ (execDcMeasureDone g volts amps s) := by
  unfold execDcMeasureDone
  try dsimp only
  with_reducible repeat' first
    | assumption | apply Gives.next | apply Gives.ite | apply State.After.ite | dsimp only
    | apply State.meanCode_after | apply State.set_after | apply State.setDone_after | apply State.dcReply_after
    | apply State.After.ite_snd

theorem execDcClampComply_after (h : s₀.After s) (g : Octet) : Gives s₀ (execDcClampComply g s) := by
  unfold execDcClampComply
  try dsimp only
  with_reducible repeat' first
    | assumption | apply Gives.next | apply Gives.ite | apply State.After.ite | apply State.set_after
    | apply State.raise_after | apply State.onDc_after

theorem execDcSelftestStart_after (h : s₀.After s) (g : Octet) (write : Option Word) : Gives s₀ (execDcSelftestStart g write s) := by
  unfold execDcSelftestStart
  try dsimp only
  with_reducible repeat' first
    | assumption | apply Gives.next | apply Gives.ite | intro _ | apply State.whileOn_after
    | apply State.dcStWrite_after | apply State.dcTest_after | split

theorem execDcSelftestEnd_after (h : s₀.After s) (g : Octet) (pass : Bool) : Gives s₀ (execDcSelftestEnd g pass s) := by
  unfold execDcSelftestEnd
  try dsimp only
  with_reducible repeat' first
    | assumption | apply Gives.next | apply Gives.ite | apply State.After.ite | apply State.set_after
    | apply State.onDc_after | apply State.raise_after | apply State.dcExpire_after | apply State.dcCtlWrite_after
    | apply State.dcMcfgWrite_after | split

theorem execDcQueueTimeout_after (h : s₀.After s) (g : Octet) : Gives s₀ (execDcQueueTimeout g s) := by
  unfold execDcQueueTimeout
  try dsimp only
  with_reducible repeat' first | assumption | apply Gives.next | apply Gives.ite | apply State.dcExpire_after

theorem execHlInterval_after (h : s₀.After s)  : Gives s₀ (execHlInterval s) := by
  unfold execHlInterval
  try dsimp only
  with_reducible repeat' first
    | assumption | apply Gives.next | refine State.start_after ?_ _ (by assumption) | apply State.hlCommand_after
    | split

theorem execHlFreq_after (h : s₀.After s)  : Gives s₀ (execHlFreq s) := by
  unfold execHlFreq
  try dsimp only
  with_reducible repeat' first
    | assumption | apply Gives.next | refine State.start_after ?_ _ (by assumption) | apply State.hlCommand_after
    | split

theorem execTdrRun_after (h : s₀.After s)  : Gives s₀ (execTdrRun s) := by
  unfold execTdrRun
  try dsimp only
  with_reducible repeat' first
    | assumption | apply Gives.next | apply Gives.ite | intro _ | refine State.start_after ?_ _ (by assumption)
    | apply State.reply_after | apply State.addJob_after | apply State.each_after | apply State.tdrCtlWrite_after
    | split

theorem execDcConnect_after (h : s₀.After s)  : Gives s₀ (execDcConnect s) := by
  unfold execDcConnect
  try dsimp only
  with_reducible repeat' first
    | assumption | apply Gives.next | apply Gives.ite | refine State.start_after ?_ _ (by assumption)
    | apply State.reply_after | apply State.set_after | apply State.wr_after | apply State.dcCtlWrite_after
    | apply State.addJob_after | split

theorem execDcMeasure_after (h : s₀.After s)  : Gives s₀ (execDcMeasure s) := by
  unfold execDcMeasure
  try dsimp only
  with_reducible repeat' first
    | assumption | apply Gives.next | apply Gives.ite | refine State.start_after ?_ _ (by assumption)
    | apply State.reply_after | apply State.addJob_after | apply State.dcMcfgWrite_after | split

theorem execDcDisconnect_after (h : s₀.After s)  : Gives s₀ (execDcDisconnect s) := by
  unfold execDcDisconnect
  try dsimp only
  with_reducible repeat' first
    | assumption | apply Gives.next | apply Gives.ite | refine State.start_after ?_ _ (by assumption)
    | apply State.reply_after | apply State.dcCtlWrite_after | apply State.addJob_after | split

theorem execMeasStim_after (h : s₀.After s)  : Gives s₀ (execMeasStim s) := by
  unfold execMeasStim
  try dsimp only
  with_reducible repeat' first
    | assumption | apply Gives.next | apply Gives.ite | intro _ | refine State.start_after ?_ _ (by assumption)
    | apply State.reply_after | apply State.wr_after | apply State.each_after | split

end Sys2Proof.Machine
end

