-- ==== Sys2Proof/Laws/AfterModes.lean ====
section
/-! SUPPORT. That modes, rotation, life cycle, the rings and the debug port leave behind what an operation may. -/

namespace Sys2Proof.Machine
open Reg

variable {s₀ s : State}

/-! ### ModeOps -/

theorem Tab.keeps_outside {α : Type} [DecidableEq α] {d : Nat → α} (m : Tab α) (a n : Nat) : Tab.Keeps d m (outside m a n) :=
  ⟨fun w => Tab.wf_filter _ _ w⟩

theorem State.calRunEntry_after (h : s₀.After s) (kind octets : Nat) (causes : List Nat) :
    s₀.After (State.calRunEntry s kind octets causes) := by
  unfold State.calRunEntry
  try dsimp only
  with_reducible repeat' first | assumption | apply State.append_after

theorem State.showPoints_after (h : s₀.After s) : s₀.After (State.showPoints s) := by
  unfold State.showPoints
  try dsimp only
  with_reducible repeat' first
    | assumption | intro _ | apply State.each_after | apply State.setB_after | apply State.set_after
  all_goals first | exact Tab.Keeps.same | exact Tab.Keeps.nil

theorem State.calPointEnds_after (h : s₀.After s) (j : Job) (failed : Bool) :
    s₀.After (State.calPointEnds s j failed) := by
  unfold State.calPointEnds
  try dsimp only
  with_reducible repeat' first
    | assumption | apply Tab.Keeps.same | apply State.After.ite | apply State.endJob_after
    | apply State.showPoints_after | apply State.sealedChange_after | simp only [State.After.mk_eq] | apply Upd.of
  all_goals first | exact Tab.Keeps.same | exact Tab.Keeps.nil

theorem State.calReply_after (h : s₀.After s) (j : Job) : s₀.After (State.calReply s j) := by
  unfold State.calReply
  try dsimp only
  with_reducible repeat' first
    | assumption | apply State.After.ite | apply State.calPointEnds_after | apply State.calRunEntry_after
    | apply State.endJob_after
  all_goals first | exact Tab.Keeps.same | exact Tab.Keeps.nil

theorem State.procSettle_after (h : s₀.After s) (k : Nat) : s₀.After (State.procSettle s k) := by
  unfold State.procSettle
  try dsimp only
  with_reducible repeat' first
    | assumption | intro _ | apply State.After.ite | apply State.each_after | apply State.tdrAbandon_after
    | apply State.stopStimulus_after | apply State.wr_after | apply State.setProc_after

theorem State.procFinish_after (h : s₀.After s) (k : Nat) : s₀.After (State.procFinish s k) := by
  unfold State.procFinish
  try dsimp only
  with_reducible repeat' first
    | assumption | apply State.After.ite | apply State.procSettle_after | apply State.setProc_after
    | apply State.updateJob_after | apply State.calReply_after | split

theorem State.restoreCores_after (h : s₀.After s) (k : Nat) : s₀.After (State.restoreCores s k) := by
  unfold State.restoreCores
  try dsimp only
  with_reducible repeat' first
    | assumption | intro _ | apply State.After.ite | apply State.each_after | apply State.set_after
    | apply State.setB_after | apply State.onCore_after | apply State.showAges_after | apply State.showClasses_after
    | apply State.raise_after
  all_goals first | exact Tab.Keeps.same | exact Tab.Keeps.nil

theorem State.restoreBanks_after (h : s₀.After s) (k : Nat) : s₀.After (State.restoreBanks s k) := by
  unfold State.restoreBanks
  try dsimp only
  with_reducible repeat' first
    | assumption | intro _ | apply State.After.ite | apply State.each_after | apply State.showRepair_after
    | apply State.set_after
  all_goals first | exact Tab.Keeps.same | exact Tab.Keeps.nil

theorem State.holdSafe_after (h : s₀.After s) (k : Nat) : s₀.After (State.holdSafe s k) := by
  unfold State.holdSafe
  try dsimp only
  with_reducible repeat' first | assumption | apply State.After.ite | apply State.sectorSafe_after

theorem State.leaveOff_after (h : s₀.After s) (k : Nat) : s₀.After (State.leaveOff s k) := by
  unfold State.leaveOff
  try dsimp only
  with_reducible repeat' first
    | assumption | apply State.After.ite | apply State.setMode_after | apply State.set_after
    | apply State.restoreBanks_after | apply State.restoreCores_after | apply State.endReset_after
    | apply State.noticeHeld_after | apply State.refreshBalls_after | apply State.holdSafe_after

theorem State.enterOff_after (h : s₀.After s) (k : Nat) : s₀.After (State.enterOff s k) := by
  unfold State.enterOff
  try dsimp only
  with_reducible repeat' first
    | assumption | apply Tab.Keeps.same | intro _ | apply State.After.ite | dsimp only | apply State.rotSummary_after
    | apply State.resetJobs_after | apply State.releaseResv_after | apply State.resetRegs_after
    | apply State.setMode_after | apply State.set_after | apply State.unlockTll_after | apply State.each_after
    | apply State.quiet_after | apply State.onCore_after | apply State.endReset_after | apply State.showCal_after
    | apply Tab.keeps_outside | simp only [State.After.mk_eq] | apply Upd.of

theorem State.enterSetup_after (h : s₀.After s) (k : Nat) : s₀.After (State.enterSetup s k) := by
  unfold State.enterSetup
  try dsimp only
  with_reducible repeat' first
    | assumption | apply Tab.Keeps.same | intro _ | apply State.After.ite | apply State.setMode_after
    | apply State.refreshDacs_after | apply State.each_after | apply State.set_after | apply State.showAges_after
    | apply State.showClasses_after | apply State.dcTest_after | apply State.refreshBalls_after
    | simp only [State.After.mk_eq] | apply Upd.of | split

theorem State.enterStandby_after (h : s₀.After s) (k : Nat) : s₀.After (State.enterStandby s k) := by
  unfold State.enterStandby
  try dsimp only
  with_reducible repeat' first
    | assumption | intro _ | apply State.After.ite | apply State.setMode_after | apply State.each_after
    | apply State.rotJudge_after | apply State.dcBreak_after | apply State.rotSummary_after
    | apply State.refreshBalls_after

theorem State.enterMeasure_after (h : s₀.After s) (k : Nat) : s₀.After (State.enterMeasure s k) := by
  unfold State.enterMeasure
  try dsimp only
  with_reducible repeat' first
    | assumption | intro _ | apply State.After.ite | apply State.setMode_after | apply State.each_after
    | apply State.rotJudge_after | apply State.startStimulus_after | apply State.blotStart_after
    | apply State.refreshBalls_after

theorem State.leaveMeasure_after (h : s₀.After s) (k : Nat) : s₀.After (State.leaveMeasure s k) := by
  unfold State.leaveMeasure
  try dsimp only
  with_reducible repeat' first
    | assumption | intro _ | apply State.each_after | apply State.hlAbandon_after | apply State.tdrAbandon_after
    | apply State.stopStimulus_after | apply State.blotOver_after | apply State.stopSines_after
    | apply State.setMode_after | apply State.refreshBalls_after

theorem State.deskewOctet_after (h : s₀.After s) (g : Nat) : s₀.After (State.deskewOctet s g) := by
  unfold State.deskewOctet
  try dsimp only
  with_reducible repeat' first
    | assumption | apply State.setProc_after | apply State.wr_after | apply State.set_after
    | apply State.startStimulus_after | apply State.tdrStart_after

theorem State.enterCalibrate_after (h : s₀.After s) (k : Nat) : s₀.After (State.enterCalibrate s k) := by
  unfold State.enterCalibrate
  try dsimp only
  with_reducible repeat' first
    | assumption | intro _ | apply State.After.ite | apply State.setMode_after | apply State.each_after
    | apply State.rotJudge_after | apply State.dcBreak_after | apply State.deskewOctet_after
    | apply State.refreshBalls_after

theorem State.leaveCalibrate_after (h : s₀.After s) (k : Nat) : s₀.After (State.leaveCalibrate s k) := by
  unfold State.leaveCalibrate
  try dsimp only
  with_reducible repeat' first
    | assumption | apply State.procFinish_after | apply State.setMode_after | apply State.refreshBalls_after

theorem State.arrive_after (h : s₀.After s) (k : Nat) : s₀.After (State.arrive s k) := by
  unfold State.arrive
  try dsimp only
  with_reducible repeat' first
    | assumption | apply State.After.ite | apply State.enterOff_after | apply State.leaveOff_after
    | apply State.enterStandby_after | apply State.leaveMeasure_after | apply State.leaveCalibrate_after
    | apply State.enterSetup_after | apply State.enterMeasure_after | apply State.enterCalibrate_after | split

/-! ### Rotation -/

theorem State.rotNext_after (h : s₀.After s) (g : Nat) : s₀.After (State.rotNext s g) := by
  unfold State.rotNext
  try dsimp only
  with_reducible repeat' first | assumption | apply State.rotTo_after | apply State.onRot_after | split

theorem State.rotSkip_after (h : s₀.After s) (g l : Nat) : s₀.After (State.rotSkip s g l) := by
  unfold State.rotSkip
  try dsimp only
  with_reducible repeat' first
    | assumption | apply State.set_after | apply State.bump_after | apply State.onSecCal_after
    | apply State.raise_after | apply State.rotNext_after

theorem State.rotFailed_after (h : s₀.After s) (g c cause : Nat) (f : State → State) (h_f : ∀ u, s₀.After u → s₀.After (f u)) :
    s₀.After (State.rotFailed s g c cause f) := by
  unfold State.rotFailed
  try dsimp only
  with_reducible repeat' first | assumption | apply State.After.ite | apply h_f | apply State.failRun_after

theorem State.rotRun_after (h : s₀.After s) (g st lane : Nat) : s₀.After (State.rotRun s g st lane) := by
  unfold State.rotRun
  try dsimp only
  with_reducible repeat' first | assumption | apply State.rotTo_after | apply State.onRot_after

theorem State.rotCommit_after (h : s₀.After s) (g l : Nat) : s₀.After (State.rotCommit s g l) := by
  unfold State.rotCommit
  try dsimp only
  with_reducible repeat' first
    | assumption | apply State.After.ite | apply State.rotTo_after | apply State.commitRun_after
    | apply State.failRun_after | apply State.rotRun_after | split
  all_goals first | exact Tab.Keeps.same | exact Tab.Keeps.nil

theorem State.matchFails_after (h : s₀.After s) (g l : Nat) : s₀.After (State.matchFails s g l) := by
  unfold State.matchFails
  try dsimp only
  with_reducible repeat' first
    | assumption | intro _ | apply State.After.ite | apply State.rotTo_after | apply State.onRot_after
    | apply State.set_after | apply State.rotFailed_after | apply State.rotRun_after | apply State.rotSkip_after

theorem State.visitEnds_after (h : s₀.After s) (g l : Nat) : s₀.After (State.visitEnds s g l) := by
  unfold State.visitEnds
  try dsimp only
  with_reducible repeat' first
    | assumption | apply State.handOver_after | apply State.set_after | apply State.bump_after
    | apply State.onSecCal_after | apply State.rotNext_after

theorem State.checkFails_after (h : s₀.After s) (g l : Nat) : s₀.After (State.checkFails s g l) := by
  unfold State.checkFails
  try dsimp only
  with_reducible repeat' first
    | assumption | intro _ | apply State.After.ite | apply State.set_after | apply State.onRot_after
    | apply State.rotFailed_after | apply State.rotSkip_after | apply State.rotRun_after

theorem State.refload_after (h : s₀.After s) (g : Nat) : s₀.After (State.refload s g) := by
  unfold State.refload
  try dsimp only
  with_reducible repeat' first
    | assumption | apply State.rotIdle_after | apply State.onRot_after | apply State.set_after
    | apply State.raise_after

theorem State.issueSet_after (h : s₀.After s) (g c : Nat) : s₀.After (State.issueSet s g c) := by
  unfold State.issueSet
  try dsimp only
  with_reducible repeat' first | assumption | apply State.After.ite | apply State.onCore_after

theorem State.rotRunEnds_after (h : s₀.After s) (g c : Nat) (e : RunEnd) (cause : Nat) :
    s₀.After (State.rotRunEnds s g c e cause) := by
  unfold State.rotRunEnds
  try dsimp only
  with_reducible repeat' first
    | assumption | intro _ | apply State.After.ite | apply State.failRun_after | apply State.refload_after
    | apply State.rotFailed_after | apply State.rotRun_after | apply State.onCore_after | apply State.issueSet_after
    | apply State.rotTo_after | apply State.commitRun_after | apply State.rotNext_after | split
  all_goals first | exact Tab.Keeps.same | exact Tab.Keeps.nil

theorem State.procRunEnds_after (h : s₀.After s) (g c : Nat) (e : RunEnd) (cause : Nat) :
    s₀.After (State.procRunEnds s g c e cause) := by
  unfold State.procRunEnds
  try dsimp only
  with_reducible repeat' first
    | assumption | apply State.After.ite | apply State.refload_after | apply State.onRot_after
    | apply State.commitRun_after | apply State.failRun_after | apply State.onCore_after
    | apply State.showClasses_after | apply State.setCause_after | apply State.setProc_after
    | apply State.refreshOctet_after
  all_goals first | exact Tab.Keeps.same | exact Tab.Keeps.nil

theorem State.rotCtlWrite_after (h : s₀.After s) (g v : Nat) : s₀.After (State.rotCtlWrite s g v) := by
  unfold State.rotCtlWrite
  try dsimp only
  with_reducible repeat' first | assumption | apply State.plainWrite_after | apply State.rotJudge_after

theorem State.calBegin_after (h : s₀.After s) (p : Packet) (mask : Nat) (proc : Nat → Proc) :
    s₀.After (State.calBegin s p mask proc) := by
  unfold State.calBegin
  try dsimp only
  with_reducible repeat' first
    | assumption | intro _ | apply State.After.ite | apply State.addJob_after | apply State.each_after
    | apply State.setProc_after | apply State.beginMode_after | apply State.calReply_after | split

theorem State.unretire_after (h : s₀.After s) (g mask : Nat) : s₀.After (State.unretire s g mask) := by
  unfold State.unretire
  try dsimp only
  with_reducible repeat' first
    | assumption | intro _ | apply State.After.ite | apply State.wear_after | apply State.each_after
    | apply State.onCore_after | apply State.handOver_after | apply State.set_after | apply State.setB_after
    | apply State.onRot_after | apply State.refreshOctet_after | apply State.showClasses_after

theorem State.tllRepair_after (h : s₀.After s) (k v opcode : Nat) : s₀.After (State.tllRepair s k v opcode) := by
  unfold State.tllRepair
  try dsimp only
  with_reducible repeat' first
    | assumption | apply State.wr_after | apply State.wear_after | apply State.sealedChange_after

theorem execRotCycleStart_after (h : s₀.After s) (g : Octet) : Gives s₀ (execRotCycleStart g s) := by
  unfold execRotCycleStart
  try dsimp only
  with_reducible repeat' first
    | assumption | apply Gives.next | apply Gives.ite | apply State.rotStop_after | apply State.rotRun_after
    | apply State.onRot_after | split

theorem execRotMirrorDone_after (h : s₀.After s) (g : Octet) : Gives s₀ (execRotMirrorDone g s) := by
  unfold execRotMirrorDone
  try dsimp only
  with_reducible repeat' first
    | assumption | apply Gives.next | apply Gives.ite | apply State.mirror_after | apply State.rotTo_after | split

theorem execRotMatchTryEnd_after (h : s₀.After s) (g : Octet) (pass : Bool) : Gives s₀ (execRotMatchTryEnd g pass s) := by
  unfold execRotMatchTryEnd
  try dsimp only
  with_reducible repeat' first
    | assumption | apply Gives.next | apply Gives.ite | apply State.matchFails_after | apply State.rotTo_after
    | apply State.rotCommit_after | split

theorem execRotSeamTimeout_after (h : s₀.After s) (g : Octet) : Gives s₀ (execRotSeamTimeout g s) := by
  unfold execRotSeamTimeout
  try dsimp only
  with_reducible repeat' first | assumption | apply Gives.next | apply Gives.ite | apply State.rotSkip_after | split

theorem execHandoverSwitch_after (h : s₀.After s) (g : Octet) (fail : Bool) : Gives s₀ (execHandoverSwitch g fail s) := by
  unfold execHandoverSwitch
  try dsimp only
  with_reducible repeat' first
    | assumption | apply Gives.next | apply Gives.ite | apply State.After.ite | apply State.set_after
    | apply State.mirror_after | apply State.handOver_after | apply State.onRot_after | apply State.checkFails_after
    | apply State.rotRun_after | apply State.visitEnds_after | split

theorem execRotRunEnd_after (h : s₀.After s) (g : Octet) (e : RunEnd) : Gives s₀ (execRotRunEnd g e s) := by
  unfold execRotRunEnd
  try dsimp only
  with_reducible repeat' first
    | assumption | apply Gives.next | apply Gives.ite | apply State.tapCandidates_after
    | apply State.procRunEnds_after | apply State.rotRunEnds_after | split

theorem execRotSummary_after (h : s₀.After s) (k : Sector) : Gives s₀ (execRotSummary k s) := by
  unfold execRotSummary
  try dsimp only
  with_reducible repeat' first | assumption | apply Gives.next | apply Gives.ite | apply State.rotSummary_after

theorem execRotCtlWrite_after (h : s₀.After s) (g : Octet) (v : Word) : Gives s₀ (execRotCtlWrite g v s) := by
  unfold execRotCtlWrite
  try dsimp only
  with_reducible repeat' first
    | assumption | apply Gives.next | intro _ | apply State.whileOn_after | apply State.rotCtlWrite_after

theorem execCalTempSample_after (h : s₀.After s) (k : Sector) (reading : BitVec 16) : Gives s₀ (execCalTempSample k reading s) := by
  unfold execCalTempSample
  try dsimp only
  with_reducible repeat' first
    | assumption | apply Gives.next | apply Gives.ite | intro _ | apply State.After.ite | apply State.onSecCal_after
    | apply State.set_after | apply State.each_after | apply State.showClasses_after

theorem execCalRecompute_after (h : s₀.After s) (k : Sector) : Gives s₀ (execCalRecompute k s) := by
  unfold execCalRecompute
  try dsimp only
  with_reducible repeat' first
    | assumption | apply Gives.next | apply Gives.ite | intro _ | apply State.each_after | apply State.issueSet_after

theorem execCalAgeClassChange_after (h : s₀.After s) (g : Octet) : Gives s₀ (execCalAgeClassChange g s) := by
  unfold execCalAgeClassChange
  try dsimp only
  with_reducible repeat' first
    | assumption | apply Gives.next | apply Gives.ite | apply State.showAges_after | apply State.showClasses_after

theorem execCalCore_after (h : s₀.After s)  : Gives s₀ (execCalCore s) := by
  unfold execCalCore
  try dsimp only
  with_reducible repeat' first
    | assumption | apply Gives.next | apply Gives.ite | refine State.start_after ?_ _ (by assumption)
    | apply State.reply_after | apply State.calBegin_after | split

theorem execCalDeskew_after (h : s₀.After s)  : Gives s₀ (execCalDeskew s) := by
  unfold execCalDeskew
  try dsimp only
  with_reducible repeat' first
    | assumption | apply Gives.next | apply Gives.ite | refine State.start_after ?_ _ (by assumption)
    | apply State.reply_after | apply State.calBegin_after | split

theorem execCalVerify_after (h : s₀.After s)  : Gives s₀ (execCalVerify s) := by
  unfold execCalVerify
  try dsimp only
  with_reducible repeat' first
    | assumption | apply Gives.next | apply Gives.ite | refine State.start_after ?_ _ (by assumption)
    | apply State.reply_after | apply State.calBegin_after | split

theorem execCalPoint_after (h : s₀.After s)  : Gives s₀ (execCalPoint s) := by
  unfold execCalPoint
  try dsimp only
  with_reducible repeat' first
    | assumption | apply Gives.next | apply Gives.ite | refine State.start_after ?_ _ (by assumption)
    | apply State.reply_after | apply State.calBegin_after | split

theorem execCalUnretire_after (h : s₀.After s)  : Gives s₀ (execCalUnretire s) := by
  unfold execCalUnretire
  try dsimp only
  with_reducible repeat' first
    | assumption | apply Gives.next | apply Gives.ite | refine State.start_after ?_ _ (by assumption)
    | apply State.reply_after | apply State.addJob_after | apply State.unretire_after | apply State.sealedChange_after
    | split

theorem execTllRepair_after (h : s₀.After s)  : Gives s₀ (execTllRepair s) := by
  unfold execTllRepair
  try dsimp only
  with_reducible repeat' first
    | assumption | apply Gives.next | apply Gives.ite | refine State.start_after ?_ _ (by assumption)
    | apply State.reply_after | apply State.addJob_after | apply State.tllRepair_after | apply State.endJob_after
    | split
  all_goals first | exact Tab.Keeps.same | exact Tab.Keeps.nil

theorem execCalProcedureEnd_after (h : s₀.After s) (k : Sector) : Gives s₀ (execCalProcedureEnd k s) := by
  unfold execCalProcedureEnd
  try dsimp only
  with_reducible repeat' first
    | assumption | apply Gives.next | apply Gives.ite | apply State.procFinish_after
    | apply State.leaveCalibrate_after | apply State.modeHeld_after

/-! ### Timing -/

theorem execTsWrite_after (h : s₀.After s)  : Gives s₀ (execTsWrite s) := by
  unfold execTsWrite
  try dsimp only
  with_reducible repeat' first
    | assumption | apply Gives.next | apply Gives.ite | intro _ | refine State.start_after ?_ _ (by assumption)
    | apply State.reply_after | apply State.each_after | apply State.slotWrite_after | apply State.tsPut_after | split

theorem execPtWrite_after (h : s₀.After s)  : Gives s₀ (execPtWrite s) := by
  unfold execPtWrite
  try dsimp only
  with_reducible repeat' first
    | assumption | apply Gives.next | apply Gives.ite | intro _ | refine State.start_after ?_ _ (by assumption)
    | apply State.reply_after | apply State.each_after | apply State.ptCommit_after | split

/-! ### CopyOps -/

theorem State.setPc_after (h : s₀.After s) (c pc : Nat) : s₀.After (State.setPc s c pc) := by
  unfold State.setPc
  try dsimp only
  with_reducible repeat' first | assumption | apply State.set64_after

theorem State.freeBanks_after (h : s₀.After s) (c : Nat) : s₀.After (State.freeBanks s c) := by
  unfold State.freeBanks
  try dsimp only
  with_reducible repeat' first
    | assumption | apply Tab.Keeps.same | apply State.onChan_after | simp only [State.After.mk_eq] | apply Upd.of

theorem State.delayEvent_after (h : s₀.After s) (c : Nat) : s₀.After (State.delayEvent s c) := by
  unfold State.delayEvent
  try dsimp only
  with_reducible repeat' first | assumption | apply State.bump_after

theorem State.endMove_after (h : s₀.After s) (c status : Nat) : s₀.After (State.endMove s c status) := by
  unfold State.endMove
  try dsimp only
  with_reducible repeat' first
    | assumption | apply State.After.ite | apply State.set_after | apply State.freeBanks_after
    | apply State.endDesc_after

theorem State.askDst_after (h : s₀.After s) (c : Nat) : s₀.After (State.askDst s c) := by
  unfold State.askDst
  try dsimp only
  with_reducible repeat' first
    | assumption | apply Tab.Keeps.same | apply State.After.ite | apply State.endMove_after | apply State.onChan_after
    | apply State.delayEvent_after | simp only [State.After.mk_eq] | apply Upd.of | split

theorem State.askSrc_after (h : s₀.After s) (c : Nat) : s₀.After (State.askSrc s c) := by
  unfold State.askSrc
  try dsimp only
  with_reducible repeat' first
    | assumption | apply Tab.Keeps.same | apply State.After.ite | apply State.onChan_after
    | apply State.delayEvent_after | simp only [State.After.mk_eq] | apply Upd.of

theorem State.askAgain_after (h : s₀.After s) (c : Nat) : s₀.After (State.askAgain s c) := by
  unfold State.askAgain
  try dsimp only
  with_reducible repeat' first
    | assumption | apply State.After.ite | apply State.askDst_after | apply State.askSrc_after

theorem State.grantWaiting_after (h : s₀.After s) : s₀.After (State.grantWaiting s) := by
  unfold State.grantWaiting
  try dsimp only
  with_reducible repeat' first | assumption | intro _ | apply State.each_after | apply State.askAgain_after

theorem State.freeYields_after (h : s₀.After s) : s₀.After (State.freeYields s) := by
  unfold State.freeYields
  try dsimp only
  with_reducible repeat' first
    | assumption | apply Tab.Keeps.same | intro _ | apply State.After.ite | apply State.each_after
    | apply State.onChan_after | simp only [State.After.mk_eq] | apply Upd.of | split

theorem State.cpyAdvance_after (h : s₀.After s) : s₀.After (State.cpyAdvance s) := by
  unfold State.cpyAdvance
  try dsimp only
  with_reducible repeat' first
    | assumption | intro _ | apply State.each_after | apply State.askAgain_after | apply State.freeYields_after
    | apply State.grantWaiting_after

theorem State.beginMove_after (h : s₀.After s) (c : Nat) : s₀.After (State.beginMove s c) := by
  unfold State.beginMove
  try dsimp only
  with_reducible repeat' first
    | assumption | apply State.After.ite | apply State.set_after | apply State.wr_after | apply State.onChan_after
    | apply State.endDesc_after | apply State.askDst_after | split

theorem State.loadMove_after (h : s₀.After s) (k : Nat) (j : Job) : s₀.After (State.loadMove s k j) := by
  unfold State.loadMove
  try dsimp only
  with_reducible repeat' first
    | assumption | apply State.setChan_after | apply State.setChState_after | apply State.beginMove_after

theorem State.lecTake_after (h : s₀.After s) (c : Nat) : s₀.After (State.lecTake s c) := by
  unfold State.lecTake
  try dsimp only
  with_reducible repeat' first
    | assumption | apply State.After.ite | apply State.updateJob_after | apply State.set_after
    | apply State.loadMove_after | split

theorem State.lecRelease_after (h : s₀.After s) (c : Nat) : s₀.After (State.lecRelease s c) := by
  unfold State.lecRelease
  try dsimp only
  with_reducible repeat' first
    | assumption | apply State.After.ite | apply State.set_after | apply State.updateJob_after
    | apply State.endJob_after | split

theorem State.cpyGo_after (h : s₀.After s) (c : Nat) : s₀.After (State.cpyGo s c) := by
  unfold State.cpyGo
  try dsimp only
  with_reducible repeat' first
    | assumption | apply State.After.ite | apply State.setChan_after | apply State.setPc_after | apply State.set_after
    | apply State.wr_after | apply State.setChState_after

theorem State.cpyKick_after (h : s₀.After s) (c : Nat) : s₀.After (State.cpyKick s c) := by
  unfold State.cpyKick
  try dsimp only
  with_reducible repeat' first
    | assumption | apply State.After.ite | apply State.setChState_after | apply State.onChan_after

theorem State.cpyPause_after (h : s₀.After s) (c : Nat) : s₀.After (State.cpyPause s c) := by
  unfold State.cpyPause
  try dsimp only
  with_reducible repeat' first
    | assumption | apply State.After.ite | apply State.setChan_after | apply State.freeBanks_after
    | apply State.onChan_after | apply State.setChState_after

theorem State.cpyResume_after (h : s₀.After s) (c : Nat) : s₀.After (State.cpyResume s c) := by
  unfold State.cpyResume
  try dsimp only
  with_reducible repeat' first
    | assumption | apply State.After.ite | apply State.setChan_after | apply State.setChState_after
    | apply State.endWaits_after

theorem State.setIdle_after (h : s₀.After s) (c : Nat) : s₀.After (State.setIdle s c) := by
  unfold State.setIdle
  try dsimp only
  with_reducible repeat' first
    | assumption | apply State.freeBanks_after | apply State.onChan_after | apply State.setChState_after
    | apply State.flushHeld_after | apply State.lecRelease_after | apply State.lecTake_after

theorem State.cpyStopErr_after (h : s₀.After s) (c status : Nat) : s₀.After (State.cpyStopErr s c status) := by
  unfold State.cpyStopErr
  try dsimp only
  with_reducible repeat' first
    | assumption | intro _ | apply State.cpyNotify_after | apply State.set_after | apply State.setIdle_after

theorem State.progWrite_after (h : s₀.After s) (c addr : Nat) (ws : List Word) :
    s₀.After (State.progWrite s c addr ws) := by
  unfold State.progWrite
  try dsimp only
  with_reducible repeat' first
    | assumption | apply State.After.ite | apply State.toHost_after | apply State.bar2Puts_after | split

theorem State.writeBack_after (h : s₀.After s) (c : Nat) (e : CpyRec) : s₀.After (State.writeBack s c e) := by
  unfold State.writeBack
  try dsimp only
  with_reducible repeat' first
    | assumption | intro _ | apply State.After.ite | apply State.progWrite_after | apply State.cpyNotify_after
    | apply State.set_after

theorem State.stopDesc_after (h : s₀.After s) (c status : Nat) (back : Bool) :
    s₀.After (State.stopDesc s c status back) := by
  unfold State.stopDesc
  try dsimp only
  with_reducible repeat' first
    | assumption | apply State.After.ite | apply State.writeBack_after | apply State.cpyStopErr_after

theorem State.cpyAbort_after (h : s₀.After s) (c : Nat) : s₀.After (State.cpyAbort s c) := by
  unfold State.cpyAbort
  try dsimp only
  with_reducible repeat' first
    | assumption | apply State.After.ite | apply State.onChan_after | apply State.stopDesc_after

theorem State.cpyCtlWrite_after (h : s₀.After s) (c v : Nat) : s₀.After (State.cpyCtlWrite s c v) := by
  unfold State.cpyCtlWrite
  try dsimp only
  with_reducible repeat' first
    | assumption | intro _ | apply State.After.ite | apply State.cpyNotify_after | apply State.setB_after
    | apply State.set_after | apply State.cpyGo_after | apply State.cpyKick_after | apply State.cpyPause_after
    | apply State.cpyResume_after | apply State.cpyAbort_after

theorem State.progRegWrite_after (h : s₀.After s) (c a v : Nat) : s₀.After (State.progRegWrite s c a v) := by
  unfold State.progRegWrite
  try dsimp only
  with_reducible repeat' first | assumption | apply State.After.ite | apply State.wr_after | apply State.set_after

theorem State.tornSegment_after (h : s₀.After s) (c : Nat) : s₀.After (State.tornSegment s c) := by
  unfold State.tornSegment
  try dsimp only
  with_reducible repeat' first
    | assumption | intro _ | apply State.After.ite | apply State.fresh_after | apply State.bar2Puts_after
    | apply State.each_after | apply State.toHost_after | split

theorem State.resetChannel_after (h : s₀.After s) (c : Nat) (back : Bool) :
    s₀.After (State.resetChannel s c back) := by
  unfold State.resetChannel
  try dsimp only
  with_reducible repeat' first
    | assumption | apply State.After.ite | apply State.tornSegment_after | apply State.writeBack_after
    | apply State.onChan_after | apply State.set_after | apply State.setIdle_after

theorem State.resetChannelBlock_after (h : s₀.After s) (c : Nat) (back : Bool) :
    s₀.After (State.resetChannelBlock s c back) := by
  unfold State.resetChannelBlock
  try dsimp only
  with_reducible repeat' first
    | assumption | intro _ | apply State.resetChannel_after | apply State.each_after
    | apply State.banksToLectern_after | apply State.set_after

theorem State.lateReply_after (h : s₀.After s) (c : Nat) : s₀.After (State.lateReply s c) := by
  unfold State.lateReply
  try dsimp only
  with_reducible repeat' first
    | assumption | apply State.After.ite | apply State.onChan_after | apply State.bump_after

theorem State.resetStoreMoves_after (h : s₀.After s) (k : Nat) : s₀.After (State.resetStoreMoves s k) := by
  unfold State.resetStoreMoves
  try dsimp only
  with_reducible repeat' first | assumption | intro _ | apply State.each_after | apply State.resetChannel_after

theorem State.resetStackMoves_after (h : s₀.After s) (w : Nat) : s₀.After (State.resetStackMoves s w) := by
  unfold State.resetStackMoves
  try dsimp only
  with_reducible repeat' first | assumption | intro _ | apply State.each_after | apply State.resetChannel_after

/-! ### Lifecycle -/

theorem Vault.pushHeld_sram (v : Vault) (h : HeldTamper) : (v.pushHeld h).sram = v.sram := by
  unfold Vault.pushHeld
  dsimp only
  repeat' split
  all_goals rfl

theorem Vault.flushHeld_sram (v : Vault) : v.flushHeld.sram = v.sram := by
  unfold Vault.flushHeld
  generalize v.held = l
  induction l generalizing v with
  | nil => rfl
  | cons a t ih =>
    rw [List.foldl_cons, ih]
    split
    · exact Vault.pushHeld_sram v a
    · rfl

theorem State.replyTx_after (h : s₀.After s) (opcode status : Nat) (fields : List (Nat × Nat)) :
    s₀.After (State.replyTx s opcode status fields) := by
  unfold State.replyTx
  try dsimp only
  with_reducible repeat' first | assumption | apply State.endJob_after | split

theorem State.unlock_after (h : s₀.After s) : s₀.After (State.unlock s) := by
  unfold State.unlock
  try dsimp only
  with_reducible repeat' first
    | assumption | apply Tab.Keeps.same | apply State.After.ite | simp only [State.After.mk_eq] | apply Upd.of

theorem State.commitProvision_after (h : s₀.After s) (owner : Nat) : s₀.After (State.commitProvision s owner) := by
  unfold State.commitProvision
  try dsimp only
  with_reducible repeat' first
    | assumption | apply State.fresh_after | apply State.setVault_after | apply State.replyTx_after | split
  all_goals first | exact Tab.Keeps.same | exact Tab.Keeps.nil

theorem State.commitSeal_after (h : s₀.After s) : s₀.After (State.commitSeal s) := by
  unfold State.commitSeal
  try dsimp only
  with_reducible repeat' first | assumption | apply State.setVault_after | apply State.replyTx_after
  all_goals first | exact Tab.Keeps.same | exact Tab.Keeps.nil

theorem State.commitParam_after (h : s₀.After s) (t : Tx) (item index : Nat) (before : List Byte) (set : SealedSet) :
    s₀.After (State.commitParam s t item index before set) := by
  unfold State.commitParam
  try dsimp only
  with_reducible repeat' first
    | assumption | apply State.After.ite | apply State.setVault_after | apply State.replyTx_after | split
  all_goals first | exact Tab.Keeps.same | exact Tab.Keeps.nil

theorem State.commitTx_after (h : s₀.After s) (ok : Bool) : s₀.After (State.commitTx s ok) := by
  unfold State.commitTx
  try dsimp only
  with_reducible repeat' first
    | assumption | apply Tab.Keeps.same | apply State.After.ite | apply State.unlock_after
    | apply State.commitProvision_after | apply State.commitSeal_after | apply State.commitParam_after
    | apply State.replyTx_after | simp only [State.After.mk_eq] | apply Upd.of | split
  all_goals first | exact Tab.Keeps.same | exact Tab.Keeps.nil

theorem State.disarmSlots_after (h : s₀.After s) : s₀.After (State.disarmSlots s) := by
  unfold State.disarmSlots
  try dsimp only
  with_reducible repeat' first | assumption | intro _ | apply State.each_after | apply State.set_after

theorem State.judgeSigned_after (h : s₀.After s) (p : Packet) (state : Nat) :
    s₀.After (State.judgeSigned s p state).2 := by
  unfold State.judgeSigned
  try dsimp only
  with_reducible repeat' first
    | assumption | apply Tab.Keeps.same | dsimp only | apply State.setVault_after | simp only [State.After.mk_eq]
    | apply Upd.of | apply State.After.ite_snd
  all_goals first | exact Tab.Keeps.same | exact Tab.Keeps.nil

theorem execLcProvision_after (h : s₀.After s)  : Gives s₀ (execLcProvision s) := by
  unfold execLcProvision
  try dsimp only
  with_reducible repeat' first
    | assumption | apply Gives.next | apply Gives.ite | refine State.start_after ?_ _ (by assumption)
    | apply State.reply_after | apply State.addJob_after | apply State.openTx_after | split
  all_goals first | exact Tab.Keeps.same | exact Tab.Keeps.nil

theorem execLcSeal_after (h : s₀.After s)  : Gives s₀ (execLcSeal s) := by
  unfold execLcSeal
  try dsimp only
  with_reducible repeat' first
    | assumption | apply Gives.next | apply Gives.ite | refine State.start_after ?_ _ (by assumption)
    | apply State.reply_after | apply State.addJob_after | apply State.openTx_after | apply State.disarmSlots_after
    | split
  all_goals first | exact Tab.Keeps.same | exact Tab.Keeps.nil

theorem execLcService_after (h : s₀.After s)  : Gives s₀ (execLcService s) := by
  unfold execLcService
  try dsimp only
  with_reducible repeat' first
    | assumption | apply Gives.next | apply Gives.ite | refine State.start_after ?_ _ (by assumption)
    | apply State.reply_after | apply State.judgeSigned_after | apply State.setVault_after | split
  all_goals first | exact Tab.Keeps.same | exact Tab.Keeps.nil

theorem execLcRetire_after (h : s₀.After s)  : Gives s₀ (execLcRetire s) := by
  unfold execLcRetire
  try dsimp only
  with_reducible repeat' first
    | assumption | apply Gives.next | apply Gives.ite | refine State.start_after ?_ _ (by assumption)
    | apply State.reply_after | apply State.judgeSigned_after | apply State.setVault_after | split
  all_goals first | exact Tab.Keeps.same | exact Tab.Keeps.nil

theorem execLcChallenge_after (h : s₀.After s)  : Gives s₀ (execLcChallenge s) := by
  unfold execLcChallenge
  try dsimp only
  with_reducible repeat' first
    | assumption | apply Gives.next | apply Gives.ite | apply Tab.Keeps.same
    | refine State.start_after ?_ _ (by assumption) | apply State.reply_after | apply State.fresh_after
    | simp only [State.After.mk_eq] | apply Upd.of | split
  all_goals first | exact Tab.Keeps.same | exact Tab.Keeps.nil

theorem execColRead_after (h : s₀.After s)  : Gives s₀ (execColRead s) := by
  unfold execColRead
  try dsimp only
  with_reducible repeat' first
    | assumption | apply Gives.next | apply Gives.ite | refine State.start_after ?_ _ (by assumption)
    | apply State.reply_after | split
  all_goals first | exact Tab.Keeps.same | exact Tab.Keeps.nil

theorem execColRelease_after (h : s₀.After s)  : Gives s₀ (execColRelease s) := by
  unfold execColRelease
  try dsimp only
  with_reducible repeat' first
    | assumption | apply Gives.next | apply Gives.ite | refine State.start_after ?_ _ (by assumption)
    | apply State.reply_after | apply State.setVault_after | split | rw [Vault.flushHeld_sram]
  all_goals first | exact Tab.Keeps.same | exact Tab.Keeps.nil

theorem execVerdict_after (h : s₀.After s)  : Gives s₀ (execVerdict s) := by
  unfold execVerdict
  try dsimp only
  with_reducible repeat' first
    | assumption | apply Gives.next | apply Gives.ite | refine State.start_after ?_ _ (by assumption)
    | apply State.reply_after | split
  all_goals first | exact Tab.Keeps.same | exact Tab.Keeps.nil

/-! ### Lectern -/

theorem State.hostIn_after (h : s₀.After s) (f : State → State) (h_f : ∀ u, s₀.After u → s₀.After (f u)) :
    s₀.After (State.hostIn s f) := by
  unfold State.hostIn
  try dsimp only
  with_reducible repeat' first | assumption | apply State.After.ite | apply h_f | apply State.wake_after

theorem State.sqTail_after (h : s₀.After s) (r v : Nat) : s₀.After (State.sqTail s r v) := by
  unfold State.sqTail
  try dsimp only
  with_reducible repeat' first | assumption | apply State.After.ite | apply State.set_after

theorem State.ringSignal_after (h : s₀.After s) (r : Nat) : s₀.After (State.ringSignal s r) := by
  unfold State.ringSignal
  try dsimp only
  with_reducible repeat' first
    | assumption | apply Tab.Keeps.same | apply State.signal_after | simp only [State.After.mk_eq] | apply Upd.of

theorem State.coalesce_after (h : s₀.After s) (x : Reply) : s₀.After (State.coalesce s x) := by
  unfold State.coalesce
  try dsimp only
  with_reducible repeat' first
    | assumption | apply Tab.Keeps.same | apply State.After.ite | apply State.ringSignal_after
    | simp only [State.After.mk_eq] | apply Upd.of

theorem State.replied_after (h : s₀.After s) (r : Nat) : s₀.After (State.replied s r) := by
  unfold State.replied
  try dsimp only
  with_reducible repeat' first | assumption | apply State.set_after

theorem State.beginRest_after (h : s₀.After s) (x : Reply) : s₀.After (State.beginRest s x) := by
  unfold State.beginRest
  try dsimp only
  with_reducible repeat' first
    | assumption | apply Tab.Keeps.same | apply State.After.ite | apply State.orderDown_after
    | simp only [State.After.mk_eq] | apply Upd.of

theorem State.putReply_after (h : s₀.After s) (x : Reply) (flip : Nat) : s₀.After (State.putReply s x flip) := by
  unfold State.putReply
  try dsimp only
  with_reducible repeat' first
    | assumption | intro _ | apply State.After.ite | apply State.each_after | apply State.toHost_after
    | apply State.set_after | apply State.replied_after | apply State.coalesce_after | apply State.beginRest_after

theorem State.putHeld_after (h : s₀.After s) (r : Nat) : s₀.After (State.putHeld s r) := by
  unfold State.putHeld
  try dsimp only
  with_reducible repeat' first
    | assumption | apply Tab.Keeps.same | intro _ | apply State.After.ite | apply State.each_after
    | apply State.putReply_after | simp only [State.After.mk_eq] | apply Upd.of

theorem State.cqHead_after (h : s₀.After s) (r v : Nat) : s₀.After (State.cqHead s r v) := by
  unfold State.cqHead
  try dsimp only
  with_reducible repeat' first
    | assumption | apply Tab.Keeps.same | apply State.After.ite | apply State.set_after
    | simp only [State.After.mk_eq] | apply Upd.of

theorem State.ringCtl_after (h : s₀.After s) (r v : Nat) : s₀.After (State.ringCtl s r v) := by
  unfold State.ringCtl
  try dsimp only
  with_reducible repeat' first
    | assumption | apply State.After.ite | apply State.wr_after | apply State.set_after | apply State.setB_after

theorem State.ringConfig_after (h : s₀.After s) (r a v : Nat) : s₀.After (State.ringConfig s r a v) := by
  unfold State.ringConfig
  try dsimp only
  with_reducible repeat' first | assumption | apply State.After.ite | apply State.set_after | apply State.wr_after

theorem State.lecRestart_after (h : s₀.After s) (keep : Packet → Bool) : s₀.After (State.lecRestart s keep) := by
  unfold State.lecRestart
  try dsimp only
  with_reducible repeat' first
    | assumption | intro _ | apply State.acceptReset_after | apply State.set_after | apply State.each_after
    | apply State.resetChannelBlock_after | apply State.resetJobs_after | apply State.endReset_after

theorem State.clearRings_after (h : s₀.After s) : s₀.After (State.clearRings s) := by
  unfold State.clearRings
  try dsimp only
  with_reducible repeat' first | assumption | apply Tab.Keeps.same | simp only [State.After.mk_eq] | apply Upd.of

theorem State.clearPort_after (h : s₀.After s) : s₀.After (State.clearPort s) := by
  unfold State.clearPort
  try dsimp only
  with_reducible repeat' first
    | assumption | apply Tab.Keeps.same | dsimp only | apply Tab.Keeps.nil | simp only [State.After.mk_eq]
    | apply Upd.of

theorem State.modeCommand_after (h : s₀.After s) (k req : Nat) : s₀.After (State.modeCommand s k req) := by
  unfold State.modeCommand
  try dsimp only
  with_reducible repeat' first
    | assumption | apply State.After.ite | apply State.modeRequest_after | apply State.updateJob_after | split

theorem execSqDoorbell_after (h : s₀.After s) (r : Ring) (v : Word) : Gives s₀ (execSqDoorbell r v s) := by
  unfold execSqDoorbell
  try dsimp only
  with_reducible repeat' first
    | assumption | apply Gives.next | intro _ | apply State.hostIn_after | apply State.sqTail_after

theorem execCommandRead_after (h : s₀.After s) (r : Ring) (header : BitVec 128) (params : List Word) : Gives s₀ (execCommandRead r header params s) := by
  unfold execCommandRead
  try dsimp only
  with_reducible repeat' first
    | assumption | apply Gives.next | apply Gives.ite | apply Tab.Keeps.same | apply State.set_after
    | apply State.reply_after | simp only [State.After.mk_eq] | apply Upd.of

theorem execCommandStale_after (h : s₀.After s)  : Gives s₀ (execCommandStale s) := by
  unfold execCommandStale
  try dsimp only
  with_reducible repeat' first
    | assumption | apply Gives.next | apply Tab.Keeps.same | apply State.reply_after | simp only [State.After.mk_eq]
    | apply Upd.of | split

theorem execReplyWrite_after (h : s₀.After s) (r : Ring) : Gives s₀ (execReplyWrite r s) := by
  unfold execReplyWrite
  try dsimp only
  with_reducible repeat' first
    | assumption | apply Gives.next | apply Gives.ite | apply Tab.Keeps.same | apply State.replied_after
    | apply State.bump_after | apply State.strike_after | apply State.fresh_after | apply State.putReply_after
    | apply State.putHeld_after | simp only [State.After.mk_eq] | apply Upd.of | split

theorem execReplyCoalesceTimer_after (h : s₀.After s) (r : Ring) : Gives s₀ (execReplyCoalesceTimer r s) := by
  unfold execReplyCoalesceTimer
  try dsimp only
  with_reducible repeat' first | assumption | apply Gives.next | apply Gives.ite | apply State.ringSignal_after

theorem execCqHeadWrite_after (h : s₀.After s) (r : Ring) (v : Word) : Gives s₀ (execCqHeadWrite r v s) := by
  unfold execCqHeadWrite
  try dsimp only
  with_reducible repeat' first
    | assumption | apply Gives.next | intro _ | apply State.hostIn_after | apply State.cqHead_after

theorem execRingCtlWrite_after (h : s₀.After s) (r : Ring) (v : Word) : Gives s₀ (execRingCtlWrite r v s) := by
  unfold execRingCtlWrite
  try dsimp only
  with_reducible repeat' first
    | assumption | apply Gives.next | intro _ | apply State.hostIn_after | apply State.ringCtl_after

theorem execLecRestart_after (h : s₀.After s)  : Gives s₀ (execLecRestart s) := by
  unfold execLecRestart
  try dsimp only
  with_reducible repeat' first
    | assumption | apply Gives.next | apply Gives.ite | refine State.start_after ?_ _ (by assumption)
    | apply State.reply_after | apply State.lecRestart_after | split

theorem execFunctionLevelReset_after (h : s₀.After s)  : Gives s₀ (execFunctionLevelReset s) := by
  unfold execFunctionLevelReset
  try dsimp only
  with_reducible repeat' first
    | assumption | apply Gives.next | apply Gives.ite | intro _ | apply State.acceptReset_after
    | apply State.setJobs_after | apply State.clearRings_after | apply State.each_after
    | apply State.resetChannel_after | apply State.resetRegs_after | apply State.clearPort_after
    | apply State.setB_after | apply State.set_after | apply State.endReset_after

theorem execPciePowerState_after (h : s₀.After s) (d3hot : Bool) : Gives s₀ (execPciePowerState d3hot s) := by
  unfold execPciePowerState
  try dsimp only
  with_reducible repeat' first
    | assumption | apply Gives.next | apply Gives.ite | apply Tab.Keeps.same | intro _ | apply State.each_after
    | apply State.signal_after | simp only [State.After.mk_eq] | apply Upd.of

theorem execDevIdent_after (h : s₀.After s)  : Gives s₀ (execDevIdent s) := by
  unfold execDevIdent
  try dsimp only
  with_reducible repeat' first
    | assumption | apply Gives.next | refine State.start_after ?_ _ (by assumption) | apply State.reply_after | split
  all_goals first | exact Tab.Keeps.same | exact Tab.Keeps.nil

theorem execSectorMode_after (h : s₀.After s)  : Gives s₀ (execSectorMode s) := by
  unfold execSectorMode
  try dsimp only
  with_reducible repeat' first
    | assumption | apply Gives.next | apply Gives.ite | intro _ | refine State.start_after ?_ _ (by assumption)
    | apply State.reply_after | apply State.addJob_after | apply State.each_after | apply State.modeCommand_after
    | split

theorem execRest_after (h : s₀.After s)  : Gives s₀ (execRest s) := by
  unfold execRest
  try dsimp only
  with_reducible repeat' first
    | assumption | apply Gives.next | apply Gives.ite | apply Tab.Keeps.same | apply State.After.ite
    | refine State.start_after ?_ _ (by assumption) | apply State.reply_after | apply State.set_after
    | apply State.event_after | simp only [State.After.mk_eq] | apply Upd.of | split

theorem execBlockReset_after (h : s₀.After s)  : Gives s₀ (execBlockReset s) := by
  unfold execBlockReset
  try dsimp only
  with_reducible repeat' first
    | assumption | apply Gives.next | apply Gives.ite | refine State.start_after ?_ _ (by assumption)
    | apply State.reply_after | apply State.addJob_after | apply State.announce_after | split

theorem execTempRead_after (h : s₀.After s)  : Gives s₀ (execTempRead s) := by
  unfold execTempRead
  try dsimp only
  with_reducible repeat' first
    | assumption | apply Gives.next | refine State.start_after ?_ _ (by assumption) | apply State.reply_after | split

theorem execPatLoad_after (h : s₀.After s)  : Gives s₀ (execPatLoad s) := by
  unfold execPatLoad
  try dsimp only
  with_reducible repeat' first
    | assumption | apply Gives.next | apply Gives.ite | apply State.After.ite
    | refine State.start_after ?_ _ (by assumption) | apply State.reply_after | apply State.addJob_after
    | apply State.updateJob_after | apply State.lecTake_after | split

/-! ### Flash -/

theorem State.flashPuts_after (h : s₀.After s) (off : Nat) (bs : List Byte) :
    s₀.After (State.flashPuts s off bs) := by
  unfold State.flashPuts
  try dsimp only
  with_reducible repeat' first
    | assumption | apply Tab.Keeps.same | intro _ | dsimp only | apply Tab.Keeps.put | apply Tab.Keeps.foldl
    | simp only [State.After.mk_eq] | apply Upd.of

theorem State.flashBegin_after (h : s₀.After s) (p : Packet) (op : FlashOp) :
    s₀.After (State.flashBegin s p op) := by
  unfold State.flashBegin
  try dsimp only
  with_reducible repeat' first
    | assumption | apply Tab.Keeps.same | apply State.addJob_after | simp only [State.After.mk_eq] | apply Upd.of

theorem State.flashReply_after (h : s₀.After s) (opcode status : Nat) (fields : List (Nat × Nat)) :
    s₀.After (State.flashReply s opcode status fields) := by
  unfold State.flashReply
  try dsimp only
  with_reducible repeat' first | assumption | apply State.endJob_after | split

theorem execFlashInfo_after (h : s₀.After s)  : Gives s₀ (execFlashInfo s) := by
  unfold execFlashInfo
  try dsimp only
  with_reducible repeat' first
    | assumption | apply Gives.next | refine State.start_after ?_ _ (by assumption) | apply State.reply_after | split

theorem execFlashRead_after (h : s₀.After s)  : Gives s₀ (execFlashRead s) := by
  unfold execFlashRead
  try dsimp only
  with_reducible repeat' first
    | assumption | apply Gives.next | apply Gives.ite | refine State.start_after ?_ _ (by assumption)
    | apply State.reply_after | apply State.fresh_after | split

theorem execFlashErase_after (h : s₀.After s)  : Gives s₀ (execFlashErase s) := by
  unfold execFlashErase
  try dsimp only
  with_reducible repeat' first
    | assumption | apply Gives.next | apply Gives.ite | refine State.start_after ?_ _ (by assumption)
    | apply State.reply_after | apply State.flashBegin_after | split

theorem execFlashProgram_after (h : s₀.After s)  : Gives s₀ (execFlashProgram s) := by
  unfold execFlashProgram
  try dsimp only
  with_reducible repeat' first
    | assumption | apply Gives.next | apply Gives.ite | refine State.start_after ?_ _ (by assumption)
    | apply State.reply_after | apply State.flashBegin_after | split

theorem execFlashOperationDone_after (h : s₀.After s) (bad : List Nat) : Gives s₀ (execFlashOperationDone bad s) := by
  unfold execFlashOperationDone
  try dsimp only
  with_reducible repeat' first
    | assumption | apply Gives.next | apply Tab.Keeps.same | dsimp only | apply State.commitTx_after
    | apply State.haltDue_after | apply State.flashReply_after | apply State.fresh_after | apply State.flashPuts_after
    | apply Tab.Keeps.filter | simp only [State.After.mk_eq] | apply Upd.of | split

theorem execFuseProgram_after (h : s₀.After s)  : Gives s₀ (execFuseProgram s) := by
  unfold execFuseProgram
  try dsimp only
  with_reducible repeat' first
    | assumption | apply Gives.next | apply Gives.ite | apply Tab.Keeps.same
    | refine State.start_after ?_ _ (by assumption) | apply State.reply_after | simp only [State.After.mk_eq]
    | apply Upd.of | split

theorem execHbmPpr_after (h : s₀.After s)  : Gives s₀ (execHbmPpr s) := by
  unfold execHbmPpr
  try dsimp only
  with_reducible repeat' first
    | assumption | apply Gives.next | apply Gives.ite | refine State.start_after ?_ _ (by assumption)
    | apply State.reply_after | apply State.wear_after | apply State.fresh_after | apply State.set_after
    | apply State.append_after | split
  all_goals first | exact Tab.Keeps.same | exact Tab.Keeps.nil

theorem execPprSoftRepair_after (h : s₀.After s) (w : Wing) : Gives s₀ (execPprSoftRepair w s) := by
  unfold execPprSoftRepair
  try dsimp only
  with_reducible repeat' first
    | assumption | apply Gives.next | apply Gives.ite | apply Tab.Keeps.same | apply State.wear_after
    | apply State.set_after | simp only [State.After.mk_eq] | apply Upd.of | split
  all_goals first | exact Tab.Keeps.same | exact Tab.Keeps.nil

/-! ### Debug -/

theorem State.dapOutcome_after (h : s₀.After s) (dap : Bool) (status : Nat) :
    s₀.After (State.dapOutcome s dap status) := by
  unfold State.dapOutcome
  try dsimp only
  with_reducible repeat' first
    | assumption | apply Tab.Keeps.same | apply State.After.ite | simp only [State.After.mk_eq] | apply Upd.of

theorem State.lecControl_after (h : s₀.After s) (dap : Bool) (f : State → State) (h_f : ∀ u, s₀.After u → s₀.After (f u)) :
    s₀.After (State.lecControl s dap f) := by
  unfold State.lecControl
  try dsimp only
  with_reducible repeat' first
    | assumption | apply State.After.ite | apply h_f | apply State.set_after | apply State.dapOutcome_after

theorem State.halt_after (h : s₀.After s) (dap : Bool) : s₀.After (State.halt s dap) := by
  unfold State.halt
  try dsimp only
  with_reducible repeat' first
    | assumption | apply Tab.Keeps.same | intro _ | apply State.After.ite | apply State.lecControl_after
    | apply State.dapOutcome_after | apply State.set_after | apply State.haltNow_after | simp only [State.After.mk_eq]
    | apply Upd.of

theorem State.resume_after (h : s₀.After s) (dap : Bool) : s₀.After (State.resume s dap) := by
  unfold State.resume
  try dsimp only
  with_reducible repeat' first
    | assumption | apply Tab.Keeps.same | intro _ | apply State.lecControl_after | apply State.dapOutcome_after
    | apply State.set_after | apply State.each_after | apply State.endJob_after | simp only [State.After.mk_eq]
    | apply Upd.of | split

theorem State.debugRestart_after (h : s₀.After s) (dap : Bool) : s₀.After (State.debugRestart s dap) := by
  unfold State.debugRestart
  try dsimp only
  with_reducible repeat' first
    | assumption | apply Tab.Keeps.same | intro _ | apply State.After.ite | apply State.lecControl_after
    | apply State.dapOutcome_after | apply State.lecRestart_after | apply State.set_after
    | simp only [State.After.mk_eq] | apply Upd.of

theorem State.lecRequest_after (h : s₀.After s) (v : Nat) (dap : Bool) : s₀.After (State.lecRequest s v dap) := by
  unfold State.lecRequest
  try dsimp only
  with_reducible repeat' first
    | assumption | apply State.After.ite | apply State.dapOutcome_after | apply State.halt_after
    | apply State.resume_after | apply State.debugRestart_after | apply State.set_after | split

theorem State.withdrawHandovers_after (h : s₀.After s) : s₀.After (State.withdrawHandovers s) := by
  unfold State.withdrawHandovers
  try dsimp only
  with_reducible repeat' first
    | assumption | apply Tab.Keeps.same | intro _ | apply State.each_after | apply State.set_after
    | simp only [State.After.mk_eq] | apply Upd.of

theorem State.armSlot_after (h : s₀.After s) (i : Nat) (on : Bool) : s₀.After (State.armSlot s i on) := by
  unfold State.armSlot
  try dsimp only
  with_reducible repeat' first
    | assumption | apply Tab.Keeps.same | apply State.After.ite | apply State.setB_after | apply State.notice_after
    | simp only [State.After.mk_eq] | apply Upd.of

theorem State.injCtlWrite_after (h : s₀.After s) (i v : Nat) : s₀.After (State.injCtlWrite s i v) := by
  unfold State.injCtlWrite
  try dsimp only
  with_reducible repeat' first
    | assumption | apply State.After.ite | apply State.set_after | apply State.armSlot_after

theorem State.abandonTransfer_after (h : s₀.After s) (link item : Nat) :
    s₀.After (State.abandonTransfer s link item) := by
  unfold State.abandonTransfer
  try dsimp only
  with_reducible repeat' first
    | assumption | apply State.After.ite | apply State.endMove_after | apply State.setCache_after
    | apply State.onMarg_after | apply State.margClosed_after | apply State.setStaging_after | split

theorem execTapReset_after (h : s₀.After s)  : Gives s₀ (execTapReset s) := by
  unfold execTapReset
  try dsimp only
  with_reducible repeat' first
    | assumption | apply Gives.next | apply Tab.Keeps.same | simp only [State.After.mk_eq] | apply Upd.of

theorem execTapInstructionUpdate_after (h : s₀.After s) (code : BitVec 8) : Gives s₀ (execTapInstructionUpdate code s) := by
  unfold execTapInstructionUpdate
  try dsimp only
  with_reducible repeat' first
    | assumption | apply Gives.next | apply Gives.ite | apply Tab.Keeps.same | apply State.After.ite
    | apply State.safeMask_after | simp only [State.After.mk_eq] | apply Upd.of

theorem execBoundaryScanUpdate_after (h : s₀.After s) (cells : BitVec 77) : Gives s₀ (execBoundaryScanUpdate cells s) := by
  unfold execBoundaryScanUpdate
  try dsimp only
  with_reducible repeat' first
    | assumption | apply Gives.next | apply Gives.ite | apply Tab.Keeps.same | simp only [State.After.mk_eq]
    | apply Upd.of

theorem execLecHalt_after (h : s₀.After s) (dap : Bool) : Gives s₀ (execLecHalt dap s) := by
  unfold execLecHalt
  try dsimp only
  with_reducible repeat' first | assumption | apply Gives.next | apply Gives.ite | apply State.halt_after

theorem execLecResume_after (h : s₀.After s) (dap : Bool) : Gives s₀ (execLecResume dap s) := by
  unfold execLecResume
  try dsimp only
  with_reducible repeat' first | assumption | apply Gives.next | apply Gives.ite | apply State.resume_after

theorem execLecDebugRestart_after (h : s₀.After s) (dap : Bool) : Gives s₀ (execLecDebugRestart dap s) := by
  unfold execLecDebugRestart
  try dsimp only
  with_reducible repeat' first | assumption | apply Gives.next | apply Gives.ite | apply State.debugRestart_after

theorem execHaltDeferTimeout_after (h : s₀.After s)  : Gives s₀ (execHaltDeferTimeout s) := by
  unfold execHaltDeferTimeout
  try dsimp only
  with_reducible repeat' first
    | assumption | apply Gives.next | apply Gives.ite | apply Tab.Keeps.same | apply State.haltNow_after
    | apply State.discardTxs_after | apply State.set_after | apply State.notice_after
    | apply State.withdrawHandovers_after | simp only [State.After.mk_eq] | apply Upd.of
  all_goals first | exact Tab.Keeps.same | exact Tab.Keeps.nil

theorem execInjCtlWrite_after (h : s₀.After s) (i : Fin 4) (v : Word) : Gives s₀ (execInjCtlWrite i v s) := by
  unfold execInjCtlWrite
  try dsimp only
  with_reducible repeat' first
    | assumption | apply Gives.next | intro _ | apply State.hostIn_after | apply State.injCtlWrite_after

theorem execInject_after (h : s₀.After s)  : Gives s₀ (execInject s) := by
  unfold execInject
  try dsimp only
  with_reducible repeat' first
    | assumption | apply Gives.next | apply Gives.ite | apply Tab.Keeps.same
    | refine State.start_after ?_ _ (by assumption) | apply State.reply_after | apply State.armSlot_after
    | apply State.wr_after | apply State.set_after | simp only [State.After.mk_eq] | apply Upd.of | split

theorem execInjectHoldRelease_after (h : s₀.After s)  : Gives s₀ (execInjectHoldRelease s) := by
  unfold execInjectHoldRelease
  try dsimp only
  with_reducible repeat' first
    | assumption | apply Gives.next | apply Tab.Keeps.same | intro _ | apply State.After.ite
    | apply State.releaseFrames_after | apply State.each_after | apply State.putReply_after
    | simp only [State.After.mk_eq] | apply Upd.of

theorem execFabricRetry_after (h : s₀.After s) (link : BitVec 8) (item : Nat) : Gives s₀ (execFabricRetry link item s) := by
  unfold execFabricRetry
  try dsimp only
  with_reducible repeat' first
    | assumption | apply Gives.next | apply Gives.ite | apply Tab.Keeps.same | apply State.After.ite
    | apply State.delayEvent_after | apply State.raise_after | apply State.abandonTransfer_after
    | simp only [State.After.mk_eq] | apply Upd.of

/-! ### Modes -/

theorem State.modeAfterSafe_after (h : s₀.After s) (k : Nat) : s₀.After (State.modeAfterSafe s k) := by
  unfold State.modeAfterSafe
  try dsimp only
  with_reducible repeat' first
    | assumption | apply State.After.ite | apply State.setMode_after | apply State.leaveMeasure_after
    | apply State.leaveCalibrate_after

theorem State.safeExit_after (h : s₀.After s) (k : Nat) : s₀.After (State.safeExit s k) := by
  unfold State.safeExit
  try dsimp only
  with_reducible repeat' first
    | assumption | intro _ | apply State.After.ite | apply State.set_after | apply State.modeAfterSafe_after
    | apply State.unparkDacs_after | apply State.each_after | apply State.rotJudge_after
    | apply State.refreshBalls_after

theorem State.smodeWrite_after (h : s₀.After s) (k v : Nat) : s₀.After (State.smodeWrite s k v) := by
  unfold State.smodeWrite
  try dsimp only
  with_reducible repeat' first
    | assumption | apply State.After.ite | apply State.set_after | apply State.sectorSafe_after
    | apply State.safeExit_after | apply State.modeRequest_after

theorem State.resetPlace_after (h : s₀.After s) (p : Place) : s₀.After (State.resetPlace s p) := by
  unfold State.resetPlace
  try dsimp only
  with_reducible repeat' first | assumption | apply State.resetRegs_after

theorem State.resetUnit_after (h : s₀.After s) (g lo hi : Nat) : s₀.After (State.resetUnit s g lo hi) := by
  unfold State.resetUnit
  try dsimp only
  with_reducible repeat' first | assumption | apply State.resetRegs_after

theorem State.resetOctetJobs_after (h : s₀.After s) (ops : List Nat) (g : Nat) :
    s₀.After (State.resetOctetJobs s ops g) := by
  unfold State.resetOctetJobs
  try dsimp only
  with_reducible repeat' first | assumption | apply State.resetJobs_after

theorem State.resetBlock_after (h : s₀.After s) (d : DomainKind) (i : Nat) : s₀.After (State.resetBlock s d i) := by
  unfold State.resetBlock
  try dsimp only
  with_reducible repeat' first
    | assumption | apply Tab.Keeps.same | intro _ | apply State.resetPlace_after | apply State.banksToLectern_after
    | apply State.resetChannelBlock_after | apply State.resetOctetJobs_after | apply State.resetUnit_after
    | apply State.refreshOctet_after | apply State.set_after | apply State.each_after | apply State.resetChannel_after
    | simp only [State.After.mk_eq] | apply Upd.of | split

theorem execModeReq_after (h : s₀.After s) (k : Sector) (req : BitVec 3) : Gives s₀ (execModeReq k req s) := by
  unfold execModeReq
  try dsimp only
  with_reducible repeat' first | assumption | apply Gives.next | apply Gives.ite | apply State.modeRequest_after

theorem execModeTransitionDone_after (h : s₀.After s) (k : Sector) : Gives s₀ (execModeTransitionDone k s) := by
  unfold execModeTransitionDone
  try dsimp only
  with_reducible repeat' first
    | assumption | apply Gives.next | apply Gives.ite | apply State.After.ite | apply State.resetStoreMoves_after
    | apply State.arrive_after | apply State.modeEnds_after

theorem execSafeEnter_after (h : s₀.After s) (k : Sector) : Gives s₀ (execSafeEnter k s) := by
  unfold execSafeEnter
  try dsimp only
  with_reducible repeat' first | assumption | apply Gives.next | apply State.sectorSafe_after

theorem execSafeExit_after (h : s₀.After s) (k : Sector) : Gives s₀ (execSafeExit k s) := by
  unfold execSafeExit
  try dsimp only
  with_reducible repeat' first | assumption | apply Gives.next | apply Gives.ite | apply State.safeExit_after

theorem execResetAnnounce_after (h : s₀.After s) (d : BitVec 8) : Gives s₀ (execResetAnnounce d s) := by
  unfold execResetAnnounce
  try dsimp only
  with_reducible repeat' first
    | assumption | apply Gives.next | apply Gives.ite | apply State.After.ite | apply State.acceptReset_after
    | apply State.startBist_after | apply State.resetBlock_after | split

theorem execResetDomainEnd_after (h : s₀.After s) (d : BitVec 8) : Gives s₀ (execResetDomainEnd d s) := by
  unfold execResetDomainEnd
  try dsimp only
  with_reducible repeat' first
    | assumption | apply Gives.next | apply Gives.ite | apply State.endReset_after | apply State.endJob_after | split

end Sys2Proof.Machine
end

