-- ==== Sys2Proof/Laws/AfterDevice.lean ====
section
/-! SUPPORT. That Quill, the start-up, errata, host accesses and the Copyist leave behind what an operation may. -/

namespace Sys2Proof.Machine
open Reg

variable {s₀ s : State}

/-! ### Quill -/

theorem State.raiseGroup_after (h : s₀.After s) (n : Nat) : s₀.After (State.raiseGroup s n) := by
  unfold State.raiseGroup
  try dsimp only
  with_reducible repeat' first | assumption | apply Tab.Keeps.same | simp only [State.After.mk_eq] | apply Upd.of

theorem State.abortUp_after (h : s₀.After s) (failed n : Nat) : s₀.After (State.abortUp s failed n) := by
  unfold State.abortUp
  try dsimp only
  with_reducible repeat' first
    | assumption | apply Tab.Keeps.same | apply State.After.ite | apply State.event_after | apply State.disarm_after
    | apply State.set_after | apply State.lowerGroup_after | apply State.reachDormant_after
    | simp only [State.After.mk_eq] | apply Upd.of

theorem State.pinsFollow_after (h : s₀.After s) : s₀.After (State.pinsFollow s) := by
  unfold State.pinsFollow
  try dsimp only
  with_reducible repeat' first
    | assumption | intro _ | apply State.each_after | apply State.refreshBalls_after | apply State.refreshDacs_after

theorem State.tamper_after (h : s₀.After s) (cause : Nat) : s₀.After (State.tamper s cause) := by
  unfold State.tamper
  try dsimp only
  with_reducible repeat' first
    | assumption | apply Tab.Keeps.same | intro _ | apply State.After.ite | dsimp only | apply State.discardTxs_after
    | apply State.resetJobs_after | apply State.each_after | apply State.set_after | apply State.setVault_after
    | apply State.showVault_after | apply State.raise_after | apply Tab.Keeps.nil | simp only [State.After.mk_eq]
    | apply Upd.of | split
  all_goals first | exact Tab.Keeps.same | exact Tab.Keeps.nil

theorem State.nak_after (h : s₀.After s) : s₀.After (State.nak s) := by
  unfold State.nak
  try dsimp only
  with_reducible repeat' first | assumption | apply Tab.Keeps.same | simp only [State.After.mk_eq] | apply Upd.of

theorem execVauxInRange_after (h : s₀.After s) (addr1 : Bool) (addr0 : Bool) : Gives s₀ (execVauxInRange addr1 addr0 s) := by
  unfold execVauxInRange
  try dsimp only
  with_reducible repeat' first
    | assumption | apply Gives.next | apply Gives.ite | apply Tab.Keeps.same | apply State.set_after
    | simp only [State.After.mk_eq] | apply Upd.of

theorem execPowerUpStart_after (h : s₀.After s)  : Gives s₀ (execPowerUpStart s) := by
  unfold execPowerUpStart
  try dsimp only
  with_reducible repeat' first
    | assumption | apply Gives.next | apply Gives.ite | apply State.raiseGroup_after | apply State.powerCycled_after

theorem execPgRise_after (h : s₀.After s) (n : Fin 8) : Gives s₀ (execPgRise n s) := by
  unfold execPgRise
  try dsimp only
  with_reducible repeat' first
    | assumption | apply Gives.next | apply Gives.ite | apply Tab.Keeps.same | simp only [State.After.mk_eq]
    | apply Upd.of

theorem execRailGroupRaise_after (h : s₀.After s)  : Gives s₀ (execRailGroupRaise s) := by
  unfold execRailGroupRaise
  try dsimp only
  with_reducible repeat' first
    | assumption | apply Gives.next | apply Gives.ite | apply State.raiseGroup_after | split

theorem execPgTimeout_after (h : s₀.After s)  : Gives s₀ (execPgTimeout s) := by
  unfold execPgTimeout
  try dsimp only
  with_reducible repeat' first | assumption | apply Gives.next | apply State.abortUp_after | split

theorem execPgLoss_after (h : s₀.After s) (lost : BitVec 8) (us : Nat) (counts : Bool) : Gives s₀ (execPgLoss lost us counts s) := by
  unfold execPgLoss
  try dsimp only
  with_reducible repeat' first
    | assumption | apply Gives.next | apply Gives.ite | apply Tab.Keeps.same | apply State.abortUp_after
    | apply State.discardTxs_after | apply State.event_after | apply State.orderDown_after
    | simp only [State.After.mk_eq] | apply Upd.of | split

theorem execPowerDownStart_after (h : s₀.After s)  : Gives s₀ (execPowerDownStart s) := by
  unfold execPowerDownStart
  try dsimp only
  with_reducible repeat' first
    | assumption | apply Gives.next | apply Tab.Keeps.same | apply State.event_after | apply State.lowerGroup_after
    | simp only [State.After.mk_eq] | apply Upd.of | split

theorem execPowerDownStep_after (h : s₀.After s)  : Gives s₀ (execPowerDownStep s) := by
  unfold execPowerDownStep
  try dsimp only
  with_reducible repeat' first
    | assumption | apply Gives.next | apply Gives.ite | apply Tab.Keeps.same | apply State.After.ite
    | apply State.lowerGroup_after | apply State.reachDormant_after | simp only [State.After.mk_eq] | apply Upd.of
    | split

theorem execPowerCycleRequest_after (h : s₀.After s) (key : BitVec 8) : Gives s₀ (execPowerCycleRequest key s) := by
  unfold execPowerCycleRequest
  try dsimp only
  with_reducible repeat' first | assumption | apply Gives.next | apply Gives.ite | apply State.pcycle_after

theorem execPowerCycleRestart_after (h : s₀.After s)  : Gives s₀ (execPowerCycleRestart s) := by
  unfold execPowerCycleRestart
  try dsimp only
  with_reducible repeat' first
    | assumption | apply Gives.next | apply Gives.ite | apply Tab.Keeps.same | apply State.event_after
    | apply State.set_after | apply State.raiseGroup_after | apply State.powerCycled_after
    | simp only [State.After.mk_eq] | apply Upd.of

theorem execSupplySupervisorTrip_after (h : s₀.After s) (vaux : Bool) : Gives s₀ (execSupplySupervisorTrip vaux s) := by
  unfold execSupplySupervisorTrip
  try dsimp only
  with_reducible repeat' first
    | assumption | apply Gives.next | apply Gives.ite | apply Tab.Keeps.same | dsimp only
    | apply State.pinsFollow_after | apply Tab.Keeps.nil | apply Upd.restart | simp only [State.After.mk_eq]
    | apply Upd.of
  all_goals first | exact Tab.Keeps.same | exact Tab.Keeps.nil

theorem execSupplySupervisorRelease_after (h : s₀.After s)  : Gives s₀ (execSupplySupervisorRelease s) := by
  unfold execSupplySupervisorRelease
  try dsimp only
  with_reducible repeat' first
    | assumption | apply Gives.next | apply Tab.Keeps.same | apply State.pinsFollow_after
    | simp only [State.After.mk_eq] | apply Upd.of

theorem execSregUv_after (h : s₀.After s) (k : Sector) : Gives s₀ (execSregUv k s) := by
  unfold execSregUv
  try dsimp only
  with_reducible repeat' first
    | assumption | apply Gives.next | apply Gives.ite | apply State.set_after | apply State.raise_after

theorem execSregOc_after (h : s₀.After s) (k : Sector) : Gives s₀ (execSregOc k s) := by
  unfold execSregOc
  try dsimp only
  with_reducible repeat' first
    | assumption | apply Gives.next | apply Gives.ite | apply State.set_after | apply State.raise_after

theorem execQuillTick_after (h : s₀.After s) (aClosed : Bool) (bClosed : Bool) (aux : List (BitVec 12)) : Gives s₀ (execQuillTick aClosed bClosed aux s) := by
  unfold execQuillTick
  try dsimp only
  with_reducible repeat' first
    | assumption | apply Gives.next | apply Gives.ite | apply Tab.Keeps.same | intro _ | apply State.ilkTick_after
    | apply State.ilkHold_after | apply State.each_after | apply State.set_after | apply State.runRules_after
    | simp only [State.After.mk_eq] | apply Upd.of

theorem execQsecTick_after (h : s₀.After s)  : Gives s₀ (execQsecTick s) := by
  unfold execQsecTick
  try dsimp only
  with_reducible repeat' first
    | assumption | apply Gives.next | apply Gives.ite | apply Tab.Keeps.same | apply State.set64_after
    | simp only [State.After.mk_eq] | apply Upd.of

theorem execQuillSensorSample_after (h : s₀.After s) (die : BitVec 16) (quill : BitVec 16) (vaux : BitVec 16) : Gives s₀ (execQuillSensorSample die quill vaux s) := by
  unfold execQuillSensorSample
  try dsimp only
  with_reducible repeat' first
    | assumption | apply Gives.next | apply Gives.ite | apply Tab.Keeps.same | apply State.After.ite
    | apply State.set_after | apply State.setB_after | apply State.raise_after | apply State.event_after
    | apply State.runRules_after | simp only [State.After.mk_eq] | apply Upd.of

theorem execOvertempTrip_after (h : s₀.After s) (sensor : Option (BitVec 8)) : Gives s₀ (execOvertempTrip sensor s) := by
  unfold execOvertempTrip
  try dsimp only
  with_reducible repeat' first
    | assumption | apply Gives.next | apply Gives.ite | apply State.raise_after | apply State.event_after
    | apply State.set_after | apply State.orderDown_after | apply State.disarm_after | split

theorem execWakeTimer_after (h : s₀.After s)  : Gives s₀ (execWakeTimer s) := by
  unfold execWakeTimer
  try dsimp only
  with_reducible repeat' first
    | assumption | apply Gives.next | apply Gives.ite | apply State.wake_after | apply State.disarm_after | split

theorem execWake_after (h : s₀.After s) (io : Bool) : Gives s₀ (execWake io s) := by
  unfold execWake
  try dsimp only
  with_reducible repeat' first | assumption | apply Gives.next | apply State.wake_after

theorem execIlkChannelOpen_after (h : s₀.After s) (b : Bool) : Gives s₀ (execIlkChannelOpen b s) := by
  unfold execIlkChannelOpen
  try dsimp only
  with_reducible repeat' first
    | assumption | apply Gives.next | apply Gives.ite | apply State.After.ite | apply State.set_after
    | apply State.safeMask_after

theorem execIlkArm_after (h : s₀.After s)  : Gives s₀ (execIlkArm s) := by
  unfold execIlkArm
  try dsimp only
  with_reducible repeat' first | assumption | apply Gives.next | apply Gives.ite | apply State.ilkArm_after

theorem execTamperNAssert_after (h : s₀.After s) (us : Nat) (taken : Bool) : Gives s₀ (execTamperNAssert us taken s) := by
  unfold execTamperNAssert
  try dsimp only
  with_reducible repeat' first
    | assumption | apply Gives.next | apply Gives.ite | apply Tab.Keeps.same | apply State.event_after
    | apply State.tamperHit_after | simp only [State.After.mk_eq] | apply Upd.of

theorem execTamperNRelease_after (h : s₀.After s)  : Gives s₀ (execTamperNRelease s) := by
  unfold execTamperNRelease
  try dsimp only
  with_reducible repeat' first
    | assumption | apply Gives.next | apply Gives.ite | apply Tab.Keeps.same | simp only [State.After.mk_eq]
    | apply Upd.of

theorem execTamperDetect_after (h : s₀.After s)  : Gives s₀ (execTamperDetect s) := by
  unfold execTamperDetect
  try dsimp only
  with_reducible repeat' first
    | assumption | apply Gives.next | apply Tab.Keeps.same | apply State.tamper_after | simp only [State.After.mk_eq]
    | apply Upd.of | split

theorem State.smb_after (h : s₀.After s) (bs : List Byte) : Gives s₀ (State.smb s bs) := by
  unfold State.smb
  try dsimp only
  with_reducible repeat' first
    | assumption | apply Gives.next | apply Gives.ite | apply State.answersBytes_after | apply State.nak_after

theorem execSmbIdent_after (h : s₀.After s)  : Gives s₀ (execSmbIdent s) := by
  unfold execSmbIdent
  try dsimp only
  with_reducible repeat' first | assumption | apply State.smb_after

theorem execSmbStatus_after (h : s₀.After s)  : Gives s₀ (execSmbStatus s) := by
  unfold execSmbStatus
  try dsimp only
  with_reducible repeat' first | assumption | apply State.smb_after

theorem execSmbTempDie_after (h : s₀.After s)  : Gives s₀ (execSmbTempDie s) := by
  unfold execSmbTempDie
  try dsimp only
  with_reducible repeat' first | assumption | apply State.smb_after

theorem execSmbTempQuill_after (h : s₀.After s)  : Gives s₀ (execSmbTempQuill s) := by
  unfold execSmbTempQuill
  try dsimp only
  with_reducible repeat' first | assumption | apply State.smb_after

theorem execSmbTempHbm_after (h : s₀.After s) (w : Wing) : Gives s₀ (execSmbTempHbm w s) := by
  unfold execSmbTempHbm
  try dsimp only
  with_reducible repeat' first | assumption | apply State.smb_after

theorem execSmbVaux_after (h : s₀.After s)  : Gives s₀ (execSmbVaux s) := by
  unfold execSmbVaux
  try dsimp only
  with_reducible repeat' first | assumption | apply State.smb_after

theorem execSmbAuxIn_after (h : s₀.After s) (n : Fin 8) : Gives s₀ (execSmbAuxIn n s) := by
  unfold execSmbAuxIn
  try dsimp only
  with_reducible repeat' first | assumption | apply State.smb_after

theorem execSmbEvent_after (h : s₀.After s)  : Gives s₀ (execSmbEvent s) := by
  unfold execSmbEvent
  try dsimp only
  with_reducible repeat' first
    | assumption | apply State.smb_after | apply Tab.Keeps.same | simp only [State.After.mk_eq] | apply Upd.of | split

theorem execSmbEvtCount_after (h : s₀.After s)  : Gives s₀ (execSmbEvtCount s) := by
  unfold execSmbEvtCount
  try dsimp only
  with_reducible repeat' first | assumption | apply State.smb_after

theorem execSmbAlertMask_after (h : s₀.After s) (write : Option (BitVec 16)) (pecOk : Bool) : Gives s₀ (execSmbAlertMask write pecOk s) := by
  unfold execSmbAlertMask
  try dsimp only
  with_reducible repeat' first
    | assumption | apply Gives.next | apply Gives.ite | apply State.smb_after | apply Tab.Keeps.same
    | apply State.nak_after | simp only [State.After.mk_eq] | apply Upd.of | split

theorem execSmbWake_after (h : s₀.After s) (v : BitVec 8) (pecOk : Bool) : Gives s₀ (execSmbWake v pecOk s) := by
  unfold execSmbWake
  try dsimp only
  with_reducible repeat' first
    | assumption | apply Gives.next | apply Gives.ite | apply Tab.Keeps.same | apply State.wake_after
    | apply State.nak_after | simp only [State.After.mk_eq] | apply Upd.of

theorem execSmbPowerCycle_after (h : s₀.After s) (v : BitVec 8) (pecOk : Bool) : Gives s₀ (execSmbPowerCycle v pecOk s) := by
  unfold execSmbPowerCycle
  try dsimp only
  with_reducible repeat' first
    | assumption | apply Gives.next | apply Gives.ite | apply Tab.Keeps.same | apply State.pcycle_after
    | apply State.nak_after | simp only [State.After.mk_eq] | apply Upd.of

theorem execSmbQsec_after (h : s₀.After s)  : Gives s₀ (execSmbQsec s) := by
  unfold execSmbQsec
  try dsimp only
  with_reducible repeat' first | assumption | apply State.smb_after

theorem execSmbAlertResponse_after (h : s₀.After s)  : Gives s₀ (execSmbAlertResponse s) := by
  unfold execSmbAlertResponse
  try dsimp only
  with_reducible repeat' first
    | assumption | apply Gives.next | apply Gives.ite | apply State.smb_after | apply Tab.Keeps.same
    | apply State.nak_after | simp only [State.After.mk_eq] | apply Upd.of

theorem execSmbClockTimeout_after (h : s₀.After s) (ms : Nat) (resets : Bool) : Gives s₀ (execSmbClockTimeout ms resets s) := by
  unfold execSmbClockTimeout
  try dsimp only
  with_reducible repeat' first | assumption | apply Gives.next | apply Gives.ite | apply State.nak_after

/-! ### Start -/

theorem State.atStep_after (h : s₀.After s) (n : Nat) : s₀.After (State.atStep s n) := by
  unfold State.atStep
  try dsimp only
  with_reducible repeat' first | assumption | apply Tab.Keeps.same | simp only [State.After.mk_eq] | apply Upd.of

theorem State.loadBands_after (h : s₀.After s) (table : List Word) : s₀.After (State.loadBands s table) := by
  unfold State.loadBands
  try dsimp only
  with_reducible repeat' first | assumption | intro _ | apply State.each_after | apply State.plainWrite_after

theorem State.lockFrom_after (h : s₀.After s) (table : List Word) : s₀.After (State.lockFrom s table) := by
  unfold State.lockFrom
  try dsimp only
  with_reducible repeat' first
    | assumption | apply State.After.ite | apply State.loadBands_after | apply State.set_after
    | apply State.enterAcquire_after | split

theorem State.bootWith_after (h : s₀.After s) (slot : Option Nat) (i : Image) (table : List Word) :
    s₀.After (State.bootWith s slot i table) := by
  unfold State.bootWith
  try dsimp only
  with_reducible repeat' first
    | assumption | apply Tab.Keeps.same | apply State.setB_after | apply State.set_after | apply State.lockFrom_after
    | apply State.atStep_after | simp only [State.After.mk_eq] | apply Upd.of
  all_goals first | exact Tab.Keeps.same | exact Tab.Keeps.nil

theorem State.awaitImage_after (h : s₀.After s) (table : List Word) : s₀.After (State.awaitImage s table) := by
  unfold State.awaitImage
  try dsimp only
  with_reducible repeat' first
    | assumption | apply Tab.Keeps.same | apply State.loadBands_after | apply State.enterAcquire_after
    | apply State.setB_after | simp only [State.After.mk_eq] | apply Upd.of

theorem State.bootFlash_after (h : s₀.After s) (a b : Image) (table : List Word) :
    s₀.After (State.bootFlash s a b table) := by
  unfold State.bootFlash
  try dsimp only
  with_reducible repeat' first
    | assumption | apply State.After.ite | apply State.bootWith_after | apply State.set_after
    | apply State.raise_after | apply State.awaitImage_after

theorem State.keepImage_after (h : s₀.After s) (image : List Byte) : s₀.After (State.keepImage s image) := by
  unfold State.keepImage
  try dsimp only
  with_reducible repeat' first | assumption | apply Tab.Keeps.same | simp only [State.After.mk_eq] | apply Upd.of

theorem State.showLanes_after (h : s₀.After s) : s₀.After (State.showLanes s) := by
  unfold State.showLanes
  try dsimp only
  with_reducible repeat' first | assumption | apply State.set_after
  all_goals first | exact Tab.Keeps.same | exact Tab.Keeps.nil

theorem State.readFuses_after (h : s₀.After s) (f : Fuses) : s₀.After (State.readFuses s f) := by
  unfold State.readFuses
  try dsimp only
  with_reducible repeat' first
    | assumption | apply Tab.Keeps.same | intro _ | apply State.set_after | apply State.set64_after
    | apply State.each_after | apply State.plainWrite_after | apply State.showLanes_after
    | simp only [State.After.mk_eq] | apply Upd.of
  all_goals first | exact Tab.Keeps.same | exact Tab.Keeps.nil

theorem State.trainStack_after (h : s₀.After s) (w : Nat) (t : Training) : s₀.After (State.trainStack s w t) := by
  unfold State.trainStack
  try dsimp only
  with_reducible repeat' first
    | assumption | apply State.After.ite | apply State.acceptReset_after | apply State.endReset_after
    | apply State.set_after | apply State.raise_after
  all_goals first | exact Tab.Keeps.same | exact Tab.Keeps.nil

theorem State.beginSectors_after (h : s₀.After s) : s₀.After (State.beginSectors s) := by
  unfold State.beginSectors
  try dsimp only
  with_reducible repeat' first
    | assumption | intro _ | apply State.each_after | apply State.wr_after | apply State.enterOff_after
    | apply State.beginMode_after

theorem State.loadSet_after (h : s₀.After s) (t : SealedSet) (drift : Tab (List Frac)) :
    s₀.After (State.loadSet s t drift) := by
  unfold State.loadSet
  try dsimp only
  with_reducible repeat' first
    | assumption | apply Tab.Keeps.same | intro _ | apply State.set_after | apply State.each_after
    | apply State.wr_after | apply State.onCore_after | apply State.showPoints_after | apply State.showAges_after
    | apply State.showClasses_after | simp only [State.After.mk_eq] | apply Upd.of
  all_goals first | exact Tab.Keeps.same | exact Tab.Keeps.nil

theorem State.loadCalibration_after (h : s₀.After s) (tag0 tag1 : Bool) (p : Production) :
    s₀.After (State.loadCalibration s tag0 tag1 p) := by
  unfold State.loadCalibration
  try dsimp only
  with_reducible repeat' first
    | assumption | apply Tab.Keeps.same | apply State.After.ite | apply State.loadSet_after
    | apply State.setVault_after | apply State.raise_after | split
  all_goals first | exact Tab.Keeps.same | exact Tab.Keeps.nil

theorem State.integrityFails_after (h : s₀.After s) : s₀.After (State.integrityFails s) := by
  unfold State.integrityFails
  try dsimp only
  with_reducible repeat' first
    | assumption | apply Tab.Keeps.same | apply State.setVault_after | apply State.raise_after
    | apply State.event_after | apply State.tamper_after
  all_goals first | exact Tab.Keeps.same | exact Tab.Keeps.nil

theorem State.stepNine_after (h : s₀.After s) (intact tag0 tag1 : Bool) (p : Production) :
    s₀.After (State.stepNine s intact tag0 tag1 p) := by
  unfold State.stepNine
  try dsimp only
  with_reducible repeat' first
    | assumption | apply Tab.Keeps.same | intro _ | apply State.After.ite | apply State.integrityFails_after
    | apply State.loadCalibration_after | apply State.each_after | apply State.set_after | apply State.setVault_after
    | apply State.append_after | split | rw [Vault.flushHeld_sram]
  all_goals first | exact Tab.Keeps.same | exact Tab.Keeps.nil

theorem State.reportStandby_after (h : s₀.After s) : s₀.After (State.reportStandby s) := by
  unfold State.reportStandby
  try dsimp only
  with_reducible repeat' first
    | assumption | apply Tab.Keeps.same | apply State.After.ite | apply State.atStep_after | apply State.set_after
    | apply State.raise_after | apply State.ilkHold_after | simp only [State.After.mk_eq] | apply Upd.of

theorem State.excludeLanes_after (h : s₀.After s) (u : LinkUp) : s₀.After (State.excludeLanes s u) := by
  unfold State.excludeLanes
  try dsimp only
  with_reducible repeat' first
    | assumption | apply Tab.Keeps.same | apply State.After.ite | apply State.showLanes_after | apply State.wear_after
    | simp only [State.After.mk_eq] | apply Upd.of

theorem State.recordLink_after (h : s₀.After s) (u : LinkUp) : s₀.After (State.recordLink s u) := by
  unfold State.recordLink
  try dsimp only
  with_reducible repeat' first
    | assumption | apply Tab.Keeps.same | apply State.After.ite | apply State.set_after | apply State.setB_after
    | apply State.raise_after | apply State.append_after | simp only [State.After.mk_eq] | apply Upd.of

theorem State.dozeLoops_after (h : s₀.After s) (on : Bool) : s₀.After (State.dozeLoops s on) := by
  unfold State.dozeLoops
  try dsimp only
  with_reducible repeat' first
    | assumption | apply Tab.Keeps.same | intro _ | apply State.After.ite | apply State.each_after
    | apply State.setB_after | apply State.unlockTll_after | apply State.set_after | apply State.quiet_after
    | apply State.refreshDacs_after | simp only [State.After.mk_eq] | apply Upd.of

theorem State.modeAwake_after (h : s₀.After s) (k : Nat) : s₀.After (State.modeAwake s k) := by
  unfold State.modeAwake
  try dsimp only
  with_reducible repeat' first
    | assumption | apply State.After.ite | apply State.set_after | apply State.modeJudge_after
    | apply State.modeEnds_after

theorem execImgChunk_after (h : s₀.After s) (v : Word) (image : Image) (table : List Word) : Gives s₀ (execImgChunk v image table s) := by
  unfold execImgChunk
  try dsimp only
  with_reducible repeat' first
    | assumption | apply Gives.next | apply Gives.ite | apply State.keepImage_after | apply State.set_after
    | apply State.bootWith_after

theorem execMainPorEnd_after (h : s₀.After s) (bootSel : Bool) (table : List Word) : Gives s₀ (execMainPorEnd bootSel table s) := by
  unfold execMainPorEnd
  try dsimp only
  with_reducible repeat' first
    | assumption | apply Gives.next | apply Gives.ite | apply Tab.Keeps.same | apply State.After.ite
    | apply State.atStep_after | apply State.showVault_after | apply State.awaitImage_after
    | simp only [State.After.mk_eq] | apply Upd.of | split

theorem execStartupStepEnd_after (h : s₀.After s) (w : StartWork) : Gives s₀ (execStartupStepEnd w s) := by
  unfold execStartupStepEnd
  try dsimp only
  with_reducible repeat' first
    | assumption | apply Gives.next | apply Gives.ite | apply State.readFuses_after | apply State.atStep_after
    | apply State.bootFlash_after | apply State.trainStack_after | apply State.stepNine_after
    | apply State.reportStandby_after | apply State.beginSectors_after | split

theorem execPerstAssert_after (h : s₀.After s)  : Gives s₀ (execPerstAssert s) := by
  unfold execPerstAssert
  try dsimp only
  with_reducible repeat' first
    | assumption | apply Gives.next | apply Gives.ite | apply Tab.Keeps.same | apply State.mainReset_after
    | apply State.set_after | apply State.atStep_after | apply State.discardTxs_after | simp only [State.After.mk_eq]
    | apply Upd.of

theorem execPerstRelease_after (h : s₀.After s)  : Gives s₀ (execPerstRelease s) := by
  unfold execPerstRelease
  try dsimp only
  with_reducible repeat' first
    | assumption | apply Gives.next | apply Tab.Keeps.same | simp only [State.After.mk_eq] | apply Upd.of

theorem execHostLinkStateChange_after (h : s₀.After s) (up : Option LinkUp) : Gives s₀ (execHostLinkStateChange up s) := by
  unfold execHostLinkStateChange
  try dsimp only
  with_reducible repeat' first
    | assumption | apply Gives.next | apply Gives.ite | apply Tab.Keeps.same | apply State.After.ite
    | apply State.set_after | apply State.excludeLanes_after | apply State.recordLink_after
    | simp only [State.After.mk_eq] | apply Upd.of | split

theorem execRestEntryDone_after (h : s₀.After s)  : Gives s₀ (execRestEntryDone s) := by
  unfold execRestEntryDone
  try dsimp only
  with_reducible repeat' first
    | assumption | apply Gives.next | apply Tab.Keeps.same | apply State.After.ite | apply State.set_after
    | apply State.dozeLoops_after | apply State.beginWake_after | simp only [State.After.mk_eq] | apply Upd.of | split

theorem execWakeDone_after (h : s₀.After s)  : Gives s₀ (execWakeDone s) := by
  unfold execWakeDone
  try dsimp only
  with_reducible repeat' first
    | assumption | apply Gives.next | apply Gives.ite | apply Tab.Keeps.same | intro _ | apply State.set_after
    | apply State.dozeLoops_after | apply State.each_after | apply State.modeAwake_after
    | simp only [State.After.mk_eq] | apply Upd.of

/-! ### Errata -/

theorem State.ackSource_after (h : s₀.After s) (n : Nat) : s₀.After (State.ackSource s n) := by
  unfold State.ackSource
  try dsimp only
  with_reducible repeat' first
    | assumption | apply Tab.Keeps.same | apply State.After.ite | apply State.setReaction_after
    | apply State.set_after | simp only [State.After.mk_eq] | apply Upd.of

theorem State.forceWrite_after (h : s₀.After s) (n : Nat) (b : Bool) : s₀.After (State.forceWrite s n b) := by
  unfold State.forceWrite
  try dsimp only
  with_reducible repeat' first
    | assumption | apply State.After.ite | apply State.set_after | apply State.refreshActive_after
    | apply State.setB_after | apply State.record_after | apply State.deviceSafe_after

theorem State.statClear_after (h : s₀.After s) (n : Nat) : s₀.After (State.statClear s n) := by
  unfold State.statClear
  try dsimp only
  with_reducible repeat' first | assumption | apply State.After.ite | apply State.setStat_after

theorem State.errSrcWrite_after (h : s₀.After s) (n v : Nat) : s₀.After (State.errSrcWrite s n v) := by
  unfold State.errSrcWrite
  try dsimp only
  with_reducible repeat' first
    | assumption | apply State.After.ite | apply State.statClear_after | apply State.set_after
    | apply State.ackSource_after | apply State.setB_after | apply State.forceWrite_after

theorem State.reactWrite_after (h : s₀.After s) (i v : Nat) : s₀.After (State.reactWrite s i v) := by
  unfold State.reactWrite
  try dsimp only
  with_reducible repeat' first | assumption | apply State.After.ite | apply State.set_after

theorem State.discardStale_after (h : s₀.After s) (d : Nat) : s₀.After (State.discardStale s d) := by
  unfold State.discardStale
  try dsimp only
  with_reducible repeat' first | assumption | apply State.bump_after | apply State.raise_after

theorem execSourceRaise_after (h : s₀.After s) (n : Source) (stays : Bool) : Gives s₀ (execSourceRaise n stays s) := by
  unfold execSourceRaise
  try dsimp only
  with_reducible repeat' first
    | assumption | apply Gives.next | apply Gives.ite | apply State.After.ite | apply State.noticeHeld_after
    | apply State.deviceSafe_after | apply State.raise_after | apply State.quiet_after

theorem execRailBroken_after (h : s₀.After s) (pair : Option Source) (ns : Nat) (judged : Bool) (stays : Bool) : Gives s₀ (execRailBroken pair ns judged stays s) := by
  unfold execRailBroken
  try dsimp only
  with_reducible repeat' first
    | assumption | apply Gives.next | apply Gives.ite | apply Tab.Keeps.same | apply State.refreshActive_after
    | apply State.raise_after | apply State.set_after | simp only [State.After.mk_eq] | apply Upd.of | split

theorem execErrAckWrite_after (h : s₀.After s) (n : Source) : Gives s₀ (execErrAckWrite n s) := by
  unfold execErrAckWrite
  try dsimp only
  with_reducible repeat' first | assumption | apply Gives.next | apply State.ackSource_after

theorem execErrEscalation_after (h : s₀.After s) (n : Source) : Gives s₀ (execErrEscalation n s) := by
  unfold execErrEscalation
  try dsimp only
  with_reducible repeat' first
    | assumption | apply Gives.next | apply Gives.ite | apply Tab.Keeps.same | apply State.setReaction_after
    | apply State.bump_after | apply State.safeMask_after | apply State.irqHi_after | simp only [State.After.mk_eq]
    | apply Upd.of

theorem execErrForceWrite_after (h : s₀.After s) (n : Source) (b : Bool) : Gives s₀ (execErrForceWrite n b s) := by
  unfold execErrForceWrite
  try dsimp only
  with_reducible repeat' first | assumption | apply Gives.next | apply State.forceWrite_after

theorem execErrStatClear_after (h : s₀.After s) (n : Source) : Gives s₀ (execErrStatClear n s) := by
  unfold execErrStatClear
  try dsimp only
  with_reducible repeat' first | assumption | apply Gives.next | apply State.statClear_after

theorem execShadowClose_after (h : s₀.After s) (d : BitVec 8) : Gives s₀ (execShadowClose d s) := by
  unfold execShadowClose
  try dsimp only
  with_reducible repeat' first
    | assumption | apply Gives.next | apply Gives.ite | apply Tab.Keeps.same | apply State.set_after
    | simp only [State.After.mk_eq] | apply Upd.of

theorem execLecWatchdogExpire_after (h : s₀.After s)  : Gives s₀ (execLecWatchdogExpire s) := by
  unfold execLecWatchdogExpire
  try dsimp only
  with_reducible repeat' first | assumption | apply Gives.next | apply Gives.ite | apply State.raise_after

theorem execFabricTimeout_after (h : s₀.After s) (k : Option Sector) : Gives s₀ (execFabricTimeout k s) := by
  unfold execFabricTimeout
  try dsimp only
  with_reducible repeat' first | assumption | apply Gives.next | apply State.raise_after

theorem execErrAck_after (h : s₀.After s)  : Gives s₀ (execErrAck s) := by
  unfold execErrAck
  try dsimp only
  with_reducible repeat' first
    | assumption | apply Gives.next | apply Gives.ite | intro _ | refine State.start_after ?_ _ (by assumption)
    | apply State.reply_after | apply State.each_after | apply State.ackSource_after | split

theorem execErrForce_after (h : s₀.After s)  : Gives s₀ (execErrForce s) := by
  unfold execErrForce
  try dsimp only
  with_reducible repeat' first
    | assumption | apply Gives.next | apply Gives.ite | refine State.start_after ?_ _ (by assumption)
    | apply State.reply_after | apply State.forceWrite_after | split

theorem execErrRead_after (h : s₀.After s)  : Gives s₀ (execErrRead s) := by
  unfold execErrRead
  try dsimp only
  with_reducible repeat' first
    | assumption | apply Gives.next | apply Gives.ite | refine State.start_after ?_ _ (by assumption)
    | apply State.reply_after | split

/-! ### Access -/

theorem State.trimWrite_after (h : s₀.After s) (k v : Nat) : s₀.After (State.trimWrite s k v) := by
  unfold State.trimWrite
  try dsimp only
  with_reducible repeat' first
    | assumption | apply State.After.ite | apply State.set_after | apply State.sealedChange_after

theorem State.repairWrite_after (h : s₀.After s) (k v : Nat) : s₀.After (State.repairWrite s k v) := by
  unfold State.repairWrite
  try dsimp only
  with_reducible repeat' first | assumption | apply State.After.ite | apply State.tllRepair_after

theorem State.classWrite_after (h : s₀.After s) (v : Nat) : s₀.After (State.classWrite s v) := by
  unfold State.classWrite
  try dsimp only
  with_reducible repeat' first
    | assumption | intro _ | apply State.After.ite | apply State.set_after | apply State.each_after
    | apply State.showClasses_after

theorem State.deviceWrite_after (h : s₀.After s) (off v : Nat) : s₀.After (State.deviceWrite s off v) := by
  unfold State.deviceWrite
  try dsimp only
  with_reducible repeat' first
    | assumption | intro _ | apply State.After.ite | apply State.smodeWrite_after | apply State.trimWrite_after
    | apply State.ensWrite_after | apply State.post_after | apply State.evtioWrite_after | apply State.when_after
    | apply State.sineGo_after | apply State.classWrite_after | apply State.plainWrite_after

theorem State.errataWrite_after (h : s₀.After s) (off v : Nat) : s₀.After (State.errataWrite s off v) := by
  unfold State.errataWrite
  try dsimp only
  with_reducible repeat' first
    | assumption | apply State.After.ite | apply State.reactWrite_after | apply State.errSrcWrite_after
    | apply State.plainWrite_after

theorem State.clockingWrite_after (h : s₀.After s) (off v : Nat) : s₀.After (State.clockingWrite s off v) := by
  unfold State.clockingWrite
  try dsimp only
  with_reducible repeat' first
    | assumption | intro _ | apply State.After.ite | apply State.plainWrite_after | apply State.when_after
    | apply State.relockWrite_after | apply State.restartWrite_after | apply State.bandWrite_after
    | apply State.repairWrite_after | apply State.outGo_after

theorem State.rulingWrite_after (h : s₀.After s) (off v : Nat) : s₀.After (State.rulingWrite s off v) := by
  unfold State.rulingWrite
  try dsimp only
  with_reducible repeat' first
    | assumption | intro _ | apply State.After.ite | apply State.set_after | apply State.roleWrite_after
    | apply State.when_after | apply State.deskewGo_after | apply State.rulEnsWrite_after
    | apply State.plainWrite_after

theorem State.quillWrite_after (h : s₀.After s) (off v : Nat) : s₀.After (State.quillWrite s off v) := by
  unfold State.quillWrite
  try dsimp only
  with_reducible repeat' first
    | assumption | apply Tab.Keeps.same | intro _ | apply State.After.ite | apply State.when_after
    | apply State.pcycle_after | apply State.ilkCtlWrite_after | apply State.hrdWrite_after
    | apply State.plainWrite_after | simp only [State.After.mk_eq] | apply Upd.of

theorem State.copyistWrite_after (h : s₀.After s) (off v : Nat) : s₀.After (State.copyistWrite s off v) := by
  unfold State.copyistWrite
  try dsimp only
  with_reducible repeat' first
    | assumption | apply State.After.ite | apply State.cpyCtlWrite_after | apply State.progRegWrite_after
    | apply State.plainWrite_after | split

theorem State.debugWrite_after (h : s₀.After s) (off v : Nat) : s₀.After (State.debugWrite s off v) := by
  unfold State.debugWrite
  try dsimp only
  with_reducible repeat' first
    | assumption | apply State.After.ite | apply State.lecRequest_after | apply State.injCtlWrite_after
    | apply State.set_after | apply State.plainWrite_after

theorem State.scribeWrite_after (h : s₀.After s) (k off v : Nat) : s₀.After (State.scribeWrite s k off v) := by
  unfold State.scribeWrite
  try dsimp only
  with_reducible repeat' first
    | assumption | intro _ | apply State.After.ite | apply State.plainWrite_after | apply State.when_after
    | apply State.stopWrite_after | apply State.startWrite_after | apply State.set_after

theorem State.margBlockWrite_after (h : s₀.After s) (k off : Nat) (v : Word) :
    s₀.After (State.margBlockWrite s k off v) := by
  unfold State.margBlockWrite
  try dsimp only
  with_reducible repeat' first
    | assumption | apply State.After.ite | apply State.margRptrWrite_after | apply State.margClrWrite_after
    | apply State.plainWrite_after | apply State.margConfigWrite_after

theorem State.blotBlockWrite_after (h : s₀.After s) (k off : Nat) (v : Word) :
    s₀.After (State.blotBlockWrite s k off v) := by
  unfold State.blotBlockWrite
  try dsimp only
  with_reducible repeat' first
    | assumption | intro _ | apply State.After.ite | apply State.blotRptrWrite_after | apply State.when_after
    | apply State.blotEnd_after | apply State.maskCommit_after | apply State.blotConfigWrite_after
    | apply State.plainWrite_after

theorem State.storeBlockWrite_after (h : s₀.After s) (k off v : Nat) :
    s₀.After (State.storeBlockWrite s k off v) := by
  unfold State.storeBlockWrite
  try dsimp only
  with_reducible repeat' first
    | assumption | apply State.After.ite | apply State.bankWrite_after | apply State.guestWrite_after
    | apply State.windowWrite_after | apply State.raCfgWrite_after | apply State.plainWrite_after

theorem State.feStatWrite_after (h : s₀.After s) (g l v : Nat) : s₀.After (State.feStatWrite s g l v) := by
  unfold State.feStatWrite
  try dsimp only
  with_reducible repeat' first
    | assumption | intro _ | apply State.plainWrite_after | apply State.when_after | apply State.ocClear_after

theorem State.pinWrite_after (h : s₀.After s) (g off v : Nat) : s₀.After (State.pinWrite s g off v) := by
  unfold State.pinWrite
  try dsimp only
  with_reducible repeat' first
    | assumption | intro _ | apply State.After.ite | apply State.forceIso_after | apply State.ovClear_after
    | apply State.eachSlot_after | apply State.feCfgSlot_after | apply State.slotWrite_after
    | apply State.feStatWrite_after | apply State.sineCtlWrite_after | apply State.sineFtwWrite_after
    | apply State.plainWrite_after

theorem State.octetWrite_after (h : s₀.After s) (g off : Nat) (v : Word) :
    s₀.After (State.octetWrite s g off v) := by
  unfold State.octetWrite
  try dsimp only
  with_reducible repeat' first
    | assumption | apply State.After.ite | apply State.ptLoWrite_after | apply State.ptHiWrite_after
    | apply State.set_after | apply State.pinWrite_after | apply State.hlCtlWrite_after
    | apply State.hlConfigWrite_after | apply State.tdrCtlWrite_after | apply State.dcCtlWrite_after
    | apply State.dcForceWrite_after | apply State.dcMcfgWrite_after | apply State.dcStWrite_after
    | apply State.rotCtlWrite_after | apply State.plainWrite_after

theorem State.dacStatWrite_after (h : s₀.After s) (g l v : Nat) : s₀.After (State.dacStatWrite s g l v) := by
  unfold State.dacStatWrite
  try dsimp only
  with_reducible repeat' first | assumption | apply State.plainWrite_after | apply State.faultClear_after

theorem State.nibStatWrite_after (h : s₀.After s) (g l v : Nat) : s₀.After (State.nibStatWrite s g l v) := by
  unfold State.nibStatWrite
  try dsimp only
  with_reducible repeat' first | assumption | apply State.plainWrite_after | apply State.judgeNibDrop_after

theorem State.slotReg_after (h : s₀.After s) (g off v l : Nat) : s₀.After (State.slotReg s g off v l) := by
  unfold State.slotReg
  try dsimp only
  with_reducible repeat' first
    | assumption | apply State.After.ite | apply State.tsCommit_after | apply State.tsStage_after
    | apply State.strokeWrite_after | apply State.altWrite_after | apply State.codeWrite_after
    | apply State.stageWrite_after | apply State.spanWrite_after | apply State.modWrite_after
    | apply State.dacStatWrite_after | apply State.nibCtlWrite_after | apply State.nibStatWrite_after
    | apply State.plainWrite_after | split

theorem State.placeWrite_after (h : s₀.After s) (p : Place) (off : Nat) (v : Word) :
    s₀.After (State.placeWrite s p off v) := by
  unfold State.placeWrite
  try dsimp only
  with_reducible repeat' first
    | assumption | intro _ | apply State.deviceWrite_after | apply State.errataWrite_after
    | apply State.clockingWrite_after | apply State.rulingWrite_after | apply State.quillWrite_after
    | apply State.plainWrite_after | apply State.copyistWrite_after | apply State.hostAccess_after
    | apply State.debugWrite_after | apply State.scribeWrite_after | apply State.margBlockWrite_after
    | apply State.blotBlockWrite_after | apply State.storeBlockWrite_after | apply State.octetWrite_after
    | apply State.slotWrite_after | apply State.slotReg_after | split
  all_goals first | exact Tab.Keeps.same | exact Tab.Keeps.nil

theorem State.bar0Write_after (h : s₀.After s) (a : Nat) (v : Word) : s₀.After (State.bar0Write s a v) := by
  unfold State.bar0Write
  try dsimp only
  with_reducible repeat' first
    | assumption | intro _ | apply State.After.ite | apply State.hostAccess_after | apply State.placeWrite_after
    | apply State.eachSlot_after | apply State.slotReg_after | split

theorem State.msixWrite_after (h : s₀.After s) (off : Nat) (v : Word) : s₀.After (State.msixWrite s off v) := by
  unfold State.msixWrite
  try dsimp only
  with_reducible repeat' first
    | assumption | apply Tab.Keeps.same | apply State.After.ite | apply State.signal_after | apply State.wr_after
    | simp only [State.After.mk_eq] | apply Upd.of

theorem State.bar4Write_after (h : s₀.After s) (off : Nat) (v : Word) : s₀.After (State.bar4Write s off v) := by
  unfold State.bar4Write
  try dsimp only
  with_reducible repeat' first
    | assumption | apply Tab.Keeps.same | apply State.After.ite | dsimp only | apply State.hostAccess_after
    | apply State.msixWrite_after | apply State.plainWrite_after | apply State.sqTail_after | apply State.cqHead_after
    | apply State.ringCtl_after | apply State.ringConfig_after | apply Memory.keeps_memWrs
    | simp only [State.After.mk_eq] | apply Upd.of | split

theorem State.tookFree_after (h : s₀.After s) (a : Nat) : s₀.After (State.tookFree s a) := by
  unfold State.tookFree
  split
  · exact State.fresh_after h
  · exact h

theorem State.readEffect_after (h : s₀.After s) (a : Nat) : s₀.After (State.readEffect s a) := by
  unfold State.readEffect
  try dsimp only
  with_reducible repeat' first
    | assumption | apply Tab.Keeps.same | apply State.After.ite | apply State.showFifo_after | apply State.wr_after
    | simp only [State.After.mk_eq] | apply Upd.of | split

theorem State.bar0Read_after (h : s₀.After s) (a : Nat) : s₀.After (State.bar0Read s a).2 := by
  unfold State.bar0Read
  try dsimp only
  with_reducible repeat' first
    | assumption | dsimp only | apply State.hostAccess_after | apply State.readEffect_after
    | apply State.tookFree_after | apply State.After.ite_snd | split

theorem State.bar4Read_after (h : s₀.After s) (off : Nat) : s₀.After (State.bar4Read s off).2 := by
  unfold State.bar4Read
  try dsimp only
  with_reducible repeat' first | assumption | dsimp only | apply State.hostAccess_after | apply State.After.ite_snd

theorem State.hostReads_after (h : s₀.After s) (f : State → Word × State) (h_f : ∀ u, s₀.After u → s₀.After (f u).2) :
    s₀.After (State.hostReads s f) := by
  unfold State.hostReads
  try dsimp only
  with_reducible repeat' first
    | assumption | intro _ | apply h_f | apply State.hostIn_after | apply State.answers_after

theorem State.unsupported_after (h : s₀.After s) : s₀.After (State.unsupported s) := by
  unfold State.unsupported
  try dsimp only
  with_reducible repeat' first
    | assumption | apply Tab.Keeps.same | intro _ | apply State.hostIn_after | simp only [State.After.mk_eq]
    | apply Upd.of

theorem State.dapDone_after (h : s₀.After s) (wa status data : Nat) : s₀.After (State.dapDone s wa status data) := by
  unfold State.dapDone
  try dsimp only
  with_reducible repeat' first | assumption | apply Tab.Keeps.same | simp only [State.After.mk_eq] | apply Upd.of

theorem execRegisterWrite_after (h : s₀.After s) (bar4 : Bool) (off : BitVec 26) (v : Word) : Gives s₀ (execRegisterWrite bar4 off v s) := by
  unfold execRegisterWrite
  try dsimp only
  with_reducible repeat' first
    | assumption | apply Gives.next | apply Gives.ite | intro _ | apply State.hostIn_after
    | apply State.bar0Write_after | apply State.bar4Write_after | apply State.unsupported_after

theorem execNarrowAccess_after (h : s₀.After s) (bar4 : Bool) (off : BitVec 26) (write : Bool) : Gives s₀ (execNarrowAccess bar4 off write s) := by
  unfold execNarrowAccess
  try dsimp only
  with_reducible repeat' first
    | assumption | apply Gives.next | apply Gives.ite | intro _ | apply State.After.ite
    | apply State.unsupported_after | apply State.hostIn_after | apply State.hostAccess_after
    | apply State.answers_after

theorem execRcRead_after (h : s₀.After s) (bar4 : Bool) (off : BitVec 26) : Gives s₀ (execRcRead bar4 off s) := by
  unfold execRcRead
  try dsimp only
  with_reducible repeat' first
    | assumption | apply Gives.next | apply Gives.ite | intro _ | apply State.hostReads_after
    | apply State.bar0Read_after | apply State.bar4Read_after | apply State.unsupported_after

theorem execLatchingLoRead_after (h : s₀.After s) (off : BitVec 26) : Gives s₀ (execLatchingLoRead off s) := by
  unfold execLatchingLoRead
  try dsimp only
  with_reducible repeat' first
    | assumption | apply Gives.next | apply Gives.ite | intro _ | apply State.hostReads_after
    | apply State.bar0Read_after

theorem execRwlWrite_after (h : s₀.After s) (off : BitVec 26) (v : Word) : Gives s₀ (execRwlWrite off v s) := by
  unfold execRwlWrite
  try dsimp only
  with_reducible repeat' first
    | assumption | apply Gives.next | apply Gives.ite | intro _ | apply State.hostIn_after
    | apply State.bar0Write_after

theorem execBroadcastWrite_after (h : s₀.After s) (g : Octet) (off : BitVec 11) (v : Word) : Gives s₀ (execBroadcastWrite g off v s) := by
  unfold execBroadcastWrite
  try dsimp only
  with_reducible repeat' first
    | assumption | apply Gives.next | apply Gives.ite | intro _ | apply State.hostIn_after
    | apply State.bar0Write_after

theorem execDapRead_after (h : s₀.After s) (wa : BitVec 24) : Gives s₀ (execDapRead wa s) := by
  unfold execDapRead
  try dsimp only
  with_reducible repeat' first
    | assumption | apply Gives.next | apply Gives.ite | apply State.tookFree_after | apply State.dapDone_after
  all_goals first | exact Tab.Keeps.same | exact Tab.Keeps.nil

theorem execDapWrite_after (h : s₀.After s) (wa : BitVec 24) (v : Word) : Gives s₀ (execDapWrite wa v s) := by
  unfold execDapWrite
  try dsimp only
  with_reducible repeat' first
    | assumption | apply Gives.next | apply Gives.ite | apply State.set_after | apply State.dapDone_after
    | apply State.bar0Write_after

theorem execDevStatus_after (h : s₀.After s)  : Gives s₀ (execDevStatus s) := by
  unfold execDevStatus
  try dsimp only
  with_reducible repeat' first
    | assumption | apply Gives.next | refine State.start_after ?_ _ (by assumption) | apply State.reply_after | split

/-! ### Copyist -/

theorem State.takeDesc_after (h : s₀.After s) (c : Nat) (ws : List Word) : s₀.After (State.takeDesc s c ws) := by
  unfold State.takeDesc
  try dsimp only
  with_reducible repeat' first
    | assumption | apply State.After.ite | apply State.onChan_after | apply State.setChState_after
    | apply State.endDesc_after

theorem State.notOwned_after (h : s₀.After s) (c : Nat) : s₀.After (State.notOwned s c) := by
  unfold State.notOwned
  try dsimp only
  with_reducible repeat' first
    | assumption | apply State.After.ite | apply State.onChan_after | apply State.setChState_after

theorem State.descWords_after (h : s₀.After s) (c : Nat) (words : Option (List Word)) (e : MemErr) :
    s₀.After (State.descWords s c words e).2 := by
  unfold State.descWords
  try dsimp only
  with_reducible repeat' first
    | assumption | dsimp only | apply State.raise_after | apply State.poisonRead_after | apply State.memError_after
    | apply State.hostAccess_after | apply State.After.ite_snd | split

theorem State.asCopyist_after (h : s₀.After s) {α : Type} (f : State → α × State) (h_f : ∀ u, s₀.After u → s₀.After (f u).2) :
    s₀.After (State.asCopyist s f).2 := by
  unfold State.asCopyist
  try dsimp only
  with_reducible repeat' first
    | assumption | apply Tab.Keeps.same | apply h_f | simp only [State.After.mk_eq] | apply Upd.of

theorem State.chanStoreWrite_after (h : s₀.After s) (c k b off : Nat) (bs : List Byte) (m : Meeting) :
    s₀.After (State.chanStoreWrite s c k b off bs m) := by
  unfold State.chanStoreWrite
  try dsimp only
  with_reducible repeat' first
    | assumption | apply State.After.ite | apply State.bar2Puts_after | apply State.set_after
    | apply State.raise_after

theorem State.chanWrite_after (h : s₀.After s) (c space a : Nat) (bs : List Byte) (hostOk : Bool) (e : MemErr) (m : Meeting) :
    s₀.After (State.chanWrite s c space a bs hostOk e m).2 := by
  unfold State.chanWrite
  try dsimp only
  with_reducible repeat' first
    | assumption | intro _ | dsimp only | apply State.toHost_after | apply State.onChan_after
    | apply State.asCopyist_after | apply State.bar0Write_after | apply State.each_after
    | apply State.stackWordWrite_after | apply State.chanStoreWrite_after | apply State.After.ite_snd | split

theorem State.errAddr_after (h : s₀.After s) (c a : Nat) : s₀.After (State.errAddr s c a) := by
  unfold State.errAddr
  try dsimp only
  with_reducible repeat' first | assumption | apply State.set64_after

theorem State.accessFails_after (h : s₀.After s) (c st a : Nat) : s₀.After (State.accessFails s c st a) := by
  unfold State.accessFails
  try dsimp only
  with_reducible repeat' first
    | assumption | apply State.After.ite | apply State.errAddr_after | apply State.raise_after

theorem State.readUnit_after (h : s₀.After s) (c : Nat) (io : SegIo) (got : Nat) :
    s₀.After (State.readUnit s c io got).2.2 := by
  unfold State.readUnit
  try dsimp only
  with_reducible repeat' first
    | assumption | intro _ | dsimp only | apply State.asCopyist_after | apply State.bar0Read_after
    | apply State.poisonRead_after | apply State.set_after | apply State.raise_after | apply State.memError_after
    | split

theorem State.copySegment_after (h : s₀.After s) (c : Nat) (io : SegIo) (n got put : Nat) :
    s₀.After (s.copySegment c io n got put).2 := by
  induction n generalizing s got put with
  | zero => exact h
  | succ n ih =>
    unfold State.copySegment
    try dsimp only
    repeat' first
      | with_reducible assumption | with_reducible apply ih | dsimp only | with_reducible apply State.chanWrite_after
      | with_reducible apply State.set_after | with_reducible apply State.onChan_after
      | with_reducible apply State.readUnit_after | split

theorem State.countCorrected_after (h : s₀.After s) (e : MemErr) : s₀.After (State.countCorrected s e) := by
  unfold State.countCorrected
  try dsimp only
  with_reducible repeat' first | assumption | apply State.memError_after | split

theorem State.nextSegment_after (h : s₀.After s) (c : Nat) : s₀.After (State.nextSegment s c) := by
  unfold State.nextSegment
  try dsimp only
  with_reducible repeat' first
    | assumption | apply State.After.ite | apply State.freeBanks_after | apply State.freeYields_after
    | apply State.grantWaiting_after | apply State.onChan_after | apply State.setChState_after
    | apply State.askDst_after

theorem State.writeRecs_after (h : s₀.After s) (c : Nat) (es : List CpyRec) : s₀.After (State.writeRecs s c es) := by
  unfold State.writeRecs
  try dsimp only
  with_reducible repeat' first | assumption | intro _ | apply State.each_after | apply State.writeBack_after

theorem State.handBack_after (h : s₀.After s) (c status : Nat) : s₀.After (State.handBack s c status) := by
  unfold State.handBack
  try dsimp only
  with_reducible repeat' first
    | assumption | apply State.After.ite | apply State.writeBack_after | apply State.onChan_after
    | apply State.writeRecs_after | split

theorem State.nextDesc_after (h : s₀.After s) (c : Nat) : s₀.After (State.nextDesc s c) := by
  unfold State.nextDesc
  try dsimp only
  with_reducible repeat' first
    | assumption | apply State.setPc_after | apply State.onChan_after | apply State.setChState_after

theorem State.loadNext_after (h : s₀.After s) (c status : Nat) : s₀.After (State.loadNext s c status) := by
  unfold State.loadNext
  try dsimp only
  with_reducible repeat' first
    | assumption | apply State.After.ite | apply State.updateJob_after | apply State.loadMove_after
    | apply State.set_after | apply State.setIdle_after | split

theorem State.stopAborted_after (h : s₀.After s) (c status : Nat) : s₀.After (State.stopAborted s c status) := by
  unfold State.stopAborted
  try dsimp only
  with_reducible repeat' first
    | assumption | apply State.writeRecs_after | apply State.set_after | apply State.setIdle_after

theorem execCpyGo_after (h : s₀.After s) (c : Channel) (v : Word) : Gives s₀ (execCpyGo c v s) := by
  unfold execCpyGo
  try dsimp only
  with_reducible repeat' first | assumption | apply Gives.next | apply State.cpyCtlWrite_after

theorem execCpyAbort_after (h : s₀.After s) (c : Channel) (v : Word) : Gives s₀ (execCpyAbort c v s) := by
  unfold execCpyAbort
  try dsimp only
  with_reducible repeat' first | assumption | apply Gives.next | apply State.cpyCtlWrite_after

theorem execCpyKick_after (h : s₀.After s) (c : Channel) (v : Word) : Gives s₀ (execCpyKick c v s) := by
  unfold execCpyKick
  try dsimp only
  with_reducible repeat' first | assumption | apply Gives.next | apply State.cpyCtlWrite_after

theorem execCpyPause_after (h : s₀.After s) (c : Channel) (v : Word) : Gives s₀ (execCpyPause c v s) := by
  unfold execCpyPause
  try dsimp only
  with_reducible repeat' first | assumption | apply Gives.next | apply State.cpyCtlWrite_after

theorem execCpyPoll_after (h : s₀.After s) (c : Channel) : Gives s₀ (execCpyPoll c s) := by
  unfold execCpyPoll
  try dsimp only
  with_reducible repeat' first | assumption | apply Gives.next | apply Gives.ite | apply State.setChState_after

theorem execCpyDescriptorRead_after (h : s₀.After s) (c : Channel) (words : Option (List Word)) (e : MemErr) : Gives s₀ (execCpyDescriptorRead c words e s) := by
  unfold execCpyDescriptorRead
  try dsimp only
  with_reducible repeat' first
    | assumption | apply Gives.next | apply Gives.ite | apply State.After.ite | apply State.lateReply_after
    | apply State.takeDesc_after | apply State.descWords_after | apply State.cpyStopErr_after
    | apply State.notOwned_after | split

theorem execCpyMove_after (h : s₀.After s) (c : Channel) : Gives s₀ (execCpyMove c s) := by
  unfold execCpyMove
  try dsimp only
  with_reducible repeat' first | assumption | apply Gives.next | apply Gives.ite | apply State.beginMove_after

theorem execCpyLoop_after (h : s₀.After s) (c : Channel) : Gives s₀ (execCpyLoop c s) := by
  unfold execCpyLoop
  try dsimp only
  with_reducible repeat' first
    | assumption | apply Gives.next | apply Gives.ite | apply State.endDesc_after | apply State.onChan_after

theorem execCpyEndloop_after (h : s₀.After s) (c : Channel) : Gives s₀ (execCpyEndloop c s) := by
  unfold execCpyEndloop
  try dsimp only
  with_reducible repeat' first
    | assumption | apply Gives.next | apply Gives.ite | apply State.endDesc_after | apply State.onChan_after | split

theorem execCpyWait_after (h : s₀.After s) (c : Channel) : Gives s₀ (execCpyWait c s) := by
  unfold execCpyWait
  try dsimp only
  with_reducible repeat' first | assumption | apply Gives.next | apply Gives.ite | apply State.endWaits_after

theorem execCpyWaitTimeout_after (h : s₀.After s) (c : Channel) : Gives s₀ (execCpyWaitTimeout c s) := by
  unfold execCpyWaitTimeout
  try dsimp only
  with_reducible repeat' first
    | assumption | apply Gives.next | apply Gives.ite | apply State.onChan_after | apply State.endDesc_after

theorem execCpySignal_after (h : s₀.After s) (c : Channel) : Gives s₀ (execCpySignal c s) := by
  unfold execCpySignal
  try dsimp only
  with_reducible repeat' first
    | assumption | apply Gives.next | apply Gives.ite | apply State.After.ite | apply State.post_after
    | apply State.endDesc_after | apply State.chanWrite_after | apply State.accessFails_after | split

theorem execCpyFence_after (h : s₀.After s) (c : Channel) : Gives s₀ (execCpyFence c s) := by
  unfold execCpyFence
  try dsimp only
  with_reducible repeat' first
    | assumption | apply Gives.next | apply Gives.ite | apply State.onChan_after | apply State.endDesc_after

theorem execCpyFenceDone_after (h : s₀.After s) (c : Channel) (ok : Bool) : Gives s₀ (execCpyFenceDone c ok s) := by
  unfold execCpyFenceDone
  try dsimp only
  with_reducible repeat' first
    | assumption | apply Gives.next | apply Gives.ite | apply State.After.ite | apply State.endDesc_after
    | apply State.raise_after | apply State.lateReply_after

theorem execCpyStop_after (h : s₀.After s) (c : Channel) : Gives s₀ (execCpyStop c s) := by
  unfold execCpyStop
  try dsimp only
  with_reducible repeat' first
    | assumption | apply Gives.next | apply Gives.ite | intro _ | apply State.writeBack_after | apply State.set_after
    | apply State.cpyNotify_after | apply State.setIdle_after

theorem execCpySegmentDone_after (h : s₀.After s) (c : Channel) (io : SegIo) : Gives s₀ (execCpySegmentDone c io s) := by
  unfold execCpySegmentDone
  try dsimp only
  with_reducible repeat' first
    | assumption | apply Gives.next | apply Gives.ite | apply State.cpyAdvance_after | apply State.lateReply_after
    | apply State.transfer_after | apply State.countCorrected_after | apply State.copySegment_after
    | apply State.nextSegment_after | apply State.endMove_after | apply State.freeYields_after
    | apply State.grantWaiting_after | apply State.accessFails_after | split

theorem execCpyMutualHold_after (h : s₀.After s) (c : Channel) : Gives s₀ (execCpyMutualHold c s) := by
  unfold execCpyMutualHold
  try dsimp only
  with_reducible repeat' first
    | assumption | apply Gives.next | apply Gives.ite | apply State.bump_after | apply State.freeBanks_after
    | apply State.onChan_after | apply State.grantWaiting_after

theorem execCpyWriteback_after (h : s₀.After s) (c : Channel) : Gives s₀ (execCpyWriteback c s) := by
  unfold execCpyWriteback
  try dsimp only
  with_reducible repeat' first
    | assumption | apply Gives.next | apply Gives.ite | apply State.stopDesc_after | apply State.loadNext_after
    | apply State.stopAborted_after | apply State.handBack_after | apply State.set_after | apply State.nextDesc_after
    | split

end Sys2Proof.Machine
end

