-- ==== Sys2Proof/Tests/States.lean ====
section
/-! SUPPORT. Small states on which the hypotheses of statements are shown to hold together. -/

namespace Sys2Proof.Tests
open Sys2Proof.Machine Reg

/-- The main domain up, the host link up, start-up ended. -/
def up : State :=
  { State.reset with
    quill := { phase := .up, step := 11, supervisor := false, en := 255, pg := 255 }
    host := { perst := false, linkUp := true }
    clk := { running := true, counting := true } }

/-- That state with fields set. -/
def st (l : List (Fld × Nat)) : State := l.foldl (fun s e => s.set e.1 e.2) ((up.set QL.STAT.PSTATE psLight).set DEV.MODE.READY 1)

/-- That state with a command packet waiting to start, Lectern running. -/
def cmd (op : Nat) (params : List Word) (l : List (Fld × Nat)) : State :=
  let s := st ([(LEC.STAT.RUNNING, 1), (RING.SIZE.CQ_LOG 4, 4), (RING.SIZE.SQ_LOG 4, 4)] ++ l)
  { s with lec := { s.lec with waiting := [{ ring := 4, opcode := op, cls := 2, tag := 7, params := params }] } }

end Sys2Proof.Tests
end

