-- ==== Sys2Proof/Tests/Slice0.lean ====
section
/-! SUPPORT. Ill-formed commands that every check refuses, and figures that the spec works out itself. -/

namespace Sys2Proof.Tests
open Sys2Proof.Machine Reg

/-! ### Each check of `Instr.wellFormed` refuses a term -/

theorem test_write_misaligned : (Instr.registerWrite false 0x2 0).wellFormed = false := by decide
theorem test_rc_read_misaligned : (Instr.rcRead false 0x1).wellFormed = false := by decide
theorem test_latching_read_misaligned : (Instr.latchingLoRead 0x6).wellFormed = false := by decide
theorem test_rwl_write_misaligned : (Instr.rwlWrite 0x3 0).wellFormed = false := by decide
theorem test_broadcast_misaligned : (Instr.broadcastWrite 0 0x5 0).wellFormed = false := by decide
theorem test_short_band_table : (Instr.mainPorEnd false []).wellFormed = false := by decide
theorem test_frame_type_too_wide : (Instr.rulFrameIdle { kind := 16 } 0).wellFormed = false := by decide
theorem test_frame_payload_too_wide : (Instr.rulFrameDeskew { kind := 8, payload := 2 ^ 48 } 0).wellFormed = false := by decide
theorem test_read_of_no_bytes : (Instr.bar2Read 0 0 .none .none).wellFormed = false := by decide
theorem test_write_of_no_bytes : (Instr.bar2Write 0 [] .none .none).wellFormed = false := by decide
theorem test_write_past_window : (Instr.bar2Write 0xFFFFFFFFF [none, none] .none .none).wellFormed = false := by decide
theorem test_strobe_without_codes : (Instr.strobeInstant 0 0 0 []).wellFormed = false := by decide
theorem test_mask_without_codes : (Instr.maskViolation 0 0 0 0 0 []).wellFormed = false := by decide
theorem test_params_missing : (Instr.commandRead 0 (1 <<< 32) []).wellFormed = false := by decide
theorem test_quill_readings_missing : (Instr.quillTick false false []).wellFormed = false := by decide
theorem test_descriptor_short : (Instr.cpyDescriptorRead 0 (some []) .none).wellFormed = false := by decide
theorem test_link_speed_zero : (Instr.hostLinkStateChange (some ⟨0, 16, false, 0, 0⟩)).wellFormed = false := by decide
theorem test_no_voltages : (Instr.dcMeasureDone 0 [] []).wellFormed = false := by decide
theorem test_well_formed : (Instr.registerWrite false 0x44 7).wellFormed = true := by decide

/-! ### Figures of the spec -/

/-- R1031: a part of revision 0 reads IDCODE 0x0512_89AF. -/
theorem test_idcode : State.reset.idcode = 0x051289AF := by decide

/-- R11: 3.75 ticks are 0x0003_C000_0000. -/
theorem test_period_format : (st [(PER.PT.HI.INT 9 2, 3), (PER.PT.LO.FRAC 9 2, 0xC0000000)]).period 9 2 = 0x3C0000000 := by decide

/-- R502: under QNRZ the glyph 0xB drives 1, 1, 0 and 1, and leaves B = 1. -/
theorem test_qnrz : roles fmQnrz 0xB true false = [(0, true), (1, true), (2, false), (3, true)] ∧ nextB fmQnrz 0xB false = true := by decide

/-- The six words of the time set of the Nibs' worked example. -/
def tsExample : Nat := wordsNat [0xC0000100, 0x00700000, 0, 5, 0, 0x02170000]

theorem test_time_set_edges : tsEdge tsExample 0 = 256 ∧ tsEdge tsExample 1 = 768 ∧ tsEdge tsExample 2 = 1792 ∧ tsEn tsExample 3 = false := by decide
theorem test_time_set_strobe : tsA tsExample 0 = 1280 ∧ tsMode tsExample 0 = 1 ∧ tsMode tsExample 1 = 0 ∧ tsStroke tsExample = 2 := by decide

/-- That example's words lie at offset 0x0A8 of lane slot 5, and its commit is accepted. -/
theorem test_time_set_place : NIB.TS.W.reg 49 5 7 0 = NIB.TS.W.reg 49 5 0 0 + 0xA8 ∧ tsBad tsExample = false := by decide

/-- R130: entry 2 of the band table of the 156.25 MHz card is usable, and chosen. -/
theorem test_band_entry :
    ((((st [(CLK.PLL_CTL.BAND_AUTO, 1)]).wr (CLK.BAND.RANGE.reg 2) 0x3D6D3CA5).wr (CLK.BAND.DIV.reg 2) 0x82000073).wr
      (CLK.BAND.FRAC.reg 2) 0x00010005).bandTries 156250 = [2] := by decide

/-- GO written at 1,000,003, and the tick counter later. -/
def goThen (n : Nat) : State := { State.outGo { up with tick := 1000003 } with tick := n }

/-- R173: the outputs are then updated at 1,000,072, not at 1,000,064. -/
theorem test_clkout_instant : (goThen 1000064).updateInstant = none ∧ (goThen 1000072).updateInstant = some 8000576 := by
  decide

/-- The registers of the level example: the generator of octet 20. -/
theorem test_sine_place : SINE.CTL.reg 20 = 0x01A10C00 ∧ SINE.FTW.reg 20 = 0x01A10C04 := by decide

/-- R866: a field that would cross a word boundary starts at the next word. -/
theorem test_packing : packFields [(16, 1), (32, 2), (64, 3)] = [1, 2, 3, 0] := by decide

/-- R195: the CRC of a frame is taken bit by bit from the top, from 0xFFFF. -/
theorem test_crc_bit : crcBit 0xFFFF false = 0xEFDF ∧ crcBit 0x8000 true = 0 := by decide

/-! ### One step -/

set_option maxRecDepth 4000 in
theorem test_idle_tick : step up = .next up.idle ∧ up.idle.tick = 1 := ⟨rfl, by decide⟩

theorem test_front_first :
    step { up with pending := [.tapReset, .pllRestartWrite] } = exec .tapReset { up with pending := [.pllRestartWrite] } := rfl

/-- The table gives no row bits: no word spells a command. -/
theorem test_no_word : decodeTableWord 32 0 = none := rfl

end Sys2Proof.Tests
end

