-- ==== Sys2Proof/Tests/Witnesses.lean ====
section
/-! SUPPORT. For every statement with hypotheses, a state and operands that meet them, clause by clause. -/

namespace Sys2Proof.Tests
open Sys2Proof.Machine Reg

def st1 : State := Tests.st []

def st2 : State := Tests.st []

def st3 : State := Tests.st [(DEV.HOSTACC.COUNT, 5)]

def st4 : State := Tests.st []

def st5 : State := { Tests.st [] with dbg := { tapInstr := tiDap } }

def st6 : State := { Tests.st [] with dbg := { tapInstr := tiDap } }

/-- The hypotheses of every clause of RegisterAccess hold together somewhere. -/
theorem witness_RegisterAccess :
    (∃ (off : BitVec 26) (r : RegRow) (s : State), (s.awake = true) ∧ ((whereIs off.toNat).1 = .copyist) ∧ (off.toNat < 0x601000) ∧ (off.toNat % 4 = 0) ∧ (rowAt off.toNat = some r)) ∧
    (∃ (bar4 : Bool) (off : BitVec 26) (s : State), (s.awake = true) ∧ (bar4 = false ∨ off.toNat < 0x100000)) ∧
    (∃ (off : BitVec 26) (r : RegRow) (s : State), (s.awake = true) ∧ (rowAt off.toNat = some r) ∧ (r.has .rc = true) ∧ (s.placeOff (whereIs off.toNat).1 = false) ∧ (off.toNat % 4 = 0) ∧ (off.toNat ≠ EVT.FIFO.reg) ∧ (latchedHi off.toNat = none) ∧ (Tab.get (fun _ => 0) s.latch off.toNat = 0) ∧ (s.slotAlias off.toNat = off.toNat) ∧ (openOnRead off.toNat = false)) ∧
    (∃ (off : BitVec 26) (hi : Nat) (r : RegRow) (s : State), (s.awake = true) ∧ (latchedHi off.toNat = some hi) ∧ (rowAt off.toNat = some r) ∧ (r.has .rc = false) ∧ (s.placeOff (whereIs off.toNat).1 = false) ∧ (off.toNat % 4 = 0) ∧ (off.toNat ≠ EVT.FIFO.reg) ∧ (Tab.get (fun _ => 0) s.latch off.toNat = 0) ∧ (s.slotAlias off.toNat = off.toNat) ∧ (openOnRead off.toNat = false)) ∧
    (∃ (wa : BitVec 24) (s : State), (s.dapOn = true) ∧ (s.dbgGated = false ∨ (whereIs (4 * wa.toNat)).1 ≠ .vault)) ∧
    (∃ (wa : BitVec 24) (r : RegRow) (s : State), (s.dapOn = true) ∧ (s.dbgGated = false) ∧ ((whereIs (4 * wa.toNat)).1 = .copyist) ∧ (4 * wa.toNat < 0x601000) ∧ (rowAt (4 * wa.toNat) = some r)) :=
  ⟨⟨(0x600000 : BitVec 26), ((rowAt 0x600000).getD ⟨0, [], []⟩ : RegRow), st1, by decide⟩,
   ⟨(false : Bool), (0x3 : BitVec 26), st2, by decide⟩,
   ⟨(0x48 : BitVec 26), ((rowAt 0x48).getD ⟨0, [], []⟩ : RegRow), st3, by decide⟩,
   ⟨(0x8 : BitVec 26), (0xC : Nat), ((rowAt 8).getD ⟨0, [], []⟩ : RegRow), st4, by decide⟩,
   ⟨(0x2 : BitVec 24), st5, by decide⟩,
   ⟨(0x180000 : BitVec 24), ((rowAt 0x600000).getD ⟨0, [], []⟩ : RegRow), st6, by decide⟩⟩

def st7 : State := Tests.st []

def st8 : State := { Tests.st [] with vault := { lc := 2 } }

def st9 : State := { Tests.st [] with dbg := { tapInstr := tiDap }, vault := { lc := 2 } }

def st10 : State := Tests.st [(SMODE.CTL.MODE_CUR 1, 2)]

/-- The hypotheses of every clause of RegisterGates hold together somewhere. -/
theorem witness_RegisterGates :
    (∃ (s : State), (s.awake = true) ∧ (s.lifecycle = 0) ∧ (s.rwlOpen = true)) ∧
    (∃ (s : State), (s.awake = true) ∧ (s.rwlOpen = false)) ∧
    (∃ (s : State), (s.dapOn = true) ∧ (s.dbgGated = true)) ∧
    (∃ (g : Octet) (off : BitVec 11) (s : State), (s.awake = true) ∧ (off.toNat < 0x600) ∧ (off.toNat % 4 = 0) ∧ (off.toNat % 24 ≠ 20) ∧ (s.modeOf (g / 8) ≠ mOff) ∧ ((s.rot g).visit = none) ∧ (s.nibLocked g = false)) :=
  ⟨⟨st7, by decide⟩,
   ⟨st8, by decide⟩,
   ⟨st9, by decide⟩,
   ⟨(9 : Octet), (0x20 : BitVec 11), st10, by decide⟩⟩

def st11 : State := Tests.st [(SMODE.CTL.MODE_CUR 2, mSetup)]

def st12 : State := Tests.st [(SMODE.CTL.MODE_CUR 2, mStandby), (TLL.STAT.LOCKED 2, 1), (SREG.STAT.PGOOD 2, 1)]

def st13 : State := Tests.st [(SMODE.CTL.MODE_CUR 2, mRun), (SCRIBE.STAT.STATE 2, 2)]

/-- The hypotheses of every clause of ModeRequest hold together somewhere. -/
theorem witness_ModeRequest :
    (∃ (k : Sector) (req : BitVec 3) (s : State), (s.mainOn = true) ∧ (s.flag DEV.MODE.READY = true) ∧ (s.modeInSafe k = false) ∧ (s.flag (SMODE.CTL.BUSY k) = false) ∧ (s.inDoze = false) ∧ (s.quill.entering ≠ some 2) ∧ (modeReach (s.modeOf k) req.toNat = true) ∧ (¬(s.modeOf k = mStandby ∧ req.toNat = mSetup))) ∧
    (∃ (k : Sector) (req : BitVec 3) (s : State), (s.mainOn = true) ∧ (s.flag DEV.MODE.READY = true) ∧ (s.modeInSafe k = false) ∧ (s.flag (SMODE.CTL.BUSY k) = false) ∧ (s.inDoze = false) ∧ (s.quill.entering ≠ some 2) ∧ (s.modeOf k = mStandby) ∧ (req.toNat = mSetup) ∧ (s.flag (TLL.STAT.LOCKED k) = true) ∧ (s.flag (SREG.STAT.PGOOD k) = true) ∧ ((s.bistOf k).banks = 0)) ∧
    (∃ (k : Sector) (req : BitVec 3) (s : State), (s.mainOn = true) ∧ (s.flag DEV.MODE.READY = true) ∧ (s.modeInSafe k = false) ∧ (s.flag (SMODE.CTL.BUSY k) = false) ∧ (s.inDoze = false) ∧ (s.quill.entering ≠ some 2) ∧ (s.modeOf k = mRun) ∧ (req.toNat = mRun)) :=
  ⟨⟨(2 : Sector), (4 : BitVec 3), st11, by decide⟩,
   ⟨(2 : Sector), (2 : BitVec 3), st12, by decide⟩,
   ⟨(2 : Sector), (3 : BitVec 3), st13, by decide⟩⟩

def st14 : State := Tests.st [(SMODE.CTL.MODE_CUR 1, mSetup), (SMODE.CTL.MODE_TGT 1, mStandby), (SMODE.CTL.BUSY 1, 1)]

def st15 : State := Tests.st [(SMODE.CTL.MODE_CUR 1, mStandby), (SMODE.CTL.MODE_TGT 1, mSetup), (SMODE.CTL.BUSY 1, 1)]

def st16 : State := Tests.st [(SMODE.CTL.MODE_CUR 4, mMeasure), (QL.ILK.STAT.A_CLOSED, 1), (QL.ILK.STAT.B_CLOSED, 1), (QL.ILK.STAT.STATE, 0)]

def st17 : State := Tests.st [(SMODE.CTL.MODE_CUR 4, mRun), (SMODE.CTL.SAFE 4, 1), (SMODE.CTL.SAFE_CAUSE 4, 4), (QL.ILK.STAT.A_CLOSED, 1), (QL.ILK.STAT.B_CLOSED, 1), (QL.ILK.STAT.STATE, 0)]

/-- The hypotheses of every clause of ModeChange hold together somewhere. -/
theorem witness_ModeChange :
    (∃ (k : Sector) (s : State), (s.mayArrive k = true) ∧ (s.modeOf k = mSetup) ∧ (s.get (SMODE.CTL.MODE_TGT k) = mStandby) ∧ (s.flag (SMODE.CTL.PENDING k) = false) ∧ (s.lec.jobs = [])) ∧
    (∃ (k : Sector) (s : State), (s.mayArrive k = true) ∧ (s.modeOf k = mStandby) ∧ (s.get (SMODE.CTL.MODE_TGT k) = mSetup) ∧ (s.flag (SMODE.CTL.PENDING k) = false) ∧ (s.lec.jobs = [])) ∧
    (∃ (k : Sector) (s : State), (s.mainOn = true) ∧ (s.modeOf k ≠ mOff)) ∧
    (∃ (k : Sector) (s : State), (s.mainOn = true) ∧ (s.flag (SMODE.CTL.SAFE k) = true) ∧ (s.safeCauses k = []) ∧ (s.scanHolds = false) ∧ (s.modeOf k ≤ mRun)) :=
  ⟨⟨(1 : Sector), st14, by decide⟩,
   ⟨(1 : Sector), st15, by decide⟩,
   ⟨(4 : Sector), st16, by decide⟩,
   ⟨(4 : Sector), st17, by decide⟩⟩

def st18 : State := State.reset

def st19 : State := { State.reset with quill := { phase := .delay } }

def st20 : State := { State.reset with quill := { phase := .raising 3 } }

def st21 : State := { State.reset with quill := { phase := .settling 6, en := 127 } }

def st22 : State := { State.reset with quill := { phase := .raising 5, en := 63 } }

def st23 : State := { Tests.up with quill := { phase := .settling 7, en := 255, pg := 255 } }

def st24 : State := { Tests.up with quill := { phase := .up, step := 4 } }

def st25 : State := { (Tests.up.set CLK.PLL_STAT.STATE pllLocked) with quill := { phase := .up, step := 6 } }

def st26 : State := { ((List.range 8).foldl (fun s k => s.set (SMODE.CTL.MODE_CUR k) mStandby) Tests.up) with quill := { phase := .up, step := 8 } }

def st27 : State := { (Tests.up.set QL.ILK.STAT.STATE 0) with quill := { phase := .up, step := 10 } }

def st28 : State := Tests.up

def st31 : State := Tests.up

def st32 : State := Tests.st [(IMG.STAT.WAITING, 1)]

/-- The hypotheses of every clause of PowerUp hold together somewhere. -/
theorem witness_PowerUp :
    (∃ (s : State), (s.quill.phase = .unpowered)) ∧
    (∃ (s : State), (s.quill.phase = .delay)) ∧
    (∃ (n : Fin 8) (s : State), (s.quill.phase = .raising n)) ∧
    (∃ (n : Nat) (s : State), (s.quill.phase = .settling n) ∧ (n < 7)) ∧
    (∃ (n : Nat) (s : State), (s.quill.phase = .raising n) ∧ (2 ≤ n)) ∧
    (∃ (s : State), (s.quill.phase = .settling 7) ∧ (s.host.perst = false)) ∧
    (∃ (s : State), (s.mainOn = true) ∧ (s.quill.step = 4)) ∧
    (∃ (s : State), (s.mainOn = true) ∧ (s.quill.step = 6) ∧ (s.pll = pllLocked)) ∧
    (∃ (s : State), (s.mainOn = true) ∧ (s.quill.step = 8) ∧ (∀ k : Sector, s.modeOf k = mStandby ∧ s.flag (SMODE.CTL.BUSY k) = false)) ∧
    (∃ (s : State), (s.mainOn = true) ∧ (s.quill.step = 10) ∧ (s.get QL.ILK.STAT.STATE = 0)) ∧
    (∃ (s : State), (s.host.perst = false) ∧ (s.quill.phase = .up) ∧ (3 ≤ s.quill.step)) ∧
    (∃ (u : LinkUp) (s : State), (s.mainOn = true) ∧ (s.clk.running = true) ∧ (s.quill.step = 11) ∧ (u.width.toNat = 16) ∧ (s.host.lastWidth = 16) ∧ (s.host.awaitImage = false)) ∧
    (∃ (v : Word) (s : State), (s.mainOn = true) ∧ (s.host.linkUp = true) ∧ (s.flag IMG.STAT.WAITING = true) ∧ (v.getLsbD 31 = false) ∧ (0 < v.field 0 20) ∧ (v.field 0 20 ≤ 524288) ∧ (s.host.image.length + v.field 0 20 ≤ 0x1000000)) :=
  ⟨⟨st18, by decide⟩,
   ⟨st19, by decide⟩,
   ⟨(3 : Fin 8), st20, by decide⟩,
   ⟨(6 : Nat), st21, by decide⟩,
   ⟨(5 : Nat), st22, by decide⟩,
   ⟨st23, by decide⟩,
   ⟨st24, by decide⟩,
   ⟨st25, by decide⟩,
   ⟨st26, by decide⟩,
   ⟨st27, by decide⟩,
   ⟨st28, by decide⟩,
   ⟨({ speed := 5, width := 16, reversed := true, undetected := 0, margin := 0 } : LinkUp), st31, by decide⟩,
   ⟨(8 : Word), st32, by decide⟩⟩

def st33 : State := Tests.st []

def st34 : State := { Tests.up with quill := { phase := .safeWait, down := some .cycle, en := 255 } }

def st35 : State := { Tests.up with quill := { phase := .lowering 7, down := some .cycle, en := 127 } }

def st36 : State := Tests.st []

def st37 : State := { State.reset with quill := { phase := .cycleWait, f3 := true } }

def st41 : State := Tests.st [(SMODE.CTL.MODE_CUR 5, 2)]

def st42 : State := Tests.st [(SMODE.CTL.MODE_CUR 5, 2)]

def st43 : State := Tests.st []

/-- The hypotheses of every clause of PowerDown hold together somewhere. -/
theorem witness_PowerDown :
    (∃ (lost : BitVec 8) (us : Nat) (counts : Bool) (s : State), (s.quill.phase = .up) ∧ (lost.toNat &&& s.quill.en ≠ 0) ∧ (20 ≤ us) ∧ (50 < us ∨ counts = true)) ∧
    (∃ (c : DownCause) (s : State), (s.quill.phase = .safeWait) ∧ (s.quill.down = some c) ∧ (4 ≤ s.quill.en)) ∧
    (∃ (n : Nat) (s : State), (s.quill.phase = .lowering (n + 1)) ∧ (2 ≤ n)) ∧
    (∃ (key : BitVec 8) (s : State), (s.mainOn = true) ∧ (key = 0x5A)) ∧
    (∃ (s : State), (s.quill.phase = .cycleWait)) ∧
    (∃ (k : Sector) (s : State), (s.sregWatched k = true)) ∧
    (∃ (k : Sector) (s : State), (s.sregWatched k = true)) ∧
    (∃ (s : State), (s.quill.phase = .up) ∧ (s.coreUp = true)) :=
  ⟨⟨(4 : BitVec 8), (30 : Nat), (true : Bool), st33, by decide⟩,
   ⟨(.cycle : DownCause), st34, by decide⟩,
   ⟨(6 : Nat), st35, by decide⟩,
   ⟨(0x5A : BitVec 8), st36, by decide⟩,
   ⟨st37, by decide⟩,
   ⟨(5 : Sector), st41, by decide⟩,
   ⟨(5 : Sector), st42, by decide⟩,
   ⟨st43, by decide⟩⟩

def st44 : State := Tests.st [(QL.ILK.STAT.STATE, 0)]

def st45 : State := { Tests.up with quill := { phase := .up, qsec := 2 ^ 48 - 1 } }

def st46 : State := Tests.st [(QL.THERM.WARN, 6000)]

def st47 : State := { (Tests.st [(QL.WAKE.EN, 31)]) with quill := { phase := .dormant, wakeAt := some 5, qtick := 7 } }

def st48 : State := Tests.st [(QL.WAKE.EN, 31), (QL.STAT.PSTATE, psLightRest)]

def st49 : State := { (Tests.st [(QL.ILK.STAT.B_CLOSED, 1)]) with quill := { phase := .up, step := 7 } }

def st50 : State := Tests.st [(QL.ILK.STAT.STATE, 4)]

def st51 : State := Tests.st []

def st52 : State := Tests.st []

def st53 : State := { Tests.st [] with quill := { Tests.up.quill with tamperWait := [1] }, vault := { lc := 2, keys := true, deviceKey := 9 } }

def st54 : State := { Tests.st [] with quill := { Tests.up.quill with entering := some 1 } }

def st55 : State := { Tests.st [(QL.STAT.PSTATE, psLightRest)] with quill := { Tests.up.quill with waking := true } }

/-- The hypotheses of every clause of QuillWatch hold together somewhere. -/
theorem witness_QuillWatch :
    (∃ (s : State), (s.quillOn = true) ∧ (s.get QL.ILK.STAT.STATE = 0) ∧ (∀ k : Fin 16, s.flag (QL.RULE.CFG.EN k) = false)) ∧
    (∃ (s : State), (s.quillOn = true)) ∧
    (∃ (die : BitVec 16) (s : State), (s.quillOn = true) ∧ (s.coreUp = true) ∧ (sext 16 die.toNat < sext 16 (s.get QL.THERM.WARN)) ∧ (∀ k : Fin 16, s.flag (QL.RULE.CFG.EN k) = false)) ∧
    (∃ (at_ : Nat) (s : State), (s.quill.wakeAt = some at_) ∧ (at_ ≤ s.quill.qtick) ∧ (s.quill.phase = .dormant) ∧ (s.flag QL.STAT.WAKE_INHIBIT = false) ∧ (s.quill.entering = none) ∧ (s.quill.waking = false) ∧ (s.wakeEnabled 1 3 = true)) ∧
    (∃ (io : Bool) (s : State), (s.quill.phase = .up) ∧ (s.pstate = psLightRest) ∧ (s.flag QL.STAT.WAKE_INHIBIT = false) ∧ (s.quill.entering = none) ∧ (s.quill.waking = false) ∧ (s.wakeEnabled (if io then 5 else 4) 1 = true)) ∧
    (∃ (s : State), (s.quillOn = true) ∧ (s.quill.step ≠ 11)) ∧
    (∃ (s : State), (s.quillOn = true) ∧ (s.get QL.ILK.STAT.STATE = 4)) ∧
    (∃ (us : Nat) (taken : Bool) (s : State), (s.quillOn = true) ∧ (2 ≤ us) ∧ (10 < us ∨ taken = true) ∧ (s.quill.tamperOnce = false)) ∧
    (∃ (s : State), (s.quillOn = true)) ∧
    (∃ (c : Nat) (cs : List Nat) (s : State), (s.quill.tamperWait = c :: cs)) ∧
    (∃ (s : State), (s.quill.entering = some 1) ∧ (s.quill.heldWake = none)) ∧
    (∃ (s : State), (s.quill.waking = true) ∧ (s.pstate = psLightRest)) :=
  ⟨⟨st44, by decide⟩,
   ⟨st45, by decide⟩,
   ⟨(1600 : BitVec 16), st46, by decide⟩,
   ⟨(5 : Nat), st47, by decide⟩,
   ⟨(true : Bool), st48, by decide⟩,
   ⟨st49, by decide⟩,
   ⟨st50, by decide⟩,
   ⟨(2 : Nat), (true : Bool), st51, by decide⟩,
   ⟨st52, by decide⟩,
   ⟨(1 : Nat), ([] : List Nat), st53, by decide⟩,
   ⟨st54, by decide⟩,
   ⟨st55, by decide⟩⟩

def st56 : State := Tests.st []

def st57 : State := Tests.st []

def st58 : State := Tests.st []

def st59 : State := Tests.st []

def st60 : State := Tests.st [(PSC.LINK.TRAINED 1, 1), (PSC.LINK.TEMP 1, 50)]

def st61 : State := Tests.st []

def st62 : State := Tests.st []

def st63 : State := { Tests.st [] with quill := { Tests.up.quill with smbUnread := [{ index := 2 }] } }

def st64 : State := Tests.st []

def st65 : State := Tests.st []

def st66 : State := { (Tests.st [(QL.WAKE.EN, 31)]) with quill := { phase := .dormant } }

def st67 : State := Tests.st []

def st68 : State := Tests.st []

def st69 : State := { Tests.st [] with quill := { Tests.up.quill with smbUnread := [{ index := 2, ruleAlert := true }] } }

def st70 : State := Tests.st []

/-- The hypotheses of every clause of SmbusAccess hold together somewhere. -/
theorem witness_SmbusAccess :
    (∃ (s : State), (s.quillOn = true)) ∧
    (∃ (s : State), (s.quillOn = true)) ∧
    (∃ (s : State), (s.quillOn = true)) ∧
    (∃ (s : State), (s.quillOn = true)) ∧
    (∃ (w : Wing) (s : State), (s.quillOn = true) ∧ (s.flag (PSC.LINK.TRAINED w) = true)) ∧
    (∃ (s : State), (s.quillOn = true)) ∧
    (∃ (s : State), (s.quillOn = true)) ∧
    (∃ (e : SmbEntry) (rest : List SmbEntry) (s : State), (s.quillOn = true) ∧ (s.quill.smbUnread = e :: rest)) ∧
    (∃ (s : State), (s.quillOn = true)) ∧
    (∃ (s : State), (s.quillOn = true)) ∧
    (∃ (s : State), (s.quill.phase = .dormant) ∧ (s.flag QL.STAT.WAKE_INHIBIT = false) ∧ (s.quill.entering = none) ∧ (s.quill.waking = false) ∧ (s.wakeEnabled 2 3 = true)) ∧
    (∃ (s : State), (s.quill.phase = .up)) ∧
    (∃ (s : State), (s.quillOn = true)) ∧
    (∃ (s : State), (s.quillOn = true) ∧ (s.alertLow = true)) ∧
    (∃ (ms : Nat) (s : State), (35 < ms)) :=
  ⟨⟨st56, by decide⟩,
   ⟨st57, by decide⟩,
   ⟨st58, by decide⟩,
   ⟨st59, by decide⟩,
   ⟨(1 : Wing), st60, by decide⟩,
   ⟨st61, by decide⟩,
   ⟨st62, by decide⟩,
   ⟨({ index := 2 } : SmbEntry), ([] : List SmbEntry), st63, by decide⟩,
   ⟨st64, by decide⟩,
   ⟨st65, by decide⟩,
   ⟨st66, by decide⟩,
   ⟨st67, by decide⟩,
   ⟨st68, by decide⟩,
   ⟨st69, by decide⟩,
   ⟨(36 : Nat), st70, by decide⟩⟩

def st71 : State := Tests.st [(CLK.PLL_STAT.STATE, pllAcquire), (CLK.PLL_CTL.BAND_AUTO, 0), (CLK.PLL_CTL.BAND_SEL, 3), (CLK.BAND.DIV.VALID 3, 1), (CLK.BAND.DIV.PDIV 3, 1), (CLK.BAND.DIV.NINT 3, 120), (CLK.BAND.FRAC.NUM 3, 0), (CLK.BAND.FRAC.DEN 3, 1), (CLK.BAND.RANGE.REF_MIN 3, 10000), (CLK.BAND.RANGE.REF_MAX 3, 10000)]

def st72 : State := { Tests.st [(CLK.PLL_STAT.STATE, pllAcquire)] with clk := {} }

def st73 : State := { Tests.st [(CLK.PLL_STAT.STATE, pllAcquire)] with clk := { untried := [15] } }

def st74 : State := Tests.st [(CLK.PLL_STAT.STATE, pllLocked)]

def st75 : State := Tests.st [(CLK.PLL_STAT.STATE, pllLocked)]

def st76 : State := Tests.st [(CLK.PLL_STAT.STATE, pllLocked)]

def st77 : State := Tests.st [(CLK.PLL_STAT.STATE, pllLocked), (CLK.PLL_CTL.AUTO_REBAND, 1), (CLK.PLL_STAT.BAND_MARGIN, 1), (TLL.STAT.LOCKED 4, 1)]

def st78 : State := { Tests.st [(CLK.PLL_STAT.STATE, pllCoast), (CLK.PLL_CTL.COAST_LIMIT, 0)] with tick := 150000 }

def st79 : State := Tests.st [(CLK.PLL_STAT.STATE, pllCoast), (CLK.PLL_CTL.AUTO_RELOCK, 1)]

def st80 : State := { Tests.st [(CLK.PLL_STAT.STATE, pllRelock)] with clk := { frozenWord := 0xFFFF } }

def st81 : State := { Tests.st [(CLK.PLL_STAT.STATE, pllCoast)] with clk := { qualified := true } }

def st82 : State := Tests.st [(CLK.PLL_STAT.STATE, pllLocked)]

def st83 : State := Tests.st [(CLK.PLL_STAT.STATE, pllLocked), (SMODE.CTL.MODE_CUR 7, mMeasure)]

set_option maxRecDepth 20000 in
/-- The hypotheses of every clause of ClockRows hold together somewhere. -/
theorem witness_ClockRows :
    (∃ (fkHz : BitVec 18) (k : Nat) (rest : List Nat) (s : State), (s.pll = pllAcquire) ∧ (s.bandTries fkHz.toNat = k :: rest)) ∧
    (∃ (s : State), (s.pll = pllAcquire) ∧ (s.lec.jobs = [])) ∧
    (∃ (k : Nat) (rest : List Nat) (s : State), (s.pll = pllAcquire) ∧ (s.clk.untried = k :: rest) ∧ (k < 16)) ∧
    (∃ (s : State), (s.pll = pllLocked)) ∧
    (∃ (s : State), (s.pll = pllLocked)) ∧
    (∃ (w : BitVec 16) (s : State), (s.pll = pllLocked) ∧ (w.toNat < 0x1000 ∨ 0xF000 < w.toNat)) ∧
    (∃ (s : State), (s.pll = pllLocked) ∧ (s.flag CLK.PLL_CTL.AUTO_REBAND = true) ∧ (s.flag CLK.PLL_STAT.BAND_MARGIN = true) ∧ (s.anyActive3 = false)) ∧
    (∃ (s : State), (s.pll = pllCoast ∨ s.pll = pllRelock) ∧ (s.clk.freezeAt + s.coastLimit ≤ s.tick)) ∧
    (∃ (s : State), (s.pll = pllCoast)) ∧
    (∃ (s : State), (s.pll = pllRelock) ∧ (s.clk.frozenWord < 2 ^ 16)) ∧
    (∃ (s : State), (s.pll = pllCoast) ∧ (s.clk.qualified = true)) ∧
    (∃ (s : State), (s.anyActive3 = false) ∧ (s.pll ≠ pllAcquire)) ∧
    (∃ (s : State), (s.anyActive3 = true)) :=
  ⟨⟨(100000 : BitVec 18), (3 : Nat), ([] : List Nat), st71, by decide⟩,
   ⟨st72, by decide⟩,
   ⟨(15 : Nat), ([] : List Nat), st73, by decide⟩,
   ⟨st74, by decide⟩,
   ⟨st75, by decide⟩,
   ⟨(0xF001 : BitVec 16), st76, by decide⟩,
   ⟨st77, by decide⟩,
   ⟨st78, by decide⟩,
   ⟨st79, by decide⟩,
   ⟨st80, by decide⟩,
   ⟨st81, by decide⟩,
   ⟨st82, by decide⟩,
   ⟨st83, by decide⟩⟩

def st84 : State := Tests.st []

def st85 : State := Tests.st [(CLK.PLL_STAT.STATE, pllLocked), (CLK.PLL_STAT.BAND_CUR, 2)]

def st86 : State := { Tests.st [(TLL.STAT.ANCHOR_PEND 5, 1)] with clk := { anchorWait := [(5, 123456789012345)] } }

def st87 : State := Tests.st [(CLK.PLL_STAT.STATE, pllLocked), (SMODE.CTL.MODE_CUR 5, 2), (TLL.STAT.LOCKED 5, 1)]

def st88 : State := { Tests.st [(CLK.PLL_STAT.STATE, pllLocked), (SMODE.CTL.MODE_CUR 5, 2), (TLL.STAT.LOCKED 5, 1)] with clk := { badRun := [(5, 15)] } }

def st89 : State := Tests.st [(CLKOUT.CTL.EN 2, 1)]

def st90 : State := { Tests.st [(CLK.OUT_UPDATE.BUSY, 1)] with clk := { active := [(2, { en := true })] } }

def st91 : State := { Tests.st [(CLK.OUT_UPDATE.BUSY, 1)] with tick := 80, clk := { shadow := [(1, { en := true, div := 3 * 2 ^ 20 })] } }

def st92 : State := Tests.cmd 0x204 [0xF] []

def st93 : State := Tests.cmd 0x205 [5, 1, 2, 3, 4] []

def st94 : State := Tests.cmd 0x206 [] [(CLK.PLL_STAT.STATE, pllLocked)]

/-- The hypotheses of every clause of ClockTables hold together somewhere. -/
theorem witness_ClockTables :
    (∃ (k : Fin 16) (w : Fin 4) (r : RegRow) (s : State), (s.bandInUse k = false) ∧ (rowAt (CLK.BAND.RANGE.reg k + 4 * w) = some r)) ∧
    (∃ (k : Fin 16) (s : State), (s.bandInUse k = true)) ∧
    (∃ (k : Sector) (s : State), (s.ensembleOf k = [k.val]) ∧ (s.flag (TLL.STAT.ANCHOR_PEND k) = true) ∧ (s.idleMode k = true) ∧ (s.chainOf k = none)) ∧
    (∃ (k : Sector) (e : Int) (s : State), (s.tllRuns k = true) ∧ (s.flag (TLL.STAT.LOCKED k) = true) ∧ (e.natAbs ≤ 500)) ∧
    (∃ (k : Sector) (e : Int) (s : State), (s.tllRuns k = true) ∧ (s.flag (TLL.STAT.LOCKED k) = true) ∧ (500 < e.natAbs) ∧ (15 ≤ Tab.get (fun _ => 0) s.clk.badRun k)) ∧
    (∃ (s : State), (s.flag CLK.OUT_UPDATE.BUSY = false)) ∧
    (∃ (n : Fin 4) (s : State), (s.flag CLK.OUT_UPDATE.BUSY = true) ∧ ((Tab.get outDefault s.clk.active n).en = true)) ∧
    (∃ (u : Nat) (s : State), (s.flag CLK.OUT_UPDATE.BUSY = true) ∧ (s.updateInstant = some u) ∧ (∀ n : Fin 4, (Tab.get outDefault s.clk.shadow n).outOfRange = false) ∧ (s.lec.jobs = [])) ∧
    (∃ (p : Packet) (u : State) (s : State), (s.start 0x204 = some (p, u)) ∧ (s.flag CLK.OUT_UPDATE.BUSY = false) ∧ (p.arg 0 = 0xF) ∧ (∀ n : Fin 4, p.arg (4 + 4 * n) % 2 = 0)) ∧
    (∃ (p : Packet) (u : State) (s : State), (s.start 0x205 = some (p, u)) ∧ (s.bandInUse (p.arg 0) = false) ∧ (p.arg 0 < 16)) ∧
    (∃ (p : Packet) (u : State) (s : State), (s.start 0x206 = some (p, u)) ∧ (s.anyActive3 = false)) :=
  ⟨⟨(15 : Fin 16), (3 : Fin 4), ((rowAt (CLK.BAND.RANGE.reg 15 + 12)).getD ⟨0, [], []⟩ : RegRow), st84, by decide⟩,
   ⟨(2 : Fin 16), st85, by decide⟩,
   ⟨(5 : Sector), st86, by decide⟩,
   ⟨(5 : Sector), (-300 : Int), st87, by decide⟩,
   ⟨(5 : Sector), (-501 : Int), st88, by decide⟩,
   ⟨st89, by decide⟩,
   ⟨(2 : Fin 4), st90, by decide⟩,
   ⟨(640 : Nat), st91, by decide⟩,
   ⟨(((st92.start 0x204).map (·.1)).getD {} : Packet), (((st92.start 0x204).map (·.2)).getD st92 : State), st92, by decide⟩,
   ⟨(((st93.start 0x205).map (·.1)).getD {} : Packet), (((st93.start 0x205).map (·.2)).getD st93 : State), st93, by decide⟩,
   ⟨(((st94.start 0x206).map (·.1)).getD {} : Packet), (((st94.start 0x206).map (·.2)).getD st94 : State), st94, by decide⟩⟩

def st95 : State := Tests.st [(RUL.CTL.ROLE, 1), (RUL.STAT.STATE, chRuled)]

def st96 : State := Tests.st [(CLK.PLL_STAT.STATE, pllLocked)]

def st97 : State := Tests.st [(RUL.STAT.STATE, chTrain), (RUL.CTL.ROLE, 2)]

def st98 : State := Tests.st [(RUL.STAT.STATE, chTrain), (RUL.CTL.ROLE, 2)]

def st99 : State := Tests.st [(RUL.STAT.STATE, chRuled), (RUL.CTL.ROLE, 2), (RUL.STAT.ADDR, 9)]

def st100 : State := Tests.st [(RUL.STAT.STATE, chBroken)]

def st101 : State := Tests.st [(RUL.STAT.STATE, chRuled), (RUL.CRC_CNT.CRC, 65535)]

def st102 : State := { Tests.st [] with rul := { forward := [{ hops := 31 }] } }

def st103 : State := { Tests.st [(RUL.STAT.STATE, chRuled)] with rul := { sending := true, offset := 77, ready := [{ kind := 3 }] } }

def st104 : State := { Tests.st [(RUL.STAT.STATE, chRuled), (RUL.CTL.ROLE, 1)] with rul := { measId := 65535 } }

def st105 : State := Tests.st [(RUL.STAT.STATE, chRuled), (RUL.CTL.ROLE, 1)]

def st106 : State := Tests.st [(RUL.STAT.STATE, chRuled), (RUL.CTL.ROLE, 1)]

def st107 : State := Tests.st [(RUL.STAT.STATE, chRuled), (RUL.CTL.ROLE, 2)]

def st108 : State := Tests.st [(RUL.STAT.STATE, chDeskew)]

/-- The hypotheses of every clause of ChainLink hold together somewhere. -/
theorem witness_ChainLink :
    (∃ (role : Fin 4) (s : State), ((List.range 8).any (fun k => s.modeOf k = mRun) = false) ∧ (role = 0) ∧ (s.lec.jobs = [])) ∧
    (∃ (role : Fin 4) (s : State), ((List.range 8).any (fun k => s.modeOf k = mRun) = false) ∧ (role = 1 ∨ role = 2) ∧ (s.chain = chOff) ∧ (2 ≤ s.pll) ∧ (s.lec.jobs = [])) ∧
    (∃ (s : State), (s.chain = chTrain) ∧ (s.rul.hopPending = false) ∧ (s.lec.jobs = [])) ∧
    (∃ (s : State), (s.chain = chTrain)) ∧
    (∃ (s : State), (s.chain = chRuled)) ∧
    (∃ (s : State), (s.chain = chBroken) ∧ (s.lec.jobs = [])) ∧
    (∃ (s : State), (s.slotsOn linkChain = []) ∧ (s.chain ≠ chOff)) ∧
    (∃ (f : Frame) (l : List Frame) (s : State), (s.rul.forward = f :: l)) ∧
    (∃ (f : Frame) (l : List Frame) (s : State), (s.rul.sending = true) ∧ (s.chain = chRuled) ∧ (s.rul.ready = f :: l)) ∧
    (∃ (s : State), (s.isMaster = true) ∧ (s.chainUp = true)) ∧
    (∃ (s : State), (s.isMaster = true) ∧ (s.chainUp = true)) ∧
    (∃ (s : State), (s.isMaster = true) ∧ (s.chain = chRuled)) ∧
    (∃ (s : State), (s.isMaster = false ∨ s.chain ≠ chRuled)) ∧
    (∃ (s : State), (s.chain = chDeskew) ∧ (s.lec.jobs = [])) :=
  ⟨⟨(0 : Fin 4), st95, by decide⟩,
   ⟨(2 : Fin 4), st96, by decide⟩,
   ⟨st97, by decide⟩,
   ⟨st98, by decide⟩,
   ⟨st99, by decide⟩,
   ⟨st100, by decide⟩,
   ⟨st101, by decide⟩,
   ⟨({ hops := 31 } : Frame), ([] : List Frame), st102, by decide⟩,
   ⟨({ kind := 3 } : Frame), ([] : List Frame), st103, by decide⟩,
   ⟨st104, by decide⟩,
   ⟨st105, by decide⟩,
   ⟨st106, by decide⟩,
   ⟨st107, by decide⟩,
   ⟨st108, by decide⟩⟩

def st109 : State := { Tests.st [(RUL.STAT.STATE, chRuled), (RUL.CTL.ROLE, 2)] with rul := { valid := 64 } }

def st110 : State := Tests.st [(RUL.STAT.STATE, chRuled), (RUL.CTL.ROLE, 2)]

def st111 : State := { Tests.st [(RUL.STAT.STATE, chRuled), (RUL.CTL.ROLE, 2), (RUL.ENS.EN 1, 1), (RUL.ENS.SMASK 1, 8), (SMODE.CTL.MODE_CUR 3, mSetup), (TLL.STAT.LOCKED 3, 1), (PS.RESV.HELD 3, 1), (PS.VEC_WIN.SIZE 3, 1)] with rul := { anchors := [(7, 1)] } }

def st112 : State := Tests.st [(RUL.STAT.STATE, chRuled), (RUL.CTL.ROLE, 2), (RUL.STAT.ADDR, 3)]

def st113 : State := Tests.st [(RUL.STAT.STATE, chRuled), (RUL.CTL.ROLE, 2)]

def st114 : State := { Tests.st [(RUL.STAT.STATE, chRuled), (RUL.CTL.ROLE, 2), (RUL.ENS.EN 1, 1), (RUL.ENS.SMASK 1, 8)] with scribes := [(3, { decisions := [({ chainSeq := some 0, op := opBr } : Decision)] })] }

def st115 : State := Tests.st [(RUL.STAT.STATE, chRuled), (RUL.CTL.ROLE, 2), (RUL.STAT.ADDR, 3)]

def st116 : State := Tests.st [(RUL.STAT.STATE, chRuled), (RUL.CTL.ROLE, 2)]

def st117 : State := Tests.st []

def st118 : State := Tests.st [(RUL.STAT.STATE, chRuled), (RUL.CTL.ROLE, 2), (RUL.STAT.ADDR, 3)]

def st119 : State := { Tests.st [(RUL.STAT.STATE, chRuled), (RUL.CTL.ROLE, 1)] with rul := { measId := 6, measAt := 1000 } }

/-- The hypotheses of every clause of ChainFrames hold together somewhere. -/
theorem witness_ChainFrames :
    (∃ (f : Frame) (s : State), (f.kind = ftIdle) ∧ (s.slotsOn linkChain = []) ∧ (s.chain = chRuled) ∧ (s.isMaster = false)) ∧
    (∃ (f : Frame) (s : State), (f.kind = ftAnchor) ∧ (s.slotsOn linkChain = []) ∧ (s.dbg.heldFrames = []) ∧ (s.chain = chRuled) ∧ (s.isMaster = false)) ∧
    (∃ (f : Frame) (arrive : Nat) (u : State) (s : State), (f.kind = ftStart) ∧ (s.slotsOn linkChain = []) ∧ (s.dbg.heldFrames = []) ∧ (u = s.onFrame f arrive) ∧ (u.chain = chRuled) ∧ (u.isMaster = false) ∧ (reached f.instant (u.masterTick arrive) = false) ∧ (u.chainMembers f.ens ≠ []) ∧ ((u.rul.anchors.any (·.1 = f.startGen)) = true) ∧ ((u.chainMembers f.ens).any (fun k => (u.startFails k).isSome) = false)) ∧
    (∃ (f : Frame) (arrive : Nat) (u : State) (s : State), (f.kind = ftEvent) ∧ (s.slotsOn linkChain = []) ∧ (s.dbg.heldFrames = []) ∧ (u = s.onFrame f arrive) ∧ (u.chain = chRuled) ∧ (u.isMaster = false) ∧ (u.ownFrame f = false) ∧ (reached f.instant (u.masterTick arrive) = false)) ∧
    (∃ (f : Frame) (arrive : Nat) (u : State) (s : State), (f.kind = ftCond) ∧ (s.slotsOn linkChain = []) ∧ (s.dbg.heldFrames = []) ∧ (u = s.onFrame f arrive) ∧ (u.chain = chRuled) ∧ (u.isMaster = false)) ∧
    (∃ (f : Frame) (arrive : Nat) (u : State) (k : Sector) (d : Decision) (s : State), (f.kind = ftDecide) ∧ (s.slotsOn linkChain = []) ∧ (s.dbg.heldFrames = []) ∧ (u = s.onFrame f arrive) ∧ (u.chain = chRuled) ∧ (u.isMaster = false) ∧ (reached f.instant (u.masterTick arrive) = false) ∧ (u.chainMembers f.ens = [k.val]) ∧ ((u.scribe k).decisions = [d]) ∧ (d.chainSeq = some f.seq) ∧ (d.done = none) ∧ (d.op ≠ opMatch)) ∧
    (∃ (f : Frame) (arrive : Nat) (u : State) (s : State), (f.kind = ftHalt) ∧ (s.slotsOn linkChain = []) ∧ (s.dbg.heldFrames = []) ∧ (u = s.onFrame f arrive) ∧ (u.chain = chRuled) ∧ (u.isMaster = false) ∧ (u.ownFrame f = false) ∧ (reached f.instant (u.masterTick arrive) = false)) ∧
    (∃ (f : Frame) (arrive : Nat) (u : State) (s : State), (f.kind = ftDeskew) ∧ (s.slotsOn linkChain = []) ∧ (s.dbg.heldFrames = []) ∧ (u = s.onFrame f arrive) ∧ (u.chain = chRuled) ∧ (u.isMaster = false) ∧ (reached f.instant (u.masterTick arrive) = false)) ∧
    (∃ (f : Frame) (s : State), (f.kind = ftHopval) ∧ (s.slotsOn linkChain = []) ∧ (s.dbg.heldFrames = [])) ∧
    (∃ (f : Frame) (arrive : Nat) (u : State) (s : State), (f.kind = ftFault) ∧ (s.slotsOn linkChain = []) ∧ (s.dbg.heldFrames = []) ∧ (s.ownFrame f = false) ∧ (u = s.onFrame f arrive) ∧ (u.chainUp = true) ∧ (f.cause = 0 ∨ f.cause = 3)) ∧
    (∃ (f : Frame) (arrive : Nat) (u : State) (s : State), (f.kind = ftMeas) ∧ (s.slotsOn linkChain = []) ∧ (s.dbg.heldFrames = []) ∧ (u = s.onFrame f arrive) ∧ (u.isMaster = true) ∧ (u.chainUp = true) ∧ (f.payload / 2 ^ 32 % 2 ^ 16 = u.rul.measId)) :=
  ⟨⟨({ ltick := 3, ldot := 4 } : Frame), st109, by decide⟩,
   ⟨({ kind := 1, payload := 2 ^ 43 + 5 } : Frame), st110, by decide⟩,
   ⟨({ kind := 2, payload := 2 ^ 46 + 7 * 2 ^ 40 + 500 } : Frame), (1024 : Nat), (st111.onFrame ({ kind := 2, payload := 2 ^ 46 + 7 * 2 ^ 40 + 500 } : Frame) (1024 : Nat) : State), st111, by decide⟩,
   ⟨({ kind := 3, origin := 4, payload := 9 * 2 ^ 40 + 500 } : Frame), (1024 : Nat), (st112.onFrame ({ kind := 3, origin := 4, payload := 9 * 2 ^ 40 + 500 } : Frame) (1024 : Nat) : State), st112, by decide⟩,
   ⟨({ kind := 4 } : Frame), (1024 : Nat), (st113.onFrame ({ kind := 4 } : Frame) (1024 : Nat) : State), st113, by decide⟩,
   ⟨({ kind := 5, payload := 2 ^ 46 + 2 ^ 33 + 500 } : Frame), (1024 : Nat), (st114.onFrame ({ kind := 5, payload := 2 ^ 46 + 2 ^ 33 + 500 } : Frame) (1024 : Nat) : State), (3 : Sector), ({ chainSeq := some 0, op := opBr } : Decision), st114, by decide⟩,
   ⟨({ kind := 6, origin := 4, payload := 500 } : Frame), (1024 : Nat), (st115.onFrame ({ kind := 6, origin := 4, payload := 500 } : Frame) (1024 : Nat) : State), st115, by decide⟩,
   ⟨({ kind := 7, payload := 500 } : Frame), (1024 : Nat), (st116.onFrame ({ kind := 7, payload := 500 } : Frame) (1024 : Nat) : State), st116, by decide⟩,
   ⟨({ kind := 8, payload := 2 ^ 32 + 0x1FFFF } : Frame), st117, by decide⟩,
   ⟨({ kind := 9, origin := 4, payload := 5 * 2 ^ 43 } : Frame), (1024 : Nat), (st118.onFrame ({ kind := 9, origin := 4, payload := 5 * 2 ^ 43 } : Frame) (1024 : Nat) : State), st118, by decide⟩,
   ⟨({ kind := 10, payload := 6 * 2 ^ 32 } : Frame), (5000 : Nat), (st119.onFrame ({ kind := 10, payload := 6 * 2 ^ 32 } : Frame) (5000 : Nat) : State), st119, by decide⟩⟩

def st120 : State := { Tests.st [] with rul := { actions := [{ kind := .start 1 2, instant := 0 }] } }

def st121 : State := { Tests.st [(SMODE.CTL.MODE_CUR 2, 3)] with ev := { posted := [({ code := 200, route := 4, chain := some 0 } : Posted)] } }

def st122 : State := { (Tests.st [(RUL.ENS.EN 1, 1), (RUL.ENS.SMASK 1, 64), (SCRIBE.STAT.STATE 6, scRunning)] : State) with rul := { actions := [({ kind := .halt 1, instant := 0 } : RuledAction)] } }

def st123 : State := { Tests.st [(RUL.STAT.STATE, chRuled), (RUL.CTL.ROLE, 1), (RUL.ENS_DEV.reg 1 |> fun r => ⟨r, 0, 32⟩, 2)] with tick := 100000, rul := { decisions := [({ ens := 1, seq := 3 } : ChainDecision)] } }

def st124 : State := Tests.cmd 0x801 [0] [(RUL.STAT.STATE, chRuled), (RUL.CTL.ROLE, 1)]

def st125 : State := { Tests.st [] with tick := 15000000, lec := { jobs := [({ packet := { opcode := 0x801 } } : Job)] } }

def st126 : State := Tests.cmd 0x802 [] [(RUL.STAT.STATE, chRuled), (RUL.CTL.ROLE, 1)]

def st127 : State := Tests.cmd 0x803 [0x10103, 5] []

def st128 : State := Tests.cmd 0x804 [0x501] []

def st129 : State := Tests.cmd 0x805 [] [(RUL.STAT.STATE, chRuled)]

/-- The hypotheses of every clause of ChainInstants hold together somewhere. -/
theorem witness_ChainInstants :
    (∃ (a : RuledAction) (u : State) (e : Nat) (g : Nat) (s : State), (s.takeAction (fun k => match k with | .start _ _ => true | _ => false) = some (a, u)) ∧ (a.kind = .start e g) ∧ ((u.chainMembers e).filter (fun k => u.scState k = scPriming && (u.scribe k).chain.isSome) = [])) ∧
    (∃ (q : Posted) (k : Sector) (s : State), (s.ev.posted.find? (fun p => match p.chain with | some t => s.ruledDue t | none => false) = some q) ∧ (q.route.testBit k = true) ∧ (q.code < 256) ∧ (s.modeOf k ≠ mOff)) ∧
    (∃ (a : RuledAction) (u : State) (e : Nat) (k : Sector) (s : State), (s.takeAction (fun k => match k with | .halt _ => true | _ => false) = some (a, u)) ∧ (a.kind = .halt e) ∧ (u.chainMembers e = [k.val]) ∧ (u.scState k = scRunning)) ∧
    (∃ (d : ChainDecision) (s : State), (s.isMaster = true) ∧ (s.chain = chRuled) ∧ (s.rul.conds = []) ∧ (s.rul.decisions = [d]) ∧ (d.reached + s.chainLat / 2 ≤ s.masterNow)) ∧
    (∃ (p : Packet) (u : State) (s : State), (s.start 0x801 = some (p, u)) ∧ ((List.range 8).any (fun k => s.modeOf k = mRun) = false) ∧ (p.arg 0 = 0) ∧ (s.lec.jobs = [])) ∧
    (∃ (j : Job) (s : State), (s.findJob (fun j => j.packet.opcode = 0x801) = some j) ∧ (s.rul.roleAt + usTicks 10000 ≤ s.tick)) ∧
    (∃ (p : Packet) (u : State) (s : State), (s.start 0x802 = some (p, u)) ∧ (s.isMaster = true) ∧ (s.chain = chRuled)) ∧
    (∃ (p : Packet) (u : State) (s : State), (s.start 0x803 = some (p, u)) ∧ (s.ensClash (p.arg 0) (p.arg 2) = false) ∧ (p.arg 0 < 4)) ∧
    (∃ (p : Packet) (u : State) (s : State), (s.start 0x804 = some (p, u))) ∧
    (∃ (p : Packet) (u : State) (s : State), (s.start 0x805 = some (p, u))) :=
  ⟨⟨({ kind := .start 1 2, instant := 0 } : RuledAction), (Tests.st [] : State), (1 : Nat), (2 : Nat), st120, by decide⟩,
   ⟨({ code := 200, route := 4, chain := some 0 } : Posted), (2 : Sector), st121, by decide⟩,
   ⟨({ kind := .halt 1, instant := 0 } : RuledAction), (Tests.st [(RUL.ENS.EN 1, 1), (RUL.ENS.SMASK 1, 64), (SCRIBE.STAT.STATE 6, scRunning)] : State), (1 : Nat), (6 : Sector), st122, by decide⟩,
   ⟨({ ens := 1, seq := 3 } : ChainDecision), st123, by decide⟩,
   ⟨(((st124.start 0x801).map (·.1)).getD {} : Packet), (((st124.start 0x801).map (·.2)).getD st124 : State), st124, by decide⟩,
   ⟨({ packet := { opcode := 0x801 } } : Job), st125, by decide⟩,
   ⟨(((st126.start 0x802).map (·.1)).getD {} : Packet), (((st126.start 0x802).map (·.2)).getD st126 : State), st126, by decide⟩,
   ⟨(((st127.start 0x803).map (·.1)).getD {} : Packet), (((st127.start 0x803).map (·.2)).getD st127 : State), st127, by decide⟩,
   ⟨(((st128.start 0x804).map (·.1)).getD {} : Packet), (((st128.start 0x804).map (·.2)).getD st128 : State), st128, by decide⟩,
   ⟨(((st129.start 0x805).map (·.1)).getD {} : Packet), (((st129.start 0x805).map (·.2)).getD st129 : State), st129, by decide⟩⟩

def st130 : State := Tests.st [(RING.SIZE.SQ_LOG 3, 8)]

def st131 : State := Tests.st [(RING.SIZE.SQ_LOG 3, 8)]

def st132 : State := Tests.st [(LEC.STAT.RUNNING, 1), (RING.SIZE.SQ_LOG 4, 8), (RING.CTL.EN 4, 1), (RING.SQ_TAIL.TAIL 4, 3)]

def st133 : State := Tests.st [(LEC.STAT.RUNNING, 1), (RING.SIZE.SQ_LOG 4, 8), (RING.CTL.EN 4, 1), (RING.SQ_TAIL.TAIL 4, 3)]

def st134 : State := { Tests.st [] with tick := 4000, lec := { waiting := [{ ring := 1, opcode := 1, deadline := 2 }] } }

def st135 : State := { Tests.st [(RING.SIZE.CQ_LOG 4, 4), (RING.STAT.OUTSTANDING 4, 1), (RING.CQ_BASE_LO.ADDR 4, 16)] with lec := { replies := [{ ring := 4, opcode := 1, tag := 9, noirq := true }] } }

def st136 : State := { Tests.st [(RING.STAT.OUTSTANDING 4, 2)] with lec := { replies := [{ ring := 4, opcode := 1, tag := 9, lecGen := 3 }] } }

def st137 : State := (fun b : State => { b with tick := 20000, host := { b.host with msixUnmask := [4] }, lec := { coal := [(2, 1)], coalAt := [(2, 10)] } }) (Tests.st [(RING.CTL.COAL_US 2, 10)])

def st138 : State := Tests.st [(RING.SIZE.CQ_LOG 3, 8)]

def st139 : State := Tests.st [(RING.SQ_TAIL.TAIL 3, 8)]

def st140 : State := Tests.st [(RING.SQ_TAIL.TAIL 0, 5)]

def st142 : State := (fun b : State => { b with host := { b.host with d3hot := true, held := [7], msixUnmask := [7] } }) (Tests.st [])

/-- The hypotheses of every clause of Rings hold together somewhere. -/
theorem witness_Rings :
    (∃ (r : Ring) (v : Word) (s : State), (s.awake = true) ∧ (v.toNat % 2 ^ 16 < 2 ^ s.get (RING.SIZE.SQ_LOG r))) ∧
    (∃ (r : Ring) (v : Word) (s : State), (s.awake = true) ∧ (2 ^ s.get (RING.SIZE.SQ_LOG r) ≤ v.toNat % 2 ^ 16)) ∧
    (∃ (r : Ring) (header : BitVec 128) (s : State), (s.lecReads = true) ∧ (s.flag (RING.CTL.EN r) = true) ∧ (s.host.linkUp = true) ∧ (1 ≤ s.sqReady r) ∧ (header.toNat / 2 ^ 32 % 256 = 0) ∧ (headerOk r header.toNat [] = true)) ∧
    (∃ (r : Ring) (header : BitVec 128) (params : List Word) (s : State), (s.lecReads = true) ∧ (s.flag (RING.CTL.EN r) = true) ∧ (s.host.linkUp = true) ∧ (1 + header.toNat / 2 ^ 32 % 256 ≤ s.sqReady r) ∧ (params.length = 4 * (header.toNat / 2 ^ 32 % 256)) ∧ (headerOk r header.toNat params = false)) ∧
    (∃ (p : Packet) (rest : List Packet) (s : State), (s.lec.waiting = p :: rest) ∧ (s.overdue p = true)) ∧
    (∃ (r : Ring) (x : Reply) (rest : List Reply) (s : State), (s.lec.replies = x :: rest) ∧ (x.ring = r.val) ∧ (x.result = []) ∧ (x.lecGen = s.get LEC.STAT.GEN) ∧ (x.noirq = true) ∧ (x.opcode ≠ 0x004) ∧ (s.cqRoom x = true) ∧ (s.slotsOn 0x90 = []) ∧ (s.dbg.heldReplies = []) ∧ (s.get (RING.CQ_TAIL.TAIL r) + 1 < s.cqSize r)) ∧
    (∃ (r : Ring) (x : Reply) (rest : List Reply) (s : State), (s.lec.replies = x :: rest) ∧ (x.ring = r.val) ∧ (x.lecGen ≠ s.get LEC.STAT.GEN)) ∧
    (∃ (r : Ring) (s : State), (s.get (RING.CTL.COAL_US r) ≠ 0) ∧ (Tab.get (fun _ => 0) s.lec.coal r ≠ 0) ∧ (Tab.get (fun _ => 0) s.lec.coalAt r + 1500 * s.get (RING.CTL.COAL_US r) ≤ s.tick) ∧ (s.host.d3hot = false) ∧ (s.host.msixUnmask.contains (2 + r) = true)) ∧
    (∃ (r : Ring) (v : Word) (s : State), (s.awake = true) ∧ (v.toNat % 2 ^ 16 < s.cqSize r)) ∧
    (∃ (r : Ring) (v : Word) (s : State), (s.awake = true) ∧ (s.flag (RING.CTL.EN r) = false) ∧ (v.getLsbD 31 = true)) ∧
    (∃ (s : State), (s.mainOn = true)) ∧
    (∃ (v : Nat) (s : State), (s.host.held = [v]) ∧ (s.host.msixUnmask.contains v = true)) :=
  ⟨⟨(3 : Ring), (5 : Word), st130, by decide⟩,
   ⟨(3 : Ring), (256 : Word), st131, by decide⟩,
   ⟨(4 : Ring), (0x00012001 : BitVec 128), st132, by decide⟩,
   ⟨(4 : Ring), (0x00011001 : BitVec 128), ([] : List Word), st133, by decide⟩,
   ⟨({ ring := 1, opcode := 1, deadline := 2 } : Packet), ([] : List Packet), st134, by decide⟩,
   ⟨(4 : Ring), ({ ring := 4, opcode := 1, tag := 9, noirq := true } : Reply), ([] : List Reply), st135, by decide⟩,
   ⟨(4 : Ring), ({ ring := 4, opcode := 1, tag := 9, lecGen := 3 } : Reply), ([] : List Reply), st136, by decide⟩,
   ⟨(2 : Ring), st137, by decide⟩,
   ⟨(3 : Ring), (5 : Word), st138, by decide⟩,
   ⟨(3 : Ring), (0x80000000 : Word), st139, by decide⟩,
   ⟨st140, by decide⟩,
   ⟨(7 : Nat), st142, by decide⟩⟩

def st143 : State := Tests.cmd 0x001 [] []

def st144 : State := Tests.cmd 0x007 [] [(CAL.TEMP.TEMP 3, 77)]

def st145 : State := Tests.cmd 0x002 [] []

def st146 : State := Tests.cmd 0x003 [2] [(SMODE.CTL.MODE_CUR 3, 2)]

def st147 : State := Tests.cmd 0x003 [8] []

def st148 : State := Tests.cmd 0x004 [23000, 0, 0] [(QL.REST.MAX_DEPTH, 2)]

def st149 : State := Tests.cmd 0x004 [239, 0, 0] [(QL.REST.MAX_DEPTH, 2)]

def st150 : State := Tests.cmd 0x005 [0x0701] []

def st151 : State := Tests.cmd 0x006 [0] []

def st152 : State := Tests.cmd 0x105 [1, 8, 0, 0, 0, 0] [(PS.VEC_WIN.SIZE 1, 10)]

def st153 : State := Tests.cmd 0x105 [1, 8, 8, 0, 0, 0] [(SMODE.CTL.MODE_CUR 1, mRun)]

/-- The hypotheses of every clause of DeviceCommands hold together somewhere. -/
theorem witness_DeviceCommands :
    (∃ (p : Packet) (u : State) (s : State), (s.start 0x001 = some (p, u))) ∧
    (∃ (p : Packet) (u : State) (s : State), (s.start 0x007 = some (p, u))) ∧
    (∃ (p : Packet) (u : State) (s : State), (s.start 0x002 = some (p, u))) ∧
    (∃ (p : Packet) (u : State) (s : State), (s.start 0x003 = some (p, u)) ∧ (p.arg 0 < 8) ∧ (p.target % 256 = 0)) ∧
    (∃ (p : Packet) (u : State) (s : State), (s.start 0x003 = some (p, u)) ∧ (8 ≤ p.arg 0)) ∧
    (∃ (p : Packet) (u : State) (d : Nat) (s : State), (s.start 0x004 = some (p, u)) ∧ (p.arg 1 < 2) ∧ (s.restChoice (p.arg 0) (decide (p.arg 1 = 1)) = d) ∧ (0 < d) ∧ (p.arg 0 ≠ 2 ^ 64 - 1)) ∧
    (∃ (p : Packet) (u : State) (s : State), (s.start 0x004 = some (p, u)) ∧ (p.arg 1 < 2) ∧ (s.restChoice (p.arg 0) (decide (p.arg 1 = 1)) = 0)) ∧
    (∃ (p : Packet) (u : State) (d : Nat) (s : State), (s.start 0x005 = some (p, u)) ∧ (blockDomain (p.arg 0) (p.arg 1) = some d) ∧ (((blockSector (p.arg 0) (p.arg 1)).any fun k => decide (s.modeOf k = mRun)) = false)) ∧
    (∃ (p : Packet) (u : State) (s : State), (s.start 0x006 = some (p, u)) ∧ (s.lecLocked = false) ∧ (p.arg 0 < 2) ∧ (s.lec.jobs = [])) ∧
    (∃ (p : Packet) (u : State) (s : State), (s.start 0x105 = some (p, u)) ∧ (p.arg 0 < 8) ∧ (s.modeOf (p.arg 0) ≠ mRun) ∧ (p.arg 1 ≤ s.lineLimit (p.arg 0)) ∧ (p.arg 1 % 8 = 0) ∧ (p.arg 2 = 0) ∧ (p.arg 3 % 64 = 0)) ∧
    (∃ (p : Packet) (u : State) (s : State), (s.start 0x105 = some (p, u)) ∧ (p.arg 0 < 8) ∧ (s.modeOf (p.arg 0) = mRun)) :=
  ⟨⟨(((st143.start 0x001).map (·.1)).getD {} : Packet), (((st143.start 0x001).map (·.2)).getD State.reset : State), st143, by decide⟩,
   ⟨(((st144.start 0x007).map (·.1)).getD {} : Packet), (((st144.start 0x007).map (·.2)).getD State.reset : State), st144, by decide⟩,
   ⟨(((st145.start 0x002).map (·.1)).getD {} : Packet), (((st145.start 0x002).map (·.2)).getD State.reset : State), st145, by decide⟩,
   ⟨(((st146.start 0x003).map (·.1)).getD {} : Packet), (((st146.start 0x003).map (·.2)).getD State.reset : State), st146, by decide⟩,
   ⟨(((st147.start 0x003).map (·.1)).getD {} : Packet), (((st147.start 0x003).map (·.2)).getD State.reset : State), st147, by decide⟩,
   ⟨(((st148.start 0x004).map (·.1)).getD {} : Packet), (((st148.start 0x004).map (·.2)).getD State.reset : State), (2 : Nat), st148, by decide⟩,
   ⟨(((st149.start 0x004).map (·.1)).getD {} : Packet), (((st149.start 0x004).map (·.2)).getD State.reset : State), st149, by decide⟩,
   ⟨(((st150.start 0x005).map (·.1)).getD {} : Packet), (((st150.start 0x005).map (·.2)).getD State.reset : State), (0x17 : Nat), st150, by decide⟩,
   ⟨(((st151.start 0x006).map (·.1)).getD {} : Packet), (((st151.start 0x006).map (·.2)).getD State.reset : State), st151, by decide⟩,
   ⟨(((st152.start 0x105).map (·.1)).getD {} : Packet), (((st152.start 0x105).map (·.2)).getD State.reset : State), st152, by decide⟩,
   ⟨(((st153.start 0x105).map (·.1)).getD {} : Packet), (((st153.start 0x105).map (·.2)).getD State.reset : State), st153, by decide⟩⟩

def st155 : State := Tests.st []

def st156 : State := Tests.st []

def st157 : State := { Tests.st [] with dbg := { tapInstr := 3 } }

def st158 : State := Tests.st []

def st159 : State := { Tests.st [] with lec := { locked := some .append } }

def st160 : State := { Tests.st [(DEBUG.STATUS.DEFERRED, 1)] with tick := 6100, lec := { locked := some .append }, dbg := { haltAt := 100 } }

def st161 : State := Tests.st [(LEC.STAT.HALTED, 1)]

def st162 : State := Tests.st [(LEC.STAT.HALTED, 1)]

def st163 : State := Tests.st []

def st164 : State := { Tests.st [] with vault := { lc := 2 } }

def st165 : State := Tests.cmd 0x704 [0x180, 0x1000, 5] []

def st166 : State := { Tests.st [(RING.SIZE.CQ_LOG 4, 4)] with tick := 15005, dbg := { heldReplies := [{ ring := 4, opcode := 1, tag := 9, heldAt := 5 }] } }

def st167 : State := { Tests.st [] with dbg := { tries := [(0x28, 4)] } }

def st168 : State := { Tests.st [] with dbg := { tries := [(0x60, 2)] } }

/-- The hypotheses of every clause of DebugAccess hold together somewhere. -/
theorem witness_DebugAccess :
    (∃ (code : BitVec 8) (s : State), (s.tapOn = true) ∧ (code.toNat ≠ tiExtest ∧ code.toNat ≠ tiClamp ∧ code.toNat ≠ tiHighz)) ∧
    (∃ (code : BitVec 8) (s : State), (s.tapOn = true) ∧ (code.toNat = tiExtest ∨ code.toNat = tiClamp ∨ code.toNat = tiHighz)) ∧
    (∃ (s : State), (s.tapOn = true) ∧ (s.dbg.tapInstr = tiExtest ∨ s.dbg.tapInstr = tiPreload)) ∧
    (∃ (s : State), (s.mainOn = true) ∧ (s.dbgGated = false) ∧ (s.flag DEBUG.STATUS.DEFERRED = false) ∧ (s.flag LEC.STAT.HALTED = false) ∧ (s.lecLocked = false)) ∧
    (∃ (s : State), (s.mainOn = true) ∧ (s.dbgGated = false) ∧ (s.flag DEBUG.STATUS.DEFERRED = false) ∧ (s.flag LEC.STAT.HALTED = false) ∧ (s.lecLocked = true)) ∧
    (∃ (s : State), (s.flag DEBUG.STATUS.DEFERRED = true) ∧ (s.dbg.haltAt + 6000 ≤ s.tick) ∧ (s.lecLocked = true) ∧ (s.err.shadows = [])) ∧
    (∃ (s : State), (s.mainOn = true) ∧ (s.dbgGated = false) ∧ (s.flag DEBUG.STATUS.DEFERRED = false) ∧ (s.lec.broken = [])) ∧
    (∃ (s : State), (s.mainOn = true) ∧ (s.dbgGated = false) ∧ (s.flag DEBUG.STATUS.DEFERRED = false) ∧ (s.lecLocked = false)) ∧
    (∃ (i : Fin 4) (v : Word) (s : State), (s.awake = true) ∧ (s.dbgGated = false) ∧ (v.getLsbD 31 = true) ∧ (s.rwlOpen = true) ∧ (s.flag (DEBUG.INJ.CTL.EN i) = false)) ∧
    (∃ (v : Word) (s : State), (s.awake = true) ∧ (v.getLsbD 31 = true) ∧ (s.rwlOpen = false)) ∧
    (∃ (p : Packet) (u : State) (s : State), (s.start 0x704 = some (p, u)) ∧ (s.rwlOpen = true) ∧ (s.slotsOn (p.arg 0) = []) ∧ (s.flag (DEBUG.INJ.CTL.EN 0) = false) ∧ (linkKnown (p.arg 0) = true) ∧ (p.arg 1 = 1 ∨ p.arg 1 = 2 ∨ p.arg 1 = 3) ∧ (p.arg 2 ≠ 0) ∧ (p.arg 3 ≠ 0)) ∧
    (∃ (x : Reply) (s : State), (s.dbg.heldFrames = []) ∧ (s.dbg.heldReplies = [x]) ∧ (x.heldAt + 15000 ≤ s.tick) ∧ (s.cqRoom x = true) ∧ (x.opcode ≠ 0x004) ∧ (x.result = []) ∧ (s.get (RING.CQ_TAIL.TAIL x.ring) + 1 < s.cqSize x.ring) ∧ (s.cqSize x.ring ≤ 2 ^ 16)) ∧
    (∃ (link : BitVec 8) (s : State), (Tab.get (fun _ => 0) s.dbg.tries link.toNat = 4) ∧ (link.toNat % 8 = 0) ∧ (0x20 ≤ link.toNat ∧ link.toNat < 0x60)) ∧
    (∃ (link : BitVec 8) (s : State), (Tab.get (fun _ => 0) s.dbg.tries link.toNat = 2) ∧ (link.toNat = 0x60)) :=
  ⟨⟨(0x22 : BitVec 8), st155, by decide⟩,
   ⟨(3 : BitVec 8), st156, by decide⟩,
   ⟨st157, by decide⟩,
   ⟨st158, by decide⟩,
   ⟨st159, by decide⟩,
   ⟨st160, by decide⟩,
   ⟨st161, by decide⟩,
   ⟨st162, by decide⟩,
   ⟨(2 : Fin 4), (0x80000180 : Word), st163, by decide⟩,
   ⟨(0x80000180 : Word), st164, by decide⟩,
   ⟨(((st165.start 0x704).map (·.1)).getD {} : Packet), (((st165.start 0x704).map (·.2)).getD State.reset : State), st165, by decide⟩,
   ⟨({ ring := 4, opcode := 1, tag := 9, heldAt := 5 } : Reply), st166, by decide⟩,
   ⟨(0x28 : BitVec 8), st167, by decide⟩,
   ⟨(0x60 : BitVec 8), st168, by decide⟩⟩

def st169 : State := Tests.st []

def st170 : State := { Tests.st [] with tick := 4 }

def st171 : State := Tests.st []

def st172 : State := Tests.st []

def st173 : State := Tests.st [(ERR.SRC.PENDING 65, 1), (ERR.PEND.OPEN 2, 2)]

def st174 : State := Tests.st []

def st175 : State := { Tests.st [(ERR.SRC.PENDING 65, 1), (ERR.SRC.ESC 65, 3), (ERR.REACT.US 0, 10)] with tick := 20000 }

def st176 : State := Tests.st []

def st177 : State := { Tests.st [] with vault := { lc := 2 } }

def st178 : State := Tests.st [(ERR.SRC.STAT 65, 1)]

def st179 : State := Tests.st [(LEC.STAT.RUNNING, 1)]

def st180 : State := Tests.st []

def st181 : State := { Tests.st [] with err := { announced := [0x29] } }

def st182 : State := Tests.st [(ERR.RESET.BUSY 0x29, 1)]

def st183 : State := { Tests.st [(ERR.RESET.BUSY 0x12, 1), (ERR.RESET.GEN 0x12, 1)] with lec := { jobs := [{ packet := { ring := 1, opcode := 5 }, aux := 0x12 }] } }

def st184 : State := { Tests.st [(ERR.RESET.SHADOW 0x29, 1)] with err := { shadows := [0x29], ending := [0x29] } }

/-- The hypotheses of every clause of ErrataSources hold together somewhere. -/
theorem witness_ErrataSources :
    (∃ (n : Source) (s : State), (s.mainOn = true) ∧ (srcHasDetector n = true) ∧ (srcClass n = .f1) ∧ (s.flag (ERR.SRC.ACTIVE n) = false) ∧ (s.err.shadows = [])) ∧
    (∃ (n : Source) (s : State), (s.mainOn = true) ∧ (srcHasDetector n = true) ∧ (srcClass n = .f2) ∧ (s.flag (ERR.SRC.ACTIVE n) = false) ∧ (s.flag (ERR.SRC.ESCALATED n) = false) ∧ (s.flag (ERR.SRC.PENDING n) = false) ∧ (s.err.shadows = [])) ∧
    (∃ (n : Source) (ns : Nat) (judged : Bool) (s : State), (s.mainOn = true) ∧ (50 < ns ∨ (20 ≤ ns ∧ judged = true)) ∧ (srcClass n = .f1)) ∧
    (∃ (ns : Nat) (judged : Bool) (s : State), (ns < 20 ∨ (ns ≤ 50 ∧ judged = false))) ∧
    (∃ (n : Source) (s : State), (s.flag (ERR.SRC.PENDING n) = true ∨ s.flag (ERR.SRC.ESCALATED n) = true)) ∧
    (∃ (n : Source) (s : State), (s.flag (ERR.SRC.PENDING n) = false) ∧ (s.flag (ERR.SRC.ESCALATED n) = false)) ∧
    (∃ (n : Source) (s : State), (s.flag (ERR.SRC.PENDING n) = true) ∧ (s.clk.running = true) ∧ (Tab.get (fun _ => 0) s.err.pendAt n + s.reactTicks n ≤ s.tick) ∧ (s.escTargets n = 0)) ∧
    (∃ (n : Source) (s : State), (s.flag (ERR.SRC.ACTIVE n) = false) ∧ (srcClass n = .f0) ∧ (s.err.shadows = [])) ∧
    (∃ (n : Source) (s : State), (srcClass n = .f3) ∧ (s.lifecycle ≠ 0) ∧ (s.lifecycle ≠ 3)) ∧
    (∃ (n : Source) (s : State), (s.flag (ERR.SRC.PENDING n) = false) ∧ (s.flag (ERR.SRC.ESCALATED n) = false) ∧ (srcClass n ≠ .f3)) ∧
    (∃ (s : State), (s.mainOn = true) ∧ (s.flag LEC.STAT.RUNNING = true) ∧ (s.flag LEC.STAT.HALTED = false) ∧ (s.flag (ERR.SRC.ACTIVE srcLecWdog) = false)) ∧
    (∃ (k : Sector) (s : State), (s.mainOn = true) ∧ (s.flag (ERR.SRC.ACTIVE (srcFabricSec k)) = false)) ∧
    (∃ (c : Channel) (s : State), (s.mainOn = true) ∧ (s.err.announced.contains (0x20 + c.val) = true)) ∧
    (∃ (d : BitVec 8) (s : State), (s.mainOn = true) ∧ (s.flag (ERR.RESET.BUSY d.toNat) = true) ∧ (d.toNat < 0xD0) ∧ (s.lec.jobs = [])) ∧
    (∃ (d : BitVec 8) (j : Job) (s : State), (s.mainOn = true) ∧ (s.flag (ERR.RESET.BUSY d.toNat) = true) ∧ (d.toNat < 0x20) ∧ (s.lec.jobs = [j]) ∧ (j.packet.opcode = 0x005) ∧ (j.aux = d.toNat)) ∧
    (∃ (d : BitVec 8) (s : State), (s.err.ending.contains d.toNat = true)) :=
  ⟨⟨(26 : Source), st169, by decide⟩,
   ⟨(65 : Source), st170, by decide⟩,
   ⟨(26 : Source), (30 : Nat), (true : Bool), st171, by decide⟩,
   ⟨(19 : Nat), (true : Bool), st172, by decide⟩,
   ⟨(65 : Source), st173, by decide⟩,
   ⟨(65 : Source), st174, by decide⟩,
   ⟨(65 : Source), st175, by decide⟩,
   ⟨(25 : Source), st176, by decide⟩,
   ⟨(3 : Source), st177, by decide⟩,
   ⟨(65 : Source), st178, by decide⟩,
   ⟨st179, by decide⟩,
   ⟨(5 : Sector), st180, by decide⟩,
   ⟨(9 : Channel), st181, by decide⟩,
   ⟨(0x29 : BitVec 8), st182, by decide⟩,
   ⟨(0x12 : BitVec 8), ({ packet := { ring := 1, opcode := 5 }, aux := 0x12 } : Job), st183, by decide⟩,
   ⟨(0x29 : BitVec 8), st184, by decide⟩⟩

def st185 : State := Tests.cmd 0x701 [0x00410001] [(ERR.SRC.PENDING 65, 1), (ERR.PEND.OPEN 2, 2)]

def st186 : State := Tests.cmd 0x701 [0x00410001] []

def st187 : State := { Tests.cmd 0x702 [0x3] [] with vault := { lc := 2 } }

def st188 : State := Tests.cmd 0x702 [0x41] [(ERR.SRC.FORCE 65, 1)]

def st189 : State := Tests.cmd 0x703 [0x00020041] []

set_option maxRecDepth 20000 in
/-- The hypotheses of every clause of ErrataCommands hold together somewhere. -/
theorem witness_ErrataCommands :
    (∃ (p : Packet) (u : State) (n : Source) (s : State), (s.start 0x701 = some (p, u)) ∧ (p.arg 0 = 1) ∧ (p.params = [BitVec.ofNat 32 (1 + n * 2 ^ 16)]) ∧ (srcClass n = .f2) ∧ (s.flag (ERR.SRC.PENDING n) = true)) ∧
    (∃ (p : Packet) (u : State) (s : State), (s.start 0x701 = some (p, u)) ∧ (∀ n : Source, s.flag (ERR.SRC.PENDING n) = false ∧ s.flag (ERR.SRC.ESCALATED n) = false) ∧ (p.arg 0 ≠ 0)) ∧
    (∃ (p : Packet) (u : State) (s : State), (s.start 0x702 = some (p, u)) ∧ (s.mayForce (p.arg 0) = false)) ∧
    (∃ (p : Packet) (u : State) (s : State), (s.start 0x702 = some (p, u)) ∧ (s.mayForce (p.arg 0) = true) ∧ (p.arg 0 < 384) ∧ (p.arg 1 = 0)) ∧
    (∃ (p : Packet) (u : State) (s : State), (s.start 0x703 = some (p, u)) ∧ (0 < p.arg 1) ∧ (p.arg 1 ≤ 384) ∧ (p.arg 0 + p.arg 1 ≤ 384)) :=
  ⟨⟨(((st185.start 0x701).map (·.1)).getD {} : Packet), (((st185.start 0x701).map (·.2)).getD State.reset : State), (65 : Source), st185, by decide⟩,
   ⟨(((st186.start 0x701).map (·.1)).getD {} : Packet), (((st186.start 0x701).map (·.2)).getD State.reset : State), st186, by decide⟩,
   ⟨(((st187.start 0x702).map (·.1)).getD {} : Packet), (((st187.start 0x702).map (·.2)).getD State.reset : State), st187, by decide⟩,
   ⟨(((st188.start 0x702).map (·.1)).getD {} : Packet), (((st188.start 0x702).map (·.2)).getD State.reset : State), st188, by decide⟩,
   ⟨(((st189.start 0x703).map (·.1)).getD {} : Packet), (((st189.start 0x703).map (·.2)).getD State.reset : State), st189, by decide⟩⟩

def st190 : State := Tests.cmd 0x501 (List.replicate 12 7) []

def st191 : State := { Tests.cmd 0x501 (List.replicate 12 7) [] with vault := { lc := 1 } }

def st192 : State := { Tests.cmd 0x502 [] [(CAL.TPOINT.VALID 0, 1), (CAL.TPOINT.VALID 1, 1)] with vault := { lc := 1 } }

def st193 : State := Tests.cmd 0x503 (List.replicate 48 7) []

def st194 : State := { Tests.cmd 0x503 (List.replicate 48 7) [] with vault := { lc := 2, keys := true } }

def st195 : State := Tests.cmd 0x505 (List.replicate 48 7) []

def st196 : State := { Tests.cmd 0x505 (List.replicate 48 7) [] with vault := { lc := 1, keys := true } }

def st197 : State := { Tests.cmd 0x504 [] [] with vault := { lc := 1 } }

def st198 : State := { Tests.cmd 0x506 [3, 2] [] with vault := { entries := [{ seq := 2 }, { seq := 3 }], first := 2, nextSeq := 4 } }

def st199 : State := { Tests.cmd 0x508 [2] [] with vault := { entries := [{ seq := 2 }, { seq := 3 }], first := 2, nextSeq := 4 } }

def st200 : State := { Tests.cmd 0x507 (List.replicate 8 9) [] with vault := { lc := 2 } }

def st201 : State := Tests.cmd 0x507 (List.replicate 8 9) []

/-- The hypotheses of every clause of LifecycleCommands hold together somewhere. -/
theorem witness_LifecycleCommands :
    (∃ (p : Packet) (u : State) (s : State), (s.start 0x501 = some (p, u)) ∧ (s.lifecycle = 0) ∧ (s.anyActive = false) ∧ (s.vault.room 2 = true) ∧ (s.vault.mayCount = true)) ∧
    (∃ (p : Packet) (u : State) (s : State), (s.start 0x501 = some (p, u)) ∧ (s.lifecycle ≠ 0)) ∧
    (∃ (p : Packet) (u : State) (s : State), (s.start 0x502 = some (p, u)) ∧ (s.lifecycle = 1 ∨ s.lifecycle = 3) ∧ (s.anyActive = false) ∧ (s.flag (CAL.TPOINT.VALID 0) = true) ∧ (s.flag (CAL.TPOINT.VALID 1) = true) ∧ (s.vault.room 2 = true) ∧ (s.vault.mayCount = true)) ∧
    (∃ (p : Packet) (u : State) (s : State), (s.start 0x503 = some (p, u)) ∧ (s.lifecycle ≠ 2 ∨ s.vault.authFails = 3)) ∧
    (∃ (p : Packet) (u : State) (s : State), (s.start 0x503 = some (p, u)) ∧ (s.lifecycle = 2) ∧ (s.vault.authFails ≠ 3) ∧ (s.vault.room 1 = true) ∧ (s.vault.mayCount = true)) ∧
    (∃ (p : Packet) (u : State) (s : State), (s.start 0x505 = some (p, u)) ∧ (s.lifecycle = 0 ∨ s.lifecycle = 4 ∨ s.vault.authFails = 3)) ∧
    (∃ (p : Packet) (u : State) (s : State), (s.start 0x505 = some (p, u)) ∧ (1 ≤ s.lifecycle) ∧ (s.lifecycle ≤ 3) ∧ (s.vault.authFails ≠ 3) ∧ (s.vault.reserveRoom = true) ∧ (s.vault.mayCount = true)) ∧
    (∃ (p : Packet) (u : State) (s : State), (s.start 0x504 = some (p, u)) ∧ (s.lifecycle ≠ 0) ∧ (s.lifecycle ≠ 4)) ∧
    (∃ (p : Packet) (u : State) (s : State), (s.start 0x506 = some (p, u)) ∧ (0 < p.arg 1) ∧ (p.arg 1 ≤ 63) ∧ (s.vault.first ≤ p.arg 0) ∧ (∃ e ∈ s.vault.entries, p.arg 0 ≤ e.seq)) ∧
    (∃ (p : Packet) (u : State) (e : ColEntry) (s : State), (s.start 0x508 = some (p, u)) ∧ (s.vault.entries.find? (·.seq = p.arg 0) = some e) ∧ (p.arg 0 + 1 < s.vault.nextSeq) ∧ (s.vault.nextSeq < 2 ^ 32) ∧ (s.vault.held = [])) ∧
    (∃ (p : Packet) (u : State) (s : State), (s.start 0x507 = some (p, u)) ∧ (s.lifecycle ≠ 0) ∧ (s.lifecycle ≠ 4)) ∧
    (∃ (p : Packet) (u : State) (s : State), (s.start 0x507 = some (p, u)) ∧ (s.lifecycle = 0 ∨ s.lifecycle = 4)) :=
  ⟨⟨(((st190.start 0x501).map (·.1)).getD {} : Packet), (((st190.start 0x501).map (·.2)).getD State.reset : State), st190, by decide⟩,
   ⟨(((st191.start 0x501).map (·.1)).getD {} : Packet), (((st191.start 0x501).map (·.2)).getD State.reset : State), st191, by decide⟩,
   ⟨(((st192.start 0x502).map (·.1)).getD {} : Packet), (((st192.start 0x502).map (·.2)).getD State.reset : State), st192, by decide⟩,
   ⟨(((st193.start 0x503).map (·.1)).getD {} : Packet), (((st193.start 0x503).map (·.2)).getD State.reset : State), st193, by decide⟩,
   ⟨(((st194.start 0x503).map (·.1)).getD {} : Packet), (((st194.start 0x503).map (·.2)).getD State.reset : State), st194, by decide⟩,
   ⟨(((st195.start 0x505).map (·.1)).getD {} : Packet), (((st195.start 0x505).map (·.2)).getD State.reset : State), st195, by decide⟩,
   ⟨(((st196.start 0x505).map (·.1)).getD {} : Packet), (((st196.start 0x505).map (·.2)).getD State.reset : State), st196, by decide⟩,
   ⟨(((st197.start 0x504).map (·.1)).getD {} : Packet), (((st197.start 0x504).map (·.2)).getD State.reset : State), st197, by decide⟩,
   ⟨(((st198.start 0x506).map (·.1)).getD {} : Packet), (((st198.start 0x506).map (·.2)).getD State.reset : State), st198, by decide⟩,
   ⟨(((st199.start 0x508).map (·.1)).getD {} : Packet), (((st199.start 0x508).map (·.2)).getD State.reset : State), ({ seq := 2 } : ColEntry), st199, by decide⟩,
   ⟨(((st200.start 0x507).map (·.1)).getD {} : Packet), (((st200.start 0x507).map (·.2)).getD State.reset : State), st200, by decide⟩,
   ⟨(((st201.start 0x507).map (·.1)).getD {} : Packet), (((st201.start 0x507).map (·.2)).getD State.reset : State), st201, by decide⟩⟩

def st202 : State := Tests.cmd 0x601 [] []

def st203 : State := Tests.cmd 0x602 [0x300000, 8] []

def st204 : State := Tests.cmd 0x602 [0, 4065] []

def st205 : State := Tests.cmd 0x603 [0x300000, 0x1000] []

def st206 : State := Tests.cmd 0x603 [0x10000, 0x1000] []

def st207 : State := Tests.cmd 0x605 [0x300000, 0, 0x1234] []

def st208 : State := { Tests.st [] with nvm := { op := [.erase 4096 4096], flash := [(4098, 5)] } }

def st209 : State := { Tests.st [] with nvm := { op := [.program 4096 [7]] } }

def st210 : State := Tests.cmd 0x606 [2, 0x11] []

def st211 : State := { Tests.cmd 0x606 [2, 0x11] [] with vault := { lc := 2 } }

def st212 : State := Tests.cmd 0x604 [0, 0, 0] []

def st213 : State := { Tests.cmd 0x604 [0, 0, 0] [] with vault := { lc := 3 } }

def st214 : State := (fun b : State => { b with vault := { ledger := { rowCand := [(1, [5])] } } }) (Tests.st [(PSC.LINK.TRAINED 1, 1)])

/-- The hypotheses of every clause of FlashAndFuses hold together somewhere. -/
theorem witness_FlashAndFuses :
    (∃ (p : Packet) (u : State) (s : State), (s.start 0x601 = some (p, u))) ∧
    (∃ (p : Packet) (u : State) (s : State), (s.start 0x602 = some (p, u)) ∧ (0 < p.arg 1) ∧ (p.arg 1 ≤ 4064) ∧ (0x210000 ≤ p.arg 0) ∧ (p.arg 0 + p.arg 1 ≤ s.nvm.flashSize)) ∧
    (∃ (p : Packet) (u : State) (s : State), (s.start 0x602 = some (p, u)) ∧ (p.arg 1 = 0 ∨ 4064 < p.arg 1 ∨ s.nvm.flashSize < p.arg 0 + p.arg 1)) ∧
    (∃ (p : Packet) (u : State) (s : State), (s.start 0x603 = some (p, u)) ∧ (inBackup (p.arg 0) (p.arg 1) = false) ∧ (s.inBooted (p.arg 0) (p.arg 1) = false) ∧ (p.arg 0 + p.arg 1 ≤ s.nvm.flashSize) ∧ (p.arg 0 % 4096 = 0) ∧ (p.arg 1 % 4096 = 0)) ∧
    (∃ (p : Packet) (u : State) (s : State), (s.start 0x603 = some (p, u)) ∧ (inBackup (p.arg 0) (p.arg 1) = true)) ∧
    (∃ (p : Packet) (u : State) (b : BitVec 32) (s : State), (s.start 0x605 = some (p, u)) ∧ (p.params.drop 2 = [b]) ∧ (inBackup (p.arg 0) 4 = false) ∧ (s.inBooted (p.arg 0) 4 = false) ∧ (p.arg 0 + 4 ≤ s.nvm.flashSize) ∧ (p.arg 1 = 0) ∧ (∀ i : Fin 4, s.flashRd (p.arg 0 + i) = 0xFF)) ∧
    (∃ (off : Nat) (n : Nat) (rest : List FlashOp) (s : State), (s.nvm.op = .erase off n :: rest) ∧ (s.lec.jobs = [])) ∧
    (∃ (off : Nat) (b : Byte) (rest : List FlashOp) (s : State), (s.nvm.op = .program off [b] :: rest) ∧ (s.lec.jobs = [])) ∧
    (∃ (p : Packet) (u : State) (s : State), (s.start 0x606 = some (p, u)) ∧ (s.lifecycle = 0 ∨ s.lifecycle = 3) ∧ (Tab.get (fun _ => 0) s.nvm.fuses (p.arg 0) &&& p.arg 1 = Tab.get (fun _ => 0) s.nvm.fuses (p.arg 0))) ∧
    (∃ (p : Packet) (u : State) (s : State), (s.start 0x606 = some (p, u)) ∧ (s.lifecycle ≠ 0) ∧ (s.lifecycle ≠ 3)) ∧
    (∃ (p : Packet) (u : State) (s : State), (s.start 0x604 = some (p, u)) ∧ (s.lifecycle ≠ 3)) ∧
    (∃ (p : Packet) (u : State) (s : State), (s.start 0x604 = some (p, u)) ∧ (s.lifecycle = 3) ∧ (p.arg 0 < 2) ∧ (p.arg 1 < 32) ∧ (∀ k : Sector, s.modeOf k = mStandby ∨ s.modeOf k = mOff) ∧ (s.vault.room 1 = true)) ∧
    (∃ (w : Wing) (row : Nat) (rest : List Nat) (s : State), (Tab.get (fun _ => []) s.vault.ledger.rowCand w = row :: rest) ∧ (s.anyActive3 = false) ∧ (∀ c : Channel, s.usesStack c w = false) ∧ (s.flag (PSC.LINK.TRAINED w) = true)) :=
  ⟨⟨(((st202.start 0x601).map (·.1)).getD {} : Packet), (((st202.start 0x601).map (·.2)).getD State.reset : State), st202, by decide⟩,
   ⟨(((st203.start 0x602).map (·.1)).getD {} : Packet), (((st203.start 0x602).map (·.2)).getD State.reset : State), st203, by decide⟩,
   ⟨(((st204.start 0x602).map (·.1)).getD {} : Packet), (((st204.start 0x602).map (·.2)).getD State.reset : State), st204, by decide⟩,
   ⟨(((st205.start 0x603).map (·.1)).getD {} : Packet), (((st205.start 0x603).map (·.2)).getD State.reset : State), st205, by decide⟩,
   ⟨(((st206.start 0x603).map (·.1)).getD {} : Packet), (((st206.start 0x603).map (·.2)).getD State.reset : State), st206, by decide⟩,
   ⟨(((st207.start 0x605).map (·.1)).getD {} : Packet), (((st207.start 0x605).map (·.2)).getD State.reset : State), (0x1234 : BitVec 32), st207, by decide⟩,
   ⟨(4096 : Nat), (4096 : Nat), ([] : List FlashOp), st208, by decide⟩,
   ⟨(4096 : Nat), (7 : Byte), ([] : List FlashOp), st209, by decide⟩,
   ⟨(((st210.start 0x606).map (·.1)).getD {} : Packet), (((st210.start 0x606).map (·.2)).getD State.reset : State), st210, by decide⟩,
   ⟨(((st211.start 0x606).map (·.1)).getD {} : Packet), (((st211.start 0x606).map (·.2)).getD State.reset : State), st211, by decide⟩,
   ⟨(((st212.start 0x604).map (·.1)).getD {} : Packet), (((st212.start 0x604).map (·.2)).getD State.reset : State), st212, by decide⟩,
   ⟨(((st213.start 0x604).map (·.1)).getD {} : Packet), (((st213.start 0x604).map (·.2)).getD State.reset : State), st213, by decide⟩,
   ⟨(1 : Wing), (5 : Nat), ([] : List Nat), st214, by decide⟩⟩

def st215 : State := (fun b : State => { b with mem := { mem := [(0x42, 7)] } }) (Tests.st [])

def st216 : State := Tests.st []

def st217 : State := (fun b : State => { b with mem := { poison := [2] } }) (Tests.st [])

def st218 : State := Tests.st [(SMODE.CTL.MODE_CUR 0, mRun), (PS.VEC_WIN.SIZE 0, 1)]

def st219 : State := Tests.st [(SMODE.CTL.MODE_CUR 2, 1), (SS.BANK.OWNER 2 7, 0)]

def st220 : State := Tests.st []

def st221 : State := Tests.st [(SMODE.CTL.MODE_CUR 1, 0)]

def st222 : State := Tests.st [(PS.RESV.HELD 1, 1)]

def st223 : State := Tests.st [(PS.RA_CFG.BANKS 1, 0x1E)]

def st224 : State := Tests.st [(SMODE.CTL.MODE_CUR 1, 3)]

def st225 : State := Tests.st [(SCRIBE.STAT.STATE 1, 2)]

def st226 : State := (fun b : State => { b with mem := { caches := [(1, { groups := [(4, { uses := 2 })] })] } }) (Tests.st [])

def st227 : State := Tests.st [(PSC.LINK.TRAINED 1, 1)]

/-- The hypotheses of every clause of PatternStore hold together somewhere. -/
theorem witness_PatternStore :
    (∃ (off : BitVec 36) (n : BitVec 13) (s : State), (s.awake = true) ∧ (off.toNat + n.toNat ≤ storesBase) ∧ (off.toNat < storesBase) ∧ (s.mem.poison = [])) ∧
    (∃ (off : BitVec 36) (s : State), (s.awake = true) ∧ (storesBase + 8 * 0x800000 ≤ off.toNat)) ∧
    (∃ (off : BitVec 36) (data : List Byte) (s : State), (s.awake = true) ∧ (off.toNat % 32 = 0) ∧ (data.length = 32) ∧ (off.toNat + 32 ≤ storesBase) ∧ (s.lockedBy (off.toNat / stackSize) (off.toNat % stackSize) = none)) ∧
    (∃ (off : BitVec 36) (k : Nat) (s : State), (s.awake = true) ∧ (off.toNat < storesBase) ∧ (s.lockedBy (off.toNat / stackSize) (off.toNat % stackSize) = some k)) ∧
    (∃ (k : Sector) (b : Fin 16) (s : State), (s.awake = true) ∧ (s.modeOf k ≠ mOff) ∧ (b ≠ 0) ∧ (s.owner k b = owHost)) ∧
    (∃ (k : Sector) (v : Word) (s : State), (s.modeOf k ≠ mOff) ∧ (s.windowBusy k = false) ∧ (s.windowsFit k [(v.toNat % 512, v.toNat / 2 ^ 16 % 512), s.window k 1, s.window k 2] = true)) ∧
    (∃ (k : Sector) (s : State), (s.modeOf k = mOff)) ∧
    (∃ (k : Sector) (s : State), (s.modeOf k ≠ mOff) ∧ (s.windowBusy k = true)) ∧
    (∃ (k : Sector) (v : Word) (s : State), (s.modeOf k ≠ mOff) ∧ (s.modeOf k ≠ mRun) ∧ (v.toNat % 2 ^ 16 = s.get (PS.RA_CFG.BANKS k)) ∧ (∀ b : Fin 16, (s.get (PS.RA_CFG.BANKS k)).testBit b = true → s.owner k b = owScribe) ∧ (v.toNat % 2 = 0) ∧ (v.toNat % 2 ^ 16 &&& v.toNat / 2 ^ 16 % 2 ^ 16 = v.toNat / 2 ^ 16 % 2 ^ 16) ∧ (v.toNat % 2 ^ 16 ≠ v.toNat / 2 ^ 16 % 2 ^ 16)) ∧
    (∃ (k : Sector) (s : State), (s.modeOf k = mRun)) ∧
    (∃ (k : Sector) (g : Nat) (s : State), (s.scribeBusy k = true) ∧ (((s.cache k).groups.find? fun e => decide (e.1 = g)) = none) ∧ (32 ≤ (s.cache k).credit)) ∧
    (∃ (k : Sector) (g : Nat) (x : Nat × Group) (s : State), (s.slotsOn (sectorLink k 0) = []) ∧ (((s.cache k).groups.find? fun x => decide (x.1 = g ∧ x.2.arrived = false)) = some x) ∧ (s.mem.poison = [])) ∧
    (∃ (w : Wing) (c : BitVec 8) (s : State), (s.flag (PSC.LINK.TRAINED w) = true) ∧ (c.toNat ≤ 95)) :=
  ⟨⟨(0x40 : BitVec 36), (8 : BitVec 13), st215, by decide⟩,
   ⟨(0xC04000000 : BitVec 36), st216, by decide⟩,
   ⟨(0x40 : BitVec 36), (List.replicate 32 7 : List Byte), st217, by decide⟩,
   ⟨(0x40 : BitVec 36), (0 : Nat), st218, by decide⟩,
   ⟨(2 : Sector), (7 : Fin 16), st219, by decide⟩,
   ⟨(1 : Sector), (0x00100060 : Word), st220, by decide⟩,
   ⟨(1 : Sector), st221, by decide⟩,
   ⟨(1 : Sector), st222, by decide⟩,
   ⟨(1 : Sector), (0x0006001E : Word), st223, by decide⟩,
   ⟨(1 : Sector), st224, by decide⟩,
   ⟨(1 : Sector), (4 : Nat), st225, by decide⟩,
   ⟨(1 : Sector), (4 : Nat), ((4, { uses := 2 }) : Nat × Group), st226, by decide⟩,
   ⟨(1 : Wing), (86 : BitVec 8), st227, by decide⟩⟩

def st228 : State := Tests.cmd 0x101 [1, 4, 0, 0x10] [(SMODE.CTL.MODE_CUR 1, 1), (PS.VEC_WIN.SIZE 1, 2), (PSC.LEDGER.CEIL 0, 1955)]

def st229 : State := Tests.cmd 0x101 [1, 4, 0, 0x10] [(PS.RESV.HELD 1, 1)]

def st230 : State := { Tests.cmd 0x102 [1] [(PS.RESV.HELD 1, 1), (PSC.LEDGER.TOTAL 0, 100)] with mem := { resv := [(1, { units := 60 })] } }

def st231 : State := Tests.cmd 0x103 [0x00004001] [(PSC.LEDGER.CEIL 1, 1955), (PSC.LEDGER.TOTAL 1, 128)]

def st232 : State := Tests.cmd 0x104 [0x00006001, 0x00700010, 0x00780008, 4] []

def st233 : State := Tests.cmd 0x106 [1] []

/-- The hypotheses of every clause of Admission hold together somewhere. -/
theorem witness_Admission :
    (∃ (p : Packet) (u : State) (n : Nat) (s : State), (s.start 0x101 = some (p, u)) ∧ (p.arg 0 < 8) ∧ (s.flag (PS.RESV.HELD (p.arg 0)) = false) ∧ (s.modeOf (p.arg 0) = mStandby ∨ s.modeOf (p.arg 0) = mSetup) ∧ (2 ^ 32 ≤ p.arg 4) ∧ (p.arg 4 < 2 ^ 48) ∧ (p.arg 2 ≤ 64) ∧ (p.arg 1 = 0) ∧ (p.arg 2 = 0) ∧ (resvUnits (p.arg 4) false 0 = n) ∧ (s.get (PSC.LEDGER.TOTAL (p.arg 0 / 4)) + n ≤ s.get (PSC.LEDGER.CEIL (p.arg 0 / 4))) ∧ (p.arg 3 ≤ s.lineLimit (p.arg 0))) ∧
    (∃ (p : Packet) (u : State) (s : State), (s.start 0x101 = some (p, u)) ∧ (p.arg 0 < 8) ∧ (s.flag (PS.RESV.HELD (p.arg 0)) = true)) ∧
    (∃ (p : Packet) (u : State) (s : State), (s.start 0x102 = some (p, u)) ∧ (p.arg 0 < 8) ∧ (s.active3 (p.arg 0) = false) ∧ (s.flag (PS.RESV.HELD (p.arg 0)) = true)) ∧
    (∃ (p : Packet) (u : State) (s : State), (s.start 0x103 = some (p, u)) ∧ (p.arg 0 < 2) ∧ (32 ≤ p.arg 1) ∧ (p.arg 1 ≤ 224) ∧ (p.arg 1 + s.get (PSC.HOST_RES.H (1 - p.arg 0)) ≤ 256) ∧ (s.get (PSC.LEDGER.TOTAL (p.arg 0)) - s.get (PSC.HOST_RES.H (p.arg 0)) + p.arg 1 ≤ s.get (PSC.LEDGER.CEIL (p.arg 0)))) ∧
    (∃ (p : Packet) (u : State) (s : State), (s.start 0x104 = some (p, u)) ∧ (p.arg 0 < 8) ∧ (s.modeOf (p.arg 0) ≠ mOff) ∧ (s.windowBusy (p.arg 0) = false) ∧ (s.windowsFit (p.arg 0) [(p.arg 1, p.arg 2), (p.arg 3, p.arg 4), (p.arg 5, p.arg 6)] = true)) ∧
    (∃ (p : Packet) (u : State) (s : State), (s.start 0x106 = some (p, u)) ∧ (p.arg 0 < 2)) :=
  ⟨⟨(((st228.start 0x101).map (·.1)).getD {} : Packet), (((st228.start 0x101).map (·.2)).getD State.reset : State), (resvUnits ((((st228.start 0x101).map (·.1)).getD {} : Packet).arg 4) false 0 : Nat), st228, by decide⟩,
   ⟨(((st229.start 0x101).map (·.1)).getD {} : Packet), (((st229.start 0x101).map (·.2)).getD State.reset : State), st229, by decide⟩,
   ⟨(((st230.start 0x102).map (·.1)).getD {} : Packet), (((st230.start 0x102).map (·.2)).getD State.reset : State), st230, by decide⟩,
   ⟨(((st231.start 0x103).map (·.1)).getD {} : Packet), (((st231.start 0x103).map (·.2)).getD State.reset : State), st231, by decide⟩,
   ⟨(((st232.start 0x104).map (·.1)).getD {} : Packet), (((st232.start 0x104).map (·.2)).getD State.reset : State), st232, by decide⟩,
   ⟨(((st233.start 0x106).map (·.1)).getD {} : Packet), (((st233.start 0x106).map (·.2)).getD State.reset : State), st233, by decide⟩⟩

def st234 : State := Tests.st []

def st235 : State := Tests.st []

def st236 : State := Tests.st []

def st237 : State := (fun z : State => { z with mem := { next := [(23, 0x22)] } }) (Tests.st [])

def st238 : State := (fun b : State => { b with tick := 150003, mem := { held := [{ off := 0x40, data := [], tick := 3 }] } }) (Tests.st [])

def st239 : State := (fun b : State => { b with mem := { bist := [(1, { banks := 6, pass := 2 })] } }) (Tests.st [])

def st240 : State := Tests.cmd 0x607 [0x00008001] []

/-- The hypotheses of every clause of SectorStores hold together somewhere. -/
theorem witness_SectorStores :
    (∃ (k : Sector) (b : Fin 16) (s : State), (s.modeOf k ≠ mOff) ∧ (s.flag (SS.BANK.PENDING k b) = false) ∧ (s.flag (SS.BANK.BIST k b) = false) ∧ (s.owner k b = owHost)) ∧
    (∃ (k : Sector) (b : Fin 16) (s : State), (s.modeOf k ≠ mOff) ∧ (s.owner k b = owScribe)) ∧
    (∃ (k : Sector) (c : Channel) (s : State), (s.modeOf k ≠ mOff) ∧ (s.owner k 0 ≠ 0x20 + c.val)) ∧
    (∃ (k : Sector) (b : Fin 16) (o : BitVec 8) (s : State), (Tab.get (fun _ => 0) s.mem.next (16 * k + b) = o.toNat + 1) ∧ (s.mem.held = []) ∧ (s.flag DEBUG.STATUS.DEFERRED = false)) ∧
    (∃ (x : HeldWrite) (s : State), (s.mem.held = [x]) ∧ (s.serveHeld x = none) ∧ (x.tick + 150000 ≤ s.tick)) ∧
    (∃ (k : Sector) (s : State), ((s.bistOf k).banks ≠ 0) ∧ ((s.bistOf k).pass < 4)) ∧
    (∃ (p : Packet) (u : State) (b : Fin 16) (s : State), (s.start 0x607 = some (p, u)) ∧ (p.arg 0 < 8) ∧ (s.modeOf (p.arg 0) = mStandby ∨ s.modeOf (p.arg 0) = mSetup) ∧ (p.arg 1 = 2 ^ b.val) ∧ (s.flag (SS.BANK.PENDING (p.arg 0) b) = false) ∧ (s.owner (p.arg 0) b = owHost) ∧ ((s.bistOf (p.arg 0)).banks = 0) ∧ (s.vault.ledger.bankFailed = [])) :=
  ⟨⟨(1 : Sector), (7 : Fin 16), st234, by decide⟩,
   ⟨(1 : Sector), (2 : Fin 16), st235, by decide⟩,
   ⟨(1 : Sector), (2 : Channel), st236, by decide⟩,
   ⟨(1 : Sector), (7 : Fin 16), (0x21 : BitVec 8), st237, by decide⟩,
   ⟨({ off := 0x40, data := [], tick := 3 } : HeldWrite), st238, by decide⟩,
   ⟨(1 : Sector), st239, by decide⟩,
   ⟨(((st240.start 0x607).map (·.1)).getD {} : Packet), (((st240.start 0x607).map (·.2)).getD State.reset : State), (7 : Fin 16), st240, by decide⟩⟩

def st242 : State := { Tests.st [(SCRIBE.STAT.STATE 1, 2)] with scribes := [(1, { word := some (5, 0x0), reps := 0, flow := { pc := 5 } })] }

def st243 : State := { Tests.st [(SCRIBE.STAT.STATE 1, 2)] with scribes := [(1, { word := some (5, 0x400000000000003), reps := 0, flow := { pc := 5 } })] }

def st244 : State := { Tests.st [(SCRIBE.STAT.STATE 1, 2)] with scribes := [(1, { word := some (5, 0x400000000000003), reps := 2, flow := { pc := 5 } })] }

def st245 : State := { Tests.st [(SCRIBE.STAT.STATE 1, 2)] with scribes := [(1, { word := some (5, 0x800000000000003), reps := 0, flow := { pc := 5 } })] }

def st246 : State := { Tests.st [(SCRIBE.STAT.STATE 1, 2)] with scribes := [(1, { word := some (5, 0xc00000000000000), reps := 0, flow := { pc := 5, loops := [(2, 3)] } })] }

def st247 : State := { Tests.st [(SCRIBE.STAT.STATE 1, 2)] with scribes := [(1, { word := some (5, 0xc00000000000000), reps := 0, flow := { pc := 5, loops := [(2, 1)] } })] }

def st248 : State := { Tests.st [(SCRIBE.STAT.STATE 1, 2)] with scribes := [(1, { word := some (5, 0x100000000000004d), reps := 0, flow := { pc := 5 } })] }

def st249 : State := { Tests.st [(SCRIBE.STAT.STATE 1, 2)] with scribes := [(1, { word := some (5, 0x140000000000004d), reps := 0, flow := { pc := 5 } })] }

def st250 : State := { Tests.st [(SCRIBE.STAT.STATE 1, 2)] with scribes := [(1, { word := some (5, 0x1800000000000000), reps := 0, flow := { pc := 5, calls := [(9, 0)] } })] }

def st251 : State := { Tests.st [(SCRIBE.STAT.STATE 1, 2)] with scribes := [(1, { word := some (5, 0x1c00000000000002), reps := 0, flow := { pc := 5 } })] }

def st252 : State := { Tests.st [(SCRIBE.STAT.STATE 1, 2)] with scribes := [(1, { word := some (5, 0x1c0d000000000002), reps := 0, flow := { pc := 5 } })] }

def st253 : State := { Tests.st [(SCRIBE.STAT.STATE 1, 2)] with scribes := [(1, { word := some (5, 0x1c09000000000002), reps := 0, flow := { pc := 5 } })] }

def st254 : State := { Tests.st [(SCRIBE.STAT.STATE 1, 2)] with scribes := [(1, { word := some (5, 0x2000000000000002), reps := 0, flow := { pc := 5 } })] }

def st255 : State := { Tests.st [(SCRIBE.STAT.STATE 1, 2)] with scribes := [(1, { word := some (5, 0x2009000000000002), reps := 0, flow := { pc := 5 } })] }

def st256 : State := { Tests.st [(SCRIBE.STAT.STATE 1, 2)] with scribes := [(1, { word := some (5, 0x2400060000000000), reps := 0, flow := { pc := 5 } })] }

def st257 : State := { Tests.st [(SCRIBE.STAT.STATE 1, 2)] with scribes := [(1, { word := some (5, 0x2800060000000009), reps := 0, flow := { pc := 5 } })] }

def st258 : State := { Tests.st [(SCRIBE.STAT.STATE 1, 2)] with scribes := [(1, { word := some (5, 0x2c00000000000503), reps := 0, flow := { pc := 5 } })] }

def st259 : State := { Tests.st [(SCRIBE.STAT.STATE 1, 2)] with scribes := [(1, { word := some (5, 0x3000010000000000), reps := 0, flow := { pc := 5 } })] }

def st260 : State := { Tests.st [(SCRIBE.STAT.STATE 1, 2)] with scribes := [(1, { word := some (5, 0x3400000000000007), reps := 0, flow := { pc := 5 } })] }

def st261 : State := { Tests.st [(SCRIBE.STAT.STATE 1, 2)] with scribes := [(1, { word := some (5, 0x3800000040000007), reps := 0, flow := { pc := 5, cnt := [1, 2, 3, 4] } })] }

def st262 : State := { Tests.st [(SCRIBE.STAT.STATE 1, 2)] with scribes := [(1, { word := some (5, 0x3c0002000000007b), reps := 0, flow := { pc := 5 } })] }

def st263 : State := { Tests.st [(SCRIBE.STAT.STATE 1, 2)] with scribes := [(1, { word := some (5, 0x4000000040000009), reps := 0, flow := { pc := 5, cnt := [1, 2, 3, 4] } })] }

def st264 : State := { Tests.st [(SCRIBE.STAT.STATE 1, 2)] with scribes := [(1, { word := some (5, 0x4400030000000000), reps := 0, flow := { pc := 5 } })] }

/-- The hypotheses of every clause of PatternLines hold together somewhere. -/
theorem witness_PatternLines :
    (∃ (k : Sector) (pc : Nat) (w : Nat) (s : State), (s.inkedWord k opNext = some (pc, w)) ∧ ((s.scribe k).reps = 0)) ∧
    (∃ (k : Sector) (pc : Nat) (w : Nat) (s : State), (s.inkedWord k opRpt = some (pc, w)) ∧ ((s.scribe k).reps = 0)) ∧
    (∃ (k : Sector) (pc : Nat) (w : Nat) (s : State), (s.inkedWord k opRpt = some (pc, w)) ∧ ((s.scribe k).reps ≠ 0)) ∧
    (∃ (k : Sector) (pc : Nat) (w : Nat) (s : State), (s.inkedWord k opLoop = some (pc, w)) ∧ ((s.scribe k).reps = 0) ∧ ((s.scribe k).flow.back = false)) ∧
    (∃ (k : Sector) (pc : Nat) (w : Nat) (a : Nat) (n : Nat) (rest : List (Nat × Nat)) (s : State), (s.inkedWord k opEndl = some (pc, w)) ∧ ((s.scribe k).reps = 0) ∧ ((s.scribe k).flow.loops = (a, n) :: rest) ∧ (1 < n)) ∧
    (∃ (k : Sector) (pc : Nat) (w : Nat) (a : Nat) (rest : List (Nat × Nat)) (s : State), (s.inkedWord k opEndl = some (pc, w)) ∧ ((s.scribe k).reps = 0) ∧ ((s.scribe k).flow.loops = (a, 1) :: rest)) ∧
    (∃ (k : Sector) (pc : Nat) (w : Nat) (s : State), (s.inkedWord k opJmp = some (pc, w)) ∧ ((s.scribe k).reps = 0)) ∧
    (∃ (k : Sector) (pc : Nat) (w : Nat) (s : State), (s.inkedWord k opCall = some (pc, w)) ∧ ((s.scribe k).reps = 0)) ∧
    (∃ (k : Sector) (pc : Nat) (w : Nat) (a : Nat) (d : Nat) (rest : List (Nat × Nat)) (s : State), (s.inkedWord k opRet = some (pc, w)) ∧ ((s.scribe k).reps = 0) ∧ ((s.scribe k).flow.calls = (a, d) :: rest)) ∧
    (∃ (k : Sector) (pc : Nat) (w : Nat) (s : State), (s.inkedWord k opMatch = some (pc, w)) ∧ (condClass (lnCond w) = 0) ∧ ((s.scribe k).flow.immediate w = true)) ∧
    (∃ (k : Sector) (pc : Nat) (w : Nat) (s : State), (s.inkedWord k opMatch = some (pc, w)) ∧ (condClass (lnCond w) = 0) ∧ ((s.scribe k).flow.immediate w = false) ∧ (s.flag (SCRIBE.CFG.MATCH_TO k) = false)) ∧
    (∃ (k : Sector) (pc : Nat) (w : Nat) (s : State), (s.inkedWord k opMatch = some (pc, w)) ∧ (condClass (lnCond w) ≠ 0) ∧ (s.chainOf k = none) ∧ ((s.scribe k).reps = 0)) ∧
    (∃ (k : Sector) (pc : Nat) (w : Nat) (s : State), (s.inkedWord k opBr = some (pc, w)) ∧ (condClass (lnCond w) = 0) ∧ ((s.scribe k).reps = 0)) ∧
    (∃ (k : Sector) (pc : Nat) (w : Nat) (s : State), (s.inkedWord k opBr = some (pc, w)) ∧ (condClass (lnCond w) ≠ 0) ∧ (s.chainOf k = none) ∧ ((s.scribe k).reps = 0)) ∧
    (∃ (k : Sector) (pc : Nat) (w : Nat) (s : State), (s.inkedWord k opSig = some (pc, w)) ∧ ((s.scribe k).reps = 0) ∧ (s.flag (EVT.ROUTE.CHAIN (lnEvt w)) = false)) ∧
    (∃ (k : Sector) (pc : Nat) (w : Nat) (s : State), (s.inkedWord k opWaits = some (pc, w)) ∧ ((s.scribe k).reps = 0)) ∧
    (∃ (k : Sector) (pc : Nat) (w : Nat) (s : State), (s.inkedWord k opSetp = some (pc, w)) ∧ ((s.scribe k).reps = 0) ∧ (w / 256 % 256 ≠ 0)) ∧
    (∃ (k : Sector) (pc : Nat) (w : Nat) (s : State), (s.inkedWord k opMark = some (pc, w)) ∧ ((s.scribe k).reps = 0)) ∧
    (∃ (k : Sector) (pc : Nat) (w : Nat) (s : State), (s.inkedWord k opHalt = some (pc, w))) ∧
    (∃ (k : Sector) (pc : Nat) (w : Nat) (s : State), (s.inkedWord k opIdxj = some (pc, w)) ∧ ((s.scribe k).reps = 0)) ∧
    (∃ (k : Sector) (pc : Nat) (w : Nat) (s : State), (s.inkedWord k opLdcnt = some (pc, w)) ∧ ((s.scribe k).reps = 0) ∧ (lnEvt w / 4 % 4 = 0) ∧ ((s.scribe k).flow.cnt.length = 4)) ∧
    (∃ (k : Sector) (pc : Nat) (w : Nat) (s : State), (s.inkedWord k opDecbr = some (pc, w)) ∧ ((s.scribe k).reps = 0) ∧ ((s.scribe k).flow.cnt.length = 4) ∧ (condClass (lnCond w) = 0) ∧ ((s.scribe k).flow.c (lnCn w) < 2 ^ 32)) ∧
    (∃ (k : Sector) (pc : Nat) (w : Nat) (s : State), (s.inkedWord k opEnsync = some (pc, w)) ∧ ((s.scribe k).reps = 0) ∧ (s.inEnsemble k = false)) :=
  ⟨⟨(1 : Sector), (5 : Nat), (0x0 : Nat), st242, by decide⟩,
   ⟨(1 : Sector), (5 : Nat), (0x400000000000003 : Nat), st243, by decide⟩,
   ⟨(1 : Sector), (5 : Nat), (0x400000000000003 : Nat), st244, by decide⟩,
   ⟨(1 : Sector), (5 : Nat), (0x800000000000003 : Nat), st245, by decide⟩,
   ⟨(1 : Sector), (5 : Nat), (0xc00000000000000 : Nat), (2 : Nat), (3 : Nat), ([] : List (Nat × Nat)), st246, by decide⟩,
   ⟨(1 : Sector), (5 : Nat), (0xc00000000000000 : Nat), (2 : Nat), ([] : List (Nat × Nat)), st247, by decide⟩,
   ⟨(1 : Sector), (5 : Nat), (0x100000000000004d : Nat), st248, by decide⟩,
   ⟨(1 : Sector), (5 : Nat), (0x140000000000004d : Nat), st249, by decide⟩,
   ⟨(1 : Sector), (5 : Nat), (0x1800000000000000 : Nat), (9 : Nat), (0 : Nat), ([] : List (Nat × Nat)), st250, by decide⟩,
   ⟨(1 : Sector), (5 : Nat), (0x1c00000000000002 : Nat), st251, by decide⟩,
   ⟨(1 : Sector), (5 : Nat), (0x1c0d000000000002 : Nat), st252, by decide⟩,
   ⟨(1 : Sector), (5 : Nat), (0x1c09000000000002 : Nat), st253, by decide⟩,
   ⟨(1 : Sector), (5 : Nat), (0x2000000000000002 : Nat), st254, by decide⟩,
   ⟨(1 : Sector), (5 : Nat), (0x2009000000000002 : Nat), st255, by decide⟩,
   ⟨(1 : Sector), (5 : Nat), (0x2400060000000000 : Nat), st256, by decide⟩,
   ⟨(1 : Sector), (5 : Nat), (0x2800060000000009 : Nat), st257, by decide⟩,
   ⟨(1 : Sector), (5 : Nat), (0x2c00000000000503 : Nat), st258, by decide⟩,
   ⟨(1 : Sector), (5 : Nat), (0x3000010000000000 : Nat), st259, by decide⟩,
   ⟨(1 : Sector), (5 : Nat), (0x3400000000000007 : Nat), st260, by decide⟩,
   ⟨(1 : Sector), (5 : Nat), (0x3800000040000007 : Nat), st261, by decide⟩,
   ⟨(1 : Sector), (5 : Nat), (0x3c0002000000007b : Nat), st262, by decide⟩,
   ⟨(1 : Sector), (5 : Nat), (0x4000000040000009 : Nat), st263, by decide⟩,
   ⟨(1 : Sector), (5 : Nat), (0x4400030000000000 : Nat), st264, by decide⟩⟩

def st265 : State := Tests.st [(SMODE.CTL.MODE_CUR 1, 0)]

def st266 : State := Tests.st [(SCRIBE.STAT.STATE 1, 2), (SMODE.CTL.MODE_CUR 1, 3)]

def st267 : State := Tests.st [(SMODE.CTL.MODE_CUR 1, mSetup), (TLL.STAT.LOCKED 1, 1), (PS.RESV.HELD 1, 1), (PS.VEC_WIN.SIZE 1, 1), (SCRIBE.START_ADDR.ADDR 1, 40)]

def st268 : State := Tests.st [(SCRIBE.STAT.STATE 1, 1), (PS.VEC_WIN.SIZE 1, 0)]

def st269 : State := { Tests.st [(SCRIBE.STAT.STATE 1, 1), (SMODE.CTL.MODE_CUR 1, 3)] with scribes := [(1, { stops := [(stopHost, 5)] })] }

def st270 : State := Tests.st [(SCRIBE.STAT.STATE 1, 2), (SMODE.CTL.MODE_CUR 1, 3)]

def st271 : State := { Tests.st [(SCRIBE.STAT.STATE 1, 2)] with scribes := [(1, { reps := 3, flow := { pc := 9 }, idx := 4 })] }

def st272 : State := { Tests.st [(SCRIBE.CTL.HFLAG 1, 1)] with tick := 9, scribes := [(1, { decisions := [{ seq := 1, op := opBr, cond := 9 }] })] }

def st273 : State := { Tests.st [(SCRIBE.STAT.STATE 1, 2)] with scribes := [(1, { decisions := [{ seq := 1, op := opMatch, addr := 7, done := some (0, false) }], pen := { holder := some 7, depth := 64 } })] }

def st274 : State := Tests.st [(SCRIBE.STAT.STATE 1, 3), (SMODE.CTL.MODE_CUR 1, 3)]

def st275 : State := { Tests.st [(SCRIBE.STAT.STATE 1, 2)] with scribes := [(1, { ensStop := some 5 })] }

def st276 : State := Tests.st []

def st277 : State := Tests.st [(ENS.EN 0, 1), (ENS.SMASK 0, 6)]

/-- The hypotheses of every clause of ScribeRuns hold together somewhere. -/
theorem witness_ScribeRuns :
    (∃ (k : Sector) (s : State), (s.modeOf k = mOff)) ∧
    (∃ (k : Sector) (s : State), (s.modeOf k ≠ mOff) ∧ (s.scState k ≠ scIdle)) ∧
    (∃ (k : Sector) (s : State), (s.startFails k = none) ∧ (s.chainOf k = none) ∧ (s.ensembleOf k = [k.val])) ∧
    (∃ (k : Sector) (s : State), (s.scState k = scPriming) ∧ ((s.scribe k).primed = false) ∧ ((s.scribe k).stops = []) ∧ ((s.scribe k).chain = none) ∧ (s.primedNow k = true) ∧ (s.ensembleOf k = [k.val])) ∧
    (∃ (k : Sector) (c : Nat) (s : State), (s.scState k = scPriming) ∧ (reportedCause ((s.scribe k).stops.map (·.1)) = some c)) ∧
    (∃ (k : Sector) (s : State), (s.modeOf k ≠ mOff) ∧ (s.scState k = scRunning) ∧ (∀ e ∈ (s.scribe k).stops, e.1 ≠ stopHost)) ∧
    (∃ (k : Sector) (s : State), (s.scState k = scRunning) ∧ (s.due (s.paceNext k) = true) ∧ (s.boundaryClear k = true) ∧ ((s.marg k).running = false) ∧ ((s.scribe k).stops = []) ∧ ((s.scribe k).halted = false) ∧ ((s.scribe k).decisions = []) ∧ ((s.scribe k).reps ≠ 0)) ∧
    (∃ (k : Sector) (d : Decision) (s : State), ((s.scribe k).decisions = [d]) ∧ (d.own = none) ∧ (d.op = opBr) ∧ (d.cond = 9) ∧ (d.chainSeq = none) ∧ (d.sampledAt ≤ s.nowDots) ∧ (s.inEnsemble k = false)) ∧
    (∃ (k : Sector) (d : Decision) (at_ : Nat) (s : State), (s.scState k = scRunning) ∧ (s.due (s.paceNext k) = true) ∧ ((s.scribe k).word = none) ∧ ((s.scribe k).decisions = [d]) ∧ (d.done = some (at_, false)) ∧ (at_ ≤ dotOf (s.paceNext k)) ∧ (d.timeout = false) ∧ (d.op = opMatch) ∧ ((s.scribe k).pen.holder = some d.addr) ∧ ((s.scribe k).pen.ready = true)) ∧
    (∃ (k : Sector) (s : State), (s.scState k = scDraining) ∧ (∀ o : Fin 8, (s.oct (8 * k + o)).running = false)) ∧
    (∃ (k : Sector) (a : Nat) (s : State), ((s.scribe k).ensStop = some a) ∧ (a ≤ s.nowDots) ∧ (s.scState k = scRunning)) ∧
    (∃ (k : Fin 4) (v : Word) (s : State), (s.ensDouble k v.toNat = false) ∧ (s.ensBusy k v.toNat = false) ∧ (v.getLsbD 30 = false)) ∧
    (∃ (k : Fin 4) (v : Word) (s : State), (s.ensDouble k v.toNat = true)) :=
  ⟨⟨(1 : Sector), st265, by decide⟩,
   ⟨(1 : Sector), st266, by decide⟩,
   ⟨(1 : Sector), st267, by decide⟩,
   ⟨(1 : Sector), st268, by decide⟩,
   ⟨(1 : Sector), (stopHost : Nat), st269, by decide⟩,
   ⟨(1 : Sector), st270, by decide⟩,
   ⟨(1 : Sector), st271, by decide⟩,
   ⟨(1 : Sector), ({ seq := 1, op := opBr, cond := 9 } : Decision), st272, by decide⟩,
   ⟨(1 : Sector), ({ seq := 1, op := opMatch, addr := 7, done := some (0, false) } : Decision), (0 : Nat), st273, by decide⟩,
   ⟨(1 : Sector), st274, by decide⟩,
   ⟨(1 : Sector), (5 : Nat), st275, by decide⟩,
   ⟨(1 : Fin 4), (0x80000003 : Word), st276, by decide⟩,
   ⟨(1 : Fin 4), (0x80000003 : Word), st277, by decide⟩⟩

def st278 : State := Tests.st []

def st279 : State := Tests.st [(EVT.ROUTE.CHAIN 9, 1)]

def st280 : State := Tests.st [(EVTIO.CTL.CODE 3, 9)]

def st281 : State := (fun b : State => { b with tick := 16, ev := { posted := [{ code := 70, source := 8, route := 0x80000001, io := false }] } }) (Tests.st [(SMODE.CTL.MODE_CUR 0, 1)])

def st282 : State := (fun b : State => { b with tick := 28, ev := { edges := [{ pin := 3, ref := 0 }] } }) (Tests.st [(EVTIO.CTL.DIR 3, 1)])

def st283 : State := (fun b : State => { b with tick := 28, ev := { driven := 8, pulses := [(3, 77)] } }) (Tests.st [])

def st284 : State := (fun b : State => { b with ev := { fifo := [(8, 70)] } }) (Tests.st [])

/-- The hypotheses of every clause of EventRows hold together somewhere. -/
theorem witness_EventRows :
    (∃ (code : BitVec 8) (s : State), (s.flag (EVT.ROUTE.CHAIN code.toNat) = false)) ∧
    (∃ (code : BitVec 8) (s : State), (s.flag (EVT.ROUTE.CHAIN code.toNat) = true) ∧ (s.chain ≠ chRuled)) ∧
    (∃ (n : Fin 8) (level : Bool) (s : State), (s.mainOn = true) ∧ (s.ev.levels.testBit n = !level) ∧ (s.flag (EVTIO.CTL.DIR n) = false) ∧ (level = !s.flag (EVTIO.CTL.FALL n)) ∧ (s.flag (EVT.ROUTE.CHAIN (s.get (EVTIO.CTL.CODE n))) = false)) ∧
    (∃ (x : Posted) (rest : List Posted) (s : State), (s.ev.posted = x :: rest) ∧ (x.chain = none) ∧ (x.deliveredAt ≤ s.nowDots) ∧ (x.route = 2 ^ 31 + 1) ∧ (x.code < 256) ∧ (s.modeOf 0 ≠ mOff) ∧ (s.ev.fifo.length < 64) ∧ (x.io = false)) ∧
    (∃ (n : Fin 8) (e : IoEdge) (rest : List IoEdge) (s : State), (s.ev.edges = e :: rest) ∧ (e.pin = n.val) ∧ (e.ref + 28 * 1024 ≤ s.nowDots) ∧ (s.flag (EVTIO.CTL.DIR n) = true) ∧ (s.flag (EVTIO.CTL.MODE n) = false)) ∧
    (∃ (n : Fin 8) (s : State), (Tab.get (fun _ => 0) s.ev.pulses n ≠ 0) ∧ (Tab.get (fun _ => 0) s.ev.pulses n ≤ s.nowDots)) ∧
    (∃ (x : Nat × Nat) (rest : List (Nat × Nat)) (s : State), (s.ev.fifo = x :: rest)) :=
  ⟨⟨(9 : BitVec 8), st278, by decide⟩,
   ⟨(9 : BitVec 8), st279, by decide⟩,
   ⟨(3 : Fin 8), (true : Bool), st280, by decide⟩,
   ⟨({ code := 70, source := 8, route := 0x80000001, io := false } : Posted), ([] : List Posted), st281, by decide⟩,
   ⟨(3 : Fin 8), ({ pin := 3, ref := 0 } : IoEdge), ([] : List IoEdge), st282, by decide⟩,
   ⟨(3 : Fin 8), st283, by decide⟩,
   ⟨((8, 70) : Nat × Nat), ([] : List (Nat × Nat)), st284, by decide⟩⟩

def st285 : State := { Tests.st [(SCRIBE.STAT.STATE 1, 2)] with scribes := [(1, { decisions := [{ seq := 3, addr := 7 }] })] }

def st286 : State := { Tests.st [(SCRIBE.STAT.STATE 1, 2), (PS.VEC_WIN.SIZE 1, 0)] with scribes := [(1, { pen := { holder := some 7 } })] }

def st287 : State := Tests.st [(SMODE.CTL.MODE_CUR 1, 2)]

def st288 : State := Tests.st [(SMODE.CTL.MODE_CUR 1, 3), (SCRIBE.STAT.STATE 1, 2)]

def st289 : State := { Tests.st [] with octs := [(9, { running := true, effect := some (3, 6) })] }

def st290 : State := { Tests.st [(SCRIBE.STAT.STATE 1, 2), (PER.PT.HI.INT 9 0, 4)] with octs := [(8, { next := 5 }), (9, { running := true })] }

def st291 : State := Tests.st [(SMODE.CTL.MODE_CUR 1, 2)]

def st292 : State := { Tests.st [(SMODE.CTL.MODE_CUR 1, 2)] with octs := [(9, { staging := [(10, 3), (11, 4)] })] }

def st293 : State := Tests.st [(SMODE.CTL.MODE_CUR 1, 3), (SCRIBE.STAT.STATE 1, 2)]

def st294 : State := { Tests.st [(SMODE.CTL.MODE_CUR 1, 2)] with cores := [(83, { next := some [4] })] }

/-- The hypotheses of every clause of PencilAndPeriods hold together somewhere. -/
theorem witness_PencilAndPeriods :
    (∃ (k : Sector) (d : Decision) (rest : List Decision) (s : State), (s.scState k = scRunning) ∧ ((s.scribe k).pen.holder = none) ∧ ((s.scribe k).decisions = d :: rest)) ∧
    (∃ (k : Sector) (s : State), (s.scState k = scRunning) ∧ ((s.scribe k).pen.holder ≠ none) ∧ ((s.scribe k).pen.ended = false) ∧ (s.lineLimit k ≤ (s.scribe k).pen.flow.pc)) ∧
    (∃ (g : Octet) (e : Fin 16) (v : Word) (s : State), (s.modeOf (g / 8) ≠ mOff) ∧ (s.ptIgnored g e = false) ∧ (s.flag (PS.RESV.HELD (g / 8)) = false) ∧ (0 < v.toNat % 2 ^ 16) ∧ (Tab.get (fun _ => 0) (s.oct g).heldFrac e = 0)) ∧
    (∃ (g : Octet) (s : State), (s.modeOf (g / 8) ≠ mOff) ∧ (s.scState (g / 8) ≠ scIdle)) ∧
    (∃ (g : Octet) (e : Nat) (stretch : Nat) (s : State), ((s.oct g).effect = some (e, stretch)) ∧ ((s.oct g).running = true) ∧ (s.due (s.oct g).next = true)) ∧
    (∃ (g : Octet) (s : State), ((s.oct g).running = true) ∧ (s.due (s.oct g).next = true) ∧ ((s.oct g).effect = none) ∧ ((s.oct g).meas = false) ∧ (g.val ≠ s.paceOctet (g / 8)) ∧ (s.scState (g / 8) = scRunning) ∧ ((s.oct g).isOver = false) ∧ ((s.scribe (g / 8)).word = none) ∧ ((s.oct g).next < s.paceNext (g / 8)) ∧ ((s.oct g).count = 0)) ∧
    (∃ (g : Octet) (l : Slot) (s : State), (s.modeOf (g / 8) ≠ mOff) ∧ (s.nibLocked g = false) ∧ ((s.rot g).visit = none) ∧ (l.val < 8)) ∧
    (∃ (g : Octet) (l : Slot) (v : Word) (s : State), (s.modeOf (g / 8) ≠ mOff) ∧ (s.nibLocked g = false) ∧ ((s.rot g).visit = none) ∧ (l.val < 8) ∧ (tsBad (wordsNat ((List.range 5).map (fun k => BitVec.ofNat 32 (Tab.get (fun _ => 0) (s.oct g).staging (5 * l + k))) ++ [BitVec.ofNat 32 (v.toNat % 2 ^ 28)])) = false)) ∧
    (∃ (g : Octet) (l : Slot) (s : State), (s.modeOf (g / 8) ≠ mOff) ∧ (s.scState (g / 8) ≠ scIdle) ∧ ((s.rot g).visit = none) ∧ (l.val < 8)) ∧
    (∃ (g : Octet) (l : Slot) (x : List Int) (s : State), (s.modeOf (g / 8) ≠ mOff) ∧ ((s.core g (s.coreAt g l)).next = some x)) :=
  ⟨⟨(1 : Sector), ({ seq := 3, addr := 7 } : Decision), ([] : List Decision), st285, by decide⟩,
   ⟨(1 : Sector), st286, by decide⟩,
   ⟨(9 : Octet), (2 : Fin 16), (4 : Word), st287, by decide⟩,
   ⟨(9 : Octet), st288, by decide⟩,
   ⟨(9 : Octet), (3 : Nat), (6 : Nat), st289, by decide⟩,
   ⟨(9 : Octet), st290, by decide⟩,
   ⟨(9 : Octet), (2 : Slot), st291, by decide⟩,
   ⟨(9 : Octet), (2 : Slot), (0x12 : Word), st292, by decide⟩,
   ⟨(9 : Octet), (2 : Slot), st293, by decide⟩,
   ⟨(9 : Octet), (2 : Slot), ([4] : List Int), st294, by decide⟩⟩

def st295 : State := { Tests.st [(STK.STAT.DE 9 2, 1)] with balls := [(74, { placed := [{ t := 0, eng := 0, lev := some true }] })] }

def st296 : State := { Tests.st [] with balls := [(74, { placed := [{ t := 0, eng := 5, glyph := gL }] })] }

def st297 : State := Tests.st [(SMODE.CTL.MODE_CUR 1, 2), (FE.STAT.STATE 9 2, 4), (STEER.STAT.DC_BALL 9, 15)]

def st298 : State := Tests.st [(SMODE.CTL.MODE_CUR 1, 2), (FE.STAT.STATE 9 2, 6), (FE.STAT.OC 9 2, 1), (ERR.SRC.ACTIVE srcFeOcFail, 1)]

def st299 : State := Tests.st [(SMODE.CTL.MODE_CUR 1, 2), (FE.STAT.OC 9 2, 1)]

def st300 : State := Tests.st [(SMODE.CTL.MODE_CUR 1, 2)]

def st301 : State := Tests.st [(SMODE.CTL.MODE_CUR 1, 2), (STEER.STAT.OV 9, 4)]

def st302 : State := Tests.st [(FE.STAT.STATE 9 2, 3)]

def st303 : State := Tests.st [(SMODE.CTL.MODE_CUR 1, 2)]

def st304 : State := Tests.st [(SMODE.CTL.MODE_CUR 1, 3), (SCRIBE.STAT.STATE 1, 2)]

def st305 : State := Tests.st [(SMODE.CTL.MODE_CUR 1, 2)]

/-- The hypotheses of every clause of PinsAndStrobes hold together somewhere. -/
theorem witness_PinsAndStrobes :
    (∃ (g : Octet) (l : Lane) (x : Pulse) (b : Bool) (rest : List Pulse) (s : State), ((s.ball g l).placed = x :: rest) ∧ (x.eng < 4) ∧ (x.t + s.get (NIB.DESKEW.DRV g l) ≤ s.nowDots) ∧ (x.lev = some b) ∧ (x.de = none) ∧ (s.flag (STK.STAT.DE g l) = true)) ∧
    (∃ (g : Octet) (l : Lane) (i : Fin 2) (x : Pulse) (rest : List Pulse) (s : State), ((s.ball g l).placed = x :: rest) ∧ (x.eng = 4 + i.val) ∧ (s.strobeEnd g l x ≤ s.nowDots) ∧ (x.glyph = gL) ∧ (x.idx = none) ∧ (s.get (ROT.CORES.DEAD g) = 0)) ∧
    (∃ (g : Octet) (l : Lane) (s : State), (1 ≤ s.ballState g l) ∧ (s.ballState g l ≤ fsHigh) ∧ (s.isolated g l = false) ∧ (s.get (STEER.STAT.DC_BALL g) ≠ l.val)) ∧
    (∃ (g : Octet) (l : Lane) (s : State), (s.flag (FE.STAT.OC g l) = true) ∧ (s.ballState g l = fsShutdown)) ∧
    (∃ (g : Octet) (l : Lane) (s : State), (s.modeOf (g / 8) ≠ mOff) ∧ (s.flag (FE.STAT.OC g l) = true)) ∧
    (∃ (g : Octet) (s : State), (s.modeOf (g / 8) ≠ mOff) ∧ ((s.dcUnit g).link = 0)) ∧
    (∃ (g : Octet) (s : State), (s.modeOf (g / 8) ≠ mOff)) ∧
    (∃ (g : Octet) (l : Lane) (s : State), (s.ballState g l = fsLoad)) ∧
    (∃ (g : Octet) (s : State), (s.modeOf (g / 8) ≠ mOff)) ∧
    (∃ (g : Octet) (l : Slot) (s : State), (s.modeOf (g / 8) ≠ mOff) ∧ ((s.rot g).visit = none) ∧ (l.val < 8) ∧ (s.scState (g / 8) ≠ scIdle)) ∧
    (∃ (g : Octet) (l : Slot) (v : Word) (r : RegRow) (s : State), (s.modeOf (g / 8) = mSetup) ∧ ((s.rot g).visit = none) ∧ (l.val < 8) ∧ (s.scState (g / 8) = scIdle) ∧ (v.toNat / 2 ^ 8 % 8 < 6) ∧ (v.toNat % 4 ≠ 3) ∧ (rowAt (FE.CFG.reg g l) = some r)) :=
  ⟨⟨(9 : Octet), (2 : Lane), ({ t := 0, eng := 0, lev := some true } : Pulse), (true : Bool), ([] : List Pulse), st295, by decide⟩,
   ⟨(9 : Octet), (2 : Lane), (1 : Fin 2), ({ t := 0, eng := 5, glyph := gL } : Pulse), ([] : List Pulse), st296, by decide⟩,
   ⟨(9 : Octet), (2 : Lane), st297, by decide⟩,
   ⟨(9 : Octet), (2 : Lane), st298, by decide⟩,
   ⟨(9 : Octet), (2 : Lane), st299, by decide⟩,
   ⟨(9 : Octet), st300, by decide⟩,
   ⟨(9 : Octet), st301, by decide⟩,
   ⟨(9 : Octet), (2 : Lane), st302, by decide⟩,
   ⟨(9 : Octet), st303, by decide⟩,
   ⟨(9 : Octet), (2 : Slot), st304, by decide⟩,
   ⟨(9 : Octet), (2 : Slot), (0x104 : Word), ((rowAt (FE.CFG.reg 9 2)).getD ⟨0, [], []⟩ : RegRow), st305, by decide⟩⟩

def st306 : State := Tests.st [(SMODE.CTL.MODE_CUR 1, 2)]

def st307 : State := Tests.st [(SMODE.CTL.MODE_CUR 1, 2), (DAC.LVL.ACT.OUT 9 2 1, 2)]

def st308 : State := Tests.st [(SMODE.CTL.MODE_CUR 1, 3), (SCRIBE.STAT.STATE 1, 2)]

def st309 : State := Tests.st [(SMODE.CTL.MODE_CUR 1, 2)]

def st310 : State := Tests.st [(SMODE.CTL.MODE_CUR 1, 2), (DAC.LVL.STAGE.PEND 9 2 1, 1)]

def st311 : State := { Tests.st [(DAC.LVL.ACT.OUT 9 2 1, 1)] with octs := [(9, { count := 14, batches := [(1, [(17, 77)])] })] }

def st312 : State := Tests.st [(SMODE.CTL.MODE_CUR 1, 2)]

def st313 : State := { Tests.st [(DAC.STAT.SPAN_CHG 9 2, 1)] with dacs := [(665, { span := some 5, stage := 2 })] }

def st314 : State := { Tests.st [(DAC.LVL.ACT.HOLD 9 2 1, 1)] with tick := 6, dacs := [(665, { hold := some 5 })] }

def st315 : State := { Tests.st [(DAC.LVL.ACT.OUT 9 2 1, 1)] with tick := 6, parks := [(83, 5)] }

def st316 : State := { Tests.st [(DAC.LVL.ACT.OUT 9 2 1, 2)] with tick := 18000 }

def st317 : State := Tests.cmd 0x203 [0x00000009, 1] [(SMODE.CTL.MODE_CUR 1, 2)]

def st318 : State := Tests.cmd 0x203 [0x01000409, 0x00770001] [(SMODE.CTL.MODE_CUR 1, 2)]

/-- The hypotheses of every clause of LevelDacs hold together somewhere. -/
theorem witness_LevelDacs :
    (∃ (g : Octet) (l : Slot) (k : DacIdx) (s : State), (s.modeOf (g / 8) = mSetup) ∧ ((s.rot g).visit = none) ∧ (l.val < 8) ∧ (s.scState (g / 8) = scIdle) ∧ (s.flag (DAC.STAT.SPAN_CHG g l) = false) ∧ (s.get (DAC.LVL.ACT.OUT g l k) = doHiz)) ∧
    (∃ (g : Octet) (l : Slot) (k : DacIdx) (s : State), (s.modeOf (g / 8) = mSetup) ∧ ((s.rot g).visit = none) ∧ (l.val < 8) ∧ (s.scState (g / 8) = scIdle) ∧ (s.flag (DAC.STAT.SPAN_CHG g l) = false) ∧ (s.dacActive g l k = true) ∧ ((s.dac g l k).off = 0)) ∧
    (∃ (g : Octet) (l : Slot) (s : State), (s.modeOf (g / 8) ≠ mOff) ∧ ((s.rot g).visit = none) ∧ (l.val < 8) ∧ (s.scState (g / 8) ≠ scIdle)) ∧
    (∃ (g : Octet) (l : Slot) (v : Word) (s : State), (s.modeOf (g / 8) ≠ mOff) ∧ (s.modeOf (g / 8) ≠ mCalibrate) ∧ ((s.rot g).visit = none) ∧ (l.val < 8) ∧ (v.getLsbD 30 = false)) ∧
    (∃ (g : Octet) (l : Slot) (v : Word) (s : State), (s.modeOf (g / 8) ≠ mOff) ∧ (s.modeOf (g / 8) ≠ mCalibrate) ∧ ((s.rot g).visit = none) ∧ (l.val < 8) ∧ (v.getLsbD 30 = true)) ∧
    (∃ (g : Octet) (n : Nat) (l : Slot) (k : DacIdx) (code : BitVec 16) (s : State), ((s.oct g).batches = [(n, [(8 * l.val + k.val, code.toNat)])]) ∧ (n + 13 ≤ (s.oct g).count) ∧ (s.flag (DAC.STAT.SPAN_CHG g l) = false) ∧ (s.get (DAC.LVL.ACT.OUT g l k) = doParked)) ∧
    (∃ (g : Octet) (l : Slot) (k : DacIdx) (span : Fin 2) (s : State), (s.modeOf (g / 8) = mSetup) ∧ ((s.rot g).visit = none) ∧ (l.val < 8) ∧ (s.flag (DAC.STAT.SPAN_CHG g l) = false) ∧ (s.get (DAC.LVL.CFG.SPAN g l k) ≠ span.val) ∧ (s.get (DAC.LVL.ACT.OUT g l k) = doHiz)) ∧
    (∃ (g : Octet) (l : Slot) (k : DacIdx) (at_ : Nat) (s : State), ((s.dac g l k).span = some at_) ∧ ((s.dac g l k).stage = 2) ∧ (∀ j : DacIdx, j ≠ k → (s.dac g l j).span = none) ∧ (∀ j : DacIdx, s.get (DAC.LVL.ACT.OUT g l j) = doHiz) ∧ (s.lec.jobs = [])) ∧
    (∃ (g : Octet) (l : Slot) (k : DacIdx) (at_ : Nat) (s : State), ((s.dac g l k).hold = some at_) ∧ (at_ ≤ s.tick) ∧ ((s.dac g l k).waits = false)) ∧
    (∃ (g : Octet) (l : Slot) (s : State), (Tab.get (fun _ => 0) s.parks (9 * g + l) ≠ 0) ∧ (Tab.get (fun _ => 0) s.parks (9 * g + l) ≤ s.tick + 1) ∧ (∀ k : DacIdx, (s.dac g l k).off = 0)) ∧
    (∃ (g : Octet) (l : Slot) (k : DacIdx) (s : State), (s.get (DAC.LVL.ACT.OUT g l k) = doActive) ∧ ((s.dac g l k).hold = none) ∧ ((s.dac g l k).upd + 18000 ≤ s.tick) ∧ (s.flag (DAC.STAT.SPAN_CHG g l) = false) ∧ (s.get (DAC.MOD.EN g l) = 0) ∧ ((s.core g (s.coreAt g l)).faults = []) ∧ (s.underRun g ≠ some (s.coreAt g l))) ∧
    (∃ (p : Packet) (u : State) (s : State), (s.start 0x203 = some (p, u)) ∧ (p.arg 0 < 64) ∧ (p.arg 1 = 0) ∧ (p.arg 2 < 8) ∧ (s.modeOf (p.arg 0 / 8) = mSetup) ∧ (p.arg 3 = 1)) ∧
    (∃ (p : Packet) (u : State) (l : Fin 8) (s : State), (s.start 0x203 = some (p, u)) ∧ (p.arg 0 < 64) ∧ (p.arg 1 = 2 ^ l.val) ∧ (p.arg 2 < 8) ∧ (s.modeOf (p.arg 0 / 8) = mSetup) ∧ (p.arg 3 = 1) ∧ ((s.rot (p.arg 0)).visit = none) ∧ (s.flag (DAC.STAT.SPAN_CHG (p.arg 0) l) = false) ∧ ((p.arg 5).testBit 30 = false)) :=
  ⟨⟨(9 : Octet), (2 : Slot), (1 : DacIdx), st306, by decide⟩,
   ⟨(9 : Octet), (2 : Slot), (1 : DacIdx), st307, by decide⟩,
   ⟨(9 : Octet), (2 : Slot), st308, by decide⟩,
   ⟨(9 : Octet), (2 : Slot), (0x1234 : Word), st309, by decide⟩,
   ⟨(9 : Octet), (2 : Slot), (0x40000000 : Word), st310, by decide⟩,
   ⟨(9 : Octet), (1 : Nat), (2 : Slot), (1 : DacIdx), (77 : BitVec 16), st311, by decide⟩,
   ⟨(9 : Octet), (2 : Slot), (1 : DacIdx), (1 : Fin 2), st312, by decide⟩,
   ⟨(9 : Octet), (2 : Slot), (1 : DacIdx), (5 : Nat), st313, by decide⟩,
   ⟨(9 : Octet), (2 : Slot), (1 : DacIdx), (5 : Nat), st314, by decide⟩,
   ⟨(9 : Octet), (2 : Slot), st315, by decide⟩,
   ⟨(9 : Octet), (2 : Slot), (1 : DacIdx), st316, by decide⟩,
   ⟨(((st317.start 0x203).map (·.1)).getD {} : Packet), (((st317.start 0x203).map (·.2)).getD State.reset : State), st317, by decide⟩,
   ⟨(((st318.start 0x203).map (·.1)).getD {} : Packet), (((st318.start 0x203).map (·.2)).getD State.reset : State), (2 : Fin 8), st318, by decide⟩⟩

def st319 : State := { Tests.st [] with tick := 65 }

def st320 : State := { Tests.st [(SINE.CTL.ARM 9, 1), (SMODE.CTL.MODE_CUR 1, 2)] with tick := 64, sineAt := some 64 }

def st321 : State := Tests.st [(SINE.CTL.RUN 9, 1), (SMODE.CTL.MODE_CUR 1, 2), (SINE.FTW.FTW 9, 7)]

def st322 : State := Tests.st [(SINE.CTL.RUN 9, 1), (SMODE.CTL.MODE_CUR 1, 2)]

/-- The hypotheses of every clause of SineGenerators hold together somewhere. -/
theorem witness_SineGenerators :
    (∃ (s : State), (s.flag DEV.SINE_GO.BUSY = false)) ∧
    (∃ (at_ : Nat) (s : State), (s.sineAt = some at_) ∧ (at_ ≤ s.tick)) ∧
    (∃ (g : Octet) (s : State), (s.flag (SINE.CTL.RUN g) = true) ∧ ((s.sine g).next ≤ s.tick) ∧ ((s.sine g).stop = false) ∧ (s.modeOf (g / 8) = mSetup)) ∧
    (∃ (g : Octet) (s : State), (s.modeOf (g / 8) ≠ mOff) ∧ (s.flag (SINE.CTL.RUN g) = true)) :=
  ⟨⟨st319, by decide⟩,
   ⟨(64 : Nat), st320, by decide⟩,
   ⟨(9 : Octet), st321, by decide⟩,
   ⟨(9 : Octet), st322, by decide⟩⟩

def st323 : State := (fun b : State => { b with tick := 100, scribes := [(1, { inked := [{ idx := 4, closed := true, last := 5 }] })] }) (Tests.st [])

def st324 : State := (fun b : State => { b with tick := 100, margs := [(1, { running := true })], scribes := [(1, { inked := [{ idx := 4, closed := true, last := 5, pass := 3, bits := 0x1000000000 }] })] }) (Tests.st [(MARG.RMASK_LO.MASK 1, 1)])

def st325 : State := (fun b : State => { b with tick := 100, margs := [(1, { running := true })], scribes := [(1, { inked := [{ idx := 4, closed := true, last := 5, fail := 8, bits := 0x1000000000 }] })] }) (Tests.st [(MARG.RMASK_LO.MASK 1, 9), (MARG.FIRST_HI.VALID 1, 1), (MARG.PIN.PFIRST_HI.VALID 1 3, 1)])

def st326 : State := { Tests.st [(MARG.WPTR.POS 1, 5)] with margs := [(1, { running := true, mode := 2, dest := 2, size := 16384, banks := [3], owed := [{ bits := 0x1001 }] })] }

def st327 : State := { Tests.st [(PS.RESV.FAIL_ON 1, 1), (PS.FAIL_WIN.SIZE 1, 2), (MARG.CFG.MODE 1, 2), (MARG.STAT.TRIP 1, 1), (MARG.FVEC_LO.COUNT 1, 8)] with margs := [(1, { queue := [{ line := 7 }] })] }

def st328 : State := { Tests.st [(MARG.CFG.MODE 1, 2), (MARG.CFG.ACCUM 1, 1), (MARG.BUF.BANKS 1, 0)] with margs := [(1, { queue := [{ line := 7 }] })] }

def st329 : State := { Tests.st [] with margs := [(1, { running := true, closing := true, start := { stop := some { cause := stopHost } } })] }

def st330 : State := { Tests.st [(SMODE.CTL.MODE_CUR 1, mSetup), (MARG.WPTR.POS 1, 5)] with margs := [(1, { running := true, mode := 3, size := 64 })] }

def st331 : State := Tests.st [(SMODE.CTL.MODE_CUR 1, mSetup)]

def st332 : State := Tests.st [(SMODE.CTL.MODE_CUR 1, mSetup), (MARG.WPTR.POS 1, 5), (MARG.FVEC_LO.COUNT 1, 5)]

def st333 : State := Tests.st [(SMODE.CTL.MODE_CUR 1, mRun), (SCRIBE.STAT.STATE 1, 2)]

/-- The hypotheses of every clause of MarginaliaRuns hold together somewhere. -/
theorem witness_MarginaliaRuns :
    (∃ (k : Sector) (e : Inked) (rest : List Inked) (at_ : Nat) (s : State), ((s.scribe k).inked = e :: rest) ∧ (e.resolvesAt = some at_) ∧ (at_ ≤ s.nowDots) ∧ ((s.marg k).running = false) ∧ (s.scState k ≠ scRunning)) ∧
    (∃ (k : Sector) (e : Inked) (rest : List Inked) (at_ : Nat) (s : State), ((s.scribe k).inked = e :: rest) ∧ (e.resolvesAt = some at_) ∧ (at_ ≤ s.nowDots) ∧ ((s.marg k).running = true) ∧ ((s.marg k).mode = 0) ∧ (e.idx % 2 = 0) ∧ (lnFailEn e.bits = true) ∧ (e.fail = 0) ∧ (e.pass &&& s.rmask k ≠ 0)) ∧
    (∃ (k : Sector) (e : Inked) (rest : List Inked) (at_ : Nat) (pin : Fin 64) (s : State), ((s.scribe k).inked = e :: rest) ∧ (e.resolvesAt = some at_) ∧ (at_ ≤ s.nowDots) ∧ ((s.marg k).running = true) ∧ ((s.marg k).mode = 0) ∧ (e.idx % 2 = 0) ∧ (lnFailEn e.bits = true) ∧ (e.fail &&& ((e.fail ||| e.pass) &&& s.rmask k) = 2 ^ pin.val) ∧ (s.flag (MARG.CFG.N_EN k) = false) ∧ (s.flag (MARG.CFG.PIN_EN k) = false) ∧ (s.flag (MARG.FIRST_HI.VALID k) = true) ∧ (s.flag (MARG.PIN.PFIRST_HI.VALID k pin) = true)) ∧
    (∃ (k : Sector) (r : MargRec) (rest : List MargRec) (s : State), ((s.marg k).owed = r :: rest) ∧ (r.kind ≠ mtClose) ∧ ((s.marg k).mode ≠ 3) ∧ (s.slotsOn (sectorLink k 1) = [])) ∧
    (∃ (k : Sector) (q : MargStart) (rest : List MargStart) (s : State), ((s.marg k).queue = q :: rest) ∧ ((s.marg k).running = false) ∧ ((s.scribe k).inked = []) ∧ ((s.margDest k).1 ≠ 0) ∧ (s.flag (MARG.CFG.ACCUM k) = false)) ∧
    (∃ (k : Sector) (q : MargStart) (rest : List MargStart) (s : State), ((s.marg k).queue = q :: rest) ∧ ((s.marg k).running = false) ∧ ((s.scribe k).inked = []) ∧ ((s.margDest k).1 = 0) ∧ (s.flag (MARG.CFG.ACCUM k) = true)) ∧
    (∃ (k : Sector) (e : MargStop) (s : State), ((s.marg k).running = true) ∧ ((s.marg k).start.stop = some e) ∧ ((s.scribe k).inked = []) ∧ ((s.marg k).closing = true) ∧ ((s.marg k).mode = 0)) ∧
    (∃ (k : Sector) (v : Word) (s : State), (s.modeOf k ≠ mOff) ∧ ((s.marg k).mode = 3) ∧ (ringValid (s.marg k).size (s.rd (MARG.WPTR.reg k)) (v &&& 0xBFFFFFFF) = false)) ∧
    (∃ (k : Sector) (s : State), (s.modeOf k ≠ mOff) ∧ ((s.marg k).mode ≠ 3)) ∧
    (∃ (k : Sector) (s : State), (s.modeOf k ≠ mOff) ∧ (s.scribeBusy k = false)) ∧
    (∃ (k : Sector) (s : State), (s.modeOf k ≠ mOff) ∧ (s.scribeBusy k = true)) :=
  ⟨⟨(1 : Sector), ({ idx := 4, closed := true, last := 5 } : Inked), ([] : List Inked), (24581 : Nat), st323, by decide⟩,
   ⟨(1 : Sector), ({ idx := 4, closed := true, last := 5, pass := 3, bits := 0x1000000000 } : Inked), ([] : List Inked), (24581 : Nat), st324, by decide⟩,
   ⟨(1 : Sector), ({ idx := 4, closed := true, last := 5, fail := 8, bits := 0x1000000000 } : Inked), ([] : List Inked), (24581 : Nat), (3 : Fin 64), st325, by decide⟩,
   ⟨(1 : Sector), ({ bits := 0x1001 } : MargRec), ([] : List MargRec), st326, by decide⟩,
   ⟨(1 : Sector), ({ line := 7 } : MargStart), ([] : List MargStart), st327, by decide⟩,
   ⟨(1 : Sector), ({ line := 7 } : MargStart), ([] : List MargStart), st328, by decide⟩,
   ⟨(1 : Sector), ({ cause := stopHost } : MargStop), st329, by decide⟩,
   ⟨(1 : Sector), (9 : Word), st330, by decide⟩,
   ⟨(1 : Sector), st331, by decide⟩,
   ⟨(1 : Sector), st332, by decide⟩,
   ⟨(1 : Sector), st333, by decide⟩⟩

def st334 : State := Tests.st []

def st335 : State := { Tests.st [(BLOT.STAT.CAPTURING 1, 1)] with tick := 9, blots := [(1, { measure := true, mode := 1, dest := 2, size := 4096, started := true })] }

def st336 : State := Tests.st []

def st337 : State := { Tests.st ((List.range 8).map (fun i => (BLOT.TRG.SET.SET 1 2 i, 0xFFFFFFFF)) ++ [(BLOT.TRG.CTL.EN 1 2, 1), (BLOT.TRG.CTL.REARM 1 2, 1)]) with tick := 9, blots := [(1, { live := true, measure := true, trigs := [(2, { armed := true })] })] }

def st338 : State := Tests.st []

def st339 : State := { Tests.st [(BLOT.MSK.CTL.MODE 1 2, 1), (BLOT.MSK.PMASK_LO.MASK 1 2, 0x200), (PER.PT.HI.INT 9 0, 4)] with tick := 90, octs := [(9, { recent := [{ v := 1024 }] })], blots := [(1, { live := true })] }

def st340 : State := { Tests.st [] with tick := 5 }

def st341 : State := { Tests.st [(BLOT.STAT.CAPTURING 1, 1)] with tick := 0x100000000, blots := [(1, { dest := 2, size := 4096 })] }

def st342 : State := { Tests.st [(BLOT.STAT.CAPTURING 1, 1), (BLOT.RED.HI 1, 1), (BLOT.CFG.MAX_RES 1, 3)] with tick := 600, blots := [(1, { dest := 2, size := 4096, staging := [{ tag := 5 }] })] }

def st343 : State := { Tests.st [(BLOT.STAT.CAPTURING 1, 1), (BLOT.RED.HI 1, 100), (BLOT.STAT.RES 1, 2)] with tick := 6000, blots := [(1, { dest := 2, size := 4096 })] }

def st344 : State := { Tests.st [(BLOT.STAT.CAPTURING 1, 1), (BLOT.STAT.RES 1, 2), (BLOT.CFG.MAX_RES 1, 2)] with tick := 6000, blots := [(1, { dest := 2, size := 4096, staging := List.replicate 4032 {} })] }

def st345 : State := { Tests.st [(BLOT.STAT.CAPTURING 1, 1)] with tick := 6000, blots := [(1, { dest := 2, size := 4096, decim := true, gapLost := 3, gapOcts := 4, gapAt := some 100, whole := 1 })] }

def st346 : State := { Tests.st [(BLOT.HBASE_LO.ADDR 1, 0x10000)] with tick := 600, blots := [(1, { dest := 2, size := 4096, staging := [{ tag := 5, bits := 77 }, { tag := 9 }] })] }

def st347 : State := { Tests.st [] with tick := 6, blots := [(1, { dest := 2, size := 4096, staging := [{ tag := 5, bits := 77 }, { tag := 9 }] })] }

def st348 : State := { Tests.st [(BLOT.STAT.CAPTURING 1, 1)] with blots := [(1, { isOver := some 99, dest := 2 })] }

def st349 : State := { Tests.st [(BLOT.STAT.CAPTURING 1, 1), (SMODE.CTL.MODE_CUR 1, mSetup)] with tick := 4 }

def st350 : State := Tests.st [(SMODE.CTL.MODE_CUR 1, mSetup)]

def st351 : State := { Tests.st [(SMODE.CTL.MODE_CUR 1, mSetup)] with blots := [(1, { dest := 2, size := 4096 })] }

def st352 : State := { Tests.st [(SMODE.CTL.MODE_CUR 1, mSetup), (BLOT.WPTR.POS 1, 5)] with blots := [(1, { dest := 2, size := 4096 })] }

def st353 : State := Tests.st [(SMODE.CTL.MODE_CUR 1, mSetup), (BLOT.MSK.UI.UI 1 2, 100)]

def st354 : State := Tests.st [(SMODE.CTL.MODE_CUR 1, mSetup), (BLOT.MSK.UI.UI 1 2, 384), (BLOT.MSK.WIN.OPEN 1 2, 100), (BLOT.MSK.WIN.CLOSE 1 2, 300)]

def st355 : State := Tests.st [(SMODE.CTL.MODE_CUR 1, mRun)]

def st356 : State := { Tests.st [(BLOT.WPTR.POS 1, 5), (BLOT.CFG.DEST 1, 2), (BLOT.CFG.CAPMODE 1, 1)] with blots := [(1, { opening := true })] }

set_option maxRecDepth 20000 in
/-- The hypotheses of every clause of BlotterStream hold together somewhere. -/
theorem witness_BlotterStream :
    (∃ (k : Sector) (s : State), (s.capturing k = false)) ∧
    (∃ (k : Sector) (o : Fin 8) (p : Fin 8) (fl : Nat) (s : State), (s.capturing k = true) ∧ ((s.blot k).from_ ≤ s.phaseTag p) ∧ ((s.blot k).isOver = none) ∧ ((s.blot k).post = none) ∧ ((s.blot k).decim = false) ∧ ((s.blot k).dest = 2) ∧ ((s.blot k).measure = true) ∧ ((s.blot k).whole = 255) ∧ ((s.blot k).staging = []) ∧ (s.get (BLOT.STAT.RES k) = 0) ∧ (fl = s.blotFlags k + (if (List.range 8).any (s.noSense (8 * k + o)) then bfNosense else 0) + (if (List.range 8).any fun l => (s.agedLanes (8 * k + o)).testBit l then bfAge else 0))) ∧
    (∃ (k : Sector) (s : State), ((s.blot k).live = false)) ∧
    (∃ (k : Sector) (p : Fin 8) (codes : BitVec 128) (j : Fin 8) (s : State), ((s.blot k).live = true) ∧ ((s.blot k).liveAt ≤ s.phaseTag p) ∧ ((s.blot k).measure = true) ∧ ((s.blot k).staging = []) ∧ (s.capturing k = false) ∧ ((s.trigRun k j) = { armed := true }) ∧ (s.trigHolds k j codes.toNat = true) ∧ (s.get (BLOT.TRG.CTL.N k j) ≤ 1) ∧ (s.flag (BLOT.TRG.CTL.REARM k j) = true) ∧ (s.flag (BLOT.TRG.CTL.GATE k j) = false) ∧ (s.flag (BLOT.TRG.CTL.IRQ k j) = false) ∧ (s.flag (BLOT.TRG.CTL.EN k j) = true) ∧ (s.get (BLOT.TRG.CTL.ACT k j) = 0) ∧ (∀ i : Fin 8, s.get (BLOT.TRG.CTL.ARM_BY k i) = 0) ∧ (∀ i : Fin 8, i ≠ j → s.flag (BLOT.TRG.CTL.EN k i) = false)) ∧
    (∃ (k : Sector) (m : Fin 4) (s : State), (s.get (BLOT.MSK.CTL.MODE k m) = 0)) ∧
    (∃ (k : Sector) (m : Fin 4) (pin : Fin 64) (j : Fin 16) (back : Fin 16) (v : Begun) (c : Fin 4) (s : State), ((s.oct (8 * k + pin / 8)).recent[back.val]? = some v) ∧ (s.get (BLOT.MSK.CTL.MODE k m) ≠ 0) ∧ ((s.get (BLOT.MSK.PMASK_LO.MASK k m) + s.get (BLOT.MSK.PMASK_HI.MASK k m) * 2 ^ 32).testBit pin = true) ∧ (j.val ≤ s.get (BLOT.MSK.CTL.UIN k m)) ∧ (s.flag (BLOT.MSK.CTL.GATE k m) = false) ∧ ((s.blot k).live = true) ∧ ((s.maskRun k m).stopped = false) ∧ ((s.blot k).liveAt ≤ v.v + s.get (BLOT.MSK.CTL.OFFSET k m) + j * (s.maskRun k m).ui) ∧ (v.v + s.get (BLOT.MSK.CTL.OFFSET k m) + j * (s.maskRun k m).ui < s.begunEnd (8 * k + pin / 8) back v) ∧ (v.v + s.get (BLOT.MSK.CTL.OFFSET k m) + j * (s.maskRun k m).ui + (s.maskRun k m).close ≤ s.nowDots) ∧ ((s.maskRun k m).open_ + 128 ≤ (s.maskRun k m).close) ∧ (c = 1 ∨ c = 2)) ∧
    (∃ (s : State), (s.tick % 2 ^ 32 ≠ 0)) ∧
    (∃ (k : Sector) (s : State), (s.tick % 2 ^ 32 = 0) ∧ (s.blotTakes k (1024 * s.tick) = true) ∧ ((s.blot k).staging = []) ∧ ((s.blot k).post = none) ∧ ((s.blot k).dest = 2)) ∧
    (∃ (k : Sector) (s : State), (s.capturing k = true) ∧ (s.get (BLOT.RED.HI k) ≤ (s.blot k).staging.length) ∧ ((s.blot k).changedAt + 512 ≤ s.tick) ∧ (s.get (BLOT.STAT.RES k) < s.get (BLOT.CFG.MAX_RES k)) ∧ ((s.blot k).staging.length < blotRoom) ∧ ((s.blot k).post = none) ∧ ((s.blot k).dest = 2)) ∧
    (∃ (k : Sector) (u : Nat) (s : State), (s.capturing k = true) ∧ ((s.blot k).staging.length < s.get (BLOT.RED.HI k)) ∧ ((s.blot k).lowAt = some u) ∧ (u + 4096 ≤ s.tick) ∧ (s.get (BLOT.STAT.RES k) ≠ 0) ∧ ((s.blot k).staging.length < blotRoom) ∧ ((s.blot k).post = none) ∧ ((s.blot k).dest = 2)) ∧
    (∃ (k : Sector) (s : State), (s.capturing k = true) ∧ ((s.blot k).decim = false) ∧ (s.get (BLOT.STAT.RES k) = s.get (BLOT.CFG.MAX_RES k)) ∧ (blotDecimate ≤ (s.blot k).staging.length)) ∧
    (∃ (k : Sector) (s : State), (s.capturing k = true) ∧ ((s.blot k).decim = true) ∧ ((s.blot k).staging.length ≤ s.get (BLOT.RED.LO k)) ∧ ((s.blot k).post = none) ∧ ((s.blot k).dest = 2) ∧ (s.mainOn = true) ∧ (s.awake = true)) ∧
    (∃ (k : Sector) (r : BlotRec) (rest : List BlotRec) (s : State), ((s.blot k).staging = r :: rest) ∧ (r.tag / 1024 + 160 ≤ s.tick) ∧ (s.blotRoomNow k = true) ∧ ((s.blot k).dest = 2) ∧ (r.rank ≠ brEnd) ∧ (r.stops = false) ∧ (s.get (BLOT.WPTR.POS k) + 1 < (s.blot k).size)) ∧
    (∃ (k : Sector) (r : BlotRec) (rest : List BlotRec) (s : State), ((s.blot k).staging = r :: rest) ∧ (s.tick < r.tag / 1024 + 160)) ∧
    (∃ (k : Sector) (tag : Nat) (s : State), ((s.blot k).isOver = some tag) ∧ (s.capturing k = true) ∧ ((s.blot k).decim = false) ∧ ((s.blot k).safe = false) ∧ ((s.blot k).staging = [])) ∧
    (∃ (k : Sector) (s : State), (s.modeOf k ≠ mOff) ∧ (s.capturing k = true) ∧ ((s.blot k).decim = false) ∧ ((s.blot k).safe = false) ∧ ((s.blot k).staging = [])) ∧
    (∃ (k : Sector) (s : State), (s.modeOf k ≠ mOff) ∧ (s.capturing k = false)) ∧
    (∃ (k : Sector) (v : Word) (s : State), (s.modeOf k ≠ mOff) ∧ ((s.blot k).dest = 2) ∧ (blotValid (s.blot k).size (s.rd (BLOT.WPTR.reg k)) v = false)) ∧
    (∃ (k : Sector) (v : Word) (s : State), (s.modeOf k ≠ mOff) ∧ ((s.blot k).dest = 2) ∧ (blotValid (s.blot k).size (s.rd (BLOT.WPTR.reg k)) v = true)) ∧
    (∃ (k : Sector) (m : Fin 4) (s : State), (s.modeOf k ≠ mOff) ∧ (s.blotLocked k = false) ∧ (s.get (BLOT.MSK.UI.UI k m) < 128)) ∧
    (∃ (k : Sector) (m : Fin 4) (s : State), (s.modeOf k ≠ mOff) ∧ (s.blotLocked k = false) ∧ (128 ≤ s.get (BLOT.MSK.UI.UI k m)) ∧ (s.get (BLOT.MSK.WIN.OPEN k m) + 127 ≤ s.get (BLOT.MSK.WIN.CLOSE k m)) ∧ (s.get (BLOT.MSK.WIN.CLOSE k m) < s.get (BLOT.MSK.UI.UI k m))) ∧
    (∃ (k : Sector) (s : State), (s.modeOf k ≠ mOff) ∧ (s.blotLocked k = true)) ∧
    (∃ (k : Sector) (s : State), ((s.blot k).opening = true) ∧ ((s.blot k).measure = false) ∧ (s.capturing k = false) ∧ ((s.blot k).staging = [])) :=
  ⟨⟨(1 : Sector), st334, by decide⟩,
   ⟨(1 : Sector), (2 : Fin 8), (7 : Fin 8), (st335.blotFlags (1 : Sector) + (if (List.range 8).any (st335.noSense (8 * (1 : Sector) + (2 : Fin 8))) then bfNosense else 0) + (if (List.range 8).any fun l => (st335.agedLanes (8 * (1 : Sector) + (2 : Fin 8))).testBit l then bfAge else 0) : Nat), st335, by decide⟩,
   ⟨(1 : Sector), st336, by decide⟩,
   ⟨(1 : Sector), (3 : Fin 8), (0 : BitVec 128), (2 : Fin 8), st337, by decide⟩,
   ⟨(1 : Sector), (2 : Fin 4), st338, by decide⟩,
   ⟨(1 : Sector), (2 : Fin 4), (9 : Fin 64), (0 : Fin 16), (0 : Fin 16), ({ v := 1024 } : Begun), (1 : Fin 4), st339, by decide⟩,
   ⟨st340, by decide⟩,
   ⟨(1 : Sector), st341, by decide⟩,
   ⟨(1 : Sector), st342, by decide⟩,
   ⟨(1 : Sector), (0 : Nat), st343, by decide⟩,
   ⟨(1 : Sector), st344, by decide⟩,
   ⟨(1 : Sector), st345, by decide⟩,
   ⟨(1 : Sector), ({ tag := 5, bits := 77 } : BlotRec), ([{ tag := 9 }] : List BlotRec), st346, by decide⟩,
   ⟨(1 : Sector), ({ tag := 5, bits := 77 } : BlotRec), ([{ tag := 9 }] : List BlotRec), st347, by decide⟩,
   ⟨(1 : Sector), (99 : Nat), st348, by decide⟩,
   ⟨(1 : Sector), st349, by decide⟩,
   ⟨(1 : Sector), st350, by decide⟩,
   ⟨(1 : Sector), (9 : Word), st351, by decide⟩,
   ⟨(1 : Sector), (3 : Word), st352, by decide⟩,
   ⟨(1 : Sector), (2 : Fin 4), st353, by decide⟩,
   ⟨(1 : Sector), (2 : Fin 4), st354, by decide⟩,
   ⟨(1 : Sector), st355, by decide⟩,
   ⟨(1 : Sector), st356, by decide⟩⟩

def st357 : State := Tests.st [(SMODE.CTL.MODE_CUR 1, mMeasure), (HL.SRC.START_SRC 9, 1), (HL.SRC.STOP_SRC 9, 2), (HL.WIN.CLOSE 9, 8)]

def st358 : State := Tests.st [(SMODE.CTL.MODE_CUR 1, mSetup)]

def st359 : State := Tests.st [(SMODE.CTL.MODE_CUR 1, mMeasure), (HL.STAT.BUSY 9, 1)]

def st360 : State := { Tests.st [(FE.STAT.STATE 9 0, 4)] with tick := 500, hairs := [(9, { phase := 1 })] }

def st361 : State := { Tests.st [(HL.STAT.BUSY 9, 1)] with tick := 500, hairs := [(9, { phase := 1 })] }

def st362 : State := { Tests.st [(FE.STAT.STATE 9 0, 4), (HL.SRC.STOP_SRC 9, 5), (HL.WIN.CLOSE 9, 8)] with tick := 500, hairs := [(9, { phase := 2, left := 2 })] }

def st363 : State := { Tests.st [(FE.STAT.STATE 9 0, 4), (HL.SRC.STOP_SRC 9, 5), (HL.WIN.CLOSE 9, 8), (HL.STAT.BUSY 9, 1)] with tick := 500, hairs := [(9, { phase := 2, left := 1 })] }

def st364 : State := { Tests.st [(HL.TIMEOUT.US 9, 2), (HL.STAT.BUSY 9, 1)] with tick := 5000, hairs := [(9, { phase := 2, left := 1 })] }

def st365 : State := { Tests.st [(FE.STAT.STATE 9 0, 4), (HL.FREQ_CFG.GATE 9, 2), (HL.STAT.BUSY 9, 1)] with tick := 5000, hairs := [(9, { phase := 3 })] }

def st366 : State := { Tests.st [(SMODE.CTL.MODE_CUR 1, mMeasure), (HL.STAT.BUSY 9, 1)] with hairs := [(9, { phase := 3 })] }

def st367 : State := { Tests.st [(SMODE.CTL.MODE_CUR 1, mSetup)] with tick := 150000000 }

def st368 : State := { Tests.st [(HL.STAT.SELFCHECK 9, 1)] with tick := 150000000 }

def st369 : State := { Tests.st [(HL.STAT.SELFCHECK 9, 1), (HL.STAT.QUEUED 9, 1)] with tick := 150000000 }

def st370 : State := Tests.cmd 0x301 [0x00000209, 0x10500000, 0x00100001, 0x00200007] [(SMODE.CTL.MODE_CUR 1, mMeasure)]

def st371 : State := Tests.cmd 0x302 [0x00020109, 0x00010003] [(SMODE.CTL.MODE_CUR 1, mSetup)]

def st372 : State := Tests.cmd 0x302 [0x00020109, 0x00010003] [(SMODE.CTL.MODE_CUR 1, mMeasure), (HL.WIN.CLOSE 9, 8)]

/-- The hypotheses of every clause of Hairlines hold together somewhere. -/
theorem witness_Hairlines :
    (∃ (g : Octet) (v : Word) (s : State), (s.modeOf (g / 8) = mMeasure) ∧ (s.hlBusy g = false) ∧ (s.flag (HL.STAT.SELFCHECK g) = false) ∧ (hlBad (v ||| 0x80000000) (s.rd (HL.SRC.reg g)) (s.rd (HL.WIN.reg g)) (s.rd (HL.FREQ_CFG.reg g)) = false)) ∧
    (∃ (g : Octet) (s : State), (s.modeOf (g / 8) ≠ mMeasure) ∧ (s.modeOf (g / 8) ≠ mOff) ∧ (s.hlBusy g = false)) ∧
    (∃ (g : Octet) (v : Word) (s : State), (s.modeOf (g / 8) ≠ mOff) ∧ (s.hlBusy g = true) ∧ (v.getLsbD 30 = false)) ∧
    (∃ (g : Octet) (one : BitVec 32) (two : BitVec 32) (s : State), ((s.hair g).phase = 1) ∧ ((s.hair g).at_ + (s.hlMethod g).2.2 ≤ s.tick) ∧ (15872 ≤ one.toNat) ∧ (one.toNat ≤ 16896) ∧ (31744 ≤ two.toNat) ∧ (two.toNat ≤ 33792) ∧ (s.hlNoSense g = false)) ∧
    (∃ (g : Octet) (one : BitVec 32) (s : State), ((s.hair g).phase = 1) ∧ ((s.hair g).at_ + (s.hlMethod g).2.2 ≤ s.tick) ∧ (one.toNat < 15872) ∧ (s.lec.jobs = [])) ∧
    (∃ (g : Octet) (start : BitVec 64) (x : BitVec 32) (s : State), ((s.hair g).phase = 2) ∧ (1 < (s.hair g).left) ∧ ((s.hair g).at_ ≤ start.toNat / 1024) ∧ (start.toNat + x.toNat ≤ s.nowDots) ∧ (s.get (HL.CTL.STOPS g) = 0) ∧ (s.get (HL.SRC.STAT_STOP g) = 0) ∧ (s.get (HL.SRC.STOP_SRC g) ≠ 0) ∧ (0 < x.toNat) ∧ (1024 * s.get (HL.WIN.OPEN g) ≤ x.toNat) ∧ (x.toNat ≤ 1024 * s.get (HL.WIN.CLOSE g)) ∧ (s.hlNoSense g = false)) ∧
    (∃ (g : Octet) (start : BitVec 64) (x : BitVec 32) (s : State), ((s.hair g).phase = 2) ∧ ((s.hair g).left = 1) ∧ ((s.hair g).good = []) ∧ ((s.hair g).short = 0) ∧ ((s.hair g).at_ ≤ start.toNat / 1024) ∧ (start.toNat + x.toNat ≤ s.nowDots) ∧ (s.get (HL.CTL.STOPS g) = 0) ∧ (s.get (HL.SRC.STAT_STOP g) = 0) ∧ (s.get (HL.SRC.STOP_SRC g) ≠ 0) ∧ (0 < x.toNat) ∧ (1024 * s.get (HL.WIN.OPEN g) ≤ x.toNat) ∧ (x.toNat ≤ 1024 * s.get (HL.WIN.CLOSE g)) ∧ (s.hlNoSense g = false) ∧ (s.lec.jobs = [])) ∧
    (∃ (g : Octet) (s : State), ((s.hair g).phase = 2) ∧ (s.get (HL.TIMEOUT.US g) ≠ 0) ∧ ((s.hair g).at_ + 1500 * s.get (HL.TIMEOUT.US g) ≤ s.tick) ∧ ((s.hair g).good = []) ∧ ((s.hair g).lastStops = []) ∧ (s.lec.jobs = [])) ∧
    (∃ (g : Octet) (dt : BitVec 64) (s : State), ((s.hair g).phase = 3) ∧ ((s.hair g).at_ + 1500 * s.get (HL.FREQ_CFG.GATE g) ≤ s.tick) ∧ (dt ≠ 0) ∧ (s.hlNoSense g = false) ∧ (s.lec.jobs = [])) ∧
    (∃ (g : Octet) (s : State), (s.modeOf (g / 8) ≠ mOff) ∧ (s.hlBusy g = true) ∧ ((s.tdr g).lanes = []) ∧ (s.lec.jobs = [])) ∧
    (∃ (g : Octet) (s : State), (s.modeOf (g / 8) ≠ mOff) ∧ (s.flag (HL.STAT.SELFCHECK g) = false) ∧ (s.hlBusy g = false) ∧ ((s.hair g).checked + 150000000 ≤ s.tick)) ∧
    (∃ (g : Octet) (s : State), (s.flag (HL.STAT.SELFCHECK g) = true) ∧ (s.flag (HL.STAT.QUEUED g) = false)) ∧
    (∃ (g : Octet) (s : State), (s.flag (HL.STAT.SELFCHECK g) = true) ∧ (s.flag (HL.STAT.QUEUED g) = true)) ∧
    (∃ (p : Packet) (u : State) (s : State), (s.start 0x301 = some (p, u)) ∧ (p.arg 0 < 64) ∧ (s.modeOf (p.arg 0 / 8) = mMeasure) ∧ (s.hlBusy (p.arg 0) = false) ∧ (s.flag (HL.STAT.SELFCHECK (p.arg 0)) = false) ∧ (p.arg 1 ≤ 15) ∧ (p.arg 2 ≤ 1) ∧ (hlBad (((wordOf (p.arg 5)).withField 16 4 (p.arg 1)).withField 27 1 (p.arg 2) ||| 0x80000000) (wordOf (p.arg 3)) (wordOf (p.arg 4)) 0 = false)) ∧
    (∃ (p : Packet) (u : State) (s : State), (s.start 0x302 = some (p, u)) ∧ (p.arg 0 < 64) ∧ (s.modeOf (p.arg 0 / 8) ≠ mMeasure)) ∧
    (∃ (p : Packet) (u : State) (s : State), (s.start 0x302 = some (p, u)) ∧ (p.arg 0 < 64) ∧ (s.modeOf (p.arg 0 / 8) = mMeasure) ∧ (s.hlBusy (p.arg 0) = false) ∧ (s.flag (HL.STAT.SELFCHECK (p.arg 0)) = false) ∧ (isComparator (p.arg 1) = true) ∧ (p.arg 2 ≤ 7) ∧ (p.arg 4 % 2 ^ 16 ≠ 0) ∧ (hlBad ((s.rd (HL.CTL.reg (p.arg 0))).withField 28 2 1 ||| 0x80000000) (((s.rd (HL.SRC.reg (p.arg 0))).withField 28 4 (p.arg 1)).withField 24 3 (p.arg 2)) (s.rd (HL.WIN.reg (p.arg 0))) ((wordOf (p.arg 4)).withField 16 16 (p.arg 3)) = false)) :=
  ⟨⟨(9 : Octet), (3 : Word), st357, by decide⟩,
   ⟨(9 : Octet), st358, by decide⟩,
   ⟨(9 : Octet), (3 : Word), st359, by decide⟩,
   ⟨(9 : Octet), (16400 : BitVec 32), (32768 : BitVec 32), st360, by decide⟩,
   ⟨(9 : Octet), (100 : BitVec 32), st361, by decide⟩,
   ⟨(9 : Octet), (5000 : BitVec 64), (700 : BitVec 32), st362, by decide⟩,
   ⟨(9 : Octet), (5000 : BitVec 64), (700 : BitVec 32), st363, by decide⟩,
   ⟨(9 : Octet), st364, by decide⟩,
   ⟨(9 : Octet), (1536000 : BitVec 64), st365, by decide⟩,
   ⟨(9 : Octet), st366, by decide⟩,
   ⟨(9 : Octet), st367, by decide⟩,
   ⟨(9 : Octet), st368, by decide⟩,
   ⟨(9 : Octet), st369, by decide⟩,
   ⟨(((st370.start 0x301).map (·.1)).getD {} : Packet), (((st370.start 0x301).map (·.2)).getD State.reset : State), st370, by decide⟩,
   ⟨(((st371.start 0x302).map (·.1)).getD {} : Packet), (((st371.start 0x302).map (·.2)).getD State.reset : State), st371, by decide⟩,
   ⟨(((st372.start 0x302).map (·.1)).getD {} : Packet), (((st372.start 0x302).map (·.2)).getD State.reset : State), st372, by decide⟩⟩

def st373 : State := Tests.st [(SMODE.CTL.MODE_CUR 1, mSetup)]

def st374 : State := Tests.st [(SMODE.CTL.MODE_CUR 1, mMeasure)]

def st375 : State := Tests.st [(SMODE.CTL.MODE_CUR 1, mMeasure), (PER.PT.HI.INT 9 0, 256), (DAC.LVL.CODE.CODE 9 0 1, 0xFFFF), (DAC.LVL.CODE.CODE 9 1 1, 0xFFFF), (DAC.LVL.CODE.CODE 9 0 0, 0), (DAC.LVL.CODE.CODE 9 1 0, 0)]

def st376 : State := { Tests.st [] with tick := 15000, tdrs := [(9, { lanes := [2, 5] })] }

def st377 : State := { Tests.st [] with tick := 15000, tdrs := [(9, { lanes := [2, 5] })] }

def st378 : State := { Tests.st [(PER.PT.HI.INT 9 0, 4)] with tick := 1500000, tdrs := [(9, { lanes := [2, 5], phase := 1 })] }

def st379 : State := { Tests.st [(PER.PT.HI.INT 9 0, 4)] with tick := 1500000, tdrs := [(9, { lanes := [2, 5], phase := 1 })] }

def st380 : State := Tests.cmd 0x303 [0, 0, 0x00010003] []

def st381 : State := Tests.cmd 0x303 [0x200, 0, 0x00000003] [(SMODE.CTL.MODE_CUR 1, mMeasure), (PER.PT.HI.INT 9 0, 256), (DAC.LVL.CODE.CODE 9 0 1, 0xFFFF), (DAC.LVL.CODE.CODE 9 1 1, 0xFFFF), (DAC.LVL.CODE.CODE 9 0 0, 0), (DAC.LVL.CODE.CODE 9 1 0, 0)]

def st382 : State := Tests.cmd 0x307 [0xFF050309, 1, 2, 3, 4, 5, 6, 7, 8] [(SMODE.CTL.MODE_CUR 1, mSetup)]

set_option maxRecDepth 20000 in
/-- The hypotheses of every clause of TdrAndStimulus hold together somewhere. -/
theorem witness_TdrAndStimulus :
    (∃ (g : Octet) (s : State), (s.modeOf (g / 8) ≠ mMeasure) ∧ (s.modeOf (g / 8) ≠ mOff)) ∧
    (∃ (g : Octet) (v : Word) (s : State), (s.modeOf (g / 8) = mMeasure) ∧ (s.tdrBad g (v.field 0 8) = true)) ∧
    (∃ (g : Octet) (v : Word) (s : State), (s.modeOf (g / 8) = mMeasure) ∧ (s.tdrBad g (v.field 0 8) = false) ∧ (v.field 0 8 ≠ 0)) ∧
    (∃ (g : Octet) (l : Nat) (rest : List Nat) (s : State), ((s.tdr g).lanes = l :: rest) ∧ ((s.tdr g).phase = 0) ∧ ((s.tdr g).at_ + 15000 ≤ s.tick)) ∧
    (∃ (g : Octet) (l : Lane) (m : Lane) (rest : List Nat) (s : State), ((s.tdr g).lanes = l.val :: m.val :: rest) ∧ ((s.tdr g).phase = 0) ∧ ((s.tdr g).at_ + 15000 ≤ s.tick)) ∧
    (∃ (g : Octet) (l : Lane) (m : Lane) (rest : List Nat) (shots : List TdrShot) (s : State), ((s.tdr g).lanes = l.val :: m.val :: rest) ∧ ((s.tdr g).phase ≠ 0) ∧ ((s.tdr g).at_ + 512 * s.period g (s.tdrEntry g) / 2 ^ 32 ≤ s.tick) ∧ (passSig shots ≠ 1)) ∧
    (∃ (g : Octet) (l : Nat) (rest : List Nat) (shots : List TdrShot) (s : State), ((s.tdr g).lanes = l :: rest) ∧ ((s.tdr g).phase = 1) ∧ ((s.tdr g).at_ + 512 * s.period g (s.tdrEntry g) / 2 ^ 32 ≤ s.tick) ∧ (passSig shots = 1)) ∧
    (∃ (p : Packet) (u : State) (s : State), (s.start 0x303 = some (p, u)) ∧ (p.arg 0 = 0) ∧ (p.arg 2 ≤ 1)) ∧
    (∃ (p : Packet) (u : State) (g : Octet) (s : State), (s.start 0x303 = some (p, u)) ∧ (p.arg 0 = 2 ^ g.val) ∧ (s.modeOf (g / 8) = mMeasure) ∧ (p.arg 1 % 2 ^ 8 ≠ 0) ∧ (p.arg 1 < 2 ^ 8) ∧ (p.arg 2 ≤ 1) ∧ (s.tdrBad g (p.arg 1) = false)) ∧
    (∃ (p : Packet) (u : State) (s : State), (s.start 0x307 = some (p, u)) ∧ (p.arg 0 < 64) ∧ (s.modeOf (p.arg 0 / 8) ≠ mOff) ∧ (p.arg 1 ≤ 7) ∧ (p.arg 2 ≤ 63)) :=
  ⟨⟨(9 : Octet), st373, by decide⟩,
   ⟨(9 : Octet), (3 : Word), st374, by decide⟩,
   ⟨(9 : Octet), (3 : Word), st375, by decide⟩,
   ⟨(9 : Octet), (2 : Nat), ([5] : List Nat), st376, by decide⟩,
   ⟨(9 : Octet), (2 : Lane), (5 : Lane), ([] : List Nat), st377, by decide⟩,
   ⟨(9 : Octet), (2 : Lane), (5 : Lane), ([] : List Nat), ([] : List TdrShot), st378, by decide⟩,
   ⟨(9 : Octet), (2 : Nat), ([5] : List Nat), (List.replicate 256 ⟨some 10, false, some 500, true, false⟩ : List TdrShot), st379, by decide⟩,
   ⟨(((st380.start 0x303).map (·.1)).getD {} : Packet), (((st380.start 0x303).map (·.2)).getD State.reset : State), st380, by decide⟩,
   ⟨(((st381.start 0x303).map (·.1)).getD {} : Packet), (((st381.start 0x303).map (·.2)).getD State.reset : State), (9 : Octet), st381, by decide⟩,
   ⟨(((st382.start 0x307).map (·.1)).getD {} : Packet), (((st382.start 0x307).map (·.2)).getD State.reset : State), st382, by decide⟩⟩

def st383 : State := { Tests.st [(SMODE.CTL.MODE_CUR 1, mSetup)] with tick := 7 }

def st384 : State := Tests.st [(SMODE.CTL.MODE_CUR 1, mCalibrate)]

def st385 : State := Tests.st [(SMODE.CTL.MODE_CUR 1, mSetup)]

def st386 : State := { Tests.st [(SMODE.CTL.MODE_CUR 1, mSetup), (DC.STAT.SELFTEST 9, 1)] with tick := 7 }

def st387 : State := { Tests.st [(SMODE.CTL.MODE_CUR 1, mSetup)] with tick := 22507, dcs := [(9, { link := 1, ball := 2, at_ := 7 })] }

def st388 : State := { Tests.st [(SMODE.CTL.MODE_CUR 1, mSetup), (DC.CTL.MODE 9, 1), (DC.CTL.CONNECT 9, 1)] with tick := 22507, dcs := [(9, { link := 2, ball := 2, at_ := 7 })] }

def st389 : State := { Tests.st [(SMODE.CTL.MODE_CUR 1, mSetup), (DC.STAT.CONNECTED 9, 1)] with tick := 22507, dcs := [(9, { link := 3, ball := 2, at_ := 7 })] }

def st390 : State := { Tests.st [(SMODE.CTL.MODE_CUR 1, mSetup)] with tick := 22507, dcs := [(9, { link := 2, ball := 2, at_ := 7 })] }

def st391 : State := Tests.st [(SMODE.CTL.MODE_CUR 1, mSetup), (DC.STAT.BUSY 9, 1)]

def st392 : State := Tests.st [(SMODE.CTL.MODE_CUR 1, mSetup), (DC.STAT.BUSY 9, 1), (DC.CTL.MODE 9, 1)]

def st393 : State := { Tests.st [(SMODE.CTL.MODE_CUR 1, mSetup), (DC.STAT.BUSY 9, 1), (DC.CTL.MODE 9, 1)] with dcs := [(9, { link := 2 })] }

def st394 : State := { Tests.st [(SMODE.CTL.MODE_CUR 1, mSetup), (DC.ST_CFG.INTERVAL 9, 1)] with tick := 1500000000 }

def st395 : State := Tests.st [(SMODE.CTL.MODE_CUR 1, mSetup), (DC.STAT.BUSY 9, 1)]

def st396 : State := Tests.st [(SMODE.CTL.MODE_CUR 1, mSetup), (DC.STAT.SELFTEST 9, 1)]

def st397 : State := { Tests.st [(SMODE.CTL.MODE_CUR 1, mSetup)] with tick := 1500000, dcs := [(9, { queued := some (.go 5) })] }

def st398 : State := Tests.cmd 0x304 [0x01010209, 0x00000064, 0x00000000] [(SMODE.CTL.MODE_CUR 1, mSetup)]

def st399 : State := (fun b : State => { b with dcs := [(9, { link := 2, ball := 2 })] }) (Tests.cmd 0x305 [0x00020109] [(SMODE.CTL.MODE_CUR 1, mSetup)])

def st400 : State := (fun b : State => { b with dcs := [(9, { link := 2, ball := 2 })] }) (Tests.cmd 0x306 [0x00000009] [(SMODE.CTL.MODE_CUR 1, mSetup)])

/-- The hypotheses of every clause of DcUnits hold together somewhere. -/
theorem witness_DcUnits :
    (∃ (g : Octet) (v : Word) (s : State), (s.modeOf (g / 8) ≠ mOff) ∧ (s.dcJudge g (v ||| 0x80000000) = .accept) ∧ (s.flag (DC.STAT.SELFTEST g) = false) ∧ ((s.dcUnit g).link = 0) ∧ (s.rotState g = roIdle)) ∧
    (∃ (g : Octet) (v : Word) (s : State), (s.modeOf (g / 8) ≠ mOff) ∧ (s.dcJudge g (v ||| 0x80000000) = .refuse)) ∧
    (∃ (g : Octet) (v : Word) (s : State), (s.modeOf (g / 8) ≠ mOff) ∧ (s.dcJudge g (v ||| 0x80000000) = .ignore)) ∧
    (∃ (g : Octet) (v : Word) (s : State), (s.modeOf (g / 8) ≠ mOff) ∧ (s.dcJudge g (v ||| 0x80000000) = .accept) ∧ (s.flag (DC.STAT.SELFTEST g) = true)) ∧
    (∃ (g : Octet) (s : State), ((s.dcUnit g).link = 1) ∧ ((s.dcUnit g).at_ + 22500 ≤ s.tick) ∧ (s.lec.jobs = [])) ∧
    (∃ (g : Octet) (v : Word) (s : State), (s.modeOf (g / 8) ≠ mOff) ∧ (s.dcJudge g (v &&& 0x7FFFFFFF) = .accept) ∧ ((s.dcUnit g).link = 2) ∧ (s.flag (DC.STAT.BUSY g) = false)) ∧
    (∃ (g : Octet) (s : State), ((s.dcUnit g).link = 3) ∧ (s.lec.jobs = [])) ∧
    (∃ (g : Octet) (v : Word) (s : State), (s.modeOf (g / 8) ≠ mOff) ∧ (v.field 0 4 ≠ 15) ∧ (s.flag (DC.STAT.BUSY g) = false) ∧ (s.flag (DC.STAT.SELFTEST g) = false) ∧ ((s.dcUnit g).link = 2)) ∧
    (∃ (g : Octet) (s : State), (s.modeOf (g / 8) ≠ mOff) ∧ (s.flag (DC.STAT.BUSY g) = true)) ∧
    (∃ (g : Octet) (s : State), (s.flag (DC.STAT.BUSY g) = true) ∧ ((s.dcUnit g).doneAt ≤ s.tick) ∧ ((s.dcUnit g).comply = false) ∧ (s.get (DC.CTL.MODE g) ≠ 0) ∧ (s.lec.jobs = [])) ∧
    (∃ (g : Octet) (s : State), (s.get (DC.CTL.MODE g) ≠ 0) ∧ ((s.dcUnit g).link ≠ 0) ∧ (s.flag (DC.STAT.BUSY g) = true)) ∧
    (∃ (g : Octet) (s : State), (s.modeOf (g / 8) ≠ mOff) ∧ (s.get (DC.ST_CFG.INTERVAL g) ≠ 0) ∧ ((s.dcUnit g).tested + 1500 * (1000000 * s.get (DC.ST_CFG.INTERVAL g)) ≤ s.tick) ∧ (s.dcIdle g = true)) ∧
    (∃ (g : Octet) (s : State), (s.modeOf (g / 8) ≠ mOff) ∧ (s.dcIdle g = false)) ∧
    (∃ (g : Octet) (s : State), (s.flag (DC.STAT.SELFTEST g) = true) ∧ ((s.dcUnit g).queued = none)) ∧
    (∃ (g : Octet) (q : DcRequest) (s : State), ((s.dcUnit g).queued = some q) ∧ ((s.dcUnit g).queuedAt + 1500000 ≤ s.tick) ∧ (s.lec.jobs = [])) ∧
    (∃ (p : Packet) (u : State) (s : State), (s.start 0x304 = some (p, u)) ∧ (p.arg 0 < 64) ∧ ((s.dcUnit (p.arg 0)).link = 0) ∧ ((s.dcUnit (p.arg 0)).queued = none) ∧ (s.inSafe (p.arg 0 / 8) = false) ∧ (s.modeOf (p.arg 0 / 8) = mSetup) ∧ (p.arg 1 ≤ 7) ∧ (p.arg 2 ≤ 2) ∧ (p.arg 3 ≤ 4) ∧ (forceBad (p.arg 2) (p.arg 4) = false) ∧ (s.flag (DC.STAT.SELFTEST (p.arg 0)) = false) ∧ (s.rotState (p.arg 0) = roIdle)) ∧
    (∃ (p : Packet) (u : State) (s : State), (s.start 0x305 = some (p, u)) ∧ (p.arg 0 < 64) ∧ (s.modeOf (p.arg 0 / 8) ≠ mOff) ∧ (s.flag (DC.STAT.BUSY (p.arg 0)) = false) ∧ ((s.dcUnit (p.arg 0)).queued = none) ∧ ((s.dcUnit (p.arg 0)).link = 2) ∧ (p.arg 2 ≤ 14) ∧ (s.flag (DC.STAT.SELFTEST (p.arg 0)) = false)) ∧
    (∃ (p : Packet) (u : State) (s : State), (s.start 0x306 = some (p, u)) ∧ (p.arg 0 < 64) ∧ (s.modeOf (p.arg 0 / 8) ≠ mOff) ∧ ((s.dcUnit (p.arg 0)).link = 2) ∧ (s.dcJudge (p.arg 0) (s.rd (DC.CTL.reg (p.arg 0)) &&& 0x7FFFFFFF) = .accept) ∧ (s.flag (DC.STAT.BUSY (p.arg 0)) = false)) :=
  ⟨⟨(9 : Octet), (0x02000000 : Word), st383, by decide⟩,
   ⟨(9 : Octet), (0x02000000 : Word), st384, by decide⟩,
   ⟨(9 : Octet), (0x02030000 : Word), st385, by decide⟩,
   ⟨(9 : Octet), (0x02000000 : Word), st386, by decide⟩,
   ⟨(9 : Octet), st387, by decide⟩,
   ⟨(9 : Octet), (0x02000000 : Word), st388, by decide⟩,
   ⟨(9 : Octet), st389, by decide⟩,
   ⟨(9 : Octet), (0x00030002 : Word), st390, by decide⟩,
   ⟨(9 : Octet), st391, by decide⟩,
   ⟨(9 : Octet), st392, by decide⟩,
   ⟨(9 : Octet), st393, by decide⟩,
   ⟨(9 : Octet), st394, by decide⟩,
   ⟨(9 : Octet), st395, by decide⟩,
   ⟨(9 : Octet), st396, by decide⟩,
   ⟨(9 : Octet), (.go 5 : DcRequest), st397, by decide⟩,
   ⟨(((st398.start 0x304).map (·.1)).getD {} : Packet), (((st398.start 0x304).map (·.2)).getD State.reset : State), st398, by decide⟩,
   ⟨(((st399.start 0x305).map (·.1)).getD {} : Packet), (((st399.start 0x305).map (·.2)).getD State.reset : State), st399, by decide⟩,
   ⟨(((st400.start 0x306).map (·.1)).getD {} : Packet), (((st400.start 0x306).map (·.2)).getD State.reset : State), st400, by decide⟩⟩

def st401 : State := Tests.st [(SMODE.CTL.MODE_CUR 1, mSetup), (ROT.CTL.EN 9, 1), (ROT.CTL.LANES 9, 12)]

def st402 : State := { Tests.st [(SMODE.CTL.MODE_CUR 1, mSetup), (ROT.STAT.STATE 9, 2)] with rots := [(9, { visit := some 2 })] }

def st403 : State := { Tests.st [(SMODE.CTL.MODE_CUR 1, mSetup), (ROT.STAT.STATE 9, 3)] with rots := [(9, { visit := some 2 })] }

def st404 : State := { Tests.st [(SMODE.CTL.MODE_CUR 1, mSetup), (ROT.STAT.STATE 9, 3)] with rots := [(9, { visit := some 2 })] }

def st405 : State := { Tests.st [(SMODE.CTL.MODE_CUR 1, mSetup), (ROT.STAT.STATE 9, 4)] with tick := 75000000, rots := [(9, { visit := some 2 })] }

def st406 : State := { Tests.st [(SMODE.CTL.MODE_CUR 1, mSetup), (ROT.STAT.STATE 9, 4)] with tick := 5, rots := [(9, { visit := some 2 })] }

def st407 : State := { Tests.st [(SMODE.CTL.MODE_CUR 1, mSetup), (ROT.STAT.STATE 9, 4), (FE.STAT.OC 9 2, 1)] with tick := 5, rots := [(9, { visit := some 2 })] }

def st408 : State := (fun b : State => { b with tick := 5, rots := [(9, { visit := some 2 })] }) (Tests.st [(SMODE.CTL.MODE_CUR 1, mSetup), (ROT.STAT.STATE 9, 1)])

def st409 : State := Tests.st [(SMODE.CTL.MODE_CUR 1, mSetup)]

def st410 : State := Tests.st [(SMODE.CTL.MODE_CUR 1, mSetup)]

def st411 : State := Tests.st [(SMODE.CTL.MODE_CUR 1, mSetup), (ROT.STAT.STATE 9, 3)]

def st412 : State := Tests.st []

def st413 : State := (fun b : State => { b with secCals := [(1, { ran := 3600 })] }) (Tests.st [])

/-- The hypotheses of every clause of RotationCycles hold together somewhere. -/
theorem witness_RotationCycles :
    (∃ (g : Octet) (s : State), (s.rotMay g = true) ∧ (s.rotState g = roIdle) ∧ ((s.rot g).visit = none)) ∧
    (∃ (g : Octet) (l : Lane) (s : State), ((s.rot g).visit = some l.val) ∧ (s.rotState g = roMirror)) ∧
    (∃ (g : Octet) (l : Lane) (s : State), ((s.rot g).visit = some l.val) ∧ (s.rotState g = roMatch)) ∧
    (∃ (g : Octet) (l : Lane) (s : State), ((s.rot g).visit = some l.val) ∧ (s.rotState g = roMatch) ∧ ((s.rot g).tries < 2)) ∧
    (∃ (g : Octet) (l : Lane) (s : State), ((s.rot g).visit = some l.val) ∧ (s.rotState g = roSeamOut) ∧ ((s.rot g).at_ + 75000000 ≤ s.tick) ∧ ((s.rot g).todo = [])) ∧
    (∃ (g : Octet) (l : Lane) (s : State), ((s.rot g).owed = none) ∧ ((s.rot g).visit = some l.val) ∧ (s.rotState g = roSeamOut) ∧ (s.handoverShut g l = false)) ∧
    (∃ (g : Octet) (l : Lane) (s : State), ((s.rot g).owed = none) ∧ ((s.rot g).visit = some l.val) ∧ (s.handoverShut g l = true)) ∧
    (∃ (g : Octet) (e : RunEnd) (l : Lane) (s : State), (s.modeOf (g / 8) = mSetup) ∧ (s.rotState g = roSpareCal) ∧ (e.taps = []) ∧ (s.runCause g 8 e = 0) ∧ (s.vault.room 1 = true) ∧ ((s.rot g).visit = some l.val)) ∧
    (∃ (g : Octet) (s : State), (s.rotState g = roIdle) ∧ (s.procCore g = none)) ∧
    (∃ (g : Octet) (s : State), (s.modeOf (g / 8) ≠ mOff) ∧ (s.rotState g = roIdle)) ∧
    (∃ (g : Octet) (v : Word) (s : State), (s.modeOf (g / 8) = mSetup) ∧ (v.getLsbD 30 = true) ∧ (s.rotState g = roMatch) ∧ ((s.rot g).visit = none) ∧ (∀ c : Fin 9, (s.core g c).prov = none) ∧ (s.procCore g = none)) ∧
    (∃ (k : Sector) (s : State), ((s.secCal k).ran + (if s.rotating k then s.quill.qsec - (s.secCal k).ranAt else 0) < 3600)) ∧
    (∃ (k : Sector) (s : State), (3600 ≤ (s.secCal k).ran) ∧ (s.vault.room 1 = true)) :=
  ⟨⟨(9 : Octet), st401, by decide⟩,
   ⟨(9 : Octet), (2 : Lane), st402, by decide⟩,
   ⟨(9 : Octet), (2 : Lane), st403, by decide⟩,
   ⟨(9 : Octet), (2 : Lane), st404, by decide⟩,
   ⟨(9 : Octet), (2 : Lane), st405, by decide⟩,
   ⟨(9 : Octet), (2 : Lane), st406, by decide⟩,
   ⟨(9 : Octet), (2 : Lane), st407, by decide⟩,
   ⟨(9 : Octet), (⟨.none, [⟨.timing, 5⟩], 20, []⟩ : RunEnd), (2 : Lane), st408, by decide⟩,
   ⟨(9 : Octet), st409, by decide⟩,
   ⟨(9 : Octet), st410, by decide⟩,
   ⟨(9 : Octet), (0xC00C0005 : Word), st411, by decide⟩,
   ⟨(1 : Sector), st412, by decide⟩,
   ⟨(1 : Sector), st413, by decide⟩⟩

def st414 : State := Tests.st [(SMODE.CTL.MODE_CUR 1, mOff)]

def st415 : State := { Tests.st [] with secCals := [(1, { primed := true, filt := 77 })] }

def st416 : State := Tests.st [(SMODE.CTL.MODE_CUR 1, mSetup)]

def st417 : State := { Tests.st [(SMODE.CTL.MODE_CUR 1, mSetup)] with tick := 15000000001, cores := [(83, { commitAt := some 0 })] }

/-- The hypotheses of every clause of CorrectionsAndAges hold together somewhere. -/
theorem witness_CorrectionsAndAges :
    (∃ (k : Sector) (s : State), (s.mainOn = true) ∧ (s.modeOf k = mOff) ∧ ((s.secCal k).primed = false) ∧ (s.tempPoints = [])) ∧
    (∃ (k : Sector) (s : State), (s.mainOn = true) ∧ ((s.secCal k).primed = true)) ∧
    (∃ (k : Sector) (s : State), (s.modeOf k ≠ mOff) ∧ (s.mainOn = true)) ∧
    (∃ (g : Octet) (s : State), (s.modeOf (g / 8) ≠ mOff) ∧ (s.mainOn = true)) :=
  ⟨⟨(1 : Sector), st414, by decide⟩,
   ⟨(1 : Sector), st415, by decide⟩,
   ⟨(1 : Sector), st416, by decide⟩,
   ⟨(9 : Octet), st417, by decide⟩⟩

def st418 : State := Tests.cmd 0x401 [0x0300, 0] [(SMODE.CTL.MODE_CUR 1, mSetup)]

def st419 : State := Tests.cmd 0x401 [0x0300, 0] [(SMODE.CTL.MODE_CUR 1, mRun)]

def st420 : State := Tests.cmd 0x402 [0x0300, 0, 0x00000500] [(SMODE.CTL.MODE_CUR 1, mSetup)]

def st421 : State := Tests.cmd 0x403 [0x0300, 0] [(SMODE.CTL.MODE_CUR 1, mSetup)]

def st422 : State := (fun b : State => { b with vault := { b.vault with lc := 2 } }) (Tests.cmd 0x404 [3] [(SMODE.CTL.MODE_CUR 1, mSetup)])

def st423 : State := (fun b : State => { b with lec := { b.lec with waiting := b.lec.waiting.map fun p => { p with target := 2 } } }) (Tests.cmd 0x404 [3] ((List.range 8).map fun k => (SMODE.CTL.MODE_CUR k, mSetup)))

def st424 : State := { Tests.st [(SMODE.CTL.MODE_CUR 1, mCalibrate)] with procs := [(1, { kind := 1 })] }

def st425 : State := (fun b : State => { b with vault := { b.vault with lc := 3 } }) (Tests.cmd 0x405 [0x00000309] [(SMODE.CTL.MODE_CUR 1, mOff)])

def st426 : State := Tests.cmd 0x405 [0x00000309] [(SMODE.CTL.MODE_CUR 1, mOff)]

def st427 : State := (fun b : State => { b with vault := { b.vault with lc := 1 } }) (Tests.cmd 0x406 [0x03020101, 0x04] [(SMODE.CTL.MODE_CUR 1, mOff)])

def st428 : State := Tests.cmd 0x201 [0x07000009, 0, 0, 0, 0, 0, 0] [(SMODE.CTL.MODE_CUR 1, mSetup)]

def st429 : State := Tests.cmd 0x201 [0x07000409, 1, 2, 3, 4, 5, 6] [(SMODE.CTL.MODE_CUR 1, mSetup)]

def st430 : State := Tests.cmd 0x202 [0, 0, 16, 0, 0, 4] []

def st431 : State := Tests.cmd 0x202 [0x200, 0, 3, 0, 0x500, 0x6] [(SMODE.CTL.MODE_CUR 1, mSetup)]

/-- The hypotheses of every clause of CalibrationCommands hold together somewhere. -/
theorem witness_CalibrationCommands :
    (∃ (p : Packet) (u : State) (k : Sector) (s : State), (s.start 0x401 = some (p, u)) ∧ (p.scope = 2 ^ k.val) ∧ (s.calMay (2 ^ k.val) = true)) ∧
    (∃ (p : Packet) (u : State) (s : State), (s.start 0x401 = some (p, u)) ∧ (s.calMay p.scope = false)) ∧
    (∃ (p : Packet) (u : State) (k : Sector) (s : State), (s.start 0x402 = some (p, u)) ∧ (p.scope = 2 ^ k.val) ∧ (s.calMay (2 ^ k.val) = true) ∧ (p.arg 1 % 256 = 0)) ∧
    (∃ (p : Packet) (u : State) (k : Sector) (s : State), (s.start 0x403 = some (p, u)) ∧ (p.scope = 2 ^ k.val) ∧ (s.calMay (2 ^ k.val) = true)) ∧
    (∃ (p : Packet) (u : State) (s : State), (s.start 0x404 = some (p, u)) ∧ (s.rwlOpen = false)) ∧
    (∃ (p : Packet) (u : State) (k : Sector) (s : State), (s.start 0x404 = some (p, u)) ∧ (s.rwlOpen = true) ∧ (s.calMay 255 = true) ∧ (p.arg 0 < 8) ∧ (s.changeRoom 1 = true) ∧ (p.scope = 2 ^ k.val)) ∧
    (∃ (k : Sector) (s : State), (s.procDone k = true) ∧ (s.inSafe k = false) ∧ (s.flag (SMODE.CTL.PENDING k) = false)) ∧
    (∃ (p : Packet) (u : State) (s : State), (s.start 0x405 = some (p, u)) ∧ (s.lifecycle = 3) ∧ (p.arg 0 < 64) ∧ (p.arg 1 < 512) ∧ (s.modeOf (p.arg 0 / 8) = mOff) ∧ (s.changeRoom 1 = true)) ∧
    (∃ (p : Packet) (u : State) (s : State), (s.start 0x405 = some (p, u)) ∧ (s.lifecycle ≠ 3)) ∧
    (∃ (p : Packet) (u : State) (k : Sector) (s : State), (s.start 0x406 = some (p, u)) ∧ (s.lifecycle = 1) ∧ (s.rwlOpen = true) ∧ (p.arg 0 = k.val) ∧ (s.modeOf k = mOff) ∧ (s.changeRoom 2 = true)) ∧
    (∃ (p : Packet) (u : State) (s : State), (s.start 0x201 = some (p, u)) ∧ (p.arg 0 < 64) ∧ (p.arg 1 = 0) ∧ (p.arg 2 < 64) ∧ (p.arg 8 < 2 ^ 28) ∧ (s.modeOf (p.arg 0 / 8) ≠ mOff) ∧ (s.nibLocked (p.arg 0) = false) ∧ (tsBad (wordsNat ((List.range 6).map fun i => BitVec.ofNat 32 (p.arg (3 + i)))) = false)) ∧
    (∃ (p : Packet) (u : State) (l : Lane) (s : State), (s.start 0x201 = some (p, u)) ∧ (p.arg 0 < 64) ∧ (p.arg 1 = 2 ^ l.val) ∧ (p.arg 2 < 64) ∧ (p.arg 8 < 2 ^ 28) ∧ (s.modeOf (p.arg 0 / 8) ≠ mOff) ∧ (s.nibLocked (p.arg 0) = false) ∧ ((s.rot (p.arg 0)).visit = none) ∧ (tsBad (wordsNat ((List.range 6).map fun i => BitVec.ofNat 32 (p.arg (3 + i)))) = false)) ∧
    (∃ (p : Packet) (u : State) (s : State), (s.start 0x202 = some (p, u)) ∧ (p.arg 0 = 0) ∧ (16 ≤ p.arg 1)) ∧
    (∃ (p : Packet) (u : State) (g : Octet) (s : State), (s.start 0x202 = some (p, u)) ∧ (p.arg 0 = 2 ^ g.val) ∧ (p.arg 1 < 16) ∧ (2 ^ 32 ≤ p.arg 2) ∧ (p.arg 2 < 2 ^ 48) ∧ (s.modeOf (g / 8) ≠ mOff) ∧ (s.ptIgnored g (p.arg 1) = false) ∧ (s.flag (PS.RESV.HELD (g / 8)) = false)) :=
  ⟨⟨(((st418.start 0x401).map (·.1)).getD {} : Packet), (((st418.start 0x401).map (·.2)).getD State.reset : State), (1 : Sector), st418, by decide⟩,
   ⟨(((st419.start 0x401).map (·.1)).getD {} : Packet), (((st419.start 0x401).map (·.2)).getD State.reset : State), st419, by decide⟩,
   ⟨(((st420.start 0x402).map (·.1)).getD {} : Packet), (((st420.start 0x402).map (·.2)).getD State.reset : State), (1 : Sector), st420, by decide⟩,
   ⟨(((st421.start 0x403).map (·.1)).getD {} : Packet), (((st421.start 0x403).map (·.2)).getD State.reset : State), (1 : Sector), st421, by decide⟩,
   ⟨(((st422.start 0x404).map (·.1)).getD {} : Packet), (((st422.start 0x404).map (·.2)).getD State.reset : State), st422, by decide⟩,
   ⟨(((st423.start 0x404).map (·.1)).getD {} : Packet), (((st423.start 0x404).map (·.2)).getD State.reset : State), (1 : Sector), st423, by decide⟩,
   ⟨(1 : Sector), st424, by decide⟩,
   ⟨(((st425.start 0x405).map (·.1)).getD {} : Packet), (((st425.start 0x405).map (·.2)).getD State.reset : State), st425, by decide⟩,
   ⟨(((st426.start 0x405).map (·.1)).getD {} : Packet), (((st426.start 0x405).map (·.2)).getD State.reset : State), st426, by decide⟩,
   ⟨(((st427.start 0x406).map (·.1)).getD {} : Packet), (((st427.start 0x406).map (·.2)).getD State.reset : State), (1 : Sector), st427, by decide⟩,
   ⟨(((st428.start 0x201).map (·.1)).getD {} : Packet), (((st428.start 0x201).map (·.2)).getD State.reset : State), st428, by decide⟩,
   ⟨(((st429.start 0x201).map (·.1)).getD {} : Packet), (((st429.start 0x201).map (·.2)).getD State.reset : State), (2 : Lane), st429, by decide⟩,
   ⟨(((st430.start 0x202).map (·.1)).getD {} : Packet), (((st430.start 0x202).map (·.2)).getD State.reset : State), st430, by decide⟩,
   ⟨(((st431.start 0x202).map (·.1)).getD {} : Packet), (((st431.start 0x202).map (·.2)).getD State.reset : State), (9 : Octet), st431, by decide⟩⟩

def st432 : State := Tests.st [(CH.PROG_LO.ADDR 5, 0x1000)]

def st433 : State := Tests.st [(CH.STAT.STATE 5, 1)]

def st434 : State := Tests.st [(CH.STAT.STATE 5, 4)]

def st435 : State := Tests.st [(CH.STAT.STATE 5, 1)]

def st436 : State := { Tests.st [(CH.STAT.STATE 5, 5), (CH.CTL.PAUSE 5, 1)] with chans := [(5, { left := 1 })] }

def st437 : State := Tests.st [(CH.STAT.STATE 5, 4)]

def st438 : State := { Tests.st [(CH.STAT.STATE 5, 4), (CPY.CTL.POLL_US, 2)] with tick := 3000 }

def st439 : State := Tests.st [(CH.STAT.STATE 5, 1)]

def st440 : State := Tests.st [(CH.STAT.STATE 5, 1)]

/-- The hypotheses of every clause of CopyistControl hold together somewhere. -/
theorem witness_CopyistControl :
    (∃ (c : Channel) (v : Word) (s : State), (s.chState c = cpIdle) ∧ (s.lecHolds c = false) ∧ (s.progOf c % 32 = 0) ∧ (s.get (CH.CTL.PSPACE c) ≤ 1) ∧ (v.field 0 2 = s.get (CH.CTL.PSPACE c)) ∧ (v.getLsbD 27 = s.flag (CH.CTL.IRQ_EN c)) ∧ (v.field 28 3 = 0)) ∧
    (∃ (c : Channel) (v : Word) (s : State), (s.chState c = cpFetch) ∧ (v.field 0 2 = s.get (CH.CTL.PSPACE c)) ∧ (v.getLsbD 27 = s.flag (CH.CTL.IRQ_EN c)) ∧ (v.field 28 3 = 0)) ∧
    (∃ (c : Channel) (v : Word) (s : State), (s.chState c = cpEmpty) ∧ (v.field 0 2 = s.get (CH.CTL.PSPACE c)) ∧ (v.getLsbD 27 = s.flag (CH.CTL.IRQ_EN c)) ∧ (v.field 28 4 % 2 = 0) ∧ (v.field 30 2 = 0)) ∧
    (∃ (c : Channel) (v : Word) (s : State), (s.chState c = cpFetch) ∧ ((s.chan c).moving = false) ∧ (v.field 0 2 = s.get (CH.CTL.PSPACE c)) ∧ (v.getLsbD 27 = s.flag (CH.CTL.IRQ_EN c)) ∧ (v.field 28 4 = 1)) ∧
    (∃ (c : Channel) (v : Word) (s : State), (s.chState c = cpPaused) ∧ ((s.chan c).left = cpFetch) ∧ (v.field 0 2 = s.get (CH.CTL.PSPACE c)) ∧ (v.getLsbD 27 = s.flag (CH.CTL.IRQ_EN c)) ∧ (v.field 28 4 = 0)) ∧
    (∃ (c : Channel) (v : Word) (s : State), (s.chState c = cpEmpty) ∧ ((s.chan c).ended = none) ∧ (c.val < 24) ∧ (s.lecHolds c = false) ∧ (s.mem.held = []) ∧ (v.field 0 2 = s.get (CH.CTL.PSPACE c)) ∧ (v.getLsbD 27 = s.flag (CH.CTL.IRQ_EN c)) ∧ (v.field 28 4 = 0)) ∧
    (∃ (c : Channel) (s : State), (s.chState c = cpEmpty) ∧ (s.get CPY.CTL.POLL_US ≠ 0) ∧ ((s.chan c).at_ + 1500 * s.get CPY.CTL.POLL_US ≤ s.tick)) ∧
    (∃ (c : Channel) (ws : List Word) (s : State), (s.chState c = cpFetch) ∧ ((s.chan c).desc = []) ∧ ((s.chan c).loops = []) ∧ (s.get (CH.CTL.PSPACE c) = spHost) ∧ (s.host.linkUp = true) ∧ ((ws.getD 0 0).getLsbD 31 = false) ∧ ((s.chan c).kicked = false)) ∧
    (∃ (c : Channel) (w0 : Word) (w1 : Word) (s : State), (s.chState c = cpFetch) ∧ ((s.chan c).desc = []) ∧ ((s.chan c).loops = []) ∧ (s.get (CH.CTL.PSPACE c) = spHost) ∧ (s.host.linkUp = true) ∧ (w0.getLsbD 31 = true) ∧ (w1.field 28 4 = cpMove) ∧ (w1.field 0 16 = 0)) :=
  ⟨⟨(5 : Channel), (0 : Word), st432, by decide⟩,
   ⟨(5 : Channel), (0 : Word), st433, by decide⟩,
   ⟨(5 : Channel), (0 : Word), st434, by decide⟩,
   ⟨(5 : Channel), (0x10000000 : Word), st435, by decide⟩,
   ⟨(5 : Channel), (0 : Word), st436, by decide⟩,
   ⟨(5 : Channel), (0 : Word), st437, by decide⟩,
   ⟨(5 : Channel), st438, by decide⟩,
   ⟨(5 : Channel), ([0, 0x10000000, 0, 0, 0, 0, 8, 0] : List Word), st439, by decide⟩,
   ⟨(5 : Channel), (0x80000000 : Word), (0x10000000 : Word), st440, by decide⟩⟩

def st441 : State := { Tests.st [(CH.STAT.STATE 5, 2)] with chans := [(5, { desc := [0x80000000, 0x10000000, 0, 0, 64, 0, 0, 0] })] }

def st442 : State := { Tests.st [(CH.STAT.STATE 5, 2)] with chans := [(5, { desc := [0x80000000, 0x10000000, 0, 0, 64, 0, 8, 0] })] }

def st443 : State := { Tests.st [(CH.STAT.STATE 5, 2)] with chans := [(5, { desc := [0x80000000, 0x12200000, 0, 0, 64, 0, 4, 0], moving := true, dstHeld := true, srcHeld := true })] }

def st444 : State := { Tests.st [(CH.STAT.STATE 5, 2)] with chans := [(5, { desc := [0x80000000, 0x20000000, 3, 0, 0, 0, 0, 0] })] }

def st445 : State := { Tests.st [(CH.STAT.STATE 5, 2)] with chans := [(5, { desc := [0x80000000, 0x30000000, 3, 0, 0, 0, 0, 0], loops := [{ start := 64, left := 3 }] })] }

def st446 : State := { Tests.st [(CH.STAT.STATE 5, 3), (CPY.EVT_PEND.PEND 2, 64)] with tick := 4500, chans := [(5, { desc := [0x80000000, 0x40000146, 3, 0, 0, 0, 0, 0] })] }

def st447 : State := { Tests.st [(CH.STAT.STATE 5, 3)] with tick := 4500, chans := [(5, { desc := [0x80000000, 0x40000146, 3, 0, 0, 0, 0, 0] })] }

def st448 : State := { Tests.st [(CH.STAT.STATE 5, 3)] with tick := 4500, chans := [(5, { desc := [0x80000000, 0x40000146, 3, 0, 0, 0, 0, 0] })] }

def st449 : State := { Tests.st [(CH.STAT.STATE 5, 2)] with chans := [(5, { desc := [0x80000000, 0x50000200, 64, 0, 77, 0, 0, 0] })] }

def st450 : State := { Tests.st [(CH.STAT.STATE 5, 2)] with chans := [(5, { desc := [0x80000000, 0x50000109, 64, 0, 77, 0, 0, 0] })] }

def st451 : State := { Tests.st [(CH.STAT.STATE 5, 2)] with chans := [(5, { desc := [0x80000000, 0x60000000, 0, 0, 0, 0, 0, 0] })] }

def st452 : State := { Tests.st [(CH.STAT.STATE 5, 2)] with chans := [(5, { toHost := true, desc := [0x80000000, 0x60000000, 0, 0, 0, 0, 0, 0] })] }

def st453 : State := { Tests.st [(CH.STAT.STATE 5, 2)] with chans := [(5, { fencing := true, toHost := true, desc := [0x80000000, 0x60000000, 0, 0, 0, 0, 0, 0] })] }

def st454 : State := { Tests.st [(CH.STAT.STATE 5, 2)] with chans := [(5, { fencing := true, toHost := true, desc := [0x80000000, 0x60000000, 0, 0, 0, 0, 0, 0] })] }

def st455 : State := { Tests.st [(CH.STAT.STATE 5, 1), (CH.PC_LO.ADDR 5, 64)] with chans := [(5, { desc := [0x80120000, 0x70000000, 0, 0, 0, 0, 0, 0] })] }

def st456 : State := { Tests.st [(CH.STAT.STATE 5, 2), (CH.STAT.STATE 3, 2)] with chans := [(3, { moving := true, dstHeld := true, waitsSrc := true, desc := [0x80000000, 0x14400000, 0x80000, 12, 0x100000, 12, 64, 0] }), (5, { moving := true, dstHeld := true, waitsSrc := true, desc := [0x80000000, 0x14400000, 0x100000, 12, 0x80000, 12, 64, 0] })] }

def st457 : State := { Tests.st [(CH.STAT.STATE 5, 2), (CH.STAT.STATE 3, 2)] with chans := [(3, { moving := true, dstHeld := true, waitsSrc := true, desc := [0x80000000, 0x14400000, 0x80000, 12, 0x100000, 12, 64, 0] }), (5, { moving := true, dstHeld := true, waitsSrc := true, desc := [0x80000000, 0x14400000, 0x100000, 12, 0x80000, 12, 64, 0] })] }

def st458 : State := { Tests.st [(CH.STAT.STATE 5, 2), (CH.PC_LO.ADDR 5, 64)] with chans := [(5, { ended := some stDone, desc := [0x80120000, 0x60000000, 0, 0, 0, 0, 0, 0] })] }

/-- The hypotheses of every clause of CopyistInstructions hold together somewhere. -/
theorem witness_CopyistInstructions :
    (∃ (c : Channel) (st : Nat) (s : State), (s.chState c = cpExec) ∧ (s.atOp c cpMove = true) ∧ ((s.chan c).moving = false) ∧ (s.moveCheck c = some st)) ∧
    (∃ (c : Channel) (s : State), (s.chState c = cpExec) ∧ (s.atOp c cpMove = true) ∧ ((s.chan c).moving = false) ∧ (s.moveCheck c = none) ∧ ((s.chan c).sspace = spHost) ∧ ((s.chan c).dspace = spHost)) ∧
    (∃ (c : Channel) (data : List Byte) (s : State), (s.movingNow c = true) ∧ ((s.chan c).dstHeld = true) ∧ ((s.chan c).srcHeld = true) ∧ (∀ d : Channel, (s.chan d).yieldTo = none) ∧ (∀ d : Channel, d ≠ c → s.movingNow d = false) ∧ ((s.chan c).sspace = spHost) ∧ ((s.chan c).dspace = spHost) ∧ (s.host.linkUp = true) ∧ (sunit c (s.chan c) = dunit c (s.chan c)) ∧ ((s.chan c).len = sunit c (s.chan c)) ∧ ((s.chan c).hold = []) ∧ (s.chDone c = 0) ∧ (data.length = (s.chan c).len) ∧ (s.rd (CH.COUNTS.reg c) = 0) ∧ (s.slotsOn 0x60 = [])) ∧
    (∃ (c : Channel) (s : State), (s.chState c = cpExec) ∧ (s.atOp c cpLoop = true) ∧ ((s.chan c).fld 1 27 1 = 0) ∧ ((s.chan c).loops.length < 4)) ∧
    (∃ (c : Channel) (l : CpyLoop) (rest : List CpyLoop) (s : State), (s.chState c = cpExec) ∧ (s.atOp c cpEndloop = true) ∧ ((s.chan c).loops = l :: rest) ∧ (l.ring = false) ∧ (1 < l.left)) ∧
    (∃ (c : Channel) (s : State), (s.chState c = cpWait) ∧ (s.atOp c cpWaitOp = true) ∧ (s.cpyPending ((s.chan c).fld 1 0 8) = true)) ∧
    (∃ (c : Channel) (s : State), (s.cpyPending ((s.chan c).fld 1 0 8) = false)) ∧
    (∃ (c : Channel) (s : State), (s.chState c = cpWait) ∧ (s.atOp c cpWaitOp = true) ∧ ((s.chan c).w 2 ≠ 0) ∧ ((s.chan c).at_ + 1500 * (s.chan c).w 2 ≤ s.tick) ∧ (s.cpyPending ((s.chan c).fld 1 0 8) = false)) ∧
    (∃ (c : Channel) (s : State), (s.chState c = cpExec) ∧ (s.atOp c cpSignal = true) ∧ ((s.chan c).fld 1 8 1 = 0) ∧ ((s.chan c).fld 1 9 1 = 1) ∧ ((s.chan c).fld 1 10 2 = spHost) ∧ ((s.chan c).wide 2 % 4 = 0) ∧ ((s.chan c).wide 2 + 4 ≤ 2 ^ 64) ∧ (s.host.linkUp = true)) ∧
    (∃ (c : Channel) (s : State), (s.chState c = cpExec) ∧ (s.atOp c cpSignal = true) ∧ ((s.chan c).fld 1 8 1 = 1) ∧ ((s.chan c).fld 1 9 1 = 0) ∧ (s.flag (EVT.ROUTE.CHAIN ((s.chan c).fld 1 0 8)) = false)) ∧
    (∃ (c : Channel) (s : State), (s.chState c = cpExec) ∧ (s.atOp c cpFence = true) ∧ ((s.chan c).fencing = false) ∧ ((s.chan c).toHost = false)) ∧
    (∃ (c : Channel) (s : State), (s.chState c = cpExec) ∧ (s.atOp c cpFence = true) ∧ ((s.chan c).fencing = false) ∧ ((s.chan c).toHost = true)) ∧
    (∃ (c : Channel) (s : State), ((s.chan c).fencing = true)) ∧
    (∃ (c : Channel) (s : State), ((s.chan c).fencing = true)) ∧
    (∃ (c : Channel) (s : State), (s.chState c = cpFetch) ∧ (s.atOp c cpStop = true) ∧ (c.val < 24) ∧ (s.lecHolds c = false) ∧ (s.mem.held = []) ∧ (s.get (CH.CTL.PSPACE c) = spHost) ∧ (s.host.linkUp = true) ∧ (((s.chan c).w 0).testBit 30 = false)) ∧
    (∃ (c : Channel) (l : List Nat) (s : State), (s.holdChain c c 32 = l) ∧ (l ≠ []) ∧ (∀ d ∈ l, d ≤ c.val)) ∧
    (∃ (c : Channel) (s : State), ((s.holdChain c c 32).any (fun d => decide (c.val < d)) = true)) ∧
    (∃ (c : Channel) (s : State), (s.chState c = cpExec) ∧ ((s.chan c).ended = some stDone) ∧ (s.lecHolds c = false) ∧ ((s.chan c).aborted = false) ∧ ((s.chan c).loops = []) ∧ ((s.chan c).flush = false) ∧ ((s.chan c).op ≠ cpMove) ∧ ((s.chan c).op ≠ cpWaitOp) ∧ (s.get (CH.CTL.PSPACE c) = spHost) ∧ (s.host.linkUp = true) ∧ (((s.chan c).w 0).testBit 30 = false)) :=
  ⟨⟨(5 : Channel), (stBadParam : Nat), st441, by decide⟩,
   ⟨(5 : Channel), st442, by decide⟩,
   ⟨(5 : Channel), ([1, 2, 3, 4] : List Byte), st443, by decide⟩,
   ⟨(5 : Channel), st444, by decide⟩,
   ⟨(5 : Channel), ({ start := 64, left := 3 } : CpyLoop), ([] : List CpyLoop), st445, by decide⟩,
   ⟨(5 : Channel), st446, by decide⟩,
   ⟨(5 : Channel), st447, by decide⟩,
   ⟨(5 : Channel), st448, by decide⟩,
   ⟨(5 : Channel), st449, by decide⟩,
   ⟨(5 : Channel), st450, by decide⟩,
   ⟨(5 : Channel), st451, by decide⟩,
   ⟨(5 : Channel), st452, by decide⟩,
   ⟨(5 : Channel), st453, by decide⟩,
   ⟨(5 : Channel), st454, by decide⟩,
   ⟨(5 : Channel), st455, by decide⟩,
   ⟨(5 : Channel), ([5, 3] : List Nat), st456, by decide⟩,
   ⟨(3 : Channel), st457, by decide⟩,
   ⟨(5 : Channel), st458, by decide⟩⟩

def st459 : State := Tests.st []

def st460 : State := Tests.st []

def st461 : State := Tests.st []

/-- The hypotheses of every clause of NarrowAccess hold together somewhere. -/
theorem witness_NarrowAccess :
    (∃ (bar4 : Bool) (off : BitVec 26) (s : State), (s.awake = true) ∧ (bar4 = false ∨ off.toNat < 0x100000)) ∧
    (∃ (bar4 : Bool) (off : BitVec 26) (s : State), (s.awake = true) ∧ (off.toNat % 4 ≠ 0) ∧ (bar4 = false ∨ off.toNat < 0x100000)) ∧
    (∃ (bar4 : Bool) (off : BitVec 26) (s : State), (s.awake = true) ∧ (off.toNat % 4 ≠ 0) ∧ (bar4 = false ∨ off.toNat < 0x100000)) :=
  ⟨⟨(true : Bool), (0x44 : BitVec 26), st459, by decide⟩,
   ⟨(false : Bool), (0x200006 : BitVec 26), st460, by decide⟩,
   ⟨(true : Bool), (0x41 : BitVec 26), st461, by decide⟩⟩

def st467 : State := Tests.st [(SMODE.CTL.MODE_CUR 1, 2)]

def st468 : State := Tests.st [(SMODE.CTL.MODE_CUR 1, 1), (DEV.MODE.READY, 0)]

def st469 : State := Tests.st [(SMODE.CTL.MODE_CUR 1, 1), (SMODE.CTL.SAFE 1, 1)]

/-- The hypotheses of every clause of ModeRefusal hold together somewhere. -/
theorem witness_ModeRefusal :
    (∃ (k : Sector) (req : BitVec 3) (s : State), (s.mainOn = true) ∧ (s.flag DEV.MODE.READY = true) ∧ (s.modeInSafe k = false) ∧ (s.flag (SMODE.CTL.BUSY k) = false) ∧ (s.inDoze = false) ∧ (s.quill.entering ≠ some 2) ∧ (modeReach (s.modeOf k) req.toNat = false) ∧ (¬(s.modeOf k = mRun ∧ req.toNat = mRun))) ∧
    (∃ (s : State), (s.mainOn = true) ∧ (s.flag DEV.MODE.READY = false)) ∧
    (∃ (k : Sector) (s : State), (s.mainOn = true) ∧ (s.flag DEV.MODE.READY = true) ∧ (s.modeInSafe k = true)) :=
  ⟨⟨(1 : Sector), (6 : BitVec 3), st467, by decide⟩,
   ⟨st468, by decide⟩,
   ⟨(1 : Sector), st469, by decide⟩⟩

def st470 : State := Tests.st [(SMODE.CTL.MODE_CUR 1, 1), (SMODE.CTL.SAFE 1, 1), (QL.ILK.STAT.A_CLOSED, 1), (QL.ILK.STAT.B_CLOSED, 1), (QL.ILK.STAT.STATE, 0)]

def st471 : State := Tests.st [(SMODE.CTL.MODE_CUR 1, 4), (SMODE.CTL.SAFE 1, 1), (QL.ILK.STAT.A_CLOSED, 1), (QL.ILK.STAT.B_CLOSED, 1), (QL.ILK.STAT.STATE, 0)]

/-- The hypotheses of every clause of SafeExitMode hold together somewhere. -/
theorem witness_SafeExitMode :
    (∃ (k : Sector) (s : State), (s.mainOn = true) ∧ (s.flag (SMODE.CTL.SAFE k) = true) ∧ (s.safeCauses k = []) ∧ (s.scanHolds = false) ∧ (s.modeOf k = mStandby)) ∧
    (∃ (k : Sector) (s : State), (s.mainOn = true) ∧ (s.flag (SMODE.CTL.SAFE k) = true) ∧ (s.safeCauses k = []) ∧ (s.scanHolds = false) ∧ (s.modeOf k = mRun ∨ s.modeOf k = mMeasure ∨ s.modeOf k = mCalibrate ∨ s.modeOf k = mSetup)) :=
  ⟨⟨(1 : Sector), st470, by decide⟩,
   ⟨(1 : Sector), st471, by decide⟩⟩

def st472 : State := Tests.st [(CLK.PLL_STAT.STATE, 2), (CLK.PLL_STAT.BAND_CUR, 3)]

def st473 : State := Tests.st [(CLK.PLL_STAT.STATE, 2), (CLK.PLL_STAT.BAND_CUR, 15)]

/-- The hypotheses of every clause of BandEntryLocked hold together somewhere. -/
theorem witness_BandEntryLocked :
    (∃ (k : Fin 16) (s : State), (s.pll ≠ pllOff) ∧ (s.get CLK.PLL_STAT.BAND_CUR = k)) ∧
    (∃ (k : Fin 16) (s : State), (s.awake = true) ∧ (s.pll ≠ pllOff) ∧ (s.get CLK.PLL_STAT.BAND_CUR = k)) :=
  ⟨⟨(3 : Fin 16), st472, by decide⟩,
   ⟨(15 : Fin 16), st473, by decide⟩⟩

def st474 : State := Tests.st [(CLK.PLL_STAT.STATE, 2), (SMODE.CTL.MODE_CUR 7, 2)]

def st475 : State := Tests.st [(CLK.PLL_STAT.STATE, 2), (SMODE.CTL.MODE_CUR 7, 4)]

/-- The hypotheses of every clause of RestartOnlyIdle hold together somewhere. -/
theorem witness_RestartOnlyIdle :
    (∃ (s : State), (∀ k : Sector, s.modeOf k < mRun)) ∧
    (∃ (k : Sector) (s : State), (s.modeOf k = mRun ∨ s.modeOf k = mMeasure ∨ s.modeOf k = mCalibrate)) :=
  ⟨⟨st474, by decide⟩,
   ⟨(7 : Sector), st475, by decide⟩⟩

def st476 : State := Tests.st [(SMODE.CTL.MODE_CUR 6, 3)]

/-- The hypotheses of every clause of RoleWriteInRun hold together somewhere. -/
theorem witness_RoleWriteInRun :
    (∃ (k : Sector) (s : State), (s.modeOf k = mRun)) :=
  ⟨(6 : Sector), st476, by decide⟩

def st477 : State := Tests.st []

def st478 : State := Tests.st []

/-- The hypotheses of every clause of ReservedStoreAccess hold together somewhere. -/
theorem witness_ReservedStoreAccess :
    (∃ (off : BitVec 36) (s : State), (s.awake = true) ∧ (storesBase + 8 * 0x800000 ≤ off.toNat)) ∧
    (∃ (off : BitVec 36) (data : List (Option Byte)) (s : State), (s.awake = true) ∧ (storesBase + 8 * 0x800000 ≤ off.toNat) ∧ (data ≠ [])) :=
  ⟨⟨(0xC04000000 : BitVec 36), st477, by decide⟩,
   ⟨(0xC04000000 : BitVec 36), (List.replicate 40 (some 7) : List (Option Byte)), st478, by decide⟩⟩

def st479 : State := Tests.st [(SMODE.CTL.MODE_CUR 1, 2)]

/-- The hypotheses of every clause of ReservedFrontEndCode hold together somewhere. -/
theorem witness_ReservedFrontEndCode :
    (∃ (g : Octet) (l : Slot) (v : Word) (s : State), (s.modeOf (g / 8) ≠ mOff) ∧ (s.modeOf (g / 8) ≠ mCalibrate) ∧ (s.scState (g / 8) = scIdle) ∧ ((s.rot g).visit = none) ∧ (l.val = 8 → s.get (STEER.STAT.SPARE g) = 0) ∧ (6 ≤ v.toNat / 2 ^ 8 % 8 ∨ v.toNat % 4 = 3)) :=
  ⟨(9 : Octet), (8 : Slot), (0x703 : Word), st479, by decide⟩

def st480 : State := { Tests.st [(SMODE.CTL.MODE_CUR 1, mSetup)] with dcs := [(9, { link := 2, ball := 5 })] }

/-- The hypotheses of every clause of ConnectOtherBall hold together somewhere. -/
theorem witness_ConnectOtherBall :
    (∃ (g : Octet) (v : Word) (s : State), (s.modeOf (g / 8) ≠ mOff) ∧ ((s.dcUnit g).link = 1 ∨ (s.dcUnit g).link = 3 ∨ ((s.dcUnit g).link = 2 ∧ (s.dcUnit g).ball ≠ v.field 24 3))) :=
  ⟨(9 : Octet), (0x02000000 : Word), st480, by decide⟩

def st481 : State := Tests.st [(CH.STAT.STATE 31, 2)]

def st482 : State := Tests.st [(CH.STAT.STATE 31, 2)]

/-- The hypotheses of every clause of ProgramLocked hold together somewhere. -/
theorem witness_ProgramLocked :
    (∃ (c : Channel) (s : State), (s.awake = true) ∧ (s.chState c ≠ cpIdle)) ∧
    (∃ (c : Channel) (v : Word) (s : State), (s.awake = true) ∧ (s.chState c ≠ cpIdle) ∧ (v.toNat % 4 ≠ s.get (CH.CTL.PSPACE c))) :=
  ⟨⟨(31 : Channel), st481, by decide⟩,
   ⟨(31 : Channel), (1 : Word), st482, by decide⟩⟩

def st483 : State := Tests.st [(ERR.SRC.IRQ_EN 25, 1)]

/-- The hypotheses of every clause of NoTimerForF0F1 hold together somewhere. -/
theorem witness_NoTimerForF0F1 :
    (∃ (n : Source) (s : State), (srcClass n = .f0 ∨ srcClass n = .f1)) :=
  ⟨(25 : Source), st483, by decide⟩

def st484 : State := Tests.st [(DEBUG.STATUS.DEFERRED, 1)]

def st485 : State := Tests.st [(DEBUG.STATUS.DEFERRED, 1)]

def st486 : State := Tests.st [(DEBUG.STATUS.DEFERRED, 1)]

/-- The hypotheses of every clause of DeferredHaltStands hold together somewhere. -/
theorem witness_DeferredHaltStands :
    (∃ (s : State), (s.dbgGated = false) ∧ (s.flag DEBUG.STATUS.DEFERRED = true)) ∧
    (∃ (s : State), (s.dbgGated = false) ∧ (s.flag DEBUG.STATUS.DEFERRED = true)) ∧
    (∃ (s : State), (s.dbgGated = false) ∧ (s.flag DEBUG.STATUS.DEFERRED = true)) :=
  ⟨⟨st484, by decide⟩,
   ⟨st485, by decide⟩,
   ⟨st486, by decide⟩⟩

/-- The hypothesis of StepRunsFront holds somewhere. -/
theorem witness_StepRunsFront : ∃ (c : Instr) (rest : List Instr) (s : State), s.pending = c :: rest :=
  ⟨.pllRestartWrite, [.pllRestartWrite], { State.reset with pending := [.pllRestartWrite, .pllRestartWrite] }, rfl⟩

/-- The hypothesis of IdleTick holds somewhere. -/
theorem witness_IdleTick : ∃ s : State, s.pending = [] ∧ s.clk.counting = true ∧ s.clk.running = true := ⟨up, by decide⟩

/-- The hypotheses of CanonicalKept hold together somewhere, on an empty queue and on a waiting command. -/
theorem witness_CanonicalKept :
    (∃ s t : State, s.Canonical ∧ s.pending = [] ∧ step s = .next t) ∧ (∃ s t : State, s.Canonical ∧ s.pending ≠ [] ∧ step s = .next t) :=
  ⟨⟨State.reset, _, ⟨rfl, rfl, rfl, rfl, rfl, rfl⟩, rfl, rfl⟩,
   ⟨{ State.reset with pending := [.pllRestartWrite] }, _, ⟨rfl, rfl, rfl, rfl, rfl, rfl⟩, by decide, rfl⟩⟩

/-- The hypothesis of QueueAndTick holds somewhere. -/
theorem witness_QueueAndTick : ∃ (c : Instr) (s t : State), exec c s = .next t := ⟨.pllRestartWrite, State.reset, _, rfl⟩

end Sys2Proof.Tests
end

section
/-! SUPPORT. One step and the dispatch: what a step does with a queue, and that every command leaves behind what an
operation may. -/

namespace Sys2Proof.Machine

theorem step_nil (s : State) (h : s.pending = []) : step s = .next s.idle := by
  simp only [step, h]

theorem step_cons (c : Instr) (rest : List Instr) (s : State) (h : s.pending = c :: rest) :
    step s = exec c { s with pending := rest } := by
  simp only [step, h]

variable {s₀ s : State}

/-- Every command answers a next state that an operation may leave behind: one case per constructor, each the lemma of its
meaning. -/
theorem exec_after (h : s₀.After s) (c : Instr) : Gives s₀ (exec c s) :=
  match c with
  | .registerWrite bar4 off v => execRegisterWrite_after h bar4 off v
  | .narrowAccess bar4 off write => execNarrowAccess_after h bar4 off write
  | .rcRead bar4 off => execRcRead_after h bar4 off
  | .latchingLoRead off => execLatchingLoRead_after h off
  | .rwlWrite off v => execRwlWrite_after h off v
  | .modeReq k req => execModeReq_after h k req
  | .modeTransitionDone k => execModeTransitionDone_after h k
  | .safeEnter k => execSafeEnter_after h k
  | .safeExit k => execSafeExit_after h k
  | .vauxInRange addr1 addr0 => execVauxInRange_after h addr1 addr0
  | .powerUpStart => execPowerUpStart_after h
  | .pgRise n => execPgRise_after h n
  | .railGroupRaise => execRailGroupRaise_after h
  | .pgTimeout => execPgTimeout_after h
  | .mainPorEnd bootSel table => execMainPorEnd_after h bootSel table
  | .startupStepEnd w => execStartupStepEnd_after h w
  | .pgLoss lost us counts => execPgLoss_after h lost us counts
  | .powerDownStep => execPowerDownStep_after h
  | .supplySupervisorTrip vaux => execSupplySupervisorTrip_after h vaux
  | .sregUv k => execSregUv_after h k
  | .sregOc k => execSregOc_after h k
  | .refMeasDone fkHz => execRefMeasDone_after h fkHz
  | .pllLockDeclared ahead => execPllLockDeclared_after h ahead
  | .pllEntryTimeout => execPllEntryTimeout_after h
  | .lossOfReference mean => execLossOfReference_after h mean
  | .lossOfLock mean => execLossOfLock_after h mean
  | .bandMargin w => execBandMargin_after h w
  | .autoReband => execAutoReband_after h
  | .coastLimitExpire => execCoastLimitExpire_after h
  | .refclkQualified => execRefclkQualified_after h
  | .relockTimeout => execRelockTimeout_after h
  | .relockWrite => execRelockWrite_after h
  | .pllRestartWrite => execPllRestartWrite_after h
  | .bandEntryWrite k w v => execBandEntryWrite_after h k w v
  | .anchorAdopt k => execAnchorAdopt_after h k
  | .tllUpdate k e up => execTllUpdate_after h k e up
  | .clkoutGo align => execClkoutGo_after h align
  | .clkoutCycleEnd n => execClkoutCycleEnd_after h n
  | .clkoutUpdateInstant => execClkoutUpdateInstant_after h
  | .rulRoleWrite role => execRulRoleWrite_after h role
  | .rulTrained hops => execRulTrained_after h hops
  | .rulTrainTimeout => execRulTrainTimeout_after h
  | .rulLinkLost => execRulLinkLost_after h
  | .rulBrokenRecover => execRulBrokenRecover_after h
  | .rulFrameIdle f arrive => execRulFrameIdle_after h f arrive
  | .rulFrameAnchor f arrive => execRulFrameAnchor_after h f arrive
  | .rulFrameStart f arrive => execRulFrameStart_after h f arrive
  | .rulFrameEvent f arrive => execRulFrameEvent_after h f arrive
  | .rulFrameCond f arrive => execRulFrameCond_after h f arrive
  | .rulFrameDecide f arrive => execRulFrameDecide_after h f arrive
  | .rulFrameHalt f arrive => execRulFrameHalt_after h f arrive
  | .rulFrameDeskew f arrive => execRulFrameDeskew_after h f arrive
  | .rulFrameHopval f arrive => execRulFrameHopval_after h f arrive
  | .rulFrameFault f arrive => execRulFrameFault_after h f arrive
  | .rulFrameMeas f arrive => execRulFrameMeas_after h f arrive
  | .rulFrameBad reserved => execRulFrameBad_after h reserved
  | .rulFrameForward => execRulFrameForward_after h
  | .rulFrameSend mark => execRulFrameSend_after h mark
  | .rulMeasSend => execRulMeasSend_after h
  | .rulAnchorSend => execRulAnchorSend_after h
  | .deskewGo => execDeskewGo_after h
  | .rulDeskewEnd dots cause => execRulDeskewEnd_after h dots cause
  | .chainStartInstant => execChainStartInstant_after h
  | .chainEventDeliver => execChainEventDeliver_after h
  | .chainHaltInstant => execChainHaltInstant_after h
  | .decideDegraded => execDecideDegraded_after h
  | .bar2Read off n e m => execBar2Read_after h off n e m
  | .bar2Write off data e m => execBar2Write_after h off data e m
  | .psWindowWrite k j v => execPsWindowWrite_after h k j v
  | .raCfgWrite k v => execRaCfgWrite_after h k v
  | .fetchIssue k g body again => execFetchIssue_after h k g body again
  | .fetchComplete k g e => execFetchComplete_after h k g e
  | .stackTempRead w t => execStackTempRead_after h w t
  | .pprSoftRepair w => execPprSoftRepair_after h w
  | .scribeStart k => execScribeStart_after h k
  | .scribeStop k => execScribeStop_after h k
  | .primingDone k => execPrimingDone_after h k
  | .primingStop k => execPrimingStop_after h k
  | .paceBoundary k => execPaceBoundary_after h k
  | .nextLine k => execNextLine_after h k
  | .rptLine k => execRptLine_after h k
  | .loopLine k => execLoopLine_after h k
  | .endlLine k => execEndlLine_after h k
  | .jmpLine k => execJmpLine_after h k
  | .callLine k => execCallLine_after h k
  | .retLine k => execRetLine_after h k
  | .matchLine k => execMatchLine_after h k
  | .brLine k => execBrLine_after h k
  | .sigLine k => execSigLine_after h k
  | .waitsLine k => execWaitsLine_after h k
  | .setpLine k => execSetpLine_after h k
  | .markLine k => execMarkLine_after h k
  | .haltLine k => execHaltLine_after h k
  | .idxjLine k => execIdxjLine_after h k
  | .ldcntLine k => execLdcntLine_after h k
  | .decbrLine k => execDecbrLine_after h k
  | .ensyncLine k => execEnsyncLine_after h k
  | .decisionResolve k => execDecisionResolve_after h k
  | .decisionLanding k => execDecisionLanding_after h k
  | .drainEnd k => execDrainEnd_after h k
  | .ensembleStop k => execEnsembleStop_after h k
  | .ensWrite k v => execEnsWrite_after h k v
  | .evtPost code => execEvtPost_after h code
  | .evtioInputEdge n level => execEvtioInputEdge_after h n level
  | .eventDeliver => execEventDeliver_after h
  | .evtioOutputEdge n => execEvtioOutputEdge_after h n
  | .evtioPulseEnd n => execEvtioPulseEnd_after h n
  | .evtFifoRead => execEvtFifoRead_after h
  | .pencilSlotAssign k => execPencilSlotAssign_after h k
  | .pencilLineStaged k pencilled => execPencilLineStaged_after h k pencilled
  | .ptHiCommit g e v => execPtHiCommit_after h g e v
  | .periodChangeEffect g => execPeriodChangeEffect_after h g
  | .octetVectorBoundary g => execOctetVectorBoundary_after h g
  | .driveInstant g l => execDriveInstant_after h g l
  | .strobeInstant g l j codes => execStrobeInstant_after h g l j codes
  | .tsStageWrite g l t w v => execTsStageWrite_after h g l t w v
  | .tsCommit g l t v => execTsCommit_after h g l t v
  | .broadcastWrite g off v => execBroadcastWrite_after h g off v
  | .correctionSetApply g l => execCorrectionSetApply_after h g l
  | .overcurrentTrip g l => execOvercurrentTrip_after h g l
  | .ocShutdownFail g l => execOcShutdownFail_after h g l
  | .ocClear g l => execOcClear_after h g l
  | .overVoltage g l => execOverVoltage_after h g l
  | .ovClear g l => execOvClear_after h g l
  | .loadCompliance g l => execLoadCompliance_after h g l
  | .forceIsoWrite g v => execForceIsoWrite_after h g v
  | .feCfgWrite g l v => execFeCfgWrite_after h g l v
  | .handoverSwitch g fail => execHandoverSwitch_after h g fail
  | .dacCodeWrite g l k code => execDacCodeWrite_after h g l k code
  | .dacStageWrite g l k v => execDacStageWrite_after h g l k v
  | .levelBatchApply g => execLevelBatchApply_after h g
  | .dacSpanWrite g l k span => execDacSpanWrite_after h g l k span
  | .spanChangeDone g l => execSpanChangeDone_after h g l
  | .dacHoldEnd g l k => execDacHoldEnd_after h g l k
  | .dacMonitorFault g l k => execDacMonitorFault_after h g l k
  | .dacParkStart g l => execDacParkStart_after h g l
  | .sineGo => execSineGo_after h
  | .sineStart => execSineStart_after h
  | .sineSample g => execSineSample_after h g
  | .sineStopWrite g => execSineStopWrite_after h g
  | .vectorResolve k => execVectorResolve_after h k
  | .margRecordWrite k => execMargRecordWrite_after h k
  | .margRunOpen k => execMargRunOpen_after h k
  | .margRunClose k => execMargRunClose_after h k
  | .margRptrWrite k v => execMargRptrWrite_after h k v
  | .margClr k => execMargClr_after h k
  | .blotRecordForm k o p samples => execBlotRecordForm_after h k o p samples
  | .triggerFire k p codes => execTriggerFire_after h k p codes
  | .maskViolation k m pin j back codes => execMaskViolation_after h k m pin j back codes
  | .folioMark k => execFolioMark_after h k
  | .blotResolutionChange k => execBlotResolutionChange_after h k
  | .blotDecimationStart k => execBlotDecimationStart_after h k
  | .blotDecimationEnd k p => execBlotDecimationEnd_after h k p
  | .blotRecordDrain k => execBlotRecordDrain_after h k
  | .blotCaptureEnd k => execBlotCaptureEnd_after h k
  | .blotDisarm k => execBlotDisarm_after h k
  | .blotRptrWrite k v => execBlotRptrWrite_after h k v
  | .maskCommit k m v => execMaskCommit_after h k m v
  | .blotRunOpen k => execBlotRunOpen_after h k
  | .hlGo g v => execHlGo_after h g v
  | .hlCalDone g one two => execHlCalDone_after h g one two
  | .hlShotEnd g start stops => execHlShotEnd_after h g start stops
  | .hlStartTimeout g => execHlStartTimeout_after h g
  | .hlFreqGateEnd g n dt near => execHlFreqGateEnd_after h g n dt near
  | .hlAbort g => execHlAbort_after h g
  | .hlSelfcheckStart g => execHlSelfcheckStart_after h g
  | .hlSelfcheckEnd g pass => execHlSelfcheckEnd_after h g pass
  | .tdrGo g v => execTdrGo_after h g v
  | .tdrPhaseEnd g ph => execTdrPhaseEnd_after h g ph
  | .dcConnectWrite g v => execDcConnectWrite_after h g v
  | .dcPathClosed g => execDcPathClosed_after h g
  | .dcDisconnectWrite g v => execDcDisconnectWrite_after h g v
  | .dcMeasureGo g v => execDcMeasureGo_after h g v
  | .dcMeasureDone g volts amps => execDcMeasureDone_after h g volts amps
  | .dcClampComply g => execDcClampComply_after h g
  | .dcSelftestStart g write => execDcSelftestStart_after h g write
  | .dcSelftestEnd g pass => execDcSelftestEnd_after h g pass
  | .dcQueueTimeout g => execDcQueueTimeout_after h g
  | .rotCycleStart g => execRotCycleStart_after h g
  | .rotMirrorDone g => execRotMirrorDone_after h g
  | .rotMatchTryEnd g pass => execRotMatchTryEnd_after h g pass
  | .rotSeamTimeout g => execRotSeamTimeout_after h g
  | .rotRunEnd g e => execRotRunEnd_after h g e
  | .calTempSample k reading => execCalTempSample_after h k reading
  | .calRecompute k => execCalRecompute_after h k
  | .calAgeClassChange g => execCalAgeClassChange_after h g
  | .rotSummary k => execRotSummary_after h k
  | .rotCtlWrite g v => execRotCtlWrite_after h g v
  | .tamperDetect => execTamperDetect_after h
  | .sqDoorbell r v => execSqDoorbell_after h r v
  | .commandRead r header params => execCommandRead_after h r header params
  | .commandStale => execCommandStale_after h
  | .replyWrite r => execReplyWrite_after h r
  | .replyCoalesceTimer r => execReplyCoalesceTimer_after h r
  | .cqHeadWrite r v => execCqHeadWrite_after h r v
  | .ringCtlWrite r v => execRingCtlWrite_after h r v
  | .functionLevelReset => execFunctionLevelReset_after h
  | .perstAssert => execPerstAssert_after h
  | .perstRelease => execPerstRelease_after h
  | .pciePowerState d3hot => execPciePowerState_after h d3hot
  | .imgChunk v image table => execImgChunk_after h v image table
  | .devIdent => execDevIdent_after h
  | .devStatus => execDevStatus_after h
  | .sectorMode => execSectorMode_after h
  | .rest => execRest_after h
  | .blockReset => execBlockReset_after h
  | .lecRestart => execLecRestart_after h
  | .tempRead => execTempRead_after h
  | .patAdmit => execPatAdmit_after h
  | .patRelease => execPatRelease_after h
  | .psHostRes => execPsHostRes_after h
  | .psWindows => execPsWindows_after h
  | .patLoad => execPatLoad_after h
  | .psStatus => execPsStatus_after h
  | .tsWrite => execTsWrite_after h
  | .ptWrite => execPtWrite_after h
  | .lvlWrite => execLvlWrite_after h
  | .clkoutSet => execClkoutSet_after h
  | .pllBand => execPllBand_after h
  | .pllRestart => execPllRestart_after h
  | .hlInterval => execHlInterval_after h
  | .hlFreq => execHlFreq_after h
  | .tdrRun => execTdrRun_after h
  | .dcConnect => execDcConnect_after h
  | .dcMeasure => execDcMeasure_after h
  | .dcDisconnect => execDcDisconnect_after h
  | .measStim => execMeasStim_after h
  | .calCore => execCalCore_after h
  | .calDeskew => execCalDeskew_after h
  | .calVerify => execCalVerify_after h
  | .calPoint => execCalPoint_after h
  | .calUnretire => execCalUnretire_after h
  | .tllRepair => execTllRepair_after h
  | .lcProvision => execLcProvision_after h
  | .lcSeal => execLcSeal_after h
  | .lcService => execLcService_after h
  | .lcChallenge => execLcChallenge_after h
  | .lcRetire => execLcRetire_after h
  | .colRead => execColRead_after h
  | .verdict => execVerdict_after h
  | .colRelease => execColRelease_after h
  | .flashInfo => execFlashInfo_after h
  | .flashRead => execFlashRead_after h
  | .flashErase => execFlashErase_after h
  | .hbmPpr => execHbmPpr_after h
  | .flashProgram => execFlashProgram_after h
  | .fuseProgram => execFuseProgram_after h
  | .storeBist => execStoreBist_after h
  | .errAck => execErrAck_after h
  | .errForce => execErrForce_after h
  | .errRead => execErrRead_after h
  | .inject => execInject_after h
  | .rulRole => execRulRole_after h
  | .rulDeskew => execRulDeskew_after h
  | .rulEns => execRulEns_after h
  | .rulHop => execRulHop_after h
  | .rulStatus => execRulStatus_after h
  | .cpyGo c v => execCpyGo_after h c v
  | .cpyAbort c v => execCpyAbort_after h c v
  | .cpyKick c v => execCpyKick_after h c v
  | .cpyPause c v => execCpyPause_after h c v
  | .cpyPoll c => execCpyPoll_after h c
  | .cpyDescriptorRead c words e => execCpyDescriptorRead_after h c words e
  | .cpyMove c => execCpyMove_after h c
  | .cpyLoop c => execCpyLoop_after h c
  | .cpyEndloop c => execCpyEndloop_after h c
  | .cpyWait c => execCpyWait_after h c
  | .cpySignal c => execCpySignal_after h c
  | .cpyFence c => execCpyFence_after h c
  | .cpyStop c => execCpyStop_after h c
  | .cpySegmentDone c io => execCpySegmentDone_after h c io
  | .cpyMutualHold c => execCpyMutualHold_after h c
  | .cpyWaitTimeout c => execCpyWaitTimeout_after h c
  | .cpyFenceDone c ok => execCpyFenceDone_after h c ok
  | .cpyWriteback c => execCpyWriteback_after h c
  | .ssBankWrite k b code => execSsBankWrite_after h k b code
  | .ssGuestWrite k code => execSsGuestWrite_after h k code
  | .bankHandoverDone k b => execBankHandoverDone_after h k b
  | .hostWriteHoldTimeout => execHostWriteHoldTimeout_after h
  | .bistPassEnd k fails => execBistPassEnd_after h k fails
  | .requestUrgent cls who => execRequestUrgent_after h cls who
  | .sourceRaise n stays => execSourceRaise_after h n stays
  | .railBroken pair ns judged stays => execRailBroken_after h pair ns judged stays
  | .errAckWrite n => execErrAckWrite_after h n
  | .errEscalation n => execErrEscalation_after h n
  | .errForceWrite n b => execErrForceWrite_after h n b
  | .errStatClear n => execErrStatClear_after h n
  | .resetAnnounce d => execResetAnnounce_after h d
  | .resetDomainEnd d => execResetDomainEnd_after h d
  | .shadowClose d => execShadowClose_after h d
  | .lecWatchdogExpire => execLecWatchdogExpire_after h
  | .fabricTimeout k => execFabricTimeout_after h k
  | .quillTick aClosed bClosed aux => execQuillTick_after h aClosed bClosed aux
  | .qsecTick => execQsecTick_after h
  | .quillSensorSample die quill vaux => execQuillSensorSample_after h die quill vaux
  | .overtempTrip sensor => execOvertempTrip_after h sensor
  | .powerDownStart => execPowerDownStart_after h
  | .powerCycleRequest key => execPowerCycleRequest_after h key
  | .powerCycleRestart => execPowerCycleRestart_after h
  | .restEntryDone => execRestEntryDone_after h
  | .wakeTimer => execWakeTimer_after h
  | .wake io => execWake_after h io
  | .wakeDone => execWakeDone_after h
  | .ilkChannelOpen b => execIlkChannelOpen_after h b
  | .ilkArm => execIlkArm_after h
  | .tamperNAssert us taken => execTamperNAssert_after h us taken
  | .smbIdent => execSmbIdent_after h
  | .smbStatus => execSmbStatus_after h
  | .smbTempDie => execSmbTempDie_after h
  | .smbTempQuill => execSmbTempQuill_after h
  | .smbTempHbm w => execSmbTempHbm_after h w
  | .smbVaux => execSmbVaux_after h
  | .smbAuxIn n => execSmbAuxIn_after h n
  | .smbEvent => execSmbEvent_after h
  | .smbEvtCount => execSmbEvtCount_after h
  | .smbAlertMask write pecOk => execSmbAlertMask_after h write pecOk
  | .smbWake v pecOk => execSmbWake_after h v pecOk
  | .smbPowerCycle v pecOk => execSmbPowerCycle_after h v pecOk
  | .smbQsec => execSmbQsec_after h
  | .smbAlertResponse => execSmbAlertResponse_after h
  | .smbClockTimeout ms resets => execSmbClockTimeout_after h ms resets
  | .tapReset => execTapReset_after h
  | .tapInstructionUpdate code => execTapInstructionUpdate_after h code
  | .dapRead wa => execDapRead_after h wa
  | .dapWrite wa v => execDapWrite_after h wa v
  | .lecHalt dap => execLecHalt_after h dap
  | .haltDeferTimeout => execHaltDeferTimeout_after h
  | .lecResume dap => execLecResume_after h dap
  | .lecDebugRestart dap => execLecDebugRestart_after h dap
  | .injCtlWrite j v => execInjCtlWrite_after h j v
  | .injectHoldRelease => execInjectHoldRelease_after h
  | .fabricRetry link item => execFabricRetry_after h link item
  | .supplySupervisorRelease => execSupplySupervisorRelease_after h
  | .tamperNRelease => execTamperNRelease_after h
  | .hostLinkStateChange up => execHostLinkStateChange_after h up
  | .dcPathOpened g => execDcPathOpened_after h g
  | .rulRoleReplyTimeout => execRulRoleReplyTimeout_after h
  | .calProcedureEnd k => execCalProcedureEnd_after h k
  | .flashOperationDone bad => execFlashOperationDone_after h bad
  | .boundaryScanUpdate cells => execBoundaryScanUpdate_after h cells

/-- Settles O1, by the definition of a step. -/
theorem stepRunsFront : Obligations.StepRunsFront := step_cons

/-- Settles O5: no arm of the dispatch ends in a fault or a refusal. -/
theorem commandsComplete : Obligations.CommandsComplete := by
  intro c s
  obtain ⟨t, ht, -⟩ := (exec_after (.refl s) c).after
  exact ⟨t, ht⟩

end Sys2Proof.Machine
end

section
/-! SUPPORT. What an operation leaves as it was: the tick counter, every memory, and every register outside a set. -/

namespace Sys2Proof.Machine
open Reg

/-- The tick counter, every memory and every register outside `W` are as they were. -/
structure State.Leaves (W : Nat → Prop) (s t : State) : Prop where
  tick : t.tick = s.tick
  memory : SameMemory s t
  regs : ∀ a, ¬ W a → t.rd a = s.rd a

variable {W : Nat → Prop} {s₀ s : State}

theorem SameMemory.refl (s : State) : SameMemory s s := ⟨rfl, rfl, rfl, rfl, rfl⟩

namespace State.Leaves

theorem refl (s : State) : s.Leaves W s := ⟨rfl, .refl s, fun _ _ => rfl⟩

theorem mono {V : Nat → Prop} {t : State} (h : s.Leaves V t) (hVW : ∀ a, V a → W a) : s.Leaves W t :=
  ⟨h.tick, h.memory, fun a ha => h.regs a fun hv => ha (hVW a hv)⟩

/-- A change of fields that the relation does not speak of. -/
theorem update {pending latch free answer host lec quill clk rul err dbg vault nvm mem ev chans cpyWait scribes octs balls dacs parks
    settled sines sineAt hairs tdrs dcs rots cores secCals procs margs blots} (h : s₀.Leaves W s)
    (hm : mem.mem = s.mem.mem := by rfl) (hw : host.window = s.host.window := by rfl)
    (hv : vault.sram = s.vault.sram := by rfl) (hn : nvm.flash = s.nvm.flash := by rfl) :
    s₀.Leaves W (.mk pending s.regs latch s.tick free answer s.hostMem host lec quill clk rul err dbg vault nvm mem ev chans cpyWait
      scribes octs balls dacs parks settled sines sineAt hairs tdrs dcs rots cores secCals procs margs blots) := by
  obtain ⟨ht, ⟨kh, km, kw, kv, kn⟩, hr⟩ := h
  exact ⟨ht, ⟨kh, hm.trans km, hw.trans kw, hv.trans kv, hn.trans kn⟩, hr⟩

theorem wr (h : s₀.Leaves W s) (a : Nat) (v : Word) (hW : W a) : s₀.Leaves W (s.wr a v) := by
  obtain ⟨ht, hm, hr⟩ := h
  refine ⟨ht, hm, fun b hb => ?_⟩
  rw [State.rd_wr_ne s a v b (fun e => hb (e ▸ hW))]
  exact hr b hb

theorem set (h : s₀.Leaves W s) (f : Fld) (v : Nat) (hW : W f.reg) : s₀.Leaves W (s.set f v) := h.wr _ _ hW
theorem setB (h : s₀.Leaves W s) (f : Fld) (b : Bool) (hW : W f.reg) : s₀.Leaves W (s.setB f b) := h.set _ _ hW
theorem bump (h : s₀.Leaves W s) (f : Fld) (n : Nat) (hW : W f.reg) : s₀.Leaves W (s.bump f n) := h.set _ _ hW

theorem ite {c : Prop} [Decidable c] {t u : State} (h : s₀.Leaves W t) (k : s₀.Leaves W u) :
    s₀.Leaves W (if c then t else u) := by
  split
  · exact h
  · exact k

theorem when (h : s₀.Leaves W s) (c : Bool) (f : State → State) (hf : ∀ u, s₀.Leaves W u → s₀.Leaves W (f u)) :
    s₀.Leaves W (s.when c f) := State.when_keeps _ _ _ _ hf h

theorem each {α : Type} (h : s₀.Leaves W s) (l : List α) (f : State → α → State)
    (hf : ∀ u a, s₀.Leaves W u → s₀.Leaves W (f u a)) : s₀.Leaves W (s.each l f) := State.each_keeps _ _ _ _ hf h

theorem signal (h : s₀.Leaves W s) (v : Nat) : s₀.Leaves W (s.signal v) := by
  unfold State.signal
  exact .ite h.update (.ite h.update h.update)

theorem setSignal (h : s₀.Leaves W s) (f : Fld) (v : Nat) (hW : W f.reg) : s₀.Leaves W (s.setSignal f v) := by
  unfold State.setSignal
  exact .ite h ((h.set f 1 hW).signal v)

end State.Leaves

/-! ### The raise of a source -/

/-- The registers that the raise of a source writes. -/
def sourceRegs (n : Nat) : List Nat := [ERR.SRC.reg n, ERR.SUM.reg (n / 32), ERR.PEND.reg (n / 32), ERR.STAT.reg, ERR.IRQ.reg]

namespace State.Leaves

theorem setStat (h : s₀.Leaves W s) (n : Nat) (b : Bool) (hW : ∀ a ∈ sourceRegs n, W a) : s₀.Leaves W (s.setStat n b) := by
  have h1 := (h.setB (ERR.SRC.STAT n) b (hW _ (by simp [sourceRegs, ERR.SRC.STAT]))).setB
    ⟨ERR.SUM.reg (n / 32), n % 32, 1⟩ b (hW _ (by simp [sourceRegs]))
  unfold State.setStat
  exact .ite h1.update h1

theorem setReaction (h : s₀.Leaves W s) (n : Nat) (p e : Bool) (hW : ∀ a ∈ sourceRegs n, W a) :
    s₀.Leaves W (s.setReaction n p e) :=
  ((h.setB _ p (hW _ (by simp [sourceRegs, ERR.SRC.PENDING]))).setB _ e (hW _ (by simp [sourceRegs, ERR.SRC.ESCALATED]))).setB
    ⟨ERR.PEND.reg (n / 32), n % 32, 1⟩ _ (hW _ (by simp [sourceRegs]))

theorem record (h : s₀.Leaves W s) (n : Nat) (forced : Bool) (hW : ∀ a ∈ sourceRegs n, W a) :
    s₀.Leaves W (s.record n forced) := by
  have hsrc : W (ERR.SRC.reg n) := hW _ (by simp [sourceRegs])
  have hstat : W ERR.STAT.reg := hW _ (by simp [sourceRegs])
  have hirq : W ERR.IRQ.reg := hW _ (by simp [sourceRegs])
  have h1 := ((h.setStat n true hW).bump (ERR.SRC.COUNT n) 1 hsrc).setB (ERR.SRC.FORCED n) forced hsrc
  have hlo (u : State) (k : s₀.Leaves W u) : s₀.Leaves W u.irqLo := k.setSignal ERR.IRQ.LO 1 hirq
  have hhi (u : State) (k : s₀.Leaves W u) : s₀.Leaves W u.irqHi := k.setSignal ERR.IRQ.HI 0 hirq
  have h2 := h1.set (ERR.SRC.CONSEQ n) 0 hsrc
  have h3 (c : Prop) [Decidable c] :=
    Leaves.ite (c := c) h2 ((h2.set ERR.STAT.FIRST n hstat).set ERR.STAT.FIRST_VALID 1 hstat)
  unfold State.record
  dsimp only
  split
  · exact ((h1.set (ERR.SRC.CONSEQ n) 1 hsrc).set (ERR.SRC.CAUSE n) _ hsrc).when _ _ hlo
  · split
    · exact (h3 _).when _ _ hlo
    · exact (h3 _).when _ _ hlo
    · exact .ite ((h3 _).when _ _ hhi) (((h3 _).when _ _ hhi).update.setReaction n true false hW)
    · exact ((hhi _ (h3 _)).set ERR.STAT.F3 1 hstat).update

theorem notice (h : s₀.Leaves W s) (n : Nat) (hW : ∀ a ∈ sourceRegs n, W a) : s₀.Leaves W (s.notice n) := by
  unfold State.notice
  exact .ite (h.record n false hW) h

end State.Leaves

end Sys2Proof.Machine
end

section
/-! SUPPORT. One idle tick (R14, R139, log entry 1): whatever falls due at it, the tick counter counts once. -/

namespace Sys2Proof.Machine
open Reg

/-- The set of registers of an operation whose registers do not matter. -/
abbrev anyReg (_ : Nat) : Prop := True

variable {s₀ s : State}

namespace State.Leaves

/-! ### The chain's DESKEW instant (R208) -/

theorem replyRole (h : s₀.Leaves anyReg s) : s₀.Leaves anyReg s.replyRole := by
  unfold State.replyRole
  split
  · exact .ite (h.set _ _ trivial).update.update h
  · exact h

theorem setChain (h : s₀.Leaves anyReg s) (st : Nat) : s₀.Leaves anyReg (s.setChain st) := by
  unfold State.setChain
  exact .ite h ((h.set _ _ trivial).signal 29).replyRole

theorem deskewDue (h : s₀.Leaves anyReg s) : s₀.Leaves anyReg s.deskewDue := by
  unfold State.deskewDue
  exact .ite (.ite (h.update.setChain _) h.update) h

/-! ### Steps of a span change (R593) -/

theorem onDac (h : s₀.Leaves anyReg s) (g l k : Nat) (f : Dac → Dac) : s₀.Leaves anyReg (s.onDac g l k f) := h.update

theorem dacUpdate (h : s₀.Leaves anyReg s) (g l k code : Nat) : s₀.Leaves anyReg (s.dacUpdate g l k code) := by
  unfold State.dacUpdate
  exact .ite h (h.update.setB _ _ trivial)

theorem dacFollow (h : s₀.Leaves anyReg s) (g l k : Nat) : s₀.Leaves anyReg (s.dacFollow g l k) :=
  (Leaves.ite (h.set _ _ trivial) h).dacUpdate _ _ _ _

theorem rebase (h : s₀.Leaves anyReg s) (g l k code : Nat) : s₀.Leaves anyReg (s.rebase g l k code) := by
  unfold State.rebase
  exact .ite ((h.set _ _ trivial).dacFollow _ _ _) (.ite (h.set _ _ trivial) h)

theorem setPend (h : s₀.Leaves anyReg s) (g l k : Nat) (b : Bool) : s₀.Leaves anyReg (s.setPend g l k b) :=
  (h.setB _ _ trivial).setB _ _ trivial

theorem spanStep (h : s₀.Leaves anyReg s) (g l k : Nat) : s₀.Leaves anyReg (s.spanStep g l k) := by
  have hswitch := ((h.set (DAC.LVL.CFG.SPAN g l k) (s.dac g l k).to_ trivial).setPend g l k false).onDac g l k
    fun d => { d with stage := 1 }
  unfold State.spanStep
  dsimp only
  split
  · exact h
  · have hfirst (c d : Prop) [Decidable c] [Decidable d] := Leaves.ite (c := c)
      (Leaves.ite (c := d) hswitch (hswitch.set (DAC.LVL.CODE.CODE g l k) (safeCode k) trivial)) h
    exact .ite (((hfirst _ _).onDac _ _ _ _).each _ _ fun _ _ hu => hu.rebase _ _ _ _) (hfirst _ _)

theorem spanSteps (h : s₀.Leaves anyReg s) : s₀.Leaves anyReg s.spanSteps :=
  h.each _ _ fun _ _ hu => hu.spanStep _ _ _

/-! ### The Blotter on entry to MEASURE (R700) -/

theorem onBlot (h : s₀.Leaves anyReg s) (k : Nat) (f : Blot → Blot) : s₀.Leaves anyReg (s.onBlot k f) := h.update

theorem setStaging (h : s₀.Leaves anyReg s) (k : Nat) (l : List BlotRec) : s₀.Leaves anyReg (s.setStaging k l) := by
  unfold State.setStaging
  exact ((h.set _ _ trivial).set _ _ trivial).onBlot _ _

theorem blotStage (h : s₀.Leaves anyReg s) (k : Nat) (r : BlotRec) : s₀.Leaves anyReg (s.blotStage k r) := by
  unfold State.blotStage
  exact .ite (h.onBlot _ _) (h.setStaging _ _)

theorem blotGapEnd (h : s₀.Leaves anyReg s) (k tag : Nat) : s₀.Leaves anyReg (s.blotGapEnd k tag) :=
  ((((h.blotStage _ _).onBlot _ _).set _ _ trivial).bump _ _ trivial).notice _ fun _ _ => trivial

theorem blotEnd (h : s₀.Leaves anyReg s) (k cause tag : Nat) : s₀.Leaves anyReg (s.blotEnd k cause tag) := by
  unfold State.blotEnd
  exact .ite h ((((Leaves.ite (h.blotGapEnd _ _) h).blotStage _ _).set _ _ trivial).onBlot _ _)

theorem blotCounted (h : s₀.Leaves anyReg s) (k tag : Nat) : s₀.Leaves anyReg (s.blotCounted k tag) := by
  unfold State.blotCounted
  refine .ite ((h.set _ _ trivial).blotEnd _ _ _) ?_
  split
  · exact h
  · exact .ite (h.blotEnd _ _ _) (h.onBlot _ _)

theorem blotMark (h : s₀.Leaves anyReg s) (k rank kind flags mid tag high : Nat) :
    s₀.Leaves anyReg (s.blotMark k rank kind flags mid tag high) := by
  unfold State.blotMark
  exact .ite ((h.blotStage _ _).blotCounted _ _) h

theorem blotCapture (h : s₀.Leaves anyReg s) (k tag : Nat) : s₀.Leaves anyReg (s.blotCapture k tag) := by
  unfold State.blotCapture
  exact .ite h (((((h.onBlot _ _).set _ _ trivial).set _ _ trivial).set _ _ trivial).blotMark _ _ _ _ _ _ _)

theorem blotEnter (h : s₀.Leaves anyReg s) (k : Nat) : s₀.Leaves anyReg (s.blotEnter k) := by
  have hlive := (h.onBlot k fun b => { b with live := true, liveAt := 1024 * s.tick }).each (List.range 8)
    (fun s j => if s.get (BLOT.TRG.CTL.ARM_BY k j) = 0 then s.setTrig k j { s.trigRun k j with armed := true } else s)
    fun _ _ hu => .ite (hu.onBlot _ _) hu
  unfold State.blotEnter State.blotLive
  exact .ite (.ite (hlive.blotCapture _ _) hlive) h

/-! ### Reservations of the Copyist (R912) -/

theorem onChan (h : s₀.Leaves anyReg s) (c : Nat) (f : Chan → Chan) : s₀.Leaves anyReg (s.onChan c f) := h.update

theorem endMove (h : s₀.Leaves anyReg s) (c status : Nat) : s₀.Leaves anyReg (s.endMove c status) := by
  unfold State.endMove
  exact ((Leaves.ite (h.set _ _ trivial) h).onChan _ _).update.onChan _ _

/-- A request that waits is counted once, and joins the channels that wait. -/
theorem waiting (h : s₀.Leaves anyReg s) (c : Nat) (f : Chan → Chan) (b : Bool) :
    s₀.Leaves anyReg ((if b then s else s.delayEvent c).onChan c f) :=
  (Leaves.ite h (h.bump _ _ trivial)).onChan c f

theorem askDst (h : s₀.Leaves anyReg s) (c : Nat) : s₀.Leaves anyReg (s.askDst c) := by
  unfold State.askDst
  dsimp only
  split
  · exact h.endMove _ _
  · exact h.endMove _ _
  · exact .ite (h.onChan _ _).update (.ite (h.waiting _ _ _) (h.waiting _ _ _).update)

theorem askSrc (h : s₀.Leaves anyReg s) (c : Nat) : s₀.Leaves anyReg (s.askSrc c) := by
  unfold State.askSrc
  exact .ite (h.onChan _ _).update (.ite (h.waiting _ _ _) (h.waiting _ _ _).update)

theorem askAgain (h : s₀.Leaves anyReg s) (c : Nat) : s₀.Leaves anyReg (s.askAgain c) := by
  have hdst := Leaves.ite (c := (s.chan c).dstHeld = true) h (h.askDst c)
  unfold State.askAgain
  exact .ite (.ite (hdst.askSrc c) hdst) h

theorem freeYields (h : s₀.Leaves anyReg s) : s₀.Leaves anyReg s.freeYields := by
  refine h.each _ _ fun u d hu => ?_
  split
  · exact .ite hu (.ite (hu.onChan _ _) (hu.onChan _ _).update)
  · exact hu

theorem cpyAdvance (h : s₀.Leaves anyReg s) : s₀.Leaves anyReg s.cpyAdvance :=
  (h.freeYields.each _ _ fun _ _ hu => hu.askAgain _).each _ _ fun _ _ hu => hu.askAgain _

end State.Leaves

/-! ### One tick -/

/-- Nothing that falls due at a tick touches the tick counter or a memory. -/
theorem State.dueAtTick_leaves (s : State) :
    s.Leaves anyReg (s.deskewDue.spanSteps.each (List.range 8) State.blotEnter).cpyAdvance :=
  ((State.Leaves.refl s).deskewDue.spanSteps.each _ _ fun _ k h => h.blotEnter k).cpyAdvance

theorem State.tick_idle (s : State) :
    s.idle.tick = if s.clk.counting && s.clk.running then (s.tick + 1) % 2 ^ 64 else s.tick := by
  refine (State.dueAtTick_leaves _).tick.trans ?_
  split <;> rfl

theorem State.pending_idle (s : State) : s.idle.pending = s.pending := by
  have hcounted : (if s.clk.counting && s.clk.running then { s with tick := tickWrap (s.tick + 1) } else s).pending = s.pending := by
    split <;> rfl
  exact (State.cpyAdvance_after (State.each_after (State.spanSteps_after (State.deskewDue_after (.refl _))) _ _
    fun _ k h => State.blotEnter_after h k)).queue.trans hcounted

/-- Settles O2: an idle tick counts once, and nothing that falls due at it touches the counter. -/
theorem idleTick : Obligations.IdleTick := fun s h =>
  ⟨s.idle, step_nil s h, s.pending_idle.trans h, s.tick_idle⟩

end Sys2Proof.Machine
end

section
/-! SUPPORT. Host and debug-port accesses (R21 to R30, R487, R1036 to R1041): what an access that is accepted does. -/

namespace Sys2Proof.Machine
open Reg

variable {s : State}

/-! ### An access that reaches the block -/

theorem State.awake_parts (h : s.awake = true) :
    s.mainOn = true ∧ s.host.linkUp = true ∧ s.pstate ≤ psLight ∧ s.quill.entering = none := by
  simp only [State.awake, Bool.and_eq_true, decide_eq_true_eq, Option.isNone_iff_eq_none] at h
  obtain ⟨⟨⟨⟨hmain, hlink⟩, hlight⟩, hentering⟩, -⟩ := h
  exact ⟨hmain, hlink, hlight, hentering⟩

theorem State.mainOn_of_awake (h : s.awake = true) : s.mainOn = true := by
  obtain ⟨hmain, -⟩ := State.awake_parts h
  exact hmain

theorem State.phase_of_mainOn (h : s.mainOn = true) : s.quill.phase = .up := by
  simp only [State.mainOn, Bool.and_eq_true, decide_eq_true_eq] at h
  obtain ⟨hphase, -⟩ := h
  exact hphase

/-- No wake begins while no rest is in force, being entered or left. -/
theorem State.wake_of_awake (h : s.awake = true) (c : Nat) : s.wake c = s := by
  obtain ⟨hmain, -, hlight, hentering⟩ := State.awake_parts h
  have hphase := State.phase_of_mainOn hmain
  have hdown : s.downOrDormant = false := by rw [State.downOrDormant, hphase]
  have hdepth : s.restDepth = 0 := by
    have h3 : s.pstate ≠ psLightRest := by simp only [psLight, psLightRest] at *; omega
    have h4 : s.pstate ≠ psDoze := by simp only [psLight, psDoze] at *; omega
    simp [State.restDepth, h3, h4, hphase]
  simp [State.wake, hentering, hdown, hdepth]

theorem State.hostIn_of_awake (h : s.awake = true) (f : State → State) : s.hostIn f = f s := by
  obtain ⟨-, hlink, -⟩ := State.awake_parts h
  rw [State.hostIn, if_pos hlink, State.wake_of_awake h]

theorem State.hostReads_of_awake (h : s.awake = true) (f : State → Word × State) :
    s.hostReads f = (f s).2.answers [(f s).1] := State.hostIn_of_awake h _

/-! ### An access that is recorded (R24, R983) -/

/-- The access at an offset is shown as narrow or misaligned, and its source is raised unless it asserts already. -/
structure AccessRecorded (off : Nat) (s t : State) : Prop where
  regs : RegsOnlyErr [] s t
  memory : SameMemory s t
  offset : t.rd ERR.ACCESS_LO.reg = BitVec.ofNat 32 off
  kind : t.get ERR.ACCESS_HI.KIND = 0
  raised : s.flag (ERR.SRC.ACTIVE srcHostAccess) = false → t.flag (ERR.SRC.STAT srcHostAccess) = true

/-- STAT of a source, its highest bit, stays set while a field below the highest bit of any register is written. -/
theorem State.flag_stat_set {n : Nat} (hs : s.flag (ERR.SRC.STAT n) = true) (f : Fld) (v : Nat) (hf : f.lo + f.n ≤ 31) :
    (s.set f v).flag (ERR.SRC.STAT n) = true := by
  have hkept : (s.set f v).get (ERR.SRC.STAT n) = s.get (ERR.SRC.STAT n) :=
    State.get_set_beside s f _ v (Nat.le_succ_of_le hf) (.inr hf)
  rw [State.flag, hkept]
  exact hs

theorem State.flag_stat_irqLo {n : Nat} (hs : s.flag (ERR.SRC.STAT n) = true) : s.irqLo.flag (ERR.SRC.STAT n) = true := by
  have hkept : s.irqLo.rd (ERR.SRC.reg n) = s.rd (ERR.SRC.reg n) :=
    ((State.Leaves.refl (W := (· = ERR.IRQ.reg)) s).setSignal ERR.IRQ.LO 1 rfl).regs _
      (by simp only [ERR.SRC.reg, ERR.IRQ.reg]; omega)
  simp only [State.flag, State.get, ERR.SRC.STAT, hkept] at hs ⊢
  exact hs

theorem State.flag_stat_setStat (n : Nat) (hc : srcClass n = .f0) : (s.setStat n true).flag (ERR.SRC.STAT n) = true := by
  have hset : (s.setB (ERR.SRC.STAT n) true).flag (ERR.SRC.STAT n) = true := State.get_setB_same s _ _ (Nat.le_refl 32) rfl
  have hreg : (ERR.SRC.STAT n).reg ≠ ERR.SUM.reg (n / 32) := by
    simp only [ERR.SRC.STAT, ERR.SRC.reg, ERR.SUM.reg]; omega
  simp only [State.setStat, hc, reduceCtorEq, decide_false, Bool.false_and, Bool.false_eq_true, if_false]
  rw [State.flag, State.setB, State.get_set_reg _ _ _ _ hreg]
  exact hset

/-- The raise of a source of class F0 sets its STAT, and nothing that the raise writes later touches that flag. -/
theorem State.flag_stat_record (n : Nat) (forced : Bool) (hc : srcClass n = .f0) :
    (s.record n forced).flag (ERR.SRC.STAT n) = true := by
  have hlo (u : State) (hu : u.flag (ERR.SRC.STAT n) = true) : u.irqLo.flag (ERR.SRC.STAT n) = true := State.flag_stat_irqLo hu
  have h1 := State.flag_stat_set (State.flag_stat_set (State.flag_stat_setStat (s := s) n hc) (ERR.SRC.COUNT n)
    (satAdd (2 ^ 8 - 1) ((s.setStat n true).get (ERR.SRC.COUNT n)) 1) (by simp [ERR.SRC.COUNT]))
    (ERR.SRC.FORCED n) (b2n forced) (by simp [ERR.SRC.FORCED])
  have h2 (v : Nat) := State.flag_stat_set h1 (ERR.SRC.CONSEQ n) v (by simp [ERR.SRC.CONSEQ])
  unfold State.record
  dsimp only
  split
  · exact State.when_keeps (·.flag (ERR.SRC.STAT n) = true) _ _ _ hlo
      (State.flag_stat_set (h2 1) (ERR.SRC.CAUSE n) _ (by simp [ERR.SRC.CAUSE]))
  · rw [hc]
    refine State.when_keeps (·.flag (ERR.SRC.STAT n) = true) _ _ _ hlo ?_
    split
    · exact h2 0
    · exact State.flag_stat_set (State.flag_stat_set (h2 0) ERR.STAT.FIRST n (by decide)) ERR.STAT.FIRST_VALID 1 (by decide)

theorem State.flag_stat_notice (n : Nat) (hc : srcClass n = .f0) (hm : s.mainOn = true)
    (ha : s.flag (ERR.SRC.ACTIVE n) = false) : (s.notice n).flag (ERR.SRC.STAT n) = true := by
  simp only [State.notice, hm, ha, Bool.not_false, Bool.and_self, if_true]
  exact State.flag_stat_record n false hc

/-- The state in which the notice of an access is raised: it shows the access. -/
def State.showAccess (s : State) (bar kind off : Nat) : State :=
  (((s.wr ERR.ACCESS_LO.reg (BitVec.ofNat 32 off)).set ERR.ACCESS_HI.BAR (if bar = 0 then s.host.via else bar)).set
    ERR.ACCESS_HI.KIND kind).set ERR.ACCESS_HI.OFFSET (off / 2 ^ 32)

theorem State.hostAccess_eq (bar kind off : Nat) :
    s.hostAccess bar kind off = (s.showAccess bar kind off).notice srcHostAccess := rfl

theorem State.showAccess_leaves (bar kind off : Nat) :
    s.Leaves (· ∈ [ERR.ACCESS_LO.reg, ERR.ACCESS_HI.reg]) (s.showAccess bar kind off) :=
  ((((State.Leaves.refl s).wr _ _ (by decide)).set _ _ (by decide)).set _ _ (by decide)).set _ _ (by decide)

theorem State.rd_showAccess_lo (bar kind off : Nat) : (s.showAccess bar kind off).rd ERR.ACCESS_LO.reg = BitVec.ofNat 32 off := by
  rw [State.showAccess, State.rd_set_ne _ _ _ _ (by decide), State.rd_set_ne _ _ _ _ (by decide),
    State.rd_set_ne _ _ _ _ (by decide), State.rd_wr_same]

theorem State.kind_showAccess (bar kind off : Nat) : (s.showAccess bar kind off).get ERR.ACCESS_HI.KIND = kind % 4 := by
  rw [State.showAccess, State.get_set_beside _ _ _ _ (by decide) (by decide), State.get_set_same _ _ _ (by decide)]
  rfl

theorem State.mainOn_wr (a : Nat) (v : Word) : (s.wr a v).mainOn = s.mainOn := rfl
theorem State.mainOn_set (f : Fld) (v : Nat) : (s.set f v).mainOn = s.mainOn := rfl

theorem State.mainOn_showAccess (bar kind off : Nat) : (s.showAccess bar kind off).mainOn = s.mainOn := by
  rw [State.showAccess, State.mainOn_set, State.mainOn_set, State.mainOn_set, State.mainOn_wr]

/-- The notice of an access writes neither of the registers that show it. -/
theorem State.rd_notice_access (a : Nat) (ha : a ∈ [ERR.ACCESS_LO.reg, ERR.ACCESS_HI.reg]) :
    (s.notice srcHostAccess).rd a = s.rd a := by
  have hapart : ∀ b ∈ [ERR.ACCESS_LO.reg, ERR.ACCESS_HI.reg], b ∉ sourceRegs srcHostAccess := by decide
  exact ((State.Leaves.refl (W := (· ∈ sourceRegs srcHostAccess)) s).notice srcHostAccess fun _ h => h).regs a (hapart a ha)

theorem State.active_showAccess (bar kind off : Nat) :
    (s.showAccess bar kind off).flag (ERR.SRC.ACTIVE srcHostAccess) = s.flag (ERR.SRC.ACTIVE srcHostAccess) := by
  have hapart : (ERR.SRC.ACTIVE srcHostAccess).reg ∉ [ERR.ACCESS_LO.reg, ERR.ACCESS_HI.reg] := by decide
  have hkept := (State.showAccess_leaves (s := s) bar kind off).regs (ERR.SRC.ACTIVE srcHostAccess).reg hapart
  rw [State.flag, State.get, hkept]
  rfl

theorem State.hostAccess_leaves (bar kind off : Nat) : s.Leaves (inErrata · = true) (s.hostAccess bar kind off) := by
  have hshow : ∀ a ∈ [ERR.ACCESS_LO.reg, ERR.ACCESS_HI.reg], inErrata a = true := by decide
  have hsource : ∀ a ∈ sourceRegs srcHostAccess, inErrata a = true := by decide
  rw [State.hostAccess_eq]
  exact ((State.showAccess_leaves bar kind off).mono hshow).notice _ hsource

theorem State.hostAccess_recorded (hm : s.mainOn = true) (bar off : Nat) : AccessRecorded off s (s.hostAccess bar 0 off) := by
  have hleaves := State.hostAccess_leaves (s := s) bar 0 off
  refine ⟨fun a _ ha => hleaves.regs a (by simp [ha]), hleaves.memory, ?_, ?_, fun ha => ?_⟩
  · rw [State.hostAccess_eq, State.rd_notice_access _ (by decide), State.rd_showAccess_lo]
  · rw [State.hostAccess_eq, State.get, State.rd_notice_access _ (by decide), ← State.get, State.kind_showAccess]
  · rw [State.hostAccess_eq]
    exact State.flag_stat_notice _ (by decide) ((State.mainOn_showAccess bar 0 off).trans hm)
      ((State.active_showAccess bar 0 off).trans ha)

end Sys2Proof.Machine
end

section
/-! SUPPORT. Which accesses are accepted and what they do: the statements on register accesses (R24 to R30, R487, R1036 to
R1041). -/

namespace Sys2Proof.Machine
open Reg

variable {s : State}

/-! ### Where a register lies (R856) -/

theorem place_ite_ne {c : Prop} [Decidable c] {p : Place} {x y : Place × Nat} (hx : x.1 ≠ p) (hy : y.1 ≠ p) :
    (if c then x else y).1 ≠ p := by
  split
  · exact hx
  · exact hy

/-- The Copyist's block lies below the sectors: no other range is of that place. -/
theorem lt_of_whereIs_copyist {a : Nat} (h : (whereIs a).1 = .copyist) : a < 0x900000 := by
  refine Decidable.byContradiction fun hge => ?_
  rw [whereIs, if_neg hge] at h
  dsimp only at h
  refine absurd h ?_
  repeat' apply place_ite_ne
  all_goals exact nofun

theorem whereIs_copyist {a : Nat} (h : (whereIs a).1 = .copyist) : 0x600000 ≤ a ∧ (whereIs a).2 = a - 0x600000 := by
  have hlt := lt_of_whereIs_copyist h
  rw [whereIs, if_pos hlt] at h ⊢
  dsimp only at h ⊢
  generalize hn : a / 0x100000 = n at h
  split at h
  case h_7 => omega
  all_goals cases h

theorem whereIs_laneArea (g : Octet) (off : Nat) (h : off < 0x1000) : whereIs (laneBase g + off) = (.laneArea g, off) := by
  have hg := g.isLt
  generalize ha : laneBase g + off = a
  have hkey : a = 0x1000000 + g.val / 8 * 0x400000 + 0x280000 + g.val % 8 * 0x8000 + off := ha.symm
  unfold whereIs
  rw [if_neg (by omega), if_neg (by omega), if_pos (by omega)]
  generalize hk : (a - 0x1000000) / 0x400000 = k
  generalize hr : (a - 0x1000000) % 0x400000 = r
  have hsec : 8 * k + g.val % 8 = g.val := by omega
  have hplace : r = 0x280000 + (g.val % 8 * 0x8000 + off) := by omega
  have hrange : (decide (0x280000 ≤ r) && decide (r < 0x2C0000)) = true := by
    rw [Bool.and_eq_true, decide_eq_true_eq, decide_eq_true_eq]
    omega
  have hin : r - 0x280000 = off + 0x8000 * (g.val % 8) := by omega
  dsimp only
  rw [if_neg (by omega), if_neg (by omega), if_neg (by omega), if_neg (by omega), if_neg (by omega), if_pos hrange,
    hin, Nat.add_mul_mod_self_left, Nat.add_mul_div_left _ _ (by omega), Nat.mod_eq_of_lt (by omega),
    Nat.div_eq_of_lt (by omega), Nat.zero_add, if_pos h, hsec]

/-- No register of a lane area has a place in its broadcast windows. -/
theorem rowAt_laneArea (g : Octet) (off : Nat) (h : off < 0xF00): rowAt (laneBase g + off) = none := by
  have hrow : decide (0xF00 ≤ off) = false := decide_eq_false (by omega)
  rw [rowAt, whereIs_laneArea g off (by omega)]
  simp only [Place.rows, laneAreaRows, findRow, List.find?, RegRow.covers, hrow, Bool.false_and]

theorem whereIs_trim : ∀ k : Sector, whereIs (SREG.CTL.reg k) = (.device, SREG.CTL.reg k) := by decide

theorem rowAt_trim : ∀ k : Sector, (rowAt (SREG.CTL.reg k)).any (·.has .rwl) = true := by decide

/-! ### Writes -/

/-- A write of a mapped Copyist control register gives it what its access codes make of the word. -/
theorem State.bar0Write_copyist {a : Nat} {r : RegRow} (v : Word) (hp : (whereIs a).1 = .copyist) (hlt : a < 0x601000)
    (ha : a % 4 = 0) (hr : rowAt a = some r) : s.bar0Write a v = s.wr a (r.written (!s.rwlOpen) (s.rd a).toNat v.toNat) := by
  obtain ⟨hge, hoff⟩ := whereIs_copyist hp
  have hbelow : ¬ 0x1000 ≤ a - 0x600000 := by omega
  have hback : 0x600000 + (a - 0x600000) = a := by omega
  simp [State.bar0Write, ha, hr, hp, State.placeOff, Place.sector, State.placeWrite, State.copyistWrite, hoff, hbelow, hback,
    State.plainWrite]

theorem State.bar0Write_misaligned {a : Nat} (v : Word) (ha : a % 4 ≠ 0) : s.bar0Write a v = s.hostAccess 0 0 a := by
  rw [State.bar0Write, if_pos ha]

theorem State.bar4Write_misaligned {off : Nat} (v : Word) (ho : off % 4 ≠ 0) : s.bar4Write off v = s.hostAccess 2 0 off := by
  rw [State.bar4Write, if_pos ho]

theorem State.bar0Write_trim (k : Sector) (v : Word) : s.bar0Write (SREG.CTL.reg k) v = s.trimWrite k v.toNat := by
  have hk := k.isLt
  have hkey : SREG.CTL.reg k = 0x200 + 8 * k.val := rfl
  have hindex : (SREG.CTL.reg k - 0x200) / 8 = k.val := by omega
  obtain ⟨r, hr, -⟩ := (Option.any_eq_true _ _).mp (rowAt_trim k)
  rw [State.bar0Write, if_neg (by omega), hr, whereIs_trim]
  show s.deviceWrite (SREG.CTL.reg k) v.toNat = _
  rw [State.deviceWrite, if_neg (by simp; omega), if_pos (by simp; omega), hindex]

/-! ### Reads -/

theorem State.bar0Read_misaligned {a : Nat} (ha : a % 4 ≠ 0) : s.bar0Read a = (0, s.hostAccess 0 0 a) := by
  rw [State.bar0Read, if_pos ha]

theorem State.bar4Read_misaligned {off : Nat} (ho : off % 4 ≠ 0) : s.bar4Read off = (0, s.hostAccess 2 0 off) := by
  rw [State.bar4Read, if_pos ho]

/-- A read of a mapped register of a sector that is on, with no latched value, returns its present value. -/
theorem State.bar0Read_mapped {a : Nat} {r : RegRow} (ha : a % 4 = 0) (hr : rowAt a = some r)
    (hon : s.placeOff (whereIs a).1 = false) (hl : Tab.get (fun _ => 0) s.latch a = 0) (ho : openOnRead a = false) :
    s.bar0Read a = (s.peek a, s.readEffect a) := by
  simp [State.bar0Read, ha, hr, hon, hl, State.tookFree, ho]

/-- A read of a register with RC fields clears them, and nothing else. -/
theorem State.readEffect_rc {a : Nat} {r : RegRow} (hr : rowAt a = some r) (hrc : r.has .rc = true) (hf : a ≠ EVT.FIFO.reg)
    (hl : latchedHi a = none) (hs : s.slotAlias a = a) :
    s.readEffect a = s.wr a (BitVec.ofNat 32 ((s.rd a).toNat - ((s.rd a).toNat &&& r.rcMask))) := by
  simp [State.readEffect, hf, hl, hs, hr, hrc]

/-- A read of a LO register latches its HI register, and nothing else. -/
theorem State.readEffect_latching {a hi : Nat} {r : RegRow} (hr : rowAt a = some r) (hrc : r.has .rc = false)
    (hf : a ≠ EVT.FIFO.reg) (hl : latchedHi a = some hi) (hs : s.slotAlias a = a) :
    s.readEffect a = { s with latch := Tab.put (fun _ => 0) s.latch hi ((s.peek hi).toNat + 1) } := by
  have hsame : State.slotAlias { s with latch := Tab.put (fun _ => 0) s.latch hi ((s.peek hi).toNat + 1) } a = a := hs
  simp [State.readEffect, hf, hl, hsame, hr, hrc]

end Sys2Proof.Machine
end

section
/-! PROOFS. The statements on register accesses: narrow and misaligned accesses (R24), register accesses (R25 to R30, R185,
R1036 to R1040), gates (R26, R487, R1041), and reads through the debug access port (R27). -/

namespace Sys2Proof.Machine
open Reg

variable {s : State}

/-! ### Narrow and misaligned accesses (R24) -/

theorem AccessRecorded.answers {off : Nat} {t : State} (h : AccessRecorded off s t) (ws : List Word) :
    AccessRecorded off s (t.answers ws) :=
  ⟨h.regs, h.memory, h.offset, h.kind, h.raised⟩

/-- The bar that a recorded access names (R983). -/
def barOf (bar4 : Bool) : Nat := if bar4 then 2 else 0

theorem exec_narrowAccess (bar4 : Bool) (off : BitVec 26) (write : Bool) (h : s.awake = true)
    (hb : bar4 = false ∨ off.toNat < 0x100000) :
    exec (.narrowAccess bar4 off write) s =
      .next (if write then s.hostAccess (barOf bar4) 0 off.toNat else (s.hostAccess (barOf bar4) 0 off.toNat).answers [0]) := by
  have hin : (bar4 && decide (0x100000 ≤ off.toNat)) = false := by
    rcases hb with rfl | hlt
    · rfl
    · rw [decide_eq_false (by omega), Bool.and_false]
  change execNarrowAccess bar4 off write s = _
  simp only [execNarrowAccess, hin, Bool.false_eq_true, if_false, State.hostIn_of_awake h, barOf]

theorem exec_registerWrite_misaligned (bar4 : Bool) (off : BitVec 26) (v : Word) (h : s.awake = true) (ho : off.toNat % 4 ≠ 0)
    (hb : bar4 = false ∨ off.toNat < 0x100000) :
    exec (.registerWrite bar4 off v) s = .next (s.hostAccess (barOf bar4) 0 off.toNat) := by
  change execRegisterWrite bar4 off v s = _
  cases bar4 with
  | false => simp only [execRegisterWrite, Bool.not_false, if_true, State.hostIn_of_awake h, State.bar0Write_misaligned v ho,
      barOf, Bool.false_eq_true, if_false]
  | true =>
    have hlt : off.toNat < 0x100000 := hb.resolve_left nofun
    simp only [execRegisterWrite, Bool.not_true, Bool.false_eq_true, if_false, if_pos hlt, State.hostIn_of_awake h,
      State.bar4Write_misaligned v ho, barOf, if_true]

theorem exec_rcRead_misaligned (bar4 : Bool) (off : BitVec 26) (h : s.awake = true) (ho : off.toNat % 4 ≠ 0)
    (hb : bar4 = false ∨ off.toNat < 0x100000) :
    exec (.rcRead bar4 off) s = .next ((s.hostAccess (barOf bar4) 0 off.toNat).answers [0]) := by
  change execRcRead bar4 off s = _
  cases bar4 with
  | false => simp only [execRcRead, Bool.not_false, if_true, State.hostReads_of_awake h, State.bar0Read_misaligned ho,
      barOf, Bool.false_eq_true, if_false]
  | true =>
    have hlt : off.toNat < 0x100000 := hb.resolve_left nofun
    simp only [execRcRead, Bool.not_true, Bool.false_eq_true, if_false, if_pos hlt, State.hostReads_of_awake h,
      State.bar4Read_misaligned ho, barOf, if_true]

/-- A narrow access is recorded, and a narrow read answers 0. -/
theorem narrowAccess_recorded (bar4 : Bool) (off : BitVec 26) (write : Bool) (h : s.awake = true)
    (hb : bar4 = false ∨ off.toNat < 0x100000) :
    Completes (.narrowAccess bar4 off write) s fun t => AccessRecorded off.toNat s t ∧ (write = false → t.answer.words = [0]) := by
  have hrec := State.hostAccess_recorded (State.mainOn_of_awake h) (barOf bar4) off.toNat
  refine ⟨_, exec_narrowAccess bar4 off write h hb, ?_⟩
  cases write with
  | true => exact ⟨hrec, nofun⟩
  | false => exact ⟨hrec.answers [0], fun _ => rfl⟩

/-- Settles O47: a narrow or misaligned access is recorded, and does nothing else. -/
theorem narrowAccess : Obligations.NarrowAccess := by
  refine ⟨fun bar4 off write s h hb => ?_, fun bar4 off v s h ho hb => ?_, fun bar4 off s h ho hb => ?_⟩
  · obtain ⟨t, ht, hrec, hzero⟩ := narrowAccess_recorded bar4 off write h hb
    exact ⟨t, ht, hrec.regs, hrec.memory, hzero, hrec.offset, rfl, hrec.raised⟩
  · have hrec := State.hostAccess_recorded (State.mainOn_of_awake h) (barOf bar4) off.toNat
    exact ⟨_, exec_registerWrite_misaligned bar4 off v h ho hb, hrec.regs, hrec.memory, hrec.offset, hrec.raised⟩
  · have hrec := (State.hostAccess_recorded (State.mainOn_of_awake h) (barOf bar4) off.toNat).answers [0]
    exact ⟨_, exec_rcRead_misaligned bar4 off h ho hb, hrec.regs, hrec.memory, rfl, hrec.offset, hrec.raised⟩

/-! ### The debug access port (R27, R1036 to R1041) -/

theorem exec_dapRead (wa : BitVec 24) (h : s.dapOn = true) :
    exec (.dapRead wa) s = .next ((s.tookFree (4 * wa.toNat)).dapDone wa.toNat 0
      (if s.dbgGated && (whereIs (4 * wa.toNat)).1 = .vault then 0 else (s.peek (4 * wa.toNat)).toNat)) := by
  change execDapRead wa s = _
  simp only [execDapRead, h, Bool.not_true, Bool.false_eq_true, if_false]

theorem exec_dapRead_off (wa : BitVec 24) (h : s.dapOn = false) : exec (.dapRead wa) s = .next s := by
  change execDapRead wa s = _
  simp only [execDapRead, h, Bool.not_false, if_true]

/-- Taking a free value changes only their count. -/
theorem State.tookFree_eq (s : State) (a : Nat) : ∃ n, s.tookFree a = { s with free := n } := by
  unfold State.tookFree
  split
  · exact ⟨_, rfl⟩
  · exact ⟨s.free, rfl⟩

/-- Settles O48: a read takes at most a free value. -/
theorem debugReadNoEffect : Obligations.DebugReadNoEffect := by
  intro wa s
  cases hd : s.dapOn with
  | false =>
    exact ⟨s, exec_dapRead_off wa hd, rfl, nofun⟩
  | true =>
    obtain ⟨n, hn⟩ := s.tookFree_eq (4 * wa.toNat)
    refine ⟨_, exec_dapRead wa hd, ?_, fun _ => ⟨rfl, rfl⟩⟩
    rw [hn]
    rfl

/-! ### Register accesses (R24 to R30) -/

theorem exec_dapWrite_open (wa : BitVec 24) (v : Word) (h : s.dapOn = true) (hg : s.dbgGated = false) :
    exec (.dapWrite wa v) s = .next ((s.bar0Write (4 * wa.toNat) v).dapDone wa.toNat 0 v.toNat) := by
  change execDapWrite wa v s = _
  simp only [execDapWrite, h, hg, Bool.not_true, Bool.false_eq_true, if_false]

theorem exec_dapWrite_gated (wa : BitVec 24) (v : Word) (h : s.dapOn = true) (hg : s.dbgGated = true) :
    exec (.dapWrite wa v) s = .next ((s.set DEBUG.STATUS.DAP_REFUSED 1).dapDone wa.toNat 2 v.toNat) := by
  change execDapWrite wa v s = _
  simp only [execDapWrite, h, hg, Bool.not_true, Bool.false_eq_true, if_false, if_true]

theorem exec_registerWrite_bar0 (off : BitVec 26) (v : Word) (h : s.awake = true) :
    exec (.registerWrite false off v) s = .next (s.bar0Write off.toNat v) := by
  change execRegisterWrite false off v s = _
  simp only [execRegisterWrite, Bool.not_false, if_true, State.hostIn_of_awake h]

theorem exec_rcRead_bar0 (off : BitVec 26) (h : s.awake = true) :
    exec (.rcRead false off) s = .next ((s.bar0Read off.toNat).2.answers [(s.bar0Read off.toNat).1]) := by
  change execRcRead false off s = _
  simp only [execRcRead, Bool.not_false, if_true, State.hostReads_of_awake h]

theorem exec_latchingLoRead (off : BitVec 26) {hi : Nat} (h : s.awake = true) (hl : latchedHi off.toNat = some hi) :
    exec (.latchingLoRead off) s = .next ((s.bar0Read off.toNat).2.answers [(s.bar0Read off.toNat).1]) := by
  change execLatchingLoRead off s = _
  simp only [execLatchingLoRead, hl, Option.isSome_some, if_true, State.hostReads_of_awake h]

/-- A write of one register changes no other and no memory. -/
theorem regsOnly_wr (s : State) (a : Nat) (v : Word) : RegsOnly [a] s (s.wr a v) := fun b hb =>
  State.rd_wr_ne s a v b (fun e => hb (by simp [e]))

theorem regsOnly_set (s : State) (f : Fld) (v : Nat) : RegsOnly [f.reg] s (s.set f v) := regsOnly_wr s f.reg _

theorem sameMemory_set (s : State) (f : Fld) (v : Nat) : SameMemory s (s.set f v) := ⟨rfl, rfl, rfl, rfl, rfl⟩

theorem State.flag_dapDone (t : State) (wa status data : Nat) (f : Fld) : (t.dapDone wa status data).flag f = t.flag f := rfl

theorem RegsOnly.dapDone {l : List Nat} {t : State} (h : RegsOnly l s t) (wa status data : Nat) :
    RegsOnly l s (t.dapDone wa status data) := h

theorem SameMemory.dapDone {t : State} (h : SameMemory s t) (wa status data : Nat) : SameMemory s (t.dapDone wa status data) := h

/-- Settles O7: each access that is accepted comes down to one write of one register, or to one latch. -/
theorem registerAccess : Obligations.RegisterAccess := by
  refine ⟨?_, ?_, ?_, ?_, ?_, ?_⟩
  · intro off v r s h hp hlt ha hr
    refine ⟨_, exec_registerWrite_bar0 off v h, ?_⟩
    rw [State.bar0Write_copyist v hp hlt ha hr]
    exact ⟨State.rd_wr_same s _ _, regsOnly_wr s _ _, .refl s⟩
  · intro bar4 off write s h hb
    obtain ⟨t, ht, hrec, hzero⟩ := narrowAccess_recorded bar4 off write h hb
    exact ⟨t, ht, hrec.kind, hrec.offset, hrec.raised, hzero, hrec.regs, hrec.memory⟩
  · intro off r s h hr hrc hon ha hf hnone hl hs ho
    refine ⟨_, exec_rcRead_bar0 off h, ?_⟩
    rw [State.bar0Read_mapped ha hr hon hl ho, State.readEffect_rc hr hrc hf hnone hs]
    exact ⟨rfl, State.rd_wr_same s _ _, regsOnly_wr s _ _, .refl s⟩
  · intro off hi r s h hsome hr hrc hon ha hf hl hs ho
    refine ⟨_, exec_latchingLoRead off h hsome, ?_⟩
    rw [State.bar0Read_mapped ha hr hon hl ho, State.readEffect_latching hr hrc hf hsome hs]
    have hlatch : Tab.get (fun _ => 0) (Tab.put (fun _ => 0) s.latch hi ((s.peek hi).toNat + 1)) hi = (s.peek hi).toNat + 1 := by
      rw [Tab.get_put, if_pos rfl]
    exact ⟨rfl, hlatch, fun _ _ => rfl, .refl s⟩
  · intro wa s h hv
    have hopen : (s.dbgGated && decide ((whereIs (4 * wa.toNat)).1 = .vault)) = false := by
      rcases hv with hg | hv
      · rw [hg, Bool.false_and]
      · rw [decide_eq_false hv, Bool.and_false]
    obtain ⟨n, hn⟩ := s.tookFree_eq (4 * wa.toNat)
    refine ⟨_, exec_dapRead wa h, ?_⟩
    rw [hn, hopen]
    exact ⟨rfl, rfl, rfl, fun _ _ => rfl, .refl s⟩
  · intro wa v r s h hg hp hlt hr
    refine ⟨_, exec_dapWrite_open wa v h hg, ?_⟩
    rw [State.bar0Write_copyist v hp hlt (by omega) hr]
    exact ⟨State.rd_wr_same s _ _, rfl, regsOnly_wr s _ _, .refl s⟩

/-! ### Locked registers (R26, R487, R820) -/

theorem exec_rwlWrite_trim (k : Sector) (v : Word) (h : s.awake = true) :
    exec (.rwlWrite (BitVec.ofNat 26 (SREG.CTL.reg k)) v) s = .next (s.trimWrite k v.toNat) := by
  have hk := k.isLt
  have hkey : SREG.CTL.reg k = 0x200 + 8 * k.val := rfl
  have hoff : (BitVec.ofNat 26 (SREG.CTL.reg k)).toNat = SREG.CTL.reg k := by
    rw [BitVec.toNat_ofNat, Nat.mod_eq_of_lt (by omega)]
  change execRwlWrite (BitVec.ofNat 26 (SREG.CTL.reg k)) v s = _
  simp only [execRwlWrite, hoff, rowAt_trim, if_true, State.hostIn_of_awake h, State.bar0Write_trim]

/-- The vault's copy of the sealed parameters, taken anew. -/
def State.sealSet (s : State) : State := { s with vault := { s.vault with set := s.sealedNow } }

theorem State.get_sealSet (t : State) (f : Fld) : t.sealSet.get f = t.get f := rfl

theorem RegsOnly.sealSet {l : List Nat} {t : State} (h : RegsOnly l s t) : RegsOnly l s t.sealSet := h

theorem SameMemory.sealSet {t : State} (h : SameMemory s t) : SameMemory s t.sealSet := h

theorem State.sealedChange_blank (item index : Nat) (before : List Byte) (opcode : Nat) (hc : s.lifecycle = 0) :
    s.sealedChange item index before opcode = s.sealSet := by
  have hkept : s.sealSet.lifecycle = 0 := hc
  rw [State.sealedChange]
  change (if s.sealSet.lifecycle = 1 || s.sealSet.lifecycle = 3 then _ else s.sealSet) = s.sealSet
  rw [hkept, if_neg (by decide)]

/-- A trim that is written in BLANK appends nothing to the Colophon. -/
theorem State.trimWrite_blank (k v : Nat) (hc : s.lifecycle = 0) (ho : s.rwlOpen = true) :
    s.trimWrite k v = (s.set (SREG.CTL.TRIM k) v).sealSet := by
  have hroom : s.changeRoom 1 = true := by simp only [State.changeRoom, hc, decide_true, Bool.true_or]
  rw [State.trimWrite, ho, hroom]
  exact State.sealedChange_blank _ _ _ _ hc

theorem State.trimWrite_locked (k v : Nat) (ho : s.rwlOpen = false) : s.trimWrite k v = s := by
  simp only [State.trimWrite, ho, Bool.false_and, Bool.false_eq_true, if_false]

/-! ### Broadcast writes of time sets (R487) -/

/-- A time-set word staged in a lane slot. -/
def State.stageWord (s : State) (g w v l : Nat) : State :=
  s.onOct g fun o => { o with staging := Tab.put (fun _ => 0) o.staging (5 * l + w) v }

theorem State.slotWrite_stage {g off l : Nat} (v : Nat) (hlo : off < 0x600) (hw : off % 24 ≠ 20)
    (hv : (s.rot g).visit = none) (hn : s.nibLocked g = false) (hl : l < 8) :
    (s.slotWrite g l fun s l => s.slotReg g off v l) = s.stageWord g (off % 24 / 4) v l := by
  have hreg : s.slotReg g off v l = s.stageWord g (off % 24 / 4) v l := by
    simp only [State.slotReg, if_pos hlo, if_neg hw, State.tsStage, hn, Bool.false_eq_true, if_false, State.stageWord]
  rw [State.slotWrite, if_neg (by omega), hv, if_neg nofun, hreg]

/-- What a broadcast write leaves: the word in the slots it has reached, and nothing else of the block but staging. -/
structure SlotsStaged (g w v : Nat) (slots : List Nat) (s t : State) : Prop where
  word : ∀ l ∈ slots, Tab.get (fun _ => 0) (t.oct g).staging (5 * l + w) = v
  regs : t.regs = s.regs
  memory : SameMemory s t
  visit : (t.rot g).visit = (s.rot g).visit
  locked : t.nibLocked g = s.nibLocked g

theorem SlotsStaged.refl (g w v : Nat) (s : State) : SlotsStaged g w v [] s s := ⟨nofun, rfl, .refl s, rfl, rfl⟩

/-- One slot more: a slot written again or another slot keeps the words staged before. -/
theorem SlotsStaged.stageWord {g w v : Nat} {slots : List Nat} {t : State} (h : SlotsStaged g w v slots s t) (l : Nat) :
    SlotsStaged g w v (slots ++ [l]) s (t.stageWord g w v l) := by
  obtain ⟨hword, hregs, hmem, hvisit, hlocked⟩ := h
  refine ⟨fun j hj => ?_, hregs, hmem, hvisit, hlocked⟩
  rw [State.stageWord, State.onOct, State.oct_setOct_same, Tab.get_put]
  split
  · rfl
  · next hne =>
    refine hword j ((List.mem_append.mp hj).resolve_right fun hjl => hne ?_)
    rw [List.mem_singleton.mp hjl]

/-- Slot after slot, the same word is staged. -/
theorem State.each_stage {g off : Nat} (v : Nat) (hlo : off < 0x600) (hw : off % 24 ≠ 20) (hv : (s.rot g).visit = none)
    (hn : s.nibLocked g = false) (todo : List Nat) (ht : ∀ l ∈ todo, l < 8) (done : List Nat) (t : State)
    (h : SlotsStaged g (off % 24 / 4) v done s t) :
    SlotsStaged g (off % 24 / 4) v (done ++ todo) s
      (t.each todo fun s l => s.slotWrite g l fun s l => s.slotReg g off v l) := by
  induction todo generalizing done t with
  | nil => rw [List.append_nil]; exact h
  | cons l rest ih =>
    have hstep := State.slotWrite_stage v hlo hw (h.visit.trans hv) (h.locked.trans hn) (ht l (by simp))
    have hnext := ih (fun j hj => ht j (by simp [hj])) (done ++ [l]) _ (h.stageWord l)
    rw [List.append_assoc, List.singleton_append, ← hstep] at hnext
    exact hnext

theorem inBroadcast_timeSet {off : Nat} (hlo : off < 0x600) (ha : off % 4 = 0) : inBroadcast off = true := by
  rw [inBroadcast, decide_eq_true ha, decide_eq_true (show off < 0x680 by omega)]
  rfl

/-- A broadcast write of a time-set word in the lane area of an octet that is on stages it in each lane slot. -/
theorem State.bar0Write_broadcast (g : Octet) {off : Nat} (v : Word) (hlo : off < 0x600) (ha : off % 4 = 0)
    (hon : s.modeOf (g / 8) ≠ mOff) :
    s.bar0Write (laneBase g + off) v = s.eachSlot g fun s l => s.slotReg g off v.toNat l := by
  have haligned : (laneBase g + off) % 4 = 0 := by simp only [laneBase, secBase]; omega
  rw [State.bar0Write, if_neg (by omega), rowAt_laneArea g off (by omega), whereIs_laneArea g off (by omega)]
  dsimp only
  rw [if_pos (inBroadcast_timeSet hlo ha), if_neg hon, if_neg (by omega)]

theorem exec_broadcastWrite (g : Octet) (off : BitVec 11) (v : Word) (h : s.awake = true) (hlo : off.toNat < 0x600)
    (ha : off.toNat % 4 = 0) (hon : s.modeOf (g / 8) ≠ mOff) :
    exec (.broadcastWrite g off v) s = .next (s.eachSlot g fun s l => s.slotReg g off.toNat v.toNat l) := by
  change execBroadcastWrite g off v s = _
  simp only [execBroadcastWrite, inBroadcast_timeSet hlo ha, if_true, State.hostIn_of_awake h, State.bar0Write_broadcast g v hlo ha hon]

/-- Settles O8: a trim open and locked, a write in a gated lifecycle, a time-set word staged slot after slot. -/
theorem registerGates : Obligations.RegisterGates := by
  refine ⟨?_, ?_, ?_, ?_⟩
  · intro k v s h hc ho
    refine ⟨_, exec_rwlWrite_trim k v h, ?_⟩
    rw [State.trimWrite_blank k v.toNat hc ho]
    have htrim := State.get_set_same s (SREG.CTL.TRIM k) v.toNat (by simp [SREG.CTL.TRIM])
    exact ⟨(State.get_sealSet _ _).trans htrim, (regsOnly_set s (SREG.CTL.TRIM k) _).sealSet, (sameMemory_set s _ _).sealSet⟩
  · intro k v s h ho
    refine ⟨_, exec_rwlWrite_trim k v h, ?_⟩
    rw [State.trimWrite_locked _ _ ho]
    exact ⟨fun _ _ => rfl, .refl s⟩
  · intro wa v s h hg
    have hrefused := State.flag_set_one s DEBUG.STATUS.DAP_REFUSED (by decide) rfl
    exact ⟨_, exec_dapWrite_gated wa v h hg, (State.flag_dapDone _ _ _ _ _).trans hrefused, rfl,
      (regsOnly_set s DEBUG.STATUS.DAP_REFUSED _).dapDone _ _ _, (sameMemory_set s _ _).dapDone _ _ _⟩
  · intro g off v s h hlo ha hw hon hv hn
    refine ⟨_, exec_broadcastWrite g off v h hlo ha hon, ?_⟩
    obtain ⟨hword, hregs, hmem, -, -⟩ := State.each_stage v.toNat hlo hw hv hn (List.range 8)
      (fun l hl => List.mem_range.mp hl) [] s (.refl _ _ _ s)
    refine ⟨fun l => hword l (by simp), fun a _ => ?_, hmem⟩
    rw [State.rd, State.eachSlot, hregs, State.rd]

end Sys2Proof.Machine
end

section
/-! PROOFS. The statement on power-up and start-up: its clause on the boot image that is pushed in chunks (R860). -/

namespace Sys2Proof.Machine
open Reg

/-- A chunk that does not end the image is appended, and TOTAL shows the length as far as its 24 bits go. -/
theorem exec_imgChunk_open (v : Word) (image : Image) (table : List Word) (s : State) (hm : s.mainOn = true)
    (hl : s.host.linkUp = true) (hw : s.flag IMG.STAT.WAITING = true) (hlast : v.getLsbD 31 = false) (hpos : 0 < v.field 0 20)
    (hmax : v.field 0 20 ≤ 524288) (hfit : s.host.image.length + v.field 0 20 ≤ 0x1000000) :
    exec (.imgChunk v image table) s =
      .next ((s.keepImage (s.host.image ++ memRds s.host.window 0 (v.field 0 20))).set IMG.STAT.TOTAL
        (s.host.image.length + v.field 0 20)) := by
  have hlen : (s.host.image ++ memRds s.host.window 0 (v.field 0 20)).length = s.host.image.length + v.field 0 20 := by
    simp [memRds]
  change execImgChunk v image table s = _
  simp only [execImgChunk, State.keepImage, hm, hl, hw, hlast, hlen, Bool.and_self, Bool.not_true, Bool.false_or, Bool.not_false,
    Bool.or_eq_true, decide_eq_true_eq, if_true, if_neg (Nat.not_lt.mpr hfit)]
  rw [if_neg (by omega)]

/-- TOTAL has 24 bits: an image of exactly 2^24 bytes, the longest that is accepted, shows as 0. -/
theorem State.total_full (s : State) : (s.set IMG.STAT.TOTAL 0x1000000).get IMG.STAT.TOTAL = 0 :=
  State.get_set_same s IMG.STAT.TOTAL 0x1000000 (by decide)

/-- The boot ROM awaits a chunk, with all but one byte of 16 MiB taken. -/
def awaitingLastByte : State :=
  { quill := { phase := .up }, regs := [(IMG.STAT.reg, 0x80000000)],
    host := { perst := false, linkUp := true, awaitImage := true, image := List.replicate 0xFFFFFF 0 } }

/-- An image without key, signature or digests; a chunk that does not end the image never looks at it. -/
def unsignedImage : Image := { key := false, signature := false, digests := false, version := 0, svn := 0, measure := [] }

theorem length_awaitingLastByte : awaitingLastByte.host.image.length + (1 : Word).field 0 20 = 0x1000000 := by
  have htaken : awaitingLastByte.host.image.length = 0xFFFFFF := List.length_replicate ..
  rw [htaken]
  rfl

/-- The last byte of 16 MiB is taken, and TOTAL wraps to 0. -/
theorem imgChunk_awaitingLastByte :
    ∃ t, exec (.imgChunk 1 unsignedImage []) awaitingLastByte = .next t ∧ t.get IMG.STAT.TOTAL = 0 := by
  refine ⟨_, exec_imgChunk_open 1 unsignedImage [] awaitingLastByte rfl rfl (by decide) (by decide) (by decide) (by decide)
    (Nat.le_of_eq length_awaitingLastByte), ?_⟩
  rw [length_awaitingLastByte]
  exact State.total_full _

/-- Refutes O11: R860 discards an image that has passed 16 MiB, so one of exactly 2^24 bytes is taken; the 24 bits of TOTAL then read
0, where the statement has 2^24. -/
theorem not_powerUp : ¬ Obligations.PowerUp := by
  intro h
  obtain ⟨-, -, -, -, -, -, -, -, -, -, -, -, -, -, hchunk⟩ := h
  obtain ⟨t, hexec, -, htotal, -⟩ := hchunk 1 unsignedImage [] awaitingLastByte rfl rfl (by decide) (by decide) (by decide)
    (by decide) (Nat.le_of_eq length_awaitingLastByte)
  obtain ⟨u, hexec', hzero⟩ := imgChunk_awaitingLastByte
  obtain rfl : t = u := Host.Outcome.next.inj (hexec.symm.trans hexec')
  rw [hzero, length_awaitingLastByte] at htotal
  exact absurd htotal (by decide)

end Sys2Proof.Machine
end

section
/-! SUPPORT. What the supplies' shared operations do: balls and DACs that follow the supervisor (R109), entries of the event record
(R1014), power-downs that are ordered (R107, R991, R995, R997) and lowered groups (R105). -/

namespace Sys2Proof.Machine
open Reg

variable {s₀ s : State}

/-! ### Balls and level DACs take their states (R562, R595) -/

/-- Only registers and the working values of DACs differ. -/
def State.PinsOnly (s t : State) : Prop := ∃ regs dacs, t = { s with regs := regs, dacs := dacs }

namespace State.PinsOnly

theorem refl (s : State) : s.PinsOnly s := ⟨_, _, rfl⟩

theorem quill (h : s₀.PinsOnly s) : s.quill = s₀.quill := by
  obtain ⟨_, _, rfl⟩ := h
  rfl

theorem memory (h : s₀.PinsOnly s) : SameMemory s₀ s := by
  obtain ⟨_, _, rfl⟩ := h
  exact .refl s₀

theorem set (h : s₀.PinsOnly s) (f : Fld) (v : Nat) : s₀.PinsOnly (s.set f v) := by
  obtain ⟨_, _, rfl⟩ := h
  exact ⟨_, _, rfl⟩

theorem setB (h : s₀.PinsOnly s) (f : Fld) (b : Bool) : s₀.PinsOnly (s.setB f b) := h.set f _

theorem setDac (h : s₀.PinsOnly s) (g l k : Nat) (d : Dac) : s₀.PinsOnly (s.setDac g l k d) := by
  obtain ⟨_, _, rfl⟩ := h
  exact ⟨_, _, rfl⟩

theorem onDac (h : s₀.PinsOnly s) (g l k : Nat) (f : Dac → Dac) : s₀.PinsOnly (s.onDac g l k f) := h.setDac g l k _

theorem ite {c : Prop} [Decidable c] {t u : State} (h : s₀.PinsOnly t) (k : s₀.PinsOnly u) : s₀.PinsOnly (if c then t else u) := by
  split
  · exact h
  · exact k

theorem each {α : Type} (h : s₀.PinsOnly s) (l : List α) (f : State → α → State)
    (hf : ∀ u a, s₀.PinsOnly u → s₀.PinsOnly (f u a)) : s₀.PinsOnly (s.each l f) := State.each_keeps _ _ _ _ hf h

theorem refreshBall (h : s₀.PinsOnly s) (g l : Nat) : s₀.PinsOnly (s.refreshBall g l) := by
  unfold State.refreshBall
  exact .ite h ((h.set _ _).setB _ _)

theorem refreshBalls (h : s₀.PinsOnly s) (k : Nat) : s₀.PinsOnly (s.refreshBalls k) :=
  h.each _ _ fun _ g hu => hu.each _ _ fun _ l hv => hv.refreshBall g l

theorem dacUpdate (h : s₀.PinsOnly s) (g l k code : Nat) : s₀.PinsOnly (s.dacUpdate g l k code) := by
  unfold State.dacUpdate
  exact .ite h ((h.setDac _ _ _ _).setB _ _)

theorem setBase (h : s₀.PinsOnly s) (g l k code : Nat) : s₀.PinsOnly (s.setBase g l k code) := by
  have hcode := h.set (DAC.LVL.ACT.CODE g l k) code
  unfold State.setBase State.dacFollow
  exact (PinsOnly.ite (hcode.set _ _) hcode).dacUpdate _ _ _ _

theorem refreshDac (h : s₀.PinsOnly s) (g l k : Nat) : s₀.PinsOnly (s.refreshDac g l k) := by
  have hout := h.set (DAC.LVL.ACT.OUT g l k) (s.dacState g l k)
  unfold State.refreshDac
  exact .ite h (.ite (((hout.set _ _).set _ _).onDac _ _ _ _)
    (.ite (.ite (((hout.set _ _).set _ _).onDac _ _ _ _) hout)
      (.ite (((hout.set _ _).set _ _).onDac _ _ _ _) (hout.setBase _ _ _ _))))

theorem refreshDacs (h : s₀.PinsOnly s) (k : Nat) : s₀.PinsOnly (s.refreshDacs k) :=
  h.each _ _ fun _ g hu => hu.each _ _ fun _ l hv => hv.each _ _ fun _ j hw => hw.refreshDac g l j

end State.PinsOnly

theorem State.pinsFollow_pinsOnly (s : State) : s.PinsOnly s.pinsFollow :=
  (State.PinsOnly.refl s).each _ _ fun _ k hu => (hu.refreshBalls k).refreshDacs k

/-! ### The event record (R1014 to R1016) -/

/-- Only registers, the counts of unread entries and, but for its window, the host port differ. -/
def State.RecordOnly (s t : State) : Prop := ∃ regs host seq hostUnread smbUnread alertQuiet, host.window = s.host.window ∧
  t = { s with
    regs := regs, host := host
    quill := { s.quill with seq := seq, hostUnread := hostUnread, smbUnread := smbUnread, alertQuiet := alertQuiet } }

namespace State.RecordOnly

theorem refl (s : State) : s.RecordOnly s := ⟨_, _, _, _, _, _, rfl, rfl⟩

theorem en (h : s₀.RecordOnly s) : s.quill.en = s₀.quill.en := by
  obtain ⟨_, _, _, _, _, _, -, rfl⟩ := h
  rfl

theorem leaves (h : s₀.RecordOnly s) : s₀.Leaves anyReg s := by
  obtain ⟨_, _, _, _, _, _, hwindow, rfl⟩ := h
  exact ⟨rfl, ⟨rfl, rfl, hwindow, rfl, rfl⟩, fun _ ha => absurd trivial ha⟩

theorem set (h : s₀.RecordOnly s) (f : Fld) (v : Nat) : s₀.RecordOnly (s.set f v) := by
  obtain ⟨_, _, _, _, _, _, hwindow, rfl⟩ := h
  exact ⟨_, _, _, _, _, _, hwindow, rfl⟩

theorem counted (h : s₀.RecordOnly s) (seq hostUnread : Nat) (smbUnread : List SmbEntry) (alertQuiet : Bool) :
    s₀.RecordOnly { s with quill := { s.quill with
      seq := seq, hostUnread := hostUnread, smbUnread := smbUnread, alertQuiet := alertQuiet } } := by
  obtain ⟨_, _, _, _, _, _, hwindow, rfl⟩ := h
  exact ⟨_, _, _, _, _, _, hwindow, rfl⟩

theorem ite {c : Prop} [Decidable c] {t u : State} (h : s₀.RecordOnly t) (k : s₀.RecordOnly u) :
    s₀.RecordOnly (if c then t else u) := by
  split
  · exact h
  · exact k

theorem host (h : s₀.RecordOnly s) (p : HostPort) (hp : p.window = s.host.window) : s₀.RecordOnly { s with host := p } := by
  obtain ⟨_, _, _, _, _, _, hwindow, rfl⟩ := h
  exact ⟨_, _, _, _, _, _, hp.trans hwindow, rfl⟩

theorem setSignal (h : s₀.RecordOnly s) (f : Fld) (v : Nat) : s₀.RecordOnly (s.setSignal f v) := by
  have hset := h.set f 1
  unfold State.setSignal State.signal
  exact .ite h (.ite (hset.host _ rfl) (.ite (hset.host _ rfl) (hset.host _ rfl)))

end State.RecordOnly

/-- An entry of the event record changes nothing else. -/
theorem State.event_recordOnly (kind group data0 data1 : Nat) (b : Bool) : s.RecordOnly (s.event kind group data0 data1 b) := by
  unfold State.event
  extract_lets i next v hostLost smbLost entry ptr overflow lost unread alerts quill counted
  have hentry : s.RecordOnly entry := State.each_keeps _ _ _ _ (fun _ _ hu => hu.set _ _) (.refl s)
  have hptr : s.RecordOnly ptr := hentry.set _ _
  have hoverflow : s.RecordOnly overflow := .ite (hptr.set _ _) hptr
  have hlost : s.RecordOnly lost := .ite (hoverflow.set _ _) hoverflow
  have hcounted : s.RecordOnly counted := hlost.counted _ _ _ _
  exact .ite (hcounted.setSignal _ _) hcounted

/-! ### Power states and ordered power-downs (R105, R107, R1021) -/

theorem State.pstate_set (v : Nat) : (s.set QL.STAT.PSTATE v).pstate = v % 8 := State.get_set_same s _ v (by decide)

/-- Quill begins to lower the rails, and records why. -/
theorem State.orderDown_orders (s : State) (c : DownCause) (safe : Bool) :
    (s.orderDown c safe).quill.phase = .safeWait ∧ (s.orderDown c safe).quill.down = some c ∧ (s.orderDown c safe).pstate = psDown :=
  ⟨rfl, rfl, State.pstate_set _⟩

/-- A power-down that asks for no SAFE writes PSTATE and the wake timer alone. -/
theorem State.wakeInhibit_orderDown (s : State) (c : DownCause) :
    (s.orderDown c false).flag QL.STAT.WAKE_INHIBIT = s.flag QL.STAT.WAKE_INHIBIT := by
  have hdisarm : s.disarm.get QL.STAT.WAKE_INHIBIT = s.get QL.STAT.WAKE_INHIBIT :=
    State.get_set_reg _ QL.WAKE.ARMED _ _ (by decide)
  have hpstate (u : State) : (u.set QL.STAT.PSTATE psDown).get QL.STAT.WAKE_INHIBIT = u.get QL.STAT.WAKE_INHIBIT :=
    State.get_set_beside _ QL.STAT.PSTATE _ _ (by decide) (by decide)
  have hordered : (s.orderDown c false).get QL.STAT.WAKE_INHIBIT = (if c = .rest then s else s.disarm).get QL.STAT.WAKE_INHIBIT :=
    hpstate _
  rw [State.flag, hordered, State.flag]
  split
  · rfl
  · rw [hdisarm]

/-- A group above the core's lowers with its enable alone. -/
theorem State.lowerGroup_upper {n : Nat} (h : 2 ≤ n) :
    s.lowerGroup n = { s with quill := { s.quill with en := s.quill.en &&& (255 - 2 ^ n) } } := by
  rw [State.lowerGroup, if_neg (by omega), if_neg (by omega)]

/-! ### Regulators (R112) -/

/-- A source that is not of class F3 puts no sector in SAFE as it is raised. -/
theorem State.raise_of_not_f3 {n : Nat} (h : srcClass n ≠ .f3) : s.raise n = s.notice n := by
  simp [State.raise, State.deviceSafe, h]

/-- Raising a source that is not of class F3 leaves every register outside Errata. -/
theorem State.flag_raise {n : Nat} (h : srcClass n ≠ .f3) (hn : n < 384) (f : Fld) (hf : inErrata f.reg = false) :
    (s.raise n).flag f = s.flag f := by
  have hsource : ∀ a ∈ sourceRegs n, inErrata a = true := by
    intro a ha
    simp only [sourceRegs, List.mem_cons, List.not_mem_nil, or_false] at ha
    simp only [inErrata, decide_eq_true_eq]
    rcases ha with rfl | rfl | rfl | rfl | rfl <;>
      simp only [ERR.SRC.reg, ERR.SUM.reg, ERR.PEND.reg, ERR.STAT.reg, ERR.IRQ.reg] <;> omega
  have hleaves := (State.Leaves.refl (W := (inErrata · = true)) s).notice n hsource
  rw [State.raise_of_not_f3 h, State.flag, State.get, hleaves.regs f.reg (by simp [hf])]
  rfl

/-- A bit of a regulator's status is still set after the raise of a source that is not of class F3. -/
theorem State.flag_sregStat_raise (k : Sector) {n : Nat} (h : srcClass n ≠ .f3) (hn : n < 384) (f : Fld) (hf : f.reg = SREG.STAT.reg k)
    (hfit : f.lo + f.n ≤ 32) (hone : f.n = 1) : ((s.set f 1).raise n).flag f = true := by
  have hapart : ∀ j : Sector, inErrata (SREG.STAT.reg j) = false := by decide
  rw [State.flag_raise h hn f (hf ▸ hapart k)]
  exact State.flag_set_one s f hfit hone

theorem srcSregUv_spec : ∀ k : Sector, srcClass (srcSregUv k) ≠ .f3 ∧ srcSregUv k < 384 := by decide
theorem srcSregOc_spec : ∀ k : Sector, srcClass (srcSregOc k) ≠ .f3 ∧ srcSregOc k < 384 := by decide

end Sys2Proof.Machine
end

section
/-! PROOFS. The statement on power-downs, power cycles and supply faults (R105, R107, R109, R112, R968, R985, R991, R997). -/

namespace Sys2Proof.Machine
open Reg

variable {s : State}

/-! ### What orders a power-down (R107, R991, R997) -/

theorem exec_pgLoss_up (lost : BitVec 8) (us : Nat) (counts : Bool) (hphase : s.quill.phase = .up)
    (hlost : lost.toNat &&& s.quill.en ≠ 0) (hus : 20 ≤ us) (hcounts : 50 < us ∨ counts = true) :
    ∃ u : State, exec (.pgLoss lost us counts) s = .next (u.orderDown .pgLoss true) := by
  have hcounted : (us ≤ 50 && !counts) = false := by
    rcases hcounts with hlong | rfl
    · rw [decide_eq_false (Nat.not_le.mpr hlong), Bool.false_and]
    · rw [Bool.not_true, Bool.and_false]
  change ∃ u : State, execPgLoss lost us counts s = _
  simp only [execPgLoss, hlost, hcounted, decide_false, Nat.not_lt.mpr hus, Bool.or_self, Bool.false_eq_true, if_false, hphase]
  exact ⟨_, rfl⟩

theorem exec_powerCycleRequest (h : s.mainOn = true) : exec (.powerCycleRequest 0x5A) s = .next (s.orderDown .cycle true) := by
  change execPowerCycleRequest 0x5A s = _
  simp only [execPowerCycleRequest, h, decide_true, Bool.and_self, if_true, State.pcycle, State.phase_of_mainOn h]

theorem exec_overtempTrip_main (i : BitVec 8) (hphase : s.quill.phase = .up) (hcore : s.coreUp = true) :
    ∃ u : State, exec (.overtempTrip (some i)) s = .next ((u.set QL.STAT.WAKE_INHIBIT 1).orderDown .overtemp false) := by
  have hon : s.quillOn = true := by simp [State.quillOn, hphase]
  have hdown : s.downOrDormant = false := by rw [State.downOrDormant, hphase]
  change ∃ u : State, execOvertempTrip (some i) s = _
  simp only [execOvertempTrip, hon, hcore, hdown, Bool.not_true, Bool.not_false, Bool.and_self, Bool.false_eq_true, if_false, if_true]
  exact ⟨_, rfl⟩

/-! ### Lowering the rails, and raising them anew (R105, R968, R997) -/

/-- The entry of the start is written, and the highest raised group lowered. -/
theorem exec_powerDownStart {c : DownCause} (hphase : s.quill.phase = .safeWait) (hdown : s.quill.down = some c)
    (hen : s.quill.en ≠ 0) :
    ∃ u : State, s.RecordOnly u ∧ exec .powerDownStart s =
      .next (State.lowerGroup { u with quill := { u.quill with phase := .lowering (Nat.log2 s.quill.en) } } (Nat.log2 s.quill.en)) := by
  change ∃ u : State, _ ∧ execPowerDownStart s = _
  simp only [execPowerDownStart, hphase, hdown]
  generalize hu : State.event _ _ _ _ _ _ = u
  have hentry : s.RecordOnly u := hu ▸ State.event_recordOnly ..
  exact ⟨u, hentry, by rw [hentry.en, if_neg hen]⟩

theorem exec_powerDownStep_upper {n : Nat} (hphase : s.quill.phase = .lowering (n + 1)) (hn : 2 ≤ n) :
    exec .powerDownStep s = .next { s with quill := { s.quill with phase := .lowering n, en := s.quill.en &&& (255 - 2 ^ n) } } := by
  change execPowerDownStep s = _
  simp only [execPowerDownStep, hphase, State.lowerGroup_upper hn]

/-- The wake entry of a power cycle is written, and start-up begins anew. -/
theorem exec_powerCycleRestart (hphase : s.quill.phase = .cycleWait) :
    ∃ u : State, s.RecordOnly u ∧ exec .powerCycleRestart s =
      .next (State.set (State.raiseGroup (State.powerCycled
        { u with quill := { u.quill with down := none, step := 2, heldWake := none } }) 0) QL.STAT.PSTATE psUp) := by
  change ∃ u : State, _ ∧ execPowerCycleRestart s = _
  simp only [execPowerCycleRestart, if_pos hphase]
  exact ⟨_, State.event_recordOnly .., rfl⟩

/-! ### Regulators (R112) -/

theorem exec_sregUv (k : Sector) (h : s.sregWatched k = true) :
    exec (.sregUv k) s = .next ((s.set (SREG.STAT.UV k) 1).raise (srcSregUv k)) := by
  change execSregUv k s = _
  rw [execSregUv, if_pos h]

theorem exec_sregOc (k : Sector) (h : s.sregWatched k = true) :
    exec (.sregOc k) s = .next ((s.set (SREG.STAT.OC k) 1).raise (srcSregOc k)) := by
  change execSregOc k s = _
  rw [execSregOc, if_pos h]

/-- Settles O12: what orders a power-down ends in one order, the rails go down and up by their enables, and the supervisors and
regulators show. -/
theorem powerDown : Obligations.PowerDown := by
  refine ⟨?_, ?_, ?_, ?_, ?_, ?_, ?_, ?_, ?_, ?_, ?_⟩
  · intro lost us counts s hphase hlost hus hcounts
    obtain ⟨u, hexec⟩ := exec_pgLoss_up lost us counts hphase hlost hus hcounts
    exact ⟨_, hexec, u.orderDown_orders .pgLoss true⟩
  · intro c s hphase hdown hen
    obtain ⟨u, hentry, hexec⟩ := exec_powerDownStart hphase hdown (by omega)
    have hn : 2 ≤ Nat.log2 s.quill.en := (Nat.le_log2 (by omega)).mpr hen
    refine ⟨_, hexec, ?_⟩
    rw [State.lowerGroup_upper hn, ← hentry.en]
    exact ⟨rfl, rfl, hentry.leaves.memory⟩
  · intro n s hphase hn
    exact ⟨_, exec_powerDownStep_upper hphase hn, rfl, rfl, rfl⟩
  · rintro _ s hmain rfl
    exact ⟨_, exec_powerCycleRequest hmain, s.orderDown_orders .cycle true⟩
  · intro s hphase
    obtain ⟨u, hentry, hexec⟩ := exec_powerCycleRestart hphase
    refine ⟨_, hexec, rfl, ?_, rfl, State.pstate_set _, hentry.leaves.memory⟩
    rw [← hentry.en]
    rfl
  · exact fun s => ⟨_, rfl, rfl, rfl, rfl, rfl, rfl, rfl⟩
  · intro s
    have hpins := State.pinsFollow_pinsOnly { s with quill := { s.quill with supervisor := true } }
    exact ⟨_, rfl, by rw [hpins.quill], hpins.memory⟩
  · intro s
    have hpins := State.pinsFollow_pinsOnly { s with quill := { s.quill with supervisor := false } }
    exact ⟨_, rfl, by rw [hpins.quill], hpins.memory⟩
  · intro k s h
    obtain ⟨hclass, hlt⟩ := srcSregUv_spec k
    exact ⟨_, exec_sregUv k h, State.flag_sregStat_raise k hclass hlt _ rfl (by simp [SREG.STAT.UV]) rfl⟩
  · intro k s h
    obtain ⟨hclass, hlt⟩ := srcSregOc_spec k
    exact ⟨_, exec_sregOc k h, State.flag_sregStat_raise k hclass hlt _ rfl (by simp [SREG.STAT.OC]) rfl⟩
  · intro i s hphase hcore
    obtain ⟨u, hexec⟩ := exec_overtempTrip_main i hphase hcore
    obtain ⟨hwait, hcause, hstate⟩ := (u.set QL.STAT.WAKE_INHIBIT 1).orderDown_orders .overtemp false
    refine ⟨_, hexec, hwait, hcause, ?_, hstate⟩
    rw [State.wakeInhibit_orderDown]
    exact State.flag_set_one u _ (by decide) rfl

end Sys2Proof.Machine
end

section
/-! SUPPORT. The baseline PLL (R120 to R159): what the shared operations of its transitions do to registers and to its hidden
state. -/

namespace Sys2Proof.Machine
open Reg

variable {s : State}

/-! ### Registers -/

/-- A field of a register outside the set reads as before. -/
theorem State.Leaves.get {W : Nat → Prop} {t : State} (h : s.Leaves W t) (f : Fld) (hf : ¬ W f.reg) : t.get f = s.get f := by
  rw [State.get, h.regs f.reg hf, State.get]

theorem State.Leaves.trans {W : Nat → Prop} {t u : State} (h : s.Leaves W t) (k : t.Leaves W u) : s.Leaves W u := by
  obtain ⟨htick, ⟨h1, h2, h3, h4, h5⟩, hregs⟩ := h
  obtain ⟨ktick, ⟨k1, k2, k3, k4, k5⟩, kregs⟩ := k
  exact ⟨ktick.trans htick, ⟨k1.trans h1, k2.trans h2, k3.trans h3, k4.trans h4, k5.trans h5⟩,
    fun a ha => (kregs a ha).trans (hregs a ha)⟩

/-- What one turn of a repetition establishes and every other turn keeps holds after it. -/
theorem State.each_reaches {α : Type} (P : State → Prop) {l : List α} {a : α} (ha : a ∈ l) (f : State → α → State)
    (hreach : ∀ u, P (f u a)) (hkeep : ∀ u b, P u → P (f u b)) (s : State) : P (s.each l f) := by
  obtain ⟨before, after, rfl⟩ := List.append_of_mem ha
  rw [State.each, List.foldl_append, List.foldl_cons]
  exact State.each_keeps P after f _ hkeep (hreach _)

theorem State.get64_set64_same (s : State) {lo hi v : Nat} (hne : lo ≠ hi) (hv : v < 2 ^ 64) :
    (s.set64 lo hi v).get64 lo hi = v := by
  rw [State.get64, State.set64, State.rd_wr_ne _ _ _ _ hne, State.rd_wr_same, State.rd_wr_same, BitVec.toNat_ofNat,
    BitVec.toNat_ofNat]
  omega

/-! ### Raising a source of class F0 to F2 (R957) -/

theorem sourceRegs_inErrata {n : Nat} (hn : n < 384) : ∀ a ∈ sourceRegs n, inErrata a = true := by
  intro a ha
  simp only [sourceRegs, List.mem_cons, List.not_mem_nil, or_false] at ha
  simp only [inErrata, decide_eq_true_eq]
  rcases ha with rfl | rfl | rfl | rfl | rfl <;>
    simp only [ERR.SRC.reg, ERR.SUM.reg, ERR.PEND.reg, ERR.STAT.reg, ERR.IRQ.reg] <;> omega

theorem State.raise_leaves (s : State) {n : Nat} (hclass : srcClass n ≠ .f3) (hn : n < 384) :
    s.Leaves (inErrata · = true) (s.raise n) := by
  rw [State.raise_of_not_f3 hclass]
  exact (State.Leaves.refl s).notice n (sourceRegs_inErrata hn)

theorem State.get_raise (s : State) {n : Nat} (hclass : srcClass n ≠ .f3) (hn : n < 384) (f : Fld) (hf : inErrata f.reg = false) :
    (s.raise n).get f = s.get f := (s.raise_leaves hclass hn).get f (by simp [hf])

/-- The hidden state of the clocking block is as it was. -/
structure State.SameClock (s t : State) : Prop where
  clk : t.clk = s.clk

namespace State.SameClock

variable {s₀ : State}

theorem refl (s : State) : s.SameClock s := ⟨rfl⟩

theorem host (h : s₀.SameClock s) (p : HostPort) : s₀.SameClock { s with host := p } := ⟨h.clk⟩
theorem quill (h : s₀.SameClock s) (q : Quill) : s₀.SameClock { s with quill := q } := ⟨h.clk⟩
theorem err (h : s₀.SameClock s) (e : Errata) : s₀.SameClock { s with err := e } := ⟨h.clk⟩
theorem set (h : s₀.SameClock s) (f : Fld) (v : Nat) : s₀.SameClock (s.set f v) := ⟨h.clk⟩
theorem setB (h : s₀.SameClock s) (f : Fld) (b : Bool) : s₀.SameClock (s.setB f b) := ⟨h.clk⟩
theorem bump (h : s₀.SameClock s) (f : Fld) (n : Nat) : s₀.SameClock (s.bump f n) := ⟨h.clk⟩
theorem set64 (h : s₀.SameClock s) (lo hi v : Nat) : s₀.SameClock (s.set64 lo hi v) := ⟨h.clk⟩

theorem ite {c : Prop} [Decidable c] {t u : State} (h : s₀.SameClock t) (k : s₀.SameClock u) : s₀.SameClock (if c then t else u) := by
  split
  · exact h
  · exact k

theorem when (h : s₀.SameClock s) (c : Bool) (f : State → State) (hf : ∀ u, s₀.SameClock u → s₀.SameClock (f u)) :
    s₀.SameClock (s.when c f) := State.when_keeps _ _ _ _ hf h

theorem each {α : Type} (h : s₀.SameClock s) (l : List α) (f : State → α → State)
    (hf : ∀ u a, s₀.SameClock u → s₀.SameClock (f u a)) : s₀.SameClock (s.each l f) := State.each_keeps _ _ _ _ hf h

theorem setSignal (h : s₀.SameClock s) (f : Fld) (v : Nat) : s₀.SameClock (s.setSignal f v) := by
  unfold State.setSignal State.signal
  exact .ite h (.ite ((h.set f 1).host _) (.ite ((h.set f 1).host _) ((h.set f 1).host _)))

theorem setStat (h : s₀.SameClock s) (n : Nat) (b : Bool) : s₀.SameClock (s.setStat n b) := by
  have h1 := (h.setB (ERR.SRC.STAT n) b).setB ⟨ERR.SUM.reg (n / 32), n % 32, 1⟩ b
  unfold State.setStat
  exact .ite (h1.quill _) h1

theorem setReaction (h : s₀.SameClock s) (n : Nat) (p e : Bool) : s₀.SameClock (s.setReaction n p e) :=
  ((h.setB _ p).setB _ e).setB _ _

theorem record (h : s₀.SameClock s) (n : Nat) (forced : Bool) : s₀.SameClock (s.record n forced) := by
  have hlo (u : State) (k : s₀.SameClock u) : s₀.SameClock u.irqLo := k.setSignal ..
  have hhi (u : State) (k : s₀.SameClock u) : s₀.SameClock u.irqHi := k.setSignal ..
  have hstat := ((h.setStat n true).bump (ERR.SRC.COUNT n) 1).setB (ERR.SRC.FORCED n) forced
  have hplain := hstat.set (ERR.SRC.CONSEQ n) 0
  have hfirst (c : Prop) [Decidable c] :=
    SameClock.ite (c := c) hplain ((hplain.set ERR.STAT.FIRST n).set ERR.STAT.FIRST_VALID 1)
  unfold State.record
  dsimp only
  split
  · exact ((hstat.set _ 1).set _ _).when _ _ hlo
  · split
    · exact (hfirst _).when _ _ hlo
    · exact (hfirst _).when _ _ hlo
    · exact .ite ((hfirst _).when _ _ hhi) ((((hfirst _).when _ _ hhi).err _).setReaction n true false)
    · exact ((hhi _ (hfirst _)).set ERR.STAT.F3 1).quill _

end State.SameClock

theorem State.clk_raise (s : State) {n : Nat} (hclass : srcClass n ≠ .f3) : (s.raise n).clk = s.clk := by
  have hnotice : s.SameClock (s.notice n) := .ite ((State.SameClock.refl s).record n false) (.refl s)
  rw [State.raise_of_not_f3 hclass, hnotice.clk]

/-! ### Band entries (R126, R127, R131) -/

theorem State.bandTries_lt {fkHz k : Nat} (h : k ∈ s.bandTries fkHz) : k < 16 := by
  unfold State.bandTries at h
  split at h
  · obtain ⟨hrange, -⟩ := List.mem_filter.mp h
    exact List.mem_range.mp hrange
  · dsimp only at h
    split at h
    · rw [List.mem_singleton.mp h]
      exact s.get_lt CLK.PLL_CTL.BAND_SEL
    · nomatch h

/-- Which entries are tried does not hang on the frequency that is shown. -/
theorem State.bandTries_setFreq (v fkHz : Nat) : (s.set CLK.REF_MEAS.FREQ v).bandTries fkHz = s.bandTries fkHz := by
  have hget (f : Fld) (hf : f.reg ≠ CLK.REF_MEAS.reg) : (s.set CLK.REF_MEAS.FREQ v).get f = s.get f :=
    State.get_set_reg _ _ _ _ hf
  have hrange (k : Nat) : CLK.BAND.RANGE.reg k ≠ CLK.REF_MEAS.reg := by
    simp only [CLK.BAND.RANGE.reg, CLK.REF_MEAS.reg]; omega
  have hdiv (k : Nat) : CLK.BAND.DIV.reg k ≠ CLK.REF_MEAS.reg := by
    simp only [CLK.BAND.DIV.reg, CLK.REF_MEAS.reg]; omega
  have hfrac (k : Nat) : CLK.BAND.FRAC.reg k ≠ CLK.REF_MEAS.reg := by
    simp only [CLK.BAND.FRAC.reg, CLK.REF_MEAS.reg]; omega
  have husable (k : Nat) : (s.set CLK.REF_MEAS.FREQ v).bandUsable k fkHz = s.bandUsable k fkHz := by
    unfold State.bandUsable State.flag
    rw [hget (CLK.BAND.DIV.PDIV k) (hdiv k), hget (CLK.BAND.DIV.NINT k) (hdiv k), hget (CLK.BAND.DIV.VALID k) (hdiv k),
      hget (CLK.BAND.FRAC.NUM k) (hfrac k), hget (CLK.BAND.FRAC.DEN k) (hfrac k),
      hget (CLK.BAND.RANGE.REF_MIN k) (hrange k), hget (CLK.BAND.RANGE.REF_MAX k) (hrange k)]
  unfold State.bandTries State.flag
  rw [hget CLK.PLL_CTL.BAND_AUTO (by decide), hget CLK.PLL_CTL.BAND_SEL (by decide)]
  split
  · refine List.filter_congr fun k _ => ?_
    rw [husable k, hget (CLK.BAND.RANGE.REF_MIN k) (hrange k), hget (CLK.BAND.RANGE.REF_MAX k) (hrange k)]
  · dsimp only
    rw [husable]

/-! ### The registers and the hidden state of the clocking block -/

/-- Only registers and the clocking block's hidden state differ. -/
def State.BaselineOnly (s t : State) : Prop := ∃ regs clk, t = { s with regs := regs, clk := clk }

namespace State.BaselineOnly

variable {s₀ : State}

theorem refl (s : State) : s.BaselineOnly s := ⟨_, _, rfl⟩

theorem trans {t u : State} (h : s.BaselineOnly t) (k : t.BaselineOnly u) : s.BaselineOnly u := by
  obtain ⟨_, _, rfl⟩ := h
  obtain ⟨_, _, rfl⟩ := k
  exact ⟨_, _, rfl⟩

theorem frame {t : State} (h : s.BaselineOnly t) : t = { s with clk := t.clk, regs := t.regs } := by
  obtain ⟨_, _, rfl⟩ := h
  rfl

theorem frame_regs {t : State} (h : s.BaselineOnly t) (hclk : t.clk = s.clk) : t = { s with regs := t.regs } := by
  obtain ⟨_, c, rfl⟩ := h
  obtain rfl : c = s.clk := hclk
  rfl

theorem lec {t : State} (h : s.BaselineOnly t) : t.lec = s.lec := by
  obtain ⟨_, _, rfl⟩ := h
  rfl

theorem clk (h : s₀.BaselineOnly s) (c : Clock) : s₀.BaselineOnly { s with clk := c } := by
  obtain ⟨_, _, rfl⟩ := h
  exact ⟨_, _, rfl⟩

theorem wr (h : s₀.BaselineOnly s) (a : Nat) (v : Word) : s₀.BaselineOnly (s.wr a v) := by
  obtain ⟨_, _, rfl⟩ := h
  exact ⟨_, _, rfl⟩

theorem set (h : s₀.BaselineOnly s) (f : Fld) (v : Nat) : s₀.BaselineOnly (s.set f v) := h.wr _ _

theorem set64 (h : s₀.BaselineOnly s) (lo hi v : Nat) : s₀.BaselineOnly (s.set64 lo hi v) := (h.wr _ _).wr _ _

theorem each {α : Type} (h : s₀.BaselineOnly s) (l : List α) (f : State → α → State)
    (hf : ∀ u a, s₀.BaselineOnly u → s₀.BaselineOnly (f u a)) : s₀.BaselineOnly (s.each l f) := State.each_keeps _ _ _ _ hf h

/-- The Ruling chain changes with the clocking block. -/
theorem clkRul (h : s₀.BaselineOnly s) (c : Clock) (r : Ruling) :
    State.BaselineOnly { s₀ with rul := r } { s with clk := c, rul := r } := by
  obtain ⟨_, _, rfl⟩ := h
  exact ⟨_, _, rfl⟩

theorem unlockTll (h : s₀.BaselineOnly s) (k : Nat) : s₀.BaselineOnly (s.unlockTll k) := (h.clk _).set _ _

theorem adopt (h : s₀.BaselineOnly s) (k a : Nat) : s₀.BaselineOnly (s.adopt k a) :=
  ((h.clk _).set _ _).each _ _ fun _ _ hu => hu.set64 _ _ _

end State.BaselineOnly

theorem State.Leaves.clk {W : Nat → Prop} {s₀ : State} (h : s₀.Leaves W s) (c : Clock) : s₀.Leaves W { s with clk := c } := h.update

theorem State.get_clkRul (c : Clock) (r : Ruling) (f : Fld) : State.get { s with clk := c, rul := r } f = s.get f := rfl

theorem State.get_clk (c : Clock) (f : Fld) : State.get { s with clk := c } f = s.get f := rfl

/-! ### Trying an entry (R127, R128) -/

/-- An entry is tried from the middle of the band, and the rest are left (R127, R159). -/
structure EntryTried (k : Nat) (rest : List Nat) (s t : State) : Prop where
  entry : t.get CLK.PLL_STAT.BAND_CUR = k
  untried : t.clk.untried = rest
  word : t.get CLK.OCW.WORD = 0x8000
  leaves : s.Leaves (· ∈ [CLK.PLL_STAT.reg, CLK.OCW.reg]) t
  only : s.BaselineOnly t

theorem State.tryEntries_cons {k : Nat} (rest : List Nat) (failFlag : Fld) (hk : k < 16) :
    EntryTried k rest s (s.tryEntries (k :: rest) failFlag) where
  entry := by
    rw [State.tryEntries, State.get_set_reg _ _ _ _ (by decide), State.get_set_reg _ _ _ _ (by decide),
      State.get_set_same _ _ _ (by decide)]
    exact Nat.mod_eq_of_lt hk
  untried := by rw [State.tryEntries, State.clk_set, State.clk_set, State.clk_set]
  word := State.get_set_same _ CLK.OCW.WORD _ (by decide)
  leaves := ((((State.Leaves.refl s).clk _).set CLK.PLL_STAT.BAND_CUR _ (by decide)).set CLK.OCW.DCO_BAND _ (by decide)).set
    CLK.OCW.WORD _ (by decide)
  only := ((((State.BaselineOnly.refl s).clk _).set _ _).set _ _).set _ _

/-! ### Entry to ACQUIRE (R133, R158, R159) -/

/-- The registers that an entry to ACQUIRE writes. -/
def acquireRegs : List Nat := [CLK.PLL_STAT.reg, CLK.OCW.reg] ++ (List.range 8).map TLL.STAT.reg

theorem State.enterAcquire_leaves (s : State) : s.Leaves (· ∈ acquireRegs) s.enterAcquire := by
  have hbegin := ((State.Leaves.refl (W := (· ∈ acquireRegs)) s).set CLK.PLL_STAT.STATE pllAcquire (by decide)).set
    CLK.OCW.FROZEN 0 (by decide)
  unfold State.enterAcquire State.each
  refine List.foldlRecOn _ _ hbegin.update fun u hu k hk => hu.update.set (TLL.STAT.LOCKED k) 0 ?_
  exact List.mem_append_right _ (List.mem_map_of_mem hk)

theorem State.enterAcquire_frame (s : State) :
    s.enterAcquire = { s with clk := s.enterAcquire.clk, rul := s.enterAcquire.rul, regs := s.enterAcquire.regs } := by
  have hbegin := ((State.BaselineOnly.refl s).set CLK.PLL_STAT.STATE pllAcquire).set CLK.OCW.FROZEN 0
  have hstop : ∃ r, State.BaselineOnly { s with rul := r } s.enterAcquire :=
    ⟨_, (hbegin.clkRul _ _).each (List.range 8) State.unlockTll fun _ k hu => hu.unlockTll k⟩
  obtain ⟨r, regs, clk, heq⟩ := hstop
  rw [heq]

theorem State.clk_unlockTll (s : State) (k : Nat) :
    (s.unlockTll k).clk = { s.clk with goodRun := s.clk.goodRun.erase k, badRun := s.clk.badRun.erase k } :=
  State.clk_set _ _ _

theorem State.running_enterAcquire (s : State) : s.enterAcquire.clk.running = false :=
  State.each_keeps (·.clk.running = false) _ State.unlockTll _ (fun u k hu => by rw [State.clk_unlockTll]; exact hu) rfl

theorem State.get_unlockTll_reg (k : Nat) (f : Fld) (hf : f.reg ≠ TLL.STAT.reg k) : (s.unlockTll k).get f = s.get f := by
  rw [State.unlockTll, State.get_set_reg _ (TLL.STAT.LOCKED k) _ _ hf, State.get_clk]

theorem State.pll_enterAcquire (s : State) : s.enterAcquire.pll = pllAcquire := by
  have hset (c : Clock) (r : Ruling) : State.pll { (s.set CLK.PLL_STAT.STATE pllAcquire).set CLK.OCW.FROZEN 0 with
      clk := c, rul := r } = pllAcquire := by
    rw [State.pll, State.get_clkRul, State.get_set_reg _ CLK.OCW.FROZEN _ _ (by decide),
      State.get_set_same s CLK.PLL_STAT.STATE _ (by decide)]
    rfl
  unfold State.enterAcquire
  refine State.each_keeps (·.pll = pllAcquire) _ _ _ (fun u k hu => ?_) (hset _ _)
  rw [State.pll, State.get_unlockTll_reg k _ (by simp only [CLK.PLL_STAT.STATE, CLK.PLL_STAT.reg, TLL.STAT.reg]; omega)]
  exact hu

theorem State.locked_enterAcquire (s : State) (k : Sector) : s.enterAcquire.flag (TLL.STAT.LOCKED k) = false := by
  have hunlock (u : State) (j : Nat) : (u.unlockTll j).flag (TLL.STAT.LOCKED j) = false :=
    State.flag_set_zero _ _ (by simp [TLL.STAT.LOCKED])
  unfold State.enterAcquire
  refine State.each_reaches (·.flag (TLL.STAT.LOCKED k) = false) (List.mem_range.mpr k.isLt) _ (hunlock · k) (fun u j hu => ?_) _
  by_cases hj : j = k
  · exact hj ▸ hunlock u j
  · rw [State.flag, State.get_unlockTll_reg j _ (by simp only [TLL.STAT.LOCKED, TLL.STAT.reg]; omega)]
    exact hu

/-! ### Lock (R139, R140, R155) -/

/-- The anchor that an octet's period domains count from. -/
def State.anchorOf (s : State) (g : Nat) : Nat := s.get64 (PER.ANCHOR_LO.reg g) (PER.ANCHOR_HI.reg g)

theorem State.anchorOf_set64_same (s : State) (g : Nat) {a : Nat} (ha : a < 2 ^ 64) :
    (s.set64 (PER.ANCHOR_LO.reg g) (PER.ANCHOR_HI.reg g) a).anchorOf g = a :=
  State.get64_set64_same s (by simp only [PER.ANCHOR_LO.reg, PER.ANCHOR_HI.reg]; omega) ha

theorem State.anchorOf_set64_other (s : State) {g j : Nat} (a : Nat) (hne : g ≠ j) :
    (s.set64 (PER.ANCHOR_LO.reg j) (PER.ANCHOR_HI.reg j) a).anchorOf g = s.anchorOf g := by
  have hapart : octBase g ≠ octBase j ∧ octBase g + 4 ≠ octBase j ∧ octBase g ≠ octBase j + 4 := by
    simp only [octBase, secBase]; omega
  obtain ⟨hsame, hlow, hhigh⟩ := hapart
  rw [State.anchorOf, State.get64, State.set64]
  rw [State.rd_wr_ne _ _ _ _ (by simp only [PER.ANCHOR_LO.reg, PER.ANCHOR_HI.reg]; omega),
    State.rd_wr_ne _ _ _ _ (by simp only [PER.ANCHOR_LO.reg]; omega),
    State.rd_wr_ne _ _ _ _ (by simp only [PER.ANCHOR_HI.reg]; omega),
    State.rd_wr_ne _ _ _ _ (by simp only [PER.ANCHOR_LO.reg, PER.ANCHOR_HI.reg]; omega)]
  rfl

theorem State.anchorOf_set (s : State) (k g v : Nat) : (s.set (TLL.STAT.ANCHOR_PEND k) v).anchorOf g = s.anchorOf g := by
  have hlow : PER.ANCHOR_LO.reg g ≠ (TLL.STAT.ANCHOR_PEND k).reg := by
    simp only [PER.ANCHOR_LO.reg, octBase, secBase, TLL.STAT.ANCHOR_PEND, TLL.STAT.reg]; omega
  have hhigh : PER.ANCHOR_HI.reg g ≠ (TLL.STAT.ANCHOR_PEND k).reg := by
    simp only [PER.ANCHOR_HI.reg, octBase, secBase, TLL.STAT.ANCHOR_PEND, TLL.STAT.reg]; omega
  rw [State.anchorOf, State.get64, State.rd_set_ne _ _ _ _ hlow, State.rd_set_ne _ _ _ _ hhigh]
  rfl

/-- Another octet's anchor, or this one's again. -/
theorem State.anchorOf_set64 {g a : Nat} (ha : a < 2 ^ 64) (u : State) (j : Nat) (hu : u.anchorOf g = a) :
    (u.set64 (PER.ANCHOR_LO.reg j) (PER.ANCHOR_HI.reg j) a).anchorOf g = a := by
  by_cases hj : g = j
  · rw [← hj, State.anchorOf_set64_same u g ha]
  · rw [State.anchorOf_set64_other u a hj, hu]

theorem State.anchorOf_adopt_keep {g a : Nat} (ha : a < 2 ^ 64) (u : State) (k : Nat) (hu : u.anchorOf g = a) :
    (u.adopt k a).anchorOf g = a := by
  unfold State.adopt
  refine State.each_keeps (·.anchorOf g = a) _ _ _ (State.anchorOf_set64 ha) ?_
  rw [State.anchorOf_set]
  exact hu

theorem State.anchorOf_adopt_own {g k a : Nat} (ha : a < 2 ^ 64) (hg : g ∈ octetsOf k) (u : State) :
    (u.adopt k a).anchorOf g = a := by
  unfold State.adopt
  exact State.each_reaches (·.anchorOf g = a) hg (fun u j => u.set64 (PER.ANCHOR_LO.reg j) (PER.ANCHOR_HI.reg j) a)
    (fun u => State.anchorOf_set64_same u g ha) (State.anchorOf_set64 ha) _

/-- After every sector has adopted an anchor, every octet counts from it. -/
theorem State.anchorOf_adoptAll (s : State) (g : Octet) {a : Nat} (ha : a < 2 ^ 64) :
    (s.each (List.range 8) fun s k => s.adopt k a).anchorOf g = a := by
  have hsector : g.val / 8 ∈ List.range 8 := List.mem_range.mpr (by omega)
  have hoctet : g.val ∈ octetsOf (g.val / 8) := List.mem_map.mpr ⟨g.val % 8, List.mem_range.mpr (by omega), by omega⟩
  exact State.each_reaches (·.anchorOf g = a) hsector (fun u k => u.adopt k a) (State.anchorOf_adopt_own ha hoctet)
    (State.anchorOf_adopt_keep ha) s

theorem State.Leaves.adopt {W : Nat → Prop} {s₀ : State} (h : s₀.Leaves W s) (k a : Nat) (hW : ∀ r, TLL.STAT.reg 0 ≤ r → W r) :
    s₀.Leaves W (s.adopt k a) := by
  have hpend (c : Clock) := (h.clk c).set (TLL.STAT.ANCHOR_PEND k) 0
    (hW _ (by simp only [TLL.STAT.ANCHOR_PEND, TLL.STAT.reg]; omega))
  unfold State.adopt
  exact (hpend _).each _ _ fun u g hu =>
    (hu.wr _ _ (hW _ (by simp only [PER.ANCHOR_LO.reg, octBase, secBase, TLL.STAT.reg]; omega))).wr _ _
      (hW _ (by simp only [PER.ANCHOR_HI.reg, octBase, secBase, TLL.STAT.reg]; omega))

theorem State.clk_adopt (s : State) (k a : Nat) :
    (s.adopt k a).clk = { s.clk with adopted := Tab.put (fun _ => 0) s.clk.adopted k a, anchorWait := s.clk.anchorWait.erase k } := by
  unfold State.adopt
  exact (((State.SameClock.refl _).set _ _).each _ _ fun _ _ hu => hu.set64 _ _ _).clk

theorem State.replyPllRestart_of_no_jobs (h : s.lec.jobs = []) : s.replyPllRestart = s := by
  rw [State.replyPllRestart, State.findJob, h]
  rfl

/-- The state at lock, before the sectors adopt the anchor. -/
def State.atLock (s : State) (a : Nat) : State :=
  let s := s.set64 CLK.ANCHOR_LO.reg CLK.ANCHOR_HI.reg a
  let s := (s.set CLK.PLL_STAT.LOCK_GEN (s.get CLK.PLL_STAT.LOCK_GEN + 1)).set CLK.PLL_STAT.STATE pllLocked
  let s := s.set CLK.OCW.FROZEN 0
  { s with
    clk := { s.clk with running := true, counting := true, coasting := false, qualified := false, untried := [] }
    rul := { s.rul with sending := s.get RUL.CTL.ROLE ≠ 0 } }

/-- Lock with an anchor that every sector adopts at once, as out of ACQUIRE. -/
def State.lockAt (s : State) (a : Nat) : State := (s.atLock a).each (List.range 8) fun s k => s.adopt k a

theorem State.atLock_baselineOnly (s : State) (a : Nat) : ∃ r, State.BaselineOnly { s with rul := r } (s.atLock a) :=
  ⟨_, ((((State.BaselineOnly.refl s).set64 _ _ _).set _ _).set _ _ |>.set _ _).clkRul _ _⟩

theorem State.atLock_leaves (s : State) (a : Nat) : s.Leaves anyReg (s.atLock a) :=
  (((((State.Leaves.refl s).wr _ _ trivial).wr _ _ trivial).set _ _ trivial).set _ _ trivial |>.set _ _ trivial).update

theorem State.get_set64_other (s : State) (lo hi v : Nat) (f : Fld) (hlo : f.reg ≠ lo) (hhi : f.reg ≠ hi) :
    (s.set64 lo hi v).get f = s.get f := by
  rw [State.get, State.set64, State.rd_wr_ne _ _ _ _ hhi, State.rd_wr_ne _ _ _ _ hlo, State.get]

theorem State.pll_atLock (s : State) (a : Nat) : (s.atLock a).pll = pllLocked := by
  unfold State.atLock
  rw [State.pll, State.get_clkRul, State.get_set_reg _ _ _ _ (by decide), State.get_set_same _ _ _ (by decide)]
  rfl

theorem State.lockGen_atLock (s : State) (a : Nat) :
    (s.atLock a).get CLK.PLL_STAT.LOCK_GEN = (s.get CLK.PLL_STAT.LOCK_GEN + 1) % 2 ^ 8 := by
  unfold State.atLock
  rw [State.get_clkRul, State.get_set_reg _ _ _ _ (by decide), State.get_set_beside _ _ _ _ (by decide) (by decide),
    State.get_set_same _ _ _ (by decide), State.get_set64_other _ _ _ _ _ (by decide) (by decide)]
  rfl

theorem State.anchor_atLock (s : State) {a : Nat} (ha : a < 2 ^ 64) :
    (s.atLock a).get64 CLK.ANCHOR_LO.reg CLK.ANCHOR_HI.reg = a := by
  have hkept (u : State) (f : Fld) (v : Nat) (hlo : CLK.ANCHOR_LO.reg ≠ f.reg) (hhi : CLK.ANCHOR_HI.reg ≠ f.reg) :
      (u.set f v).get64 CLK.ANCHOR_LO.reg CLK.ANCHOR_HI.reg = u.get64 CLK.ANCHOR_LO.reg CLK.ANCHOR_HI.reg := by
    rw [State.get64, State.rd_set_ne _ _ _ _ hlo, State.rd_set_ne _ _ _ _ hhi, State.get64]
  have hclk (u : State) (c : Clock) (r : Ruling) (lo hi : Nat) :
      State.get64 { u with clk := c, rul := r } lo hi = u.get64 lo hi := rfl
  unfold State.atLock
  rw [hclk, hkept _ _ _ (by decide) (by decide), hkept _ _ _ (by decide) (by decide), hkept _ _ _ (by decide) (by decide)]
  exact State.get64_set64_same s (by decide) ha

theorem State.lockAt_leaves (s : State) (a : Nat) : (s.atLock a).Leaves (TLL.STAT.reg 0 ≤ ·) (s.lockAt a) :=
  (State.Leaves.refl _).each _ _ fun _ k hu => hu.adopt k a fun _ h => h

theorem State.sameMemory_lockAt (s : State) (a : Nat) : SameMemory s (s.lockAt a) :=
  ((s.atLock_leaves a).each _ _ fun _ k hu => hu.adopt k a fun _ _ => trivial).memory

theorem State.lec_lockAt (s : State) (a : Nat) : (s.lockAt a).lec = s.lec := by
  obtain ⟨r, hr⟩ := s.atLock_baselineOnly a
  exact (hr.each _ _ fun _ k hu => hu.adopt k a).lec

theorem State.runs_lockAt (s : State) (a : Nat) : (s.lockAt a).clk.running = true ∧ (s.lockAt a).clk.counting = true :=
  State.each_keeps (fun u => u.clk.running = true ∧ u.clk.counting = true) _ (fun s k => s.adopt k a) _
    (fun u k hu => by rw [State.clk_adopt]; exact hu) ⟨rfl, rfl⟩

/-- What a lock out of ACQUIRE leaves: the baseline runs, and every octet counts from the new anchor (R139, R140, R155). -/
structure LockedAt (a : Nat) (s t : State) : Prop where
  pll : t.pll = pllLocked
  running : t.clk.running = true
  counting : t.clk.counting = true
  lockGen : t.get CLK.PLL_STAT.LOCK_GEN = (s.get CLK.PLL_STAT.LOCK_GEN + 1) % 2 ^ 8
  anchor : t.get64 CLK.ANCHOR_LO.reg CLK.ANCHOR_HI.reg = a
  octets : ∀ g : Octet, t.get64 (PER.ANCHOR_LO.reg g) (PER.ANCHOR_HI.reg g) = a
  memory : SameMemory s t

theorem State.lockAt_locked (s : State) {a : Nat} (ha : a < 2 ^ 64) : LockedAt a s (s.lockAt a) := by
  have hleaves := s.lockAt_leaves a
  obtain ⟨hrunning, hcounting⟩ := s.runs_lockAt a
  refine ⟨?_, hrunning, hcounting, ?_, ?_, fun g => State.anchorOf_adoptAll _ g ha, s.sameMemory_lockAt a⟩
  · rw [State.pll, hleaves.get _ (by decide)]
    exact State.pll_atLock s a
  · rw [hleaves.get _ (by decide)]
    exact State.lockGen_atLock s a
  · rw [State.get64, hleaves.regs _ (by decide), hleaves.regs _ (by decide)]
    exact State.anchor_atLock s ha

/-! ### Coast and relock (R141 to R154) -/

/-- The state at the start of a coast, before CLK_COAST is raised. -/
def State.coastFrom (s : State) (seen : Fld) (frozen : Nat) : State :=
  let s := ((s.set seen 1).set CLK.PLL_STAT.STATE pllCoast).set CLK.OCW.FROZEN 1
  let s := s.set CLK.OCW.WORD frozen
  { s with clk := { s.clk with frozenWord := frozen, freezeAt := s.tick, coasting := true, qualified := false } }

theorem State.loseLock_locked (h : s.pll = pllLocked) (seen : Fld) (frozen : Nat) :
    s.loseLock seen frozen = (s.coastFrom seen frozen).raise srcClkCoast := by
  rw [State.loseLock, if_pos h, State.coastFrom]

/-- What a loss in LOCKED leaves: the PLL coasts on the mean fine word, frozen at this tick (R145, R159). -/
structure CoastBegun (seen : Fld) (frozen : Nat) (s t : State) : Prop where
  pll : t.pll = pllCoast
  seen : t.flag seen = true
  word : t.get CLK.OCW.WORD = frozen
  frozen : t.flag CLK.OCW.FROZEN = true
  coasting : t.clk.coasting = true
  freezeAt : t.clk.freezeAt = s.tick

/-- `seen` is a flag of `CLK.PLL_STAT` above its STATE. -/
theorem State.loseLock_begins (h : s.pll = pllLocked) (seen : Fld) (w : BitVec 16) (hreg : seen.reg = CLK.PLL_STAT.reg)
    (hlow : 3 ≤ seen.lo) (hfit : seen.lo + seen.n ≤ 32) (hone : seen.n = 1) :
    CoastBegun seen w.toNat s (s.loseLock seen w.toNat) := by
  have hclass : srcClass srcClkCoast ≠ .f3 := by decide
  have hraise (u : State) (f : Fld) (hf : inErrata f.reg = false) : (u.raise srcClkCoast).get f = u.get f :=
    u.get_raise hclass (by decide) f hf
  have hocw (f : Fld) (hf : f.reg = CLK.PLL_STAT.reg) : f.reg ≠ CLK.OCW.reg := hf ▸ by decide
  rw [State.loseLock_locked h]
  refine ⟨?_, ?_, ?_, ?_, ?_, ?_⟩
  · rw [State.pll, hraise _ _ (by decide), State.coastFrom, State.get_clk, State.get_set_reg _ _ _ _ (by decide),
      State.get_set_reg _ _ _ _ (by decide), State.get_set_same _ _ _ (by decide)]
    rfl
  · rw [State.flag, hraise _ _ (hreg ▸ by decide), State.coastFrom, State.get_clk, State.get_set_reg _ _ _ _ (hocw _ hreg),
      State.get_set_reg _ _ _ _ (hocw _ hreg),
      State.get_set_beside _ CLK.PLL_STAT.STATE _ _ (by decide) (.inr hlow)]
    exact State.flag_set_one s seen hfit hone
  · rw [hraise _ _ (by decide), State.coastFrom, State.get_clk, State.get_set_same _ _ _ (by decide)]
    exact Nat.mod_eq_of_lt w.isLt
  · rw [State.flag, hraise _ _ (by decide), State.coastFrom, State.get_clk, State.get_set_beside _ _ _ _ (by decide) (by decide)]
    exact State.flag_set_one _ CLK.OCW.FROZEN (by decide) rfl
  · rw [State.clk_raise _ hclass]
    rfl
  · rw [State.clk_raise _ hclass]
    exact ((((State.Leaves.refl (W := anyReg) s).set seen 1 trivial).set CLK.PLL_STAT.STATE pllCoast trivial).set
      CLK.OCW.FROZEN 1 trivial |>.set CLK.OCW.WORD w.toNat trivial).tick

/-- What an entry to RELOCK leaves (R153, R159). -/
structure RelockEntered (s t : State) : Prop where
  pll : t.pll = pllRelock
  frozen : t.flag CLK.OCW.FROZEN = false
  clk : t.clk = s.clk
  leaves : s.Leaves (· ∈ [CLK.PLL_STAT.reg, CLK.OCW.reg]) t
  only : s.BaselineOnly t

theorem State.enterRelock_enters (s : State) : RelockEntered s s.enterRelock where
  pll := by
    rw [State.pll, State.enterRelock, State.get_set_reg _ _ _ _ (by decide), State.get_set_same _ _ _ (by decide)]
    rfl
  frozen := State.flag_set_zero _ CLK.OCW.FROZEN (by decide)
  clk := (((State.SameClock.refl s).set _ _).set _ _).clk
  leaves := ((State.Leaves.refl s).set CLK.PLL_STAT.STATE _ (by decide)).set CLK.OCW.FROZEN _ (by decide)
  only := ((State.BaselineOnly.refl s).set _ _).set _ _

/-- The state after a relock that has timed out: the coast goes on with the word of its freeze (R154). -/
def State.relockFailed (s : State) : State :=
  ((s.set CLK.PLL_STAT.STATE pllCoast).set CLK.OCW.FROZEN 1).set CLK.OCW.WORD s.clk.frozenWord

theorem State.pll_relockFailed (s : State) : s.relockFailed.pll = pllCoast := by
  rw [State.pll, State.relockFailed, State.get_set_reg _ _ _ _ (by decide), State.get_set_reg _ _ _ _ (by decide),
    State.get_set_same _ _ _ (by decide)]
  rfl

theorem State.frozen_relockFailed (s : State) : s.relockFailed.flag CLK.OCW.FROZEN = true := by
  rw [State.flag, State.relockFailed, State.get_set_beside _ _ _ _ (by decide) (by decide)]
  exact State.flag_set_one _ CLK.OCW.FROZEN (by decide) rfl

theorem State.word_relockFailed (h : s.clk.frozenWord < 2 ^ 16) : s.relockFailed.get CLK.OCW.WORD = s.clk.frozenWord := by
  rw [State.relockFailed, State.get_set_same _ _ _ (by decide)]
  exact Nat.mod_eq_of_lt h

theorem State.relockFailed_leaves (s : State) : s.Leaves (· ∈ [CLK.PLL_STAT.reg, CLK.OCW.reg]) s.relockFailed :=
  (((State.Leaves.refl s).set CLK.PLL_STAT.STATE _ (by decide)).set CLK.OCW.FROZEN _ (by decide)).set CLK.OCW.WORD _ (by decide)

theorem State.relockFailed_frame (s : State) : s.relockFailed = { s with regs := s.relockFailed.regs } :=
  State.BaselineOnly.frame_regs ((((State.BaselineOnly.refl s).set _ _).set _ _).set _ _)
    ((((State.SameClock.refl s).set _ _).set _ _).set _ _).clk

/-! ### Sectors at work (R144, R157) -/

theorem State.anyActive3_eq_false (h : ∀ k : Sector, s.modeOf k < mRun) : s.anyActive3 = false := by
  refine List.any_eq_false.mpr fun k hk => ?_
  have hmode := h ⟨k, List.mem_range.mp hk⟩
  simp only [State.active3, decide_eq_true_eq, mRun] at hmode ⊢
  omega

theorem State.anyActive3_eq_true (k : Sector) (h : 3 ≤ s.modeOf k) : s.anyActive3 = true :=
  List.any_eq_true.mpr ⟨k, List.mem_range.mpr k.isLt, decide_eq_true h⟩

theorem State.restartWrite_refused (h : s.anyActive3 = true) : s.restartWrite = s.set CLK.PLL_STAT.RESTART_REFUSED 1 := by
  rw [State.restartWrite, if_pos h]

theorem State.restartWrite_enters (h : s.anyActive3 = false) (hpll : s.pll ≠ pllAcquire) : s.restartWrite = s.enterAcquire := by
  rw [State.restartWrite, if_neg (by rw [h]; decide), if_neg hpll]

theorem State.pll_restartWrite (h : s.anyActive3 = false) : s.restartWrite.pll = pllAcquire := by
  by_cases hpll : s.pll = pllAcquire
  · rw [State.restartWrite, if_neg (by rw [h]; decide), if_pos hpll, hpll]
  · rw [State.restartWrite_enters h hpll, State.pll_enterAcquire]

end Sys2Proof.Machine
end

section
/-! PROOFS. The statements on the tick counter (R139), the band entry in use (R131), RESTART (R157) and the PLL's transitions
(R159). -/

namespace Sys2Proof.Machine
open Reg

variable {s : State}

/-- Settles O6: the queue, the count of free values and the tick counter are three of the four things that every command keeps. -/
theorem queueAndTick : Obligations.QueueAndTick := by
  intro c s t hexec
  obtain ⟨u, hu, hafter⟩ := (exec_after (.refl s) c).after
  obtain rfl : u = t := Host.Outcome.next.inj (hu.symm.trans hexec)
  exact ⟨hafter.queue, hafter.free, hafter.tick⟩

/-! ### The band entry in use (R131) -/

theorem State.bandWrite_inUse {k : Nat} (w v : Nat) (hpll : s.pll ≠ pllOff) (hcur : s.get CLK.PLL_STAT.BAND_CUR = k) :
    s.bandWrite k w v = s.set CLK.PLL_STAT.ENTRY_LOCKED 1 := by
  rw [State.bandWrite, State.bandInUse, decide_eq_true hpll, decide_eq_true hcur]
  rfl

theorem whereIs_band : ∀ (k : Fin 16) (w : Fin 4),
    whereIs (CLK.BAND.RANGE.reg k + 4 * w) = (.clocking, 0x100 + 16 * k.val + 4 * w.val) := by decide

theorem rowAt_band : ∀ (k : Fin 16) (w : Fin 4), (rowAt (CLK.BAND.RANGE.reg k + 4 * w)).isSome = true := by decide

/-- A host write of a word of a band entry is a write of that entry. -/
theorem State.bar0Write_band (k : Fin 16) (w : Fin 4) (v : Word) :
    s.bar0Write (CLK.BAND.RANGE.reg k + 4 * w) v = s.bandWrite k w v.toNat := by
  obtain ⟨r, hr⟩ := Option.isSome_iff_exists.mp (rowAt_band k w)
  have hk := k.isLt
  have hw := w.isLt
  have haligned : (CLK.BAND.RANGE.reg k + 4 * w) % 4 = 0 := by simp only [CLK.BAND.RANGE.reg]; omega
  have hentry : (0x100 + 16 * k.val + 4 * w.val - 0x100) / 16 = k := by omega
  have hword : (0x100 + 16 * k.val + 4 * w.val) % 16 / 4 = w := by omega
  have hrange : (decide (0x100 ≤ 0x100 + 16 * k.val + 4 * w.val) && decide (0x100 + 16 * k.val + 4 * w.val < 0x200)) = true := by
    rw [decide_eq_true (by omega), decide_eq_true (by omega)]
    rfl
  rw [State.bar0Write, if_neg (not_not_intro haligned), hr, whereIs_band]
  change s.clockingWrite (0x100 + 16 * k.val + 4 * w.val) v.toNat = _
  rw [State.clockingWrite, if_neg (by omega), if_pos hrange, hentry, hword]

/-- Settles O52: a write of the entry in use comes down to one flag, by its command or by the host. -/
theorem bandEntryLocked : Obligations.BandEntryLocked := by
  have hflag (s : State) := State.flag_set_one s CLK.PLL_STAT.ENTRY_LOCKED (by decide) rfl
  refine ⟨fun k w v s hpll hcur => ?_, fun k w v s h hpll hcur => ?_⟩
  · refine ⟨_, ?_, rfl, hflag s⟩
    change execBandEntryWrite k w v s = _
    rw [execBandEntryWrite, State.bandWrite_inUse _ _ hpll hcur]
  · have hoff : (BitVec.ofNat 26 (CLK.BAND.RANGE.reg k + 4 * w)).toNat = CLK.BAND.RANGE.reg k + 4 * w := by
      rw [BitVec.toNat_ofNat, Nat.mod_eq_of_lt]
      simp only [CLK.BAND.RANGE.reg]
      omega
    have hwrite := (State.bar0Write_band k w.castSucc v).trans (State.bandWrite_inUse _ _ hpll hcur)
    rw [Fin.val_castSucc] at hwrite
    refine ⟨_, exec_registerWrite_bar0 _ v h, ?_, ?_⟩
    all_goals rw [hoff, hwrite]
    exact hflag s

/-! ### RESTART (R157) -/

theorem exec_pllRestartWrite (s : State) : exec .pllRestartWrite s = .next s.restartWrite := rfl

theorem State.pll_restartRefused (s : State) : (s.set CLK.PLL_STAT.RESTART_REFUSED 1).pll = s.pll :=
  State.get_set_beside s CLK.PLL_STAT.RESTART_REFUSED CLK.PLL_STAT.STATE 1 (by decide) (by decide)

theorem State.flag_restartRefused (s : State) :
    (s.set CLK.PLL_STAT.RESTART_REFUSED 1).flag CLK.PLL_STAT.RESTART_REFUSED = true :=
  State.flag_set_one s CLK.PLL_STAT.RESTART_REFUSED (by decide) rfl

/-- Settles O53: whether a sector is at work decides between ACQUIRE and the refusal. -/
theorem restartOnlyIdle : Obligations.RestartOnlyIdle := by
  refine ⟨fun s hidle => ?_, fun k s hmode => ?_⟩
  · exact ⟨_, exec_pllRestartWrite s, State.pll_restartWrite (State.anyActive3_eq_false hidle)⟩
  · have hbusy : s.anyActive3 = true := State.anyActive3_eq_true k (by rcases hmode with h | h | h <;> rw [h] <;> decide)
    refine ⟨_, exec_pllRestartWrite s, ?_⟩
    rw [State.restartWrite_refused hbusy]
    exact ⟨rfl, s.flag_restartRefused⟩

/-! ### The transitions of R159 -/

theorem exec_refMeasDone (fkHz : BitVec 18) (h : s.pll = pllAcquire) :
    exec (.refMeasDone fkHz) s =
      .next ((s.set CLK.REF_MEAS.FREQ fkHz.toNat).tryEntries (s.bandTries fkHz.toNat) CLK.PLL_STAT.NO_BAND) := by
  change execRefMeasDone fkHz s = _
  rw [execRefMeasDone, if_pos h]
  dsimp only
  rw [State.bandTries_setFreq]

theorem exec_pllEntryTimeout (h : s.pll = pllAcquire) :
    exec .pllEntryTimeout s = .next (s.tryEntries s.clk.untried CLK.PLL_STAT.LOCK_FAIL) := by
  change execPllEntryTimeout s = _
  rw [execPllEntryTimeout, if_pos h]

theorem exec_pllLockDeclared (ahead : Nat) (h : s.pll = pllAcquire) (hjobs : s.lec.jobs = []) :
    exec (.pllLockDeclared ahead) s = .next (s.lockAt ((s.tick * 1024 + ahead) % 2 ^ 64)) := by
  have hreply := State.replyPllRestart_of_no_jobs (s := s.lockAt ((s.tick * 1024 + ahead) % 2 ^ 64))
    (by rw [State.lec_lockAt, hjobs])
  change execPllLockDeclared ahead s = _
  rw [execPllLockDeclared, if_pos (by rw [h]; rfl), ← hreply]
  simp only [h, decide_true, if_true, State.lockAt, State.atLock]

theorem exec_bandMargin (w : BitVec 16) (h : s.pll = pllLocked) (hw : w.toNat < 0x1000 ∨ 0xF000 < w.toNat) :
    exec (.bandMargin w) s =
      .next (((s.set CLK.OCW.WORD w.toNat).set CLK.PLL_STAT.BAND_MARGIN 1).raise srcClkBandMargin) := by
  change execBandMargin w s = _
  rw [execBandMargin, if_pos (by simp only [h, decide_true, Bool.true_and, Bool.or_eq_true, decide_eq_true_eq, hw])]

theorem exec_autoReband (h : s.pll = pllLocked) (hauto : s.flag CLK.PLL_CTL.AUTO_REBAND = true)
    (hmargin : s.flag CLK.PLL_STAT.BAND_MARGIN = true) (hidle : s.anyActive3 = false) :
    exec .autoReband s = .next s.enterAcquire := by
  change execAutoReband s = _
  rw [execAutoReband, if_pos (by rw [h, hauto, hmargin, hidle]; rfl)]

theorem exec_coastLimitExpire (h : s.pll = pllCoast ∨ s.pll = pllRelock) (hlimit : s.clk.freezeAt + s.coastLimit ≤ s.tick) :
    exec .coastLimitExpire s = .next ((s.set CLK.PLL_STAT.COAST_LONG 1).raise srcClkCoastLong) := by
  change execCoastLimitExpire s = _
  rw [execCoastLimitExpire, if_pos (by simp only [hlimit, decide_true, Bool.and_true, Bool.or_eq_true, decide_eq_true_eq, h])]

/-- The state with REFCLK qualified (R152). -/
def State.refclkGood (s : State) : State := { s with clk := { s.clk with qualified := true } }

theorem State.refclkGood_leaves (s : State) (W : Nat → Prop) : s.Leaves W s.refclkGood := (State.Leaves.refl s).clk _

theorem State.refclkGood_only (s : State) : s.BaselineOnly s.refclkGood := (State.BaselineOnly.refl s).clk _

theorem exec_refclkQualified (h : s.pll = pllCoast) :
    exec .refclkQualified s = .next (if s.flag CLK.PLL_CTL.AUTO_RELOCK then s.refclkGood.enterRelock else s.refclkGood) := by
  change execRefclkQualified s = _
  rw [execRefclkQualified, if_pos h]
  rfl

theorem exec_relockTimeout (h : s.pll = pllRelock) : exec .relockTimeout s = .next s.relockFailed := by
  change execRelockTimeout s = _
  rw [execRelockTimeout, if_pos h, State.relockFailed]

theorem exec_relockWrite (h : s.pll = pllCoast) (hq : s.clk.qualified = true) : exec .relockWrite s = .next s.enterRelock := by
  change execRelockWrite s = _
  rw [execRelockWrite, State.relockWrite, if_pos (by rw [h, hq]; rfl)]

/-- Settles O15: a transition of R159 for each clause, by the lemma of the operation it comes down to. -/
theorem clockRows : Obligations.ClockRows := by
  refine ⟨?_, ?_, ?_, ?_, ?_, ?_, ?_, ?_, ?_, ?_, ?_, ?_, ?_⟩
  · intro fkHz k rest s h htries
    have hk : k < 16 := State.bandTries_lt (fkHz := fkHz.toNat) (by rw [htries]; exact List.mem_cons_self)
    have htried := State.tryEntries_cons (s := s.set CLK.REF_MEAS.FREQ fkHz.toNat) rest CLK.PLL_STAT.NO_BAND hk
    have honly := ((State.BaselineOnly.refl s).set CLK.REF_MEAS.FREQ fkHz.toNat).trans htried.only
    have hleaves := ((State.Leaves.refl (W := (· ∈ [CLK.REF_MEAS.reg, CLK.PLL_STAT.reg, CLK.OCW.reg])) s).set
      CLK.REF_MEAS.FREQ fkHz.toNat (by decide)).trans (htried.leaves.mono fun a ha => List.mem_cons_of_mem _ ha)
    refine ⟨_, exec_refMeasDone fkHz h, ?_⟩
    rw [htries]
    refine ⟨?_, htried.entry, htried.word, htried.untried, hleaves.regs, honly.frame⟩
    rw [htried.leaves.get CLK.REF_MEAS.FREQ (by decide), State.get_set_same _ _ _ (by decide)]
    exact Nat.mod_eq_of_lt fkHz.isLt
  · intro ahead s h hjobs
    have hlocked := s.lockAt_locked (Nat.mod_lt (s.tick * 1024 + ahead) (Nat.two_pow_pos 64))
    exact ⟨_, exec_pllLockDeclared ahead h hjobs, hlocked.pll, hlocked.running, hlocked.counting, hlocked.lockGen, hlocked.anchor,
      hlocked.octets, hlocked.memory⟩
  · intro k rest s h huntried hk
    have htried := State.tryEntries_cons (s := s) rest CLK.PLL_STAT.LOCK_FAIL hk
    refine ⟨_, exec_pllEntryTimeout h, ?_⟩
    rw [huntried]
    exact ⟨htried.entry, htried.untried, htried.word, htried.leaves.regs, htried.only.frame⟩
  · intro mean s h
    have hbegun := State.loseLock_begins h CLK.PLL_STAT.LOR_SEEN mean rfl (by decide) (by decide) rfl
    exact ⟨_, rfl, hbegun.pll, hbegun.seen, hbegun.word, hbegun.frozen, hbegun.coasting, hbegun.freezeAt⟩
  · intro mean s h
    have hbegun := State.loseLock_begins h CLK.PLL_STAT.LOL_SEEN mean rfl (by decide) (by decide) rfl
    exact ⟨_, rfl, hbegun.pll, hbegun.seen, hbegun.word, hbegun.frozen, hbegun.coasting⟩
  · intro w s h hw
    refine ⟨_, exec_bandMargin w h hw, ?_, ?_⟩
    · rw [State.get_raise _ (by decide) (by decide) _ (by decide), State.get_set_reg _ _ _ _ (by decide),
        State.get_set_same _ _ _ (by decide)]
      exact Nat.mod_eq_of_lt w.isLt
    · rw [State.flag_raise (by decide) (by decide) _ (by decide)]
      exact State.flag_set_one _ CLK.PLL_STAT.BAND_MARGIN (by decide) rfl
  · intro s h hauto hmargin hidle
    exact ⟨_, exec_autoReband h hauto hmargin hidle, s.pll_enterAcquire, s.running_enterAcquire, s.locked_enterAcquire,
      s.enterAcquire_leaves.regs, s.enterAcquire_frame⟩
  · intro s h hlimit
    refine ⟨_, exec_coastLimitExpire h hlimit, ?_, ?_⟩
    · rw [State.flag_raise (by decide) (by decide) _ (by decide)]
      exact State.flag_set_one _ CLK.PLL_STAT.COAST_LONG (by decide) rfl
    · rw [State.pll, State.get_raise _ (by decide) (by decide) _ (by decide),
        State.get_set_beside _ _ _ _ (by decide) (by decide), State.pll]
  · intro s h
    refine ⟨_, exec_refclkQualified h, ?_⟩
    have hentered := s.refclkGood.enterRelock_enters
    split
    · exact ⟨by rw [hentered.clk]; rfl, hentered.pll, ((s.refclkGood_leaves _).trans hentered.leaves).regs,
        (s.refclkGood_only.trans hentered.only).frame⟩
    · exact ⟨rfl, h, (s.refclkGood_leaves _).regs, s.refclkGood_only.frame⟩
  · intro s h hword
    exact ⟨_, exec_relockTimeout h, s.pll_relockFailed, s.frozen_relockFailed, State.word_relockFailed hword,
      s.relockFailed_leaves.regs, s.relockFailed_frame⟩
  · intro s h hq
    have hentered := s.enterRelock_enters
    exact ⟨_, exec_relockWrite h hq, hentered.pll, hentered.frozen, hentered.leaves.regs, hentered.only.frame_regs hentered.clk⟩
  · intro s hidle hpll
    refine ⟨_, exec_pllRestartWrite s, ?_⟩
    rw [State.restartWrite_enters hidle hpll]
    exact ⟨s.pll_enterAcquire, s.running_enterAcquire, s.enterAcquire_leaves.regs, s.enterAcquire_frame⟩
  · intro s hbusy
    refine ⟨_, exec_pllRestartWrite s, ?_⟩
    rw [State.restartWrite_refused hbusy]
    exact ⟨s.flag_restartRefused, s.pll_restartRefused, regsOnly_set s CLK.PLL_STAT.RESTART_REFUSED 1,
      ((State.BaselineOnly.refl s).set _ _).frame_regs (State.clk_set s _ _)⟩

end Sys2Proof.Machine
end

section
/-! PROOFS. The statement on the state after reset: its registers (R275, R290, R425, R1009). -/

namespace Sys2Proof.Machine
open Reg

theorem whereIs_octet (g : Octet) {off : Nat} (h : off < 0x4000) : whereIs (octBase g + off) = (.octet g, off) := by
  have hg := g.isLt
  generalize ha : octBase g + off = a
  have hkey : a = 0x1000000 + g.val / 8 * 0x400000 + 0x200000 + g.val % 8 * 0x4000 + off := ha.symm
  unfold whereIs
  rw [if_neg (by omega), if_neg (by omega), if_pos (by omega)]
  generalize hk : (a - 0x1000000) / 0x400000 = k
  generalize hr : (a - 0x1000000) % 0x400000 = r
  have hsec : 8 * k + g.val % 8 = g.val := by omega
  have hplace : r = 0x200000 + (g.val % 8 * 0x4000 + off) := by omega
  have hin : r - 0x200000 = off + 0x4000 * (g.val % 8) := by omega
  dsimp only
  rw [if_neg (by omega), if_neg (by omega), if_neg (by omega), if_neg (by omega), if_pos (by omega), hin,
    Nat.add_mul_mod_self_left, Nat.add_mul_div_left _ _ (by omega), Nat.mod_eq_of_lt h, Nat.div_eq_of_lt h, Nat.zero_add, hsec]

/-- A register of an octet resets to what its table lists: no formula is given for it. -/
theorem resetOf_octet {a g off : Nat} {r : RegRow} (hp : whereIs a = (.octet g, off)) (hr : findRow octetRows off = some r) :
    resetOf a = BitVec.ofNat 32 r.resetNat := by
  have hrow : rowAt a = some r := by
    rw [rowAt, hp]
    exact hr
  rw [resetOf, hrow, hp]

/-- The table's rows of a period entry (R446). -/
theorem findRow_periodEntry : ∀ e : Fin 16,
    findRow octetRows (8 * e.val) = some ⟨0x0, [(0x8, 16)], [⟨31, 0, .rw, 0⟩]⟩ ∧
    findRow octetRows (4 + 8 * e.val) = some ⟨0x4, [(0x8, 16)], [⟨15, 0, .rw, 0xFFFF⟩]⟩ := by decide

theorem State.rd_reset (a : Nat) : State.reset.rd a = resetOf a := rfl

theorem State.period_reset (g : Octet) (e : Fin 16) : State.reset.period g e = 65535 * 2 ^ 32 := by
  obtain ⟨hlow, hhigh⟩ := findRow_periodEntry e
  have hlo : State.reset.rd (PER.PT.LO.reg g e) = 0 := by
    rw [State.rd_reset, PER.PT.LO.reg, resetOf_octet (whereIs_octet g (by omega)) hlow]
    rfl
  have hhi : State.reset.rd (PER.PT.HI.reg g e) = 0xFFFF := by
    rw [State.rd_reset, PER.PT.HI.reg, Nat.add_assoc, resetOf_octet (whereIs_octet g (by omega)) hhigh]
    rfl
  have hint : State.reset.get (PER.PT.HI.INT g e) = 65535 := by
    have hfield : Word.field 0xFFFF 0 16 = 65535 := by decide
    rw [State.get, PER.PT.HI.INT, hhi]
    exact hfield
  rw [State.period, hint, hlo]
  rfl

theorem State.canonical_reset : State.reset.Canonical := ⟨rfl, rfl, rfl, rfl, rfl, rfl⟩

theorem State.hostRes_reset : ∀ w : Wing, State.reset.get (PSC.HOST_RES.H w) = 4 * 30 := by decide

theorem State.vecWin_reset : ∀ k : Sector,
    State.reset.get (PS.VEC_WIN.SIZE k) = 96 ∧ State.reset.get (PS.VEC_WIN.BASE k) = 96 * (k.val % 4) := by decide

theorem State.disc_reset : State.reset.get QL.ILK.CTL.DISC = 1000 := by decide

/-- Settles O3: nothing is written yet, so every register reads what its table or formula gives. -/
theorem resetState : Obligations.ResetState :=
  ⟨⟨State.canonical_reset, rfl, rfl, State.rd_reset⟩, State.hostRes_reset, State.vecWin_reset, State.period_reset, State.disc_reset⟩

end Sys2Proof.Machine
end

section
/-! PROOFS. The statement on drive instants, strobes and the states of the balls: its clause on a shutdown that has failed (R557). -/

namespace Sys2Proof.Machine
open Reg

/-- A shutdown that fails shows OC_FAIL, the ball takes its state, and the F3 source is raised. -/
theorem exec_ocShutdownFail (g : Octet) (l : Lane) (s : State) (hoc : s.flag (FE.STAT.OC g l) = true)
    (hshut : s.ballState g l = fsShutdown) :
    exec (.ocShutdownFail g l) s = .next (((s.set (FE.STAT.OC_FAIL g l) 1).refreshBall g l).raise srcFeOcFail) := by
  change execOcShutdownFail g l s = _
  simp only [execOcShutdownFail, hoc, hshut, decide_true, Bool.and_self, if_true]

/-- The number that a lane of octet 0 would need for its TDR result to lie on the status register of lane 2 of octet 1. -/
def strayLane : Nat := (FE.STAT.reg 1 2 - TDR.RES.reg 0 0) / 4

/-- Lane 2 of octet 1 is in SHUTDOWN while the TDR engine of octet 0 has `strayLane` under test; every sector but sector 0 is in
SAFE already. -/
def shutdownBesideStrayTdr : State :=
  let powered : State := { quill := { phase := .up }, host := { perst := false }, tdrs := [(0, { lanes := [strayLane] })] }
  ((powered.each [1, 2, 3, 4, 5, 6, 7] fun s k => s.set (SMODE.CTL.SAFE k) 1).set (FE.STAT.OC 1 2) 1).set (FE.STAT.STATE 1 2)
    fsShutdown

set_option maxRecDepth 4000 in
/-- The device SAFE abandons the TDR, and clears the result of the lane under test (R736): here, the status of the ball. -/
theorem ocShutdownFail_besideStrayTdr :
    ∃ t, exec (.ocShutdownFail 1 2) shutdownBesideStrayTdr = .next t ∧ t.flag (FE.STAT.OC_FAIL (1 : Octet) (2 : Lane)) = false :=
  ⟨_, exec_ocShutdownFail 1 2 _ (by decide) (by decide), by decide +kernel⟩

/-- Refutes O34: R557 sets OC_FAIL and raises an F3, whose device SAFE abandons every TDR (R736). The statement ranges over every
state, and bounds no lane that a TDR engine has under test; in the state above, which no run reaches, the result that is cleared
has the address of the ball's own status, and OC_FAIL is lost with it. -/
theorem not_pinsAndStrobes : ¬ Obligations.PinsAndStrobes := by
  intro h
  obtain ⟨-, -, -, hfail, -⟩ := h
  obtain ⟨t, hexec, hshown, -⟩ := hfail 1 2 shutdownBesideStrayTdr (by decide) (by decide)
  obtain ⟨u, hexec', hlost⟩ := ocShutdownFail_besideStrayTdr
  obtain rfl : t = u := Host.Outcome.next.inj (hexec.symm.trans hexec')
  exact Bool.false_ne_true (hlost.symm.trans hshown)

end Sys2Proof.Machine
end

section
/-! PROOFS. The statement on front-end configurations with a reserved code (R574). -/

namespace Sys2Proof.Machine
open Reg

/-- A write that R573 accepts, and that names a reserved code, shows CFG_ERR alone. -/
theorem State.feCfgSlot_reserved {s : State} {g l v : Nat} (hcal : s.modeOf (g / 8) ≠ mCalibrate)
    (hidle : s.scState (g / 8) = scIdle) (hcode : 6 ≤ v / 2 ^ 8 % 8 ∨ v % 4 = 3) :
    s.feCfgSlot g l v = s.set (FE.STAT.CFG_ERR g l) 1 := by
  have haccepted : (s.scState (g / 8) ≠ scIdle || s.modeOf (g / 8) = mCalibrate) = false := by
    rw [hidle, decide_eq_false hcal]
    rfl
  have hreserved : (6 ≤ v / 2 ^ 8 % 8 || v % 4 = 3) = true := by
    rw [Bool.or_eq_true, decide_eq_true_eq, decide_eq_true_eq]
    exact hcode
  rw [State.feCfgSlot, haccepted, hreserved]
  rfl

/-- With no visit, and slot 8 only while the spare serves no ball, a write reaches the core of its own slot (R768, R769). -/
theorem State.slotWrite_own {s : State} {g l : Nat} (f : State → Nat → State) (hvisit : (s.rot g).visit = none)
    (hspare : l = 8 → s.get (STEER.STAT.SPARE g) = 0) : s.slotWrite g l f = f s l := by
  unfold State.slotWrite
  rw [hvisit]
  by_cases h8 : l = 8
  · rw [if_pos h8, hspare h8, h8]
    rfl
  · rw [if_neg h8, if_neg nofun]

theorem State.whileOn_on {s : State} {k : Nat} (reg : Nat) (f : State → State) (hon : s.modeOf k ≠ mOff) :
    s.whileOn k reg f = f s := if_neg hon

/-- Settles O56: the write reaches its slot, where the reserved code is judged before anything is written. -/
theorem reservedFrontEndCode : Obligations.ReservedFrontEndCode := by
  intro g l v s hon hcal hidle hvisit hspare hcode
  refine ⟨s.set (FE.STAT.CFG_ERR g l) 1, ?_, rfl, State.flag_set_one s _ (by simp [FE.STAT.CFG_ERR]) rfl⟩
  change execFeCfgWrite g l v s = _
  rw [execFeCfgWrite, State.whileOn_on _ _ hon, State.slotWrite_own _ hvisit hspare, State.feCfgSlot_reserved hcal hidle hcode]

end Sys2Proof.Machine
end

section
/-! SUPPORT. What rotation's shared operations leave as it was (R763 to R811): its own hidden state, the cores, the vault and every
memory. -/

namespace Sys2Proof.Machine
open Reg

variable {s₀ s : State}

theorem SameMemory.trans {t u : State} (h : SameMemory s t) (k : SameMemory t u) : SameMemory s u := by
  obtain ⟨hhost, hstores, hwindow, hsram, hflash⟩ := h
  obtain ⟨khost, kstores, kwindow, ksram, kflash⟩ := k
  exact ⟨khost.trans hhost, kstores.trans hstores, kwindow.trans hwindow, ksram.trans hsram, kflash.trans hflash⟩

/-! ### The raise of a source, for any property that it keeps (R957) -/

/-- A property that writes of fields and changes of Errata, of Quill and of the host port but for its window keep. -/
structure State.RaiseKeeps (P : State → Prop) : Prop where
  set : ∀ (u : State) (f : Fld) (v : Nat), P u → P (u.set f v)
  host : ∀ (u : State) (p : HostPort), p.window = u.host.window → P u → P { u with host := p }
  quill : ∀ (u : State) (q : Quill), P u → P { u with quill := q }
  err : ∀ (u : State) (e : Errata), P u → P { u with err := e }

namespace State.RaiseKeeps

variable {P : State → Prop}

theorem ite {c : Prop} [Decidable c] {t u : State} (h : P t) (k : P u) : P (if c then t else u) := by
  split
  · exact h
  · exact k

theorem setSignal (hP : RaiseKeeps P) (f : Fld) (v : Nat) (h : P s) : P (s.setSignal f v) := by
  have hset := hP.set s f 1 h
  unfold State.setSignal State.signal
  exact ite h (ite (hP.host _ _ rfl hset) (ite (hP.host _ _ rfl hset) (hP.host _ _ rfl hset)))

theorem setStat (hP : RaiseKeeps P) (n : Nat) (b : Bool) (h : P s) : P (s.setStat n b) := by
  have hshown := hP.set _ ⟨ERR.SUM.reg (n / 32), n % 32, 1⟩ (b2n b) (hP.set s (ERR.SRC.STAT n) (b2n b) h)
  unfold State.setStat
  exact ite (hP.quill _ _ hshown) hshown

theorem setReaction (hP : RaiseKeeps P) (n : Nat) (p e : Bool) (h : P s) : P (s.setReaction n p e) :=
  hP.set _ _ _ (hP.set _ _ _ (hP.set _ _ _ h))

theorem record (hP : RaiseKeeps P) (n : Nat) (forced : Bool) (h : P s) : P (s.record n forced) := by
  have hlo (u : State) (k : P u) : P u.irqLo := hP.setSignal _ _ k
  have hhi (u : State) (k : P u) : P u.irqHi := hP.setSignal _ _ k
  have hstat : P (((s.setStat n true).bump (ERR.SRC.COUNT n) 1).setB (ERR.SRC.FORCED n) forced) :=
    hP.set _ _ _ (hP.set _ _ _ (hP.setStat n true h))
  have hplain := hP.set _ (ERR.SRC.CONSEQ n) 0 hstat
  have hfirst (c : Prop) [Decidable c] :=
    ite (c := c) hplain (hP.set _ ERR.STAT.FIRST_VALID 1 (hP.set _ ERR.STAT.FIRST n hplain))
  unfold State.record
  dsimp only
  split
  · exact State.when_keeps P _ _ _ hlo (hP.set _ _ _ (hP.set _ _ _ hstat))
  · split
    · exact State.when_keeps P _ _ _ hlo (hfirst _)
    · exact State.when_keeps P _ _ _ hlo (hfirst _)
    · exact ite (State.when_keeps P _ _ _ hhi (hfirst _))
        (hP.setReaction n true false (hP.err _ _ (State.when_keeps P _ _ _ hhi (hfirst _))))
    · exact hP.quill _ _ (hP.set _ _ _ (hhi _ (hfirst _)))

theorem notice (hP : RaiseKeeps P) (n : Nat) (h : P s) : P (s.notice n) := ite (hP.record n false h) h

theorem noticeHeld (hP : RaiseKeeps P) (n : Nat) (h : P s) : P (s.noticeHeld n) :=
  ite (hP.set _ _ _ (hP.err _ _ (hP.notice n h))) (hP.notice n h)

theorem quiet (hP : RaiseKeeps P) (n : Nat) (h : P s) : P (s.quiet n) := hP.set _ _ _ (hP.err _ _ h)

end State.RaiseKeeps

/-! ### The hidden state of rotation and calibration -/

/-- The hidden state of rotation, the cores, the vault and every memory are as they were. -/
structure State.SameCal (s t : State) : Prop where
  rots : t.rots = s.rots
  cores : t.cores = s.cores
  vault : t.vault = s.vault
  memory : SameMemory s t

namespace State.SameCal

theorem refl (s : State) : s.SameCal s := ⟨rfl, rfl, rfl, .refl s⟩

theorem rot {t : State} (h : s.SameCal t) (g : Nat) : t.rot g = s.rot g := by rw [State.rot, h.rots, State.rot]

theorem core {t : State} (h : s.SameCal t) (g c : Nat) : t.core g c = s.core g c := by rw [State.core, h.cores, State.core]

/-- A change of fields that the relation does not speak of. -/
theorem update {pending regs latch tick free answer host lec quill clk rul err dbg nvm mem ev chans cpyWait scribes octs balls dacs
    parks settled sines sineAt hairs tdrs dcs secCals procs margs blots} (h : s₀.SameCal s)
    (hm : mem.mem = s.mem.mem := by rfl) (hw : host.window = s.host.window := by rfl) (hn : nvm.flash = s.nvm.flash := by rfl) :
    s₀.SameCal (.mk pending regs latch tick free answer s.hostMem host lec quill clk rul err dbg s.vault nvm mem ev chans cpyWait
      scribes octs balls dacs parks settled sines sineAt hairs tdrs dcs s.rots s.cores secCals procs margs blots) := by
  obtain ⟨hrots, hcores, hvault, kh, km, kw, kv, kn⟩ := h
  exact ⟨hrots, hcores, hvault, kh, hm.trans km, hw.trans kw, kv, hn.trans kn⟩

theorem wr (h : s₀.SameCal s) (a : Nat) (v : Word) : s₀.SameCal (s.wr a v) := h.update
theorem set (h : s₀.SameCal s) (f : Fld) (v : Nat) : s₀.SameCal (s.set f v) := h.update
theorem setB (h : s₀.SameCal s) (f : Fld) (b : Bool) : s₀.SameCal (s.setB f b) := h.update
theorem bump (h : s₀.SameCal s) (f : Fld) (n : Nat) : s₀.SameCal (s.bump f n) := h.update
theorem onSecCal (h : s₀.SameCal s) (k : Nat) (f : SecCal → SecCal) : s₀.SameCal (s.onSecCal k f) := h.update
theorem resetRegs (h : s₀.SameCal s) (p : Nat → Bool) : s₀.SameCal (s.resetRegs p) := h.update

theorem ite {c : Prop} [Decidable c] {t u : State} (h : s₀.SameCal t) (k : s₀.SameCal u) : s₀.SameCal (if c then t else u) := by
  split
  · exact h
  · exact k

theorem each {α : Type} (h : s₀.SameCal s) (l : List α) (f : State → α → State)
    (hf : ∀ u a, s₀.SameCal u → s₀.SameCal (f u a)) : s₀.SameCal (s.each l f) := State.each_keeps _ _ _ _ hf h

theorem raiseKeeps (s₀ : State) : State.RaiseKeeps s₀.SameCal where
  set _ f v h := h.set f v
  host _ _ hw h := h.update (hw := hw)
  quill _ _ h := h.update
  err _ _ h := h.update

theorem notice (h : s₀.SameCal s) (n : Nat) : s₀.SameCal (s.notice n) := (raiseKeeps s₀).notice n h

/-- Balls and DACs that take their states. -/
theorem pins {t : State} (h : s₀.SameCal s) (k : s.PinsOnly t) : s₀.SameCal t := by
  obtain ⟨_, _, rfl⟩ := k
  exact h.update

theorem refreshBall (h : s₀.SameCal s) (g l : Nat) : s₀.SameCal (s.refreshBall g l) := h.pins ((PinsOnly.refl s).refreshBall g l)

/-! ### What a visit copies and exchanges (R767, R770, R778) -/

theorem copyRegs (h : s₀.SameCal s) (a b len : Nat) : s₀.SameCal (s.copyRegs a b len) :=
  (h.resetRegs _).each _ _ fun _ _ hu => hu.wr _ _

theorem swapRegs (h : s₀.SameCal s) (a b len : Nat) : s₀.SameCal (s.swapRegs a b len) :=
  (h.resetRegs _).each _ _ fun _ _ hu => hu.wr _ _

theorem swapSlots (h : s₀.SameCal s) (g l : Nat) : s₀.SameCal (s.swapSlots g l) :=
  ((h.swapRegs (slotBase g l) (slotBase g 8) 0x800).swapRegs (FE.CFG.reg g l) (FE.CFG.reg g 8) 8).update

theorem program (h : s₀.SameCal s) (g l k code : Nat) : s₀.SameCal (s.program g l k code) := by
  have hcode := (PinsOnly.refl s).set (DAC.LVL.CODE.CODE g l k) code
  refine h.pins ?_
  unfold State.program State.rebase
  exact .ite (.ite (hcode.setBase _ _ _ _) (.ite (hcode.set _ _) hcode)) (.ite (hcode.onDac _ _ _ _) hcode)

theorem mirror (h : s₀.SameCal s) (g l : Nat) : s₀.SameCal (s.mirror g l) := by
  have hslot := (h.copyRegs (slotBase g l) (slotBase g 8) 0x680).copyRegs (slotBase g l + 0x7C0) (slotBase g 8 + 0x7C0) 8
  unfold State.mirror
  refine (((SameCal.each ((hslot.wr _ _).wr _ _) _ _ fun u k hu => ?_).setB _ _).setB _ _).setB _ _
  exact ((((hu.set _ _).set _ _).setB _ _).setB _ _).program g 8 k _

/-! ### Ages, classes and the vault's registers (R789 to R791, R829, R841 to R844) -/

theorem showAges (h : s₀.SameCal s) (g : Nat) : s₀.SameCal (s.showAges g) := by
  unfold State.showAges
  refine (h.each _ _ fun u l hu => ?_).set _ _
  have hset := (hu.onSecCal (g / 8) fun x => { x with greatest := max x.greatest (u.ageMs g (u.coreAt g l)) }).set
    (ROT.AGE.ACLASS g l) (u.ageClass g (u.coreAt g l))
  exact .ite hset (.ite (hset.notice _) (.ite (hset.notice _) hset))

theorem showCal (h : s₀.SameCal s) : s₀.SameCal s.showCal := ((h.set _ _).set _ _).setB _ _

theorem showClasses (h : s₀.SameCal s) (g : Nat) : s₀.SameCal (s.showClasses g) := (((h.set _ _).set _ _).set _ _).showCal

theorem handOver (h : s₀.SameCal s) (g l : Nat) (toSpare : Bool) : s₀.SameCal (s.handOver g l toSpare) :=
  ((((h.swapSlots g l).set _ _).refreshBall g l).showAges g).showClasses g

theorem showVault (h : s₀.SameCal s) : s₀.SameCal s.showVault := by
  have hfree := ((((((h.set VAULT.LC.STATE s.vault.lc).set VAULT.SEAL_CNT.COUNT s.vault.counter).set VAULT.COL_HEAD.SEQ
    (s.vault.nextSeq - 1)).set VAULT.COL_FIRST.SEQ s.vault.first).set VAULT.COL_FREE.SLOTS s.vault.free).setB VAULT.STAT.LOG_FULL
    (decide (s.vault.free < 17)))
  have hchain := hfree.each (List.range 4)
    (fun u i => u.set (VAULT.CHAIN.CHAIN i) (leNat (s.vault.chain.drop (4 * i) |>.take 4))) fun _ _ hu => hu.set _ _
  have hshown := ((((hchain.setB VAULT.STAT.BACKUP_BAD s.vault.backupBad).setB VAULT.STAT.AUTH_LOCK (s.vault.authFails = 3)).set
    VAULT.STAT.AUTH_FAILS s.vault.authFails).setB VAULT.STAT.TAMPER_SEEN s.vault.tamperSeen).setB VAULT.STAT.INTEGRITY_FAIL
    s.vault.integrityFail
  exact .ite (.ite ((raiseKeeps s₀).noticeHeld srcLogFull hshown) ((raiseKeeps s₀).quiet srcLogFull hshown)) h

end State.SameCal

end Sys2Proof.Machine
end

section
/-! SUPPORT. One rule per operation of rotation (R763 to R811): a state that is entered, a stop, a lane that is skipped, a handover, a
run that is committed, a summary, and a write of `ROT[g].CTL`. -/

namespace Sys2Proof.Machine
open Reg

variable {s₀ s : State}

/-! ### A state of rotation is entered (R765, R807) -/

/-- Only registers, the hidden state of rotation and the summaries of sectors differ. -/
def State.RotOnly (s t : State) : Prop := ∃ regs rots secCals, t = { s with regs := regs, rots := rots, secCals := secCals }

namespace State.RotOnly

theorem frame {t : State} (h : s.RotOnly t) : t = { s with regs := t.regs, rots := t.rots, secCals := t.secCals } := by
  obtain ⟨_, _, _, rfl⟩ := h
  rfl

theorem cores {t : State} (h : s.RotOnly t) : t.cores = s.cores := by
  obtain ⟨_, _, _, rfl⟩ := h
  rfl

theorem core {t : State} (h : s.RotOnly t) (g c : Nat) : t.core g c = s.core g c := by rw [State.core, h.cores, State.core]

theorem memory {t : State} (h : s.RotOnly t) : SameMemory s t := by
  obtain ⟨_, _, _, rfl⟩ := h
  exact .refl s

theorem onRot (h : s₀.RotOnly s) (g : Nat) (f : Rot → Rot) : s₀.RotOnly (s.onRot g f) := by
  obtain ⟨_, _, _, rfl⟩ := h
  exact ⟨_, _, _, rfl⟩

end State.RotOnly

theorem State.rot_onRot_same (g : Nat) (f : Rot → Rot) : (s.onRot g f).rot g = f (s.rot g) := State.rot_setRot_same s g _

theorem State.get_onRot (g : Nat) (f : Rot → Rot) (x : Fld) : (s.onRot g f).get x = s.get x := rfl

theorem State.rotState_onRot (g g' : Nat) (f : Rot → Rot) : (s.onRot g f).rotState g' = s.rotState g' := rfl

theorem State.core_onRot (g a b : Nat) (f : Rot → Rot) : (s.onRot g f).core a b = s.core a b := rfl

theorem State.Leaves.secCals {W : Nat → Prop} (h : s₀.Leaves W s) (x : Tab SecCal) : s₀.Leaves W { s with secCals := x } := h.update

theorem State.Leaves.onRot {W : Nat → Prop} (h : s₀.Leaves W s) (g : Nat) (f : Rot → Rot) : s₀.Leaves W (s.onRot g f) := h.update

/-- A change of state counts in the summary of its sector, and shows in STATE. -/
theorem State.setRotState_eq (s : State) (g st : Nat) :
    ∃ secCals, s.setRotState g st = { s.set (ROT.STAT.STATE g) st with secCals := secCals } := by
  have hsame (u : State) : ∃ secCals, u = { u with secCals := secCals } := ⟨u.secCals, rfl⟩
  have hcounted (u : State) (k : Nat) (f : SecCal → SecCal) : ∃ secCals, u.onSecCal k f = { u with secCals := secCals } := ⟨_, rfl⟩
  unfold State.setRotState
  dsimp only
  split
  · exact hsame _
  · exact hcounted _ _ _

/-- What the entry to a state with a lane leaves. -/
structure RotEntered (g st lane : Nat) (s t : State) : Prop where
  state : t.rotState g = st
  lane : t.get (ROT.STAT.LANE g) = lane
  rot : t.rot g = { s.rot g with at_ := s.tick, tries := 0 }
  beside : ∀ f : Fld, f.lo + f.n ≤ 12 ∨ 20 ≤ f.lo → t.get f = s.get f
  leaves : s.Leaves (· = ROT.STAT.reg g) t
  only : s.RotOnly t

theorem State.rotTo_entered (s : State) (g : Nat) {st lane : Nat} (hst : st < 16) (hlane : lane < 16) :
    RotEntered g st lane s (s.rotTo g st lane) := by
  obtain ⟨secCals, heq⟩ := s.setRotState_eq g st
  have hget (u : State) (x : Tab SecCal) (r : Rot → Rot) (f f' : Fld) (v v' : Nat) (k : Fld) :
      (({ u.set f v with secCals := x }.set f' v').onRot g r).get k = ((u.set f v).set f' v').get k := rfl
  have hrot (u : State) (x : Tab SecCal) (r : Rot → Rot) (f f' : Fld) (v v' : Nat) :
      (({ u.set f v with secCals := x }.set f' v').onRot g r).rot g = r (u.rot g) := State.rot_onRot_same _ _
  have honly (u : State) (x : Tab SecCal) (f f' : Fld) (v v' : Nat) (r : Rot → Rot) :
      u.RotOnly (({ u.set f v with secCals := x }.set f' v').onRot g r) := ⟨_, _, _, rfl⟩
  have hleaves (x : Tab SecCal) : s.Leaves (· = ROT.STAT.reg g) { s.set (ROT.STAT.STATE g) st with secCals := x } :=
    ((State.Leaves.refl (W := (· = ROT.STAT.reg g)) s).set (ROT.STAT.STATE g) st rfl).secCals x
  rw [State.rotTo, heq]
  refine ⟨?_, ?_, hrot _ _ _ _ _ _ _, fun f hf => ?_, ((hleaves _).set (ROT.STAT.LANE g) lane rfl).onRot g _, honly _ _ _ _ _ _ _⟩
  · rw [State.rotState, hget, State.get_set_beside _ _ _ _ (by simp [ROT.STAT.LANE]) (by simp [ROT.STAT.LANE, ROT.STAT.STATE]),
      State.get_set_same _ _ _ (by simp [ROT.STAT.STATE])]
    exact Nat.mod_eq_of_lt hst
  · rw [hget, State.get_set_same _ _ _ (by simp [ROT.STAT.LANE])]
    exact Nat.mod_eq_of_lt hlane
  · rw [hget, State.get_set_beside _ (ROT.STAT.LANE g) f _ (by simp [ROT.STAT.LANE]) (by simp only [ROT.STAT.LANE]; omega),
      State.get_set_beside _ (ROT.STAT.STATE g) f _ (by simp [ROT.STAT.STATE]) (by simp only [ROT.STAT.STATE]; omega)]

/-! ### Rotation stops (R765, R806) -/

theorem State.each_of_fixed {α : Type} (l : List α) (f : State → α → State) (hf : ∀ a ∈ l, f s a = s) : s.each l f = s := by
  induction l with
  | nil => rfl
  | cons a rest ih =>
    rw [State.each, List.foldl_cons, hf a (by simp)]
    exact ih fun b hb => hf b (by simp [hb])

theorem State.rotJudge_idle {g : Nat} (h : s.rotState g = roIdle) : s.rotJudge g = s := by
  rw [State.rotJudge, State.rotStop, if_pos h, ite_self]

/-- With no core under run, no visit and no provisional result, a stop enters IDLE and withdraws nothing. -/
theorem State.rotStop_bare {g : Nat} (hrun : s.underRun g = none) (hstate : s.rotState g ≠ roIdle)
    (hvisit : (s.rot g).visit = none) (hprov : ∀ c : Fin 9, (s.core g c).prov = none) :
    s.rotStop g = (s.rotTo g roIdle 0xF).onRot g fun r => { r with visit := none, faulted := false } := by
  have hcores : ∀ c ∈ List.range 9, ((s.rotTo g roIdle 0xF).core g c).prov = none := fun c hc => by
    rw [(s.rotTo_entered g (by decide) (by decide)).only.core]
    exact hprov ⟨c, List.mem_range.mp hc⟩
  rw [State.rotStop, if_neg hstate, hrun]
  dsimp only
  rw [State.rotIdle, if_neg hstate, hvisit]
  refine State.each_of_fixed _ _ fun c hc => if_neg ?_
  rw [State.core_onRot, hcores c hc]
  exact nofun

/-! ### A lane is skipped (R765, R779) -/

/-- The state in which the notice of a skipped lane is raised. -/
def State.skipShown (s : State) (g l : Nat) : State :=
  let s := (s.set (ROT.STAT.SKIPMASK g) (s.get (ROT.STAT.SKIPMASK g) ||| 2 ^ l)).set (ROT.STAT.SKIPPED g) 1
  (s.bump (ROT.COUNT.SKIPS g) 1).onSecCal (g / 8) fun c => { c with skips := c.skips + 1 }

theorem State.rotSkip_eq (s : State) (g l : Nat) : s.rotSkip g l = ((s.skipShown g l).raise (srcCalSkip (g / 8))).rotNext g := rfl

theorem State.skipShown_leaves (s : State) (g l : Nat) :
    s.Leaves (· ∈ [ROT.STAT.reg g, ROT.COUNT.reg g]) (s.skipShown g l) :=
  ((((State.Leaves.refl s).set (ROT.STAT.SKIPMASK g) _ (by simp [ROT.STAT.SKIPMASK])).set (ROT.STAT.SKIPPED g) 1
    (by simp [ROT.STAT.SKIPPED])).bump (ROT.COUNT.SKIPS g) 1 (by simp [ROT.COUNT.SKIPS])).update

theorem State.skipShown_sameCal (s : State) (g l : Nat) : s.SameCal (s.skipShown g l) := by
  unfold State.skipShown
  exact ((((State.SameCal.refl s).set _ _).set _ _).bump _ _).onSecCal _ _

theorem statReg_ne_countReg (g : Nat) : ROT.STAT.reg g ≠ ROT.COUNT.reg g := by
  simp only [ROT.STAT.reg, ROT.COUNT.reg]
  omega

theorem State.skipped_skipShown (s : State) (g l : Nat) : (s.skipShown g l).flag (ROT.STAT.SKIPPED g) = true := by
  have hcount (u : State) (v : Nat) : (u.set (ROT.COUNT.SKIPS g) v).get (ROT.STAT.SKIPPED g) = u.get (ROT.STAT.SKIPPED g) :=
    State.get_set_reg _ _ _ _ (statReg_ne_countReg g)
  rw [State.flag, State.skipShown, State.onSecCal, State.get_setSecCal, State.bump, hcount]
  exact State.flag_set_one _ (ROT.STAT.SKIPPED g) (by simp [ROT.STAT.SKIPPED]) rfl

theorem State.skipMask_skipShown (s : State) (g : Nat) (l : Lane) :
    ((s.skipShown g l).get (ROT.STAT.SKIPMASK g)).testBit l = true := by
  have hcount (u : State) (v : Nat) : (u.set (ROT.COUNT.SKIPS g) v).get (ROT.STAT.SKIPMASK g) = u.get (ROT.STAT.SKIPMASK g) :=
    State.get_set_reg _ _ _ _ (statReg_ne_countReg g)
  rw [State.skipShown, State.onSecCal, State.get_setSecCal, State.bump, hcount,
    State.get_set_beside _ (ROT.STAT.SKIPPED g) _ _ (by simp [ROT.STAT.SKIPPED]) (by simp [ROT.STAT.SKIPPED, ROT.STAT.SKIPMASK]),
    State.get_set_same _ _ _ (by simp [ROT.STAT.SKIPMASK])]
  have hbit : (s.get (ROT.STAT.SKIPMASK g) ||| 2 ^ l.val).testBit l = true := by
    rw [Nat.testBit_or, Nat.testBit_two_pow_self, Bool.or_true]
  rw [Nat.testBit_mod_two_pow, hbit, Bool.and_true]
  exact decide_eq_true l.isLt

theorem State.skips_skipShown (s : State) (g l : Nat) :
    (s.skipShown g l).get (ROT.COUNT.SKIPS g) = satAdd (2 ^ 16 - 1) (s.get (ROT.COUNT.SKIPS g)) 1 := by
  have hstat (u : State) (f : Fld) (v : Nat) (hf : f.reg = ROT.STAT.reg g) :
      (u.set f v).get (ROT.COUNT.SKIPS g) = u.get (ROT.COUNT.SKIPS g) :=
    State.get_set_reg _ _ _ _ fun e => statReg_ne_countReg g (hf ▸ e.symm)
  rw [State.skipShown, State.onSecCal, State.get_setSecCal, State.bump, State.get_set_same _ _ _ (by simp [ROT.COUNT.SKIPS]),
    hstat _ _ _ rfl, hstat _ _ _ rfl]
  exact Nat.mod_eq_of_lt (Nat.lt_of_le_of_lt (Nat.min_le_left (2 ^ 16 - 1) _) (by decide : 2 ^ 16 - 1 < 2 ^ 16))

theorem State.rotNext_end {g : Nat} (h : (s.rot g).todo = []) :
    s.rotNext g = (s.rotTo g roWait 0xF).onRot g fun r => { r with visit := none } := by
  rw [State.rotNext, h]

theorem srcCal_spec : ∀ k : Sector,
    (srcClass (srcCalSkip k) ≠ .f3 ∧ srcCalSkip k < 384) ∧ srcCalNotice k < 384 ∧ srcCalAge k < 384 := by decide

/-- What the skip of the last lane of a cycle leaves (R765, R779). -/
structure CycleSkipped (g l : Nat) (s t : State) : Prop where
  state : t.rotState g = roWait
  visit : (t.rot g).visit = none
  skipped : t.flag (ROT.STAT.SKIPPED g) = true
  mask : (t.get (ROT.STAT.SKIPMASK g)).testBit l = true
  count : t.get (ROT.COUNT.SKIPS g) = satAdd (2 ^ 16 - 1) (s.get (ROT.COUNT.SKIPS g)) 1
  leaves : s.Leaves (fun a => a ∈ [ROT.STAT.reg g, ROT.COUNT.reg g] ∨ inErrata a = true) t

theorem octReg_not_inErrata (g off : Nat) : inErrata (octBase g + off) = false := by
  refine decide_eq_false ?_
  simp only [octBase, secBase]
  omega

theorem State.rotSkip_last (g : Octet) (l : Lane) (h : (s.rot g).todo = []) : CycleSkipped g l s (s.rotSkip g l) := by
  obtain ⟨⟨hclass, hlt⟩, -⟩ := srcCal_spec ⟨g.val / 8, by omega⟩
  generalize hu : (s.skipShown g l).raise (srcCalSkip (g / 8)) = u
  have hcal : s.SameCal u := by
    rw [← hu, State.raise_of_not_f3 hclass]
    exact (s.skipShown_sameCal g l).notice _
  have hkept (f : Fld) (off : Nat) (hf : f.reg = octBase g + off) : u.get f = (s.skipShown g l).get f := by
    rw [← hu]
    exact State.get_raise _ hclass hlt f (hf ▸ octReg_not_inErrata g off)
  have hentered := u.rotTo_entered g (st := roWait) (lane := 0xF) (by decide) (by decide)
  have hshown (f : Fld) (off : Nat) (hf : f.reg = octBase g + off) (hb : f.lo + f.n ≤ 12 ∨ 20 ≤ f.lo) :
      (u.rotTo g roWait 0xF).get f = (s.skipShown g l).get f := (hentered.beside f hb).trans (hkept f off hf)
  rw [State.rotSkip_eq, hu, State.rotNext_end (by rw [hcal.rot, h])]
  refine ⟨(State.rotState_onRot _ _ _).trans hentered.state, ?_, ?_, ?_, ?_, ?_⟩
  · rw [State.rot_onRot_same]
  · rw [State.flag, State.get_onRot, hshown _ _ rfl (.inr (by simp [ROT.STAT.SKIPPED]))]
    exact s.skipped_skipShown g l
  · rw [State.get_onRot, hshown _ _ rfl (.inl (by simp [ROT.STAT.SKIPMASK]))]
    exact s.skipMask_skipShown g l
  · rw [State.get_onRot, hentered.leaves.get _ (fun e => statReg_ne_countReg g e.symm), hkept _ _ rfl]
    exact s.skips_skipShown g l
  · have hraised := ((s.skipShown_leaves g l).mono fun _ ha => Or.inl ha).trans
      (((s.skipShown g l).raise_leaves hclass hlt).mono fun _ ha => Or.inr ha)
    rw [hu] at hraised
    exact (hraised.trans (hentered.leaves.mono fun a ha => .inl (by simp [ha]))).onRot _ _

/-! ### A handover (R551, R777) -/

theorem State.Leaves.each_mem {W : Nat → Prop} {α : Type} (h : s₀.Leaves W s) (l : List α) (f : State → α → State)
    (hf : ∀ u, ∀ a ∈ l, s₀.Leaves W u → s₀.Leaves W (f u a)) : s₀.Leaves W (s.each l f) :=
  List.foldlRecOn l f h fun u hu a ha => hf u a ha hu

/-- The registers that show the ages and classes of an octet's cores. -/
def ageRegs (g : Nat) : List Nat := ROT.AGE_LS.reg g :: ROT.CLASS.reg g :: CAL.STAT.reg :: (List.range 8).map (ROT.AGE.reg g)

/-- The registers that show ages and classes, and those of Errata. -/
def agesOrErrata (g a : Nat) : Prop := a ∈ ageRegs g ∨ inErrata a = true

theorem State.Leaves.showAges (g : Octet) (h : s₀.Leaves (agesOrErrata g) s) : s₀.Leaves (agesOrErrata g) (s.showAges g) := by
  obtain ⟨-, hnotice, hage⟩ := srcCal_spec ⟨g.val / 8, by omega⟩
  have hraise (u : State) (n : Nat) (hn : n < 384) (hu : s₀.Leaves (agesOrErrata g) u) : s₀.Leaves (agesOrErrata g) (u.notice n) :=
    hu.notice n fun a ha => .inr (sourceRegs_inErrata hn a ha)
  unfold State.showAges
  refine (h.each_mem _ _ fun u l hl hu => ?_).set _ _ (.inl (by simp [ageRegs, ROT.AGE_LS.ACLASS]))
  have hreg : ROT.AGE.reg g l ∈ ageRegs g :=
    List.mem_cons_of_mem _ (List.mem_cons_of_mem _ (List.mem_cons_of_mem _ (List.mem_map_of_mem hl)))
  have hset (v : Nat) (x : Tab SecCal) := (hu.secCals x).set (ROT.AGE.ACLASS g l) v (.inl hreg)
  exact .ite (hset _ _) (.ite (hraise _ _ hnotice (hset _ _)) (.ite (hraise _ _ hage (hset _ _)) (hset _ _)))

theorem State.Leaves.showClasses (g : Nat) (h : s₀.Leaves (agesOrErrata g) s) : s₀.Leaves (agesOrErrata g) (s.showClasses g) := by
  have hclass : agesOrErrata g (ROT.CLASS.reg g) := .inl (by simp [ageRegs])
  have hcal : agesOrErrata g CAL.STAT.reg := .inl (by simp [ageRegs])
  exact (((((h.set (ROT.CLASS.BALL g) _ hclass).set (ROT.CLASS.LS g) _ hclass).set (ROT.CLASS.MET g) _ hclass).set
    CAL.STAT.BELOW _ hcal).set CAL.STAT.NOT_ASSURED _ hcal).setB CAL.STAT.LOG_FULL _ hcal

theorem steer_not_ageRegs (g : Nat) : ¬ agesOrErrata g (STEER.STAT.reg g) := by
  rintro (hmem | herr)
  · simp only [ageRegs, List.mem_cons, List.mem_map] at hmem
    rcases hmem with h | h | h | ⟨l, -, h⟩ <;>
      simp only [ROT.AGE_LS.reg, ROT.CLASS.reg, CAL.STAT.reg, ROT.AGE.reg, STEER.STAT.reg, octBase, secBase] at h <;> omega
  · exact Bool.false_ne_true ((octReg_not_inErrata g 0x404).symm.trans herr)

theorem State.spare_refreshBall (g : Nat) (l : Lane) :
    (s.refreshBall g l).get (STEER.STAT.SPARE g) = s.get (STEER.STAT.SPARE g) := by
  have hreg : (STEER.STAT.SPARE g).reg ≠ (FE.STAT.STATE g l).reg := by
    simp only [STEER.STAT.SPARE, STEER.STAT.reg, FE.STAT.STATE, FE.STAT.reg]
    omega
  have hl := l.isLt
  unfold State.refreshBall
  dsimp only
  split
  · rfl
  · rw [State.showBall, State.setB, State.get_set_beside _ _ _ _ (by simp only [STEER.STAT.ISO]; omega)
      (.inr (by simp only [STEER.STAT.ISO, STEER.STAT.SPARE]; omega)), State.get_set_reg _ _ _ _ hreg]

theorem State.spare_handOver (s : State) (g : Octet) (l : Lane) : (s.handOver g l true).get (STEER.STAT.SPARE g) = 2 ^ l.val := by
  have hshown := ((State.Leaves.refl (((s.swapSlots g l).set (STEER.STAT.SPARE g) (2 ^ l.val)).refreshBall g l)).showAges g).showClasses g
  have hfit : 2 ^ l.val < 2 ^ 8 := Nat.pow_lt_pow_right (by decide) l.isLt
  have hspare := (hshown.get (STEER.STAT.SPARE g) (steer_not_ageRegs g)).trans (State.spare_refreshBall g l)
  rw [State.get_set_same _ _ _ (by simp [STEER.STAT.SPARE])] at hspare
  exact hspare.trans (Nat.mod_eq_of_lt hfit)

theorem steer_ne_rotStat (g : Nat) : STEER.STAT.reg g ≠ ROT.STAT.reg g := by
  simp only [STEER.STAT.reg, ROT.STAT.reg]
  omega

/-! ### A run is committed (R762, R765, R788) -/

/-- The core as a committed run leaves it. -/
def CoreCal.committed (x : CoreCal) (p : Provision) (tick : Nat) : CoreCal :=
  { x with drift := p.drift, verr := p.verr, tcal := p.tcal, commitAt := some tick, fails := 0, prov := none }

theorem State.commitRun_sameCal (s : State) (g c : Nat) (p : Provision) :
    (s.onCore g c fun x => x.committed p s.tick).SameCal (s.commitRun g c p) :=
  ((State.SameCal.refl _).showAges g).showClasses g

/-! ### The Colophon's summary (R803, R825) -/

/-- An entry that has room is the only change of the vault. -/
theorem State.append_sameCal (h : s.vault.room 1 = true) (kind origin payload : Nat) :
    State.SameCal { s with vault := s.vault.push kind origin 0 s.quill.qsec payload } (s.append kind origin payload) := by
  rw [State.append, if_pos h]
  exact (State.SameCal.refl _).showVault

/-- The summary is one entry, the drift section of the backup, and counts that begin anew. -/
theorem State.rotSummary_eq (s : State) (k : Nat) : ∃ payload backups qsec,
    s.rotSummary k = State.setSecCal { s.append colRotSummary (0x10 + k) payload with
      vault := { (s.append colRotSummary (0x10 + k) payload).vault with backups := backups } } k
      { filt := (s.secCal k).filt, primed := (s.secCal k).primed, ranAt := qsec } := ⟨_, _, _, rfl⟩

/-! ### A write of `ROT[g].CTL` (R806) -/

/-- The bits of `ROT[g].CTL` that a write sets. -/
def rotCtlMask : Word := 0xC0FF0FFF

/-- The row of `ROT[g].CTL` in the register table. -/
def rotCtlRow : RegRow := ⟨0x2400, [], [⟨31, 31, .rw, 1⟩, ⟨30, 30, .rw, 0⟩, ⟨23, 16, .rw, 0xff⟩, ⟨11, 0, .rw, 0x190⟩]⟩

theorem rowAt_rotCtl (g : Octet) : rowAt (ROT.CTL.reg g) = some rotCtlRow := by
  have hrow : findRow octetRows 0x2400 = some rotCtlRow := by decide
  rw [rowAt, ROT.CTL.reg, whereIs_octet g (by omega)]
  exact hrow

/-- Every field of the row is RW, so nothing old stays. -/
theorem rotCtlRow_written (locked : Bool) (old v : Nat) :
    rotCtlRow.written locked old v = BitVec.ofNat 32 (v &&& rotCtlMask.toNat) := by
  have hmasks : rotCtlRow.written locked old v
      = BitVec.ofNat 32 (((old &&& 0) - ((old &&& 0) &&& (v &&& 0))) ||| (v &&& 0) ||| (v &&& rotCtlMask.toNat)) := by
    cases locked <;> rfl
  rw [hmasks, Nat.and_zero, Nat.and_zero, Nat.zero_sub, Nat.zero_or, Nat.zero_or]

theorem State.plainWrite_rotCtl (s : State) (g : Octet) (v : Word) :
    s.plainWrite (ROT.CTL.reg g) v.toNat = s.wr (ROT.CTL.reg g) (v &&& rotCtlMask) := by
  rw [State.plainWrite, rowAt_rotCtl]
  dsimp only
  rw [rotCtlRow_written, ← BitVec.toNat_and, BitVec.ofNat_toNat, BitVec.setWidth_eq]

theorem rotStat_ne_rotCtl (g : Nat) : ROT.STAT.reg g ≠ ROT.CTL.reg g := by
  simp only [ROT.STAT.reg, ROT.CTL.reg]
  omega

/-- A field all of whose bits a mask keeps. -/
theorem field_and_mask (v m : Word) (lo n : Nat) (h : ∀ i < n, m.getLsbD (lo + i) = true) :
    (v &&& m).field lo n = v.field lo n := by
  refine Nat.eq_of_testBit_eq fun i => ?_
  rw [testBit_field, testBit_field]
  by_cases hi : i < n
  · have hm : m.toNat.testBit (lo + i) = true := h i hi
    rw [BitVec.toNat_and, Nat.testBit_and, hm, Bool.and_true]
  · rw [decide_eq_false hi, Bool.false_and, Bool.false_and]

theorem flag_of_field (v : Word) (i : Nat) : decide (v.field i 1 = 1) = v.getLsbD i := by
  rw [Word.field, BitVec.getLsbD, Nat.testBit_eq_decide_div_mod_eq, Nat.pow_one]

/-- What a write of `ROT[g].CTL` leaves before rotation is judged. -/
structure RotCtlWritten (g : Nat) (v : Word) (s t : State) : Prop where
  en : t.flag (ROT.CTL.EN g) = v.getLsbD 31
  pause : t.flag (ROT.CTL.PAUSE g) = v.getLsbD 30
  lanes : t.get (ROT.CTL.LANES g) = v.field 16 8
  period : t.get (ROT.CTL.PERIOD g) = v.field 0 12
  regs : t = { s with regs := t.regs }
  leaves : s.Leaves (· = ROT.CTL.reg g) t

theorem State.plainWrite_rotCtl_written (s : State) (g : Octet) (v : Word) :
    RotCtlWritten g v s (s.plainWrite (ROT.CTL.reg g) v.toNat) := by
  have hget (f : Fld) (hf : f.reg = ROT.CTL.reg g) (hm : ∀ i < f.n, rotCtlMask.getLsbD (f.lo + i) = true) :
      (s.wr (ROT.CTL.reg g) (v &&& rotCtlMask)).get f = v.field f.lo f.n := by
    rw [State.get, hf, State.rd_wr_same, field_and_mask v rotCtlMask _ _ hm]
  have hregs (a : Nat) (w : Word) : s.wr a w = { s with regs := (s.wr a w).regs } := rfl
  rw [State.plainWrite_rotCtl]
  refine ⟨?_, ?_, ?_, ?_, hregs _ _, (State.Leaves.refl (W := (· = ROT.CTL.reg g)) s).wr _ _ rfl⟩
  · rw [State.flag, hget _ rfl (by decide : ∀ i < 1, rotCtlMask.getLsbD (31 + i) = true)]
    exact flag_of_field v 31
  · rw [State.flag, hget _ rfl (by decide : ∀ i < 1, rotCtlMask.getLsbD (30 + i) = true)]
    exact flag_of_field v 30
  · exact hget _ rfl (by decide : ∀ i < 8, rotCtlMask.getLsbD (16 + i) = true)
  · exact hget _ rfl (by decide : ∀ i < 12, rotCtlMask.getLsbD (0 + i) = true)

namespace RotCtlWritten

variable {g : Octet} {v : Word} {t : State}

theorem rotState (h : RotCtlWritten g v s t) : t.rotState g = s.rotState g :=
  h.leaves.get (ROT.STAT.STATE g) (rotStat_ne_rotCtl g)

theorem rot (h : RotCtlWritten g v s t) (j : Nat) : t.rot j = s.rot j := (congrArg (State.rot · j) h.regs).trans rfl

theorem core (h : RotCtlWritten g v s t) (j c : Nat) : t.core j c = s.core j c := (congrArg (State.core · j c) h.regs).trans rfl

theorem procCore (h : RotCtlWritten g v s t) : t.procCore g = s.procCore g := by
  have hproc : t.proc (g / 8) = s.proc (g / 8) := (congrArg (State.proc · (g / 8)) h.regs).trans rfl
  have hmode : t.modeOf (g / 8) = s.modeOf (g / 8) := by
    refine h.leaves.get (SMODE.CTL.MODE_CUR (g / 8)) ?_
    simp only [octBase, secBase, ROT.CTL.reg, SMODE.CTL.MODE_CUR, SMODE.CTL.reg]
    omega
  rw [State.procCore, State.procCore, hproc, hmode]

end RotCtlWritten

end Sys2Proof.Machine
end

section
/-! PROOFS. The statement on the cycles of rotation (R551, R553, R763 to R779, R803, R806). -/

namespace Sys2Proof.Machine
open Reg

variable {s : State}

/-! ### A cycle and a visit, state by state (R763 to R765, R767, R772, R779) -/

theorem exec_rotCycleStart (g : Octet) (hmay : s.rotMay g = true) (hstate : s.rotState g = roIdle) (hvisit : (s.rot g).visit = none) :
    exec (.rotCycleStart g) s = .next ((s.rotRun g roSpareCal 8).onRot g fun r =>
      { r with cycleAt := some s.tick, todo := s.cycleLanes g, matchFails := 0, checkFails := 0 }) := by
  change execRotCycleStart g s = _
  simp [execRotCycleStart, hmay, hstate, hvisit, roIdle, roWait]

theorem exec_rotMirrorDone (g : Octet) {l : Nat} (hvisit : (s.rot g).visit = some l) (hstate : s.rotState g = roMirror) :
    exec (.rotMirrorDone g) s = .next ((s.mirror g l).rotTo g roMatch l) := by
  change execRotMirrorDone g s = _
  rw [execRotMirrorDone, hvisit]
  exact if_pos hstate

theorem exec_rotMatchTryEnd_pass (g : Octet) {l : Nat} (hvisit : (s.rot g).visit = some l) (hstate : s.rotState g = roMatch) :
    exec (.rotMatchTryEnd g true) s = .next (s.rotTo g roSeamOut l) := by
  change execRotMatchTryEnd g true s = _
  simp [execRotMatchTryEnd, hvisit, hstate]

theorem exec_rotMatchTryEnd_fail (g : Octet) {l : Nat} (hvisit : (s.rot g).visit = some l) (hstate : s.rotState g = roMatch)
    (htries : (s.rot g).tries < 2) :
    exec (.rotMatchTryEnd g false) s = .next (s.onRot g fun r => { r with tries := r.tries + 1 }) := by
  change execRotMatchTryEnd g false s = _
  simp [execRotMatchTryEnd, State.matchFails, hvisit, hstate, htries, roMatch, roSeamOut, roSeamBack]

theorem exec_rotSeamTimeout (g : Octet) {l : Nat} (hvisit : (s.rot g).visit = some l) (hstate : s.rotState g = roSeamOut)
    (hlate : (s.rot g).at_ + 75000000 ≤ s.tick) : exec (.rotSeamTimeout g) s = .next (s.rotSkip g l) := by
  change execRotSeamTimeout g s = _
  have hdue : (s.rot g).at_ + usTicks 50000 ≤ s.tick := hlate
  simp only [execRotSeamTimeout, hvisit, hstate, hdue, decide_true, Bool.and_self, if_true]

/-! ### A seam (R551, R553, R777, R778) -/

theorem exec_handoverSwitch_out (g : Octet) {l : Nat} (howed : (s.rot g).owed = none) (hvisit : (s.rot g).visit = some l)
    (hstate : s.rotState g = roSeamOut) (hopen : s.handoverShut g l = false) :
    exec (.handoverSwitch g false) s = .next ((s.handOver g l true).rotRun g roCal l) := by
  change execHandoverSwitch g false s = _
  simp [execHandoverSwitch, howed, hvisit, hstate, hopen]

theorem exec_handoverSwitch_shut (g : Octet) (fail : Bool) {l : Nat} (howed : (s.rot g).owed = none)
    (hvisit : (s.rot g).visit = some l) (hshut : s.handoverShut g l = true) : exec (.handoverSwitch g fail) s = .next s := by
  change execHandoverSwitch g fail s = _
  simp only [execHandoverSwitch, howed, hvisit, hshut, Bool.or_true, if_true]

/-! ### The end of a run (R765, R766) -/

theorem State.rot_commitRun (s : State) (g c : Nat) (p : Provision) : (s.commitRun g c p).rot g = s.rot g :=
  (s.commitRun_sameCal g c p).rot g

theorem State.core_commitRun (s : State) (g c : Nat) (p : Provision) : (s.commitRun g c p).core g c = (s.core g c).committed p s.tick :=
  ((s.commitRun_sameCal g c p).core g c).trans (State.core_setCore_same s g c _)

theorem exec_rotRunEnd_spare (g : Octet) (e : RunEnd) {l : Nat} (hmode : s.modeOf (g / 8) = mSetup)
    (hstate : s.rotState g = roSpareCal) (htaps : e.taps = []) (hcause : s.runCause g 8 e = 0) (hroom : s.vault.room 1 = true)
    (hvisit : (s.rot g).visit = some l) :
    exec (.rotRunEnd g e) s = .next ((s.commitRun g 8 (s.runResult g 8 e)).rotTo g roMirror l) := by
  have hrun : s.underRun g = some 8 := if_pos hstate
  have hends : s.rotRunEnds g 8 e 0 = (s.commitRun g 8 (s.runResult g 8 e)).rotTo g roMirror l := by
    simp [State.rotRunEnds, hstate, hroom, State.rot_commitRun, hvisit, rcRefload, roSpareCal, roCal]
  have hended : (if s.modeOf (g / 8) = mCalibrate then .next (s.procRunEnds g 8 e (s.runCause g 8 e))
      else .next (s.rotRunEnds g 8 e (s.runCause g 8 e)) : Host.Outcome State Fault Refusal)
      = .next ((s.commitRun g 8 (s.runResult g 8 e)).rotTo g roMirror l) := by
    rw [hcause, hmode, if_neg (by decide), hends]
  change execRotRunEnd g e s = _
  rw [execRotRunEnd, hrun]
  obtain ⟨fault, measured, verr, taps⟩ := e
  obtain rfl : taps = [] := htaps
  cases fault <;> exact hended

theorem exec_rotRunEnd_noRun (g : Octet) (e : RunEnd) (hstate : s.rotState g = roIdle) (hproc : s.procCore g = none) :
    exec (.rotRunEnd g e) s = .next s := by
  have hrun : s.underRun g = none := by
    rw [State.underRun, hstate, if_neg (by decide), if_neg (by decide), hproc]
  change execRotRunEnd g e s = _
  rw [execRotRunEnd, hrun]

theorem State.memory_commitRun (s : State) (g c : Nat) (p : Provision) : SameMemory s (s.commitRun g c p) :=
  (s.commitRun_sameCal g c p).memory

/-! ### Writes of `ROT[g].CTL` (R806) -/

theorem exec_rotCtlWrite (g : Octet) (v : Word) (hon : s.modeOf (g / 8) ≠ mOff) :
    exec (.rotCtlWrite g v) s = .next ((s.plainWrite (ROT.CTL.reg g) v.toNat).rotJudge g) := by
  change execRotCtlWrite g v s = _
  rw [execRotCtlWrite, State.whileOn_on _ _ hon, State.rotCtlWrite]

/-- A write with PAUSE stops a rotation that has no run, visit or provisional result to end. -/
theorem State.rotJudge_paused {g : Nat} (hpause : s.flag (ROT.CTL.PAUSE g) = true) (hrun : s.underRun g = none)
    (hstate : s.rotState g ≠ roIdle) (hvisit : (s.rot g).visit = none) (hprov : ∀ c : Fin 9, (s.core g c).prov = none) :
    s.rotJudge g = (s.rotTo g roIdle 0xF).onRot g fun r => { r with visit := none, faulted := false } := by
  have hmust : s.rotMust g = true := by simp [State.rotMust, hpause]
  rw [State.rotJudge, if_pos hmust, State.rotStop_bare hrun hstate hvisit hprov]

theorem exec_rotCtlWrite_pauses (g : Octet) (v : Word) (hmode : s.modeOf (g / 8) = mSetup) (hbit : v.getLsbD 30 = true)
    (hstate : s.rotState g = roMatch) (hvisit : (s.rot g).visit = none) (hprov : ∀ c : Fin 9, (s.core g c).prov = none)
    (hproc : s.procCore g = none) :
    Completes (.rotCtlWrite g v) s fun t => t.rotState g = roIdle ∧ t.flag (ROT.CTL.PAUSE g) = true ∧
      RegsOnly [ROT.CTL.reg g, ROT.STAT.reg g] s t ∧ SameMemory s t := by
  have hwritten := s.plainWrite_rotCtl_written g v
  generalize hu : s.plainWrite (ROT.CTL.reg g) v.toNat = u at hwritten
  have hpause : u.flag (ROT.CTL.PAUSE g) = true := hwritten.pause.trans hbit
  have hstill : u.rotState g = roMatch := hwritten.rotState.trans hstate
  have hrun : u.underRun g = none := by
    rw [State.underRun, hstill, if_neg (by decide), if_neg (by decide), hwritten.procCore, hproc]
  have hentered := u.rotTo_entered g (st := roIdle) (lane := 0xF) (by decide) (by decide)
  have hleaves : s.Leaves (· ∈ [ROT.CTL.reg g, ROT.STAT.reg g]) (u.rotTo g roIdle 0xF) :=
    (hwritten.leaves.mono fun a ha => by simp [ha]).trans (hentered.leaves.mono fun a ha => by simp [ha])
  refine ⟨_, exec_rotCtlWrite g v (by rw [hmode]; decide), ?_⟩
  rw [hu, State.rotJudge_paused hpause hrun (by rw [hstill]; decide) (by rw [hwritten.rot, hvisit])
    fun c => by rw [hwritten.core, hprov c]]
  refine ⟨?_, ?_, (hleaves.onRot g _).regs, (hleaves.onRot g _).memory⟩
  · rw [State.rotState_onRot, hentered.state]
  · rw [State.flag, State.get_onRot, hentered.beside _ (.inr (by simp [ROT.CTL.PAUSE]))]
    exact hpause

/-! ### The summary (R803) -/

theorem exec_rotSummary_early (k : Sector)
    (h : (s.secCal k).ran + (if s.rotating k then s.quill.qsec - (s.secCal k).ranAt else 0) < 3600) :
    exec (.rotSummary k) s = .next s := if_neg (Nat.not_le.mpr h)

theorem exec_rotSummary_due (k : Sector) (h : 3600 ≤ (s.secCal k).ran) : exec (.rotSummary k) s = .next (s.rotSummary k) :=
  if_pos (Nat.le_add_right_of_le h)

/-- Settles O42: each clause names the one operation of rotation that its command comes down to. -/
theorem rotationCycles : Obligations.RotationCycles := by
  refine ⟨?_, ?_, ?_, ?_, ?_, ?_, ?_, ?_, ?_, ?_, ?_, ?_, ?_⟩
  · intro g s hmay hstate hvisit
    have hentered := s.rotTo_entered g (st := roSpareCal) (lane := 8) (by decide) (by decide)
    refine ⟨_, exec_rotCycleStart g hmay hstate hvisit, ?_, ?_, ?_, ?_, ?_, ?_⟩
    · rw [State.rotState_onRot, State.rotRun, State.rotState_onRot, hentered.state]
    · rw [State.get_onRot, State.rotRun, State.get_onRot, hentered.lane]
    · rw [State.rot_onRot_same]
    · rw [State.rot_onRot_same]
    · exact ((hentered.leaves.mono fun a ha => by simp [ha]).onRot g _ |>.onRot g _).regs
    · exact ((hentered.only.onRot g _).onRot g _).frame
  · intro g l s hvisit hstate
    have hentered := (s.mirror g l).rotTo_entered g (st := roMatch) (lane := l) (by decide) (by omega)
    have hmemory := ((State.SameCal.refl s).mirror g l).memory.trans hentered.only.memory
    exact ⟨_, exec_rotMirrorDone g hvisit hstate, hentered.state, hentered.lane, by rw [hentered.rot], hmemory⟩
  · intro g l s hvisit hstate
    have hentered := s.rotTo_entered g (st := roSeamOut) (lane := l) (by decide) (by omega)
    exact ⟨_, exec_rotMatchTryEnd_pass g hvisit hstate, hentered.state, hentered.lane,
      (hentered.leaves.mono fun a ha => by simp [ha]).regs, hentered.only.frame⟩
  · intro g l s hvisit hstate htries
    exact ⟨_, exec_rotMatchTryEnd_fail g hvisit hstate htries, State.rot_onRot_same _ _, rfl⟩
  · intro g l s hvisit hstate hlate htodo
    have hskipped := State.rotSkip_last g l htodo
    exact ⟨_, exec_rotSeamTimeout g hvisit hstate hlate, hskipped.state, hskipped.visit, hskipped.skipped, hskipped.mask,
      hskipped.count, fun a ha herr => hskipped.leaves.regs a (by simp [ha, herr]), hskipped.leaves.memory⟩
  · intro g l s howed hvisit hstate hopen
    have hover := (State.SameCal.refl s).handOver g l true
    have hentered := (s.handOver g l true).rotTo_entered g (st := roCal) (lane := l) (by decide) (by omega)
    refine ⟨_, exec_handoverSwitch_out g howed hvisit hstate hopen, ?_, ?_, ?_,
      hover.memory.trans (hentered.only.onRot g _).memory⟩
    · rw [State.rotRun, State.rotState_onRot, hentered.state]
    · rw [State.rotRun, State.get_onRot, hentered.leaves.get (STEER.STAT.SPARE g) (steer_ne_rotStat g), s.spare_handOver]
    · rw [State.rotRun, State.rot_onRot_same, hentered.rot, hover.rot, ← hvisit]
  · intro g fail l s howed hvisit hshut
    exact ⟨s, exec_handoverSwitch_shut g fail howed hvisit hshut, rfl⟩
  · intro g e l s hmode hstate htaps hcause hroom hvisit
    have hentered := (s.commitRun g 8 (s.runResult g 8 e)).rotTo_entered g (st := roMirror) (lane := l) (by decide) (by omega)
    have hcore := (hentered.only.core g 8).trans (s.core_commitRun g 8 (s.runResult g 8 e))
    refine ⟨_, exec_rotRunEnd_spare g e hmode hstate htaps hcause hroom hvisit, ?_, ?_, ?_, ?_, hentered.state, hentered.lane,
      (s.memory_commitRun g 8 _).trans hentered.only.memory⟩
    all_goals
      rw [hcore]
      rfl
  · intro g e s hstate hproc
    exact ⟨s, exec_rotRunEnd_noRun g e hstate hproc, rfl⟩
  · intro g v s hon hstate
    have hwritten := s.plainWrite_rotCtl_written g v
    refine ⟨_, exec_rotCtlWrite g v hon, ?_⟩
    rw [State.rotJudge_idle (hwritten.rotState.trans hstate)]
    exact ⟨hwritten.en, hwritten.pause, hwritten.lanes, hwritten.period,
      (hwritten.leaves.mono fun a ha => by simp [ha]).regs, hwritten.regs⟩
  · intro g v s hmode hbit hstate hvisit hprov hproc
    exact exec_rotCtlWrite_pauses g v hmode hbit hstate hvisit hprov hproc
  · intro k s hearly
    exact ⟨s, exec_rotSummary_early k hearly, rfl⟩
  · intro k s hran hroom
    obtain ⟨payload, backups, qsec, heq⟩ := s.rotSummary_eq k
    have hentry := State.append_sameCal hroom colRotSummary (0x10 + k) payload
    refine ⟨_, exec_rotSummary_due k hran, ?_⟩
    rw [heq]
    refine ⟨?_, ?_, ?_, ?_, hentry.memory⟩
    · rw [State.secCal_setSecCal_same]
    · rw [State.secCal_setSecCal_same]
    · rw [State.secCal_setSecCal_same]
    · rw [State.vault_setSecCal, hentry.vault]
      simp [Vault.push]

end Sys2Proof.Machine
end
